-- ==== Sys2Proof/Word.lean ====
section
/-! DEFINITION. The words of the block (every register is one 32-bit word, Register Map) and their plainest arithmetic. -/

namespace Sys2Proof

/-- One 32-bit register word (Register Map). -/
abbrev Word := BitVec 32

/-- One byte of a memory window. -/
abbrev Byte := BitVec 8

end Sys2Proof
end

