-- ==== Sys2Proof/Syntax.lean ====
section
/-!
DEFINITION. The commands: one constructor per row of spec/opcode_table.json, with what the row's sender supplies: which
unit, the value written, and what the block senses there (readings, counts, measured values, the synchroniser's choice
of edge, replies from outside).
-/

namespace Sys2Proof

/-- What was wrong with the reference (R41, R89). -/
inductive LossCause where
  | missingEdge
  | phaseError
  deriving DecidableEq, Repr

/-- The state of a Section that three copies hold (R494). -/
inductive FwItem where
  | secFw | fwHw | inForce | phase | rampStep | target | dropE | dropM
  deriving DecidableEq, Repr

/-- Bits upset in the three copies of one item of a Section. -/
structure FwUpset where
  sec  : Nat
  item : FwItem
  a    : Nat
  b    : Nat
  c    : Nat
  deriving DecidableEq, Repr

/-- What a tick edge meets: the bits upset since the last one in the copies of the master tick counter and of Sections'
frequency state; the levels that the asynchronous pins show. -/
structure TickIn where
  a  : BitVec 64 := 0
  b  : BitVec 64 := 0
  c  : BitVec 64 := 0
  fw : List FwUpset := []
  /-- `sync_in` at the falling edge of the tick clock before this tick edge, and at this tick edge (R73). -/
  syncMid : Bool := false
  syncIn  : Bool := false
  /-- `SMBCLK_in`, `SMBDAT_in` and ALERT# (R560). -/
  smbClk : Bool := true
  smbDat : Bool := true
  alertN : Bool := true
  deriving DecidableEq, Repr

/-- What the checks of a two-lane network found on one transfer (R497, R498): every lane good, one bad, both bad. -/
inductive Lane where
  | good | one | both
  deriving DecidableEq, Repr

/-- What a SECDED decoder found at a read (R316, R465, R481). -/
inductive Ecc where
  | clean | corrected | uncorrectable
  deriving DecidableEq, Repr

/-- A response of the host's AXI side (R532). -/
inductive AxiResp where
  | okay | slverr | decerr
  deriving DecidableEq, Repr

/-- The calibration measurements of one Spine leaf (R59): its region, the number after the last region for the Station
tap; the pairs measured, in fine steps, the first attempt first; the fine delay that meets the target latency; the
residual in ps. -/
structure LeafMeas where
  region   : Nat
  attempts : List (Int × Int)
  fine     : Nat
  residual : Nat
  deriving DecidableEq, Repr

/-- A crossing cell. -/
inductive XId where
  | jct (j : Nat)
  | ich (i : Nat)
  | tok (t : Nat)
  deriving DecidableEq, Repr

/-- A side of a crossing: writer or source, reader or destination. -/
inductive Side where
  | writer
  | reader
  deriving DecidableEq, Repr

/-- What a Signal Box senses at a region edge. -/
structure EdgeIn where
  /-- Raw readings of Track Circuits 0–7 (R135, without trim); of one under test, its reading in bypass at the first edge of
  an attempt and in block at the second (R146). -/
  raw      : List Nat := [31, 31, 31, 31, 31, 31, 31, 31]
  /-- `sb_act`. -/
  act      : Nat := 0
  /-- `sb_idle`. -/
  idle     : Bool := false
  /-- `sb_gate_req`. -/
  gateReq  : Bool := false
  /-- A stretch-bus value arrived with bad parity (R496). -/
  busBad   : Bool := false
  /-- A leaf spindle that missed or added an edge (R495). -/
  spindle  : Option Nat := none
  /-- Bits upset in the copies of the ledger (R176). -/
  upA      : Nat := 0
  upB      : Nat := 0
  upC      : Nat := 0
  /-- The crossings whose synchronisers on this side take their third edge, not their second, at this one (R211, R214,
  R221). -/
  late     : List XId := []
  deriving DecidableEq, Repr

/-- The steps of Section initialisation that can fail (R242). -/
inductive InitStep where
  | entry | trim | deskew | eye
  deriving DecidableEq, Repr

/-- The calibration stages (R445 numbers them so). -/
inductive Stage where
  | deskew | trim | eye
  deriving DecidableEq, Repr

/-- The two measurements of a calibration step and its verifying measurement. DESKEW: arrival offsets in 0.5 ps, then
the spread of the endpoints in ps. TRIM: raw readings, then the verifying readings. EYE: for each path (write pointer
first) the PHASE values at which a sample differed, one bit each. Entry: nothing, `ok` alone. -/
structure CalMeas where
  a      : List Int := []
  b      : List Int := []
  verify : List Int := []
  /-- The attempt was disturbed (bring-up). -/
  disturbed : Bool := false
  /-- The Entry step's checks passed. -/
  ok     : Bool := true
  deriving DecidableEq, Repr

/-- What the two passes of an image restore read (R281): the 256-byte tiles of the first pass, the header first; the
first tile that the second pass found different; the first tile whose read met an error response; the regions whose
shadow banks fail their CRC (R264). -/
structure ImageIn where
  tiles  : List (List Nat)
  differ : Option Nat := none
  error  : Option Nat := none
  crcBad : List Nat := []
  deriving DecidableEq, Repr


/-- The unit fields of a format-S instruction (R333). -/
structure SForm where
  stamp : Bool := false
  ts    : Nat := 0
  offs  : Nat := 0
  scope : Nat := 0
  index : Nat := 0
  addr  : Nat := 0
  /-- What the decoder found at the reads of a Section list (R316, R352). -/
  ecc   : Ecc := .clean
  deriving DecidableEq, Repr

/-- The state of Desk 0 that is held in three copies (R301). -/
inductive DeskItem where
  | g (n : Nat)
  | t (n : Nat)
  | pc
  | stack (n : Nat)
  | depth
  /-- The tick of the action at a place among Desk 0's pending actions. -/
  | action (n : Nat)
  deriving DecidableEq, Repr

/-- Bits upset in the three copies of one item of Desk 0's state. -/
structure DeskUpset where
  item : DeskItem
  a    : Nat
  b    : Nat
  c    : Nat
  deriving DecidableEq, Repr

/-- What one Dispatcher cycle meets: upsets of Desk 0's copies since the last cycle; bad parity in a register, PC or
stack entry that the issuing Desk reads (R302); bad parity at its fetch (R307); its data-memory read (R316). -/
structure CycleIn where
  upsets : List DeskUpset := []
  parity : Bool := false
  fetch  : Bool := false
  ecc    : Ecc := .clean
  deriving DecidableEq, Repr

/-- The outcome of a PMBus transaction: the word read (0 for a write), or how it failed (R428). -/
inductive PmbReply where
  | ok (data : Nat)
  | nack
  | pec
  | clockLow
  deriving DecidableEq, Repr

/-- The registers of DSP_IMG (R394). -/
inductive ImgReg where
  | lo | hi | size
  deriving DecidableEq, Repr

/-- The commands of the table, one constructor per row. -/
inductive Instr where
  /-- PO_RST_ASSERT (R534). Assertion of po_rst_n returns every state, register, RAM index and output of the block
  to its reset value. -/
  | poRstAssert
  /-- PO_RST_RELEASE (R598). Release of po_rst_n starts the first acquisition attempt of the Station Clock. -/
  | poRstRelease
  /-- REFERENCE_DETECTION (R34). At the end of each 2 us counting window, the Station classifies ref_clk as absent,
  100 MHz or 156.25 MHz. `edges`: rising edges of `ref_clk` counted in the 2 µs window. -/
  | referenceDetection (edges : Nat)
  /-- LOCK_DECLARED (R39). Lock qualification completes; the tick counter starts from count 1, and shadowed Station
  writes and the Dispatcher become ready. `micros`: whole µs since `po_rst_n` released; `acqTk`: length of the
  attempt in 0.625 ns. -/
  | lockDeclared (micros : Nat) (acqTk : Nat)
  /-- LOCK_FAIL (R40). An acquisition attempt reaches 100 us without lock; LOCK_FAIL is set, irq[0] is raised and
  acquisition restarts. -/
  | lockFail
  /-- REF_SEL_WRITE (R36). A write that changes REF_SEL forces holdover when locked, or restarts the acquisition
  attempt before lock. Host write of STN_CLK_CFG.REF_SEL. -/
  | refSelWrite (sel : Nat)
  /-- HOLD_FORCE (R90). A write of STN_CLK_CFG.HOLD_FORCE forces holdover when set to 1, and starts reacquisition
  when set to 0. Host write of STN_CLK_CFG.HOLD_FORCE. -/
  | holdForce (on : Bool)
  /-- LOSS_OF_REFERENCE (R41). A missing reference edge, or excess phase error, puts the Station Clock into holdover
  and posts class 0 code 0x01. `cause`: what was wrong with the reference. -/
  | lossOfReference (cause : LossCause)
  /-- REFERENCE_QUALIFIED (R45). After 2,048 good reference periods the Station starts reacquisition, with phase
  build-out. -/
  | referenceQualified
  /-- LOCK_RESTORED (R46). Reacquisition declares lock, records STN_HOLD_OFFSET and STN_HOLD_TIME, and posts class 0
  code 0x02. `refPeriods`: reference periods counted in holdover and reacquisition. -/
  | lockRestored (refPeriods : Nat)
  /-- TICK (R47). At each tick edge, every copy of the master tick counter takes the bitwise majority of the copies
  plus 1. `inp`: what the edge meets. -/
  | tick (inp : TickIn)
  /-- TCAP_CAPTURE (R55). A write of STN_TCAP_CTRL.CAPTURE sets NOT_READY and requests a capture of the tick count. -/
  | tcapCapture
  /-- TCAP_LATCH (R55). The capture request reaches the tick domain; the count is latched, SEQ increments and
  NOT_READY clears. -/
  | tcapLatch
  /-- SPINE_CALIBRATION (R59). After lock, the Station measures every Spine leaf and loads the local counters at a
  common spine_f boundary. `leaves`: the measurements of every leaf in ascending number, the Station tap last. -/
  | spineCalibration (leaves : List LeafMeas)
  /-- SPINE_TRACK_MEASURE (R62). Every 1,024 tk the Station re-measures one leaf and moves its fine delay by at most
  one step. `attempts`: paired measurements of a RECAL round, in fine steps; `delta`: wanted move of the fine
  delay; `residual`: ps left. -/
  | spineTrackMeasure (attempts : List (Int × Int)) (delta : Int) (residual : Nat)
  /-- SPINE_RECAL (R63). A write of STN_SPINE_CTRL.RECAL starts a fresh round of paired measurements of the Spine
  leaves. -/
  | spineRecal
  /-- SPINE_PARITY_MISMATCH (R64). A Signal Box detects that its local count disagrees with spine_p. `count`: the
  faulty local count. -/
  | spineParityMismatch (region : Nat) (count : BitVec 64)
  /-- SPINE_RELOAD (R65). At the next spine_f boundary the Signal Box reloads its count, increments RESYNC and posts
  class 1 code 0x01. -/
  | spineReload (region : Nat)
  /-- SPINE_FRAME_CHECK (R67). At each spine_f boundary the Signal Box compares its local count with the full
  spine_s value. `count`: the local count found at the boundary. -/
  | spineFrameCheck (region : Nat) (count : BitVec 64)
  /-- WARM_RESET (R537). warm_rst_n seen low stops the Desks, discards unlaunched actions, and aborts calibration
  steps, image operations and resident loads. -/
  | warmReset
  /-- WARM_RESET_RELEASE (R537). Release of the warm reset writes a RECOVERY marker of cause 1, sets WARM_DONE and
  resumes refinement. -/
  | warmResetRelease
  /-- SYNC_FRAME_SEND (R74). A leader starts a sync frame on sync_out at every count that is a multiple of 65,536. -/
  | syncFrameSend
  /-- SYNC_FRAME_RECEIVE (R80). A follower decodes a frame, discards it on a CRC failure, or computes and records
  the alignment error. -/
  | syncFrameReceive
  /-- SYNC_LOST (R76). Three frame periods without a valid frame set LOST and post class 1 code 0x04. -/
  | syncLost
  /-- HARD_ALIGNMENT (R81). At the next spine_f boundary the follower adds the even offset E to its count, sets
  HARD_DONE and posts class 1 code 0x07. -/
  | hardAlignment
  /-- SYNC_HOLD_TIMEOUT (R82). A follower that is still unaligned 262,144 tk after Spine calibration releases its
  Sections and posts class 1 code 0x08. -/
  | syncHoldTimeout
  /-- SYNC_ROLE_WRITE (R82). A write of STN_SYNC_CTRL.ROLE sets the die's role, and a change away from FOLLOWER ends
  a release hold. Host write of STN_SYNC_CTRL.ROLE. -/
  | syncRoleWrite (role : Nat)
  /-- SYNC_MEASURE (R78). A write of STN_SYNC_CTRL.MEASURE asks the leader to measure the round trip in its next
  frame. -/
  | syncMeasure
  /-- SYNC_RTT_DONE (R78). The returned marker arrives, or 2,048 tk pass without one; RT is recorded, SEQ increments
  and MEASURE clears. -/
  | syncRttDone
  /-- SYNC_ECHO (R77). A die set to ECHO drives sync_in back on sync_out, retimed with 3 tk of latency. -/
  | syncEcho
  /-- SEC_FW_WRITE (R94). A host write of SEC_FW schedules a stamped frequency change 32 tk after the write takes
  effect. -/
  | secFwWrite (sec : Nat) (fw : Nat)
  /-- FREQUENCY_CHANGE (R188). At a frequency change edge the Section Root applies the new FW without a phase step,
  and every running region writes off its ledger. -/
  | frequencyChange (sec : Nat)
  /-- WRITE_OFF (R189). At a region's first edge after a change edge, the rotator pointer returns to ALIGN, the
  ledger goes to 0 and SB_SLIP_WOFF grows. -/
  | writeOff (region : Nat)
  /-- RAMP_STEP (R96). Every 128 tk during a ramp the Section Root moves FW by up to 8,192 toward its target. -/
  | rampStep (sec : Nat)
  /-- SECTION_RELEASE (R99). The calibration sequencer releases a Section Root at FW 49,152, and the Root locks
  within 256 tk. -/
  | sectionRelease (sec : Nat)
  /-- DLL_LOCK (R110). A Signal Box DLL locks to its Section clock, and the Signal Box aligns its zero-lag edges to
  the tick. The alignment measured (R113): whole ph, fine steps, residual in ps. -/
  | dllLock (region : Nat) (alignPh : Nat) (alignFine : Nat) (residPs : Int)
  /-- REGION_CLOCK_START (R99). Region clocks start at the first Section edge that coincides with a tick edge, at or
  after release plus 1,024 tk. -/
  | regionClockStart (sec : Nat)
  /-- SECTION_READY (R101). When a Section first reads READY, its requested word is applied as a stamped change 32
  tk later. -/
  | sectionReady (sec : Nat)
  /-- SAFE_SET (R102). Setting SEC_CTRL.SAFE ramps the Section to safe settings, and stores later SEC_FW writes
  without applying them. -/
  | safeSet (sec : Nat)
  /-- SAFE_CLEAR (R104). Clearing SEC_CTRL.SAFE applies the requested word 32 tk later and commits the calibration
  store. -/
  | safeClear (sec : Nat)
  /-- SECTION_PERIOD_CHECK (R105). Every 64 tk a Section Root compares its output edges over 192 tk with 3 x FW /
  1,024. `edges`: output edges counted over 192 tk; `phaseErr`: phase error in ps. -/
  | sectionPeriodCheck (sec : Nat) (edges : Nat) (phaseErr : Int)
  /-- SECTION_RESTART (R106). A write of SEC_CTRL.RESTART in STATE FAULT repeats the release; in any other state it
  has no effect. -/
  | sectionRestart (sec : Nat)
  /-- GATE_REQUEST (R114). A rising sb_gate_req is granted or refused on sb_gate_ack and sb_gate_grant before the
  next edge. -/
  | gateRequest (region : Nat)
  /-- GATING_WRITE_OFF (R117). At the end of the last delivered high phase the region is gated and its ledger is
  written off. -/
  | gatingWriteOff (region : Nat)
  /-- WAKE_INPUT (R119). sb_wake held high on two Section edges ends cause PORT. `edge`: the Section edge, counted from
  the phase origin, of the second. -/
  | wakeInput (region : Nat) (edge : Nat)
  /-- GATE_WAKE_WRITE (R119). A write of SB_GATE.WAKE ends cause PORT, or is discarded when no PORT cause is
  present. -/
  | gateWakeWrite (region : Nat)
  /-- GATE_FORCE_WRITE (R364). A write of SB_GATE.FORCE begins or ends cause FORCE. -/
  | gateForceWrite (region : Nat) (on : Bool)
  /-- REGION_RESTART (R120). When the last cause ends, the region clock restarts at the first zero-lag edge at least
  two Section cycles later. -/
  | regionRestart (region : Nat)
  /-- REGION_PERIOD_CHECK (R123). Every 64 tk a Signal Box checks the rotator output over 192 tk against 3 x FW / 64
  ph. `edges`: edges produced over 192 tk. -/
  | regionPeriodCheck (region : Nat) (edges : Nat)
  /-- DLL_LOCK_LOSS (R124). A DLL phase detector out of range on 8 consecutive Section cycles is a loss of lock, and
  the region enters cause FAULT. `cycles`: Section cycles since lock. -/
  | dllLockLoss (region : Nat) (cycles : Nat)
  /-- GATE_FAULT_CLEAR (R126). A write of 1 to SB_GATE.FAULT ends cause FAULT only when its condition no longer
  holds. `persists`: whether a period or DLL condition still holds. -/
  | gateFaultClear (region : Nat) (persists : Bool)
  /-- RESET_REQUEST_LOWER (R568). sb_rst_req is lowered by the 16th region edge after the restart. -/
  | resetRequestLower (region : Nat)
  /-- INPUT_UNMASK (R569). The first region edge after the lowering with sb_rst_done high unmasks the region's
  inputs. -/
  | inputUnmask (region : Nat)
  /-- REGION_EDGE (R175). At each region edge the Signal Box places stretch or catch-up, and updates the Slip Ledger
  and the Track Circuit readings. `inp`: what the Signal Box senses at the edge. -/
  | regionEdge (region : Nat) (inp : EdgeIn)
  /-- EVENT_PORT_POSTING (R447). sb_evt_valid high at a region edge takes one posting from the event port, stamped
  with the tick. -/
  | eventPortPosting (region : Nat) (cls : Nat) (code : Nat) (payload : Nat)
  /-- TAP_TILE_LOAD (R129). A region's Tap Table tile is loaded; on a CRC failure the current taps are kept,
  TILE_ERR is set and recalibration is requested. -/
  | tapTileLoad (region : Nat)
  /-- TAP_RELOAD (R272). A write of SB_TAP_CTRL.RELOAD reloads and checks the region's tile. -/
  | tapReload (region : Nat)
  /-- TAP_TABLE_WRITE (R272). A host write to the Tap Table changes only the stored tile. -/
  | tapTableWrite (addr : Nat) (data : Nat) (strb : Nat)
  /-- TAP_TABLE_SEED_LOAD (R274). At lock the Tap Table is loaded from the seed ROM, with one reread and uniform
  taps for a tile that fails twice. `failed`: regions whose seed tile failed both reads. -/
  | tapTableSeedLoad (failed : List Nat)
  /-- THERMAL_READING (R130). Every 16,384 tk a new temperature reading updates MAX and may set TEMP_ALARM. `temp`:
  0.25 °C. -/
  | thermalReading (region : Nat) (temp : Int)
  /-- VOLTAGE_SENSE_UPDATE (R130). Every 64 tk a new voltage-sense average updates MV and the lowest reading. -/
  | voltageSenseUpdate (region : Nat) (mv : Nat)
  /-- CLR_TEMP_MAX (R130). A write of SB_SENSE_CTRL.CLR_TEMP_MAX resets SB_TEMP.MAX. -/
  | clrTempMax (region : Nat)
  /-- CLR_V_MIN (R130). A write of SB_SENSE_CTRL.CLR_V_MIN resets SB_VSENSE.MIN_MV. -/
  | clrVMin (region : Nat)
  /-- ACT_SNAPSHOT (R132). At counts that are multiples of 16,384 the Signal Box snapshots its counters and sets
  NOT_READY. -/
  | actSnapshot (region : Nat)
  /-- ACT_SNAPSHOT_DONE (R132). Within 8 rc the snapshot is moved into the RS block, SEQ increments and NOT_READY
  clears. -/
  | actSnapshotDone (region : Nat)
  /-- TC_SELFTEST (R145). A scheduled self-test of one Track Circuit runs over two edges, in bypass and then in
  block. -/
  | tcSelftest (region : Nat) (tc : Nat)
  /-- TC_OUT_OF_TURN_TEST (R148). A lone alarm on 256 consecutive edges starts an out-of-turn test of that Track
  Circuit. -/
  | tcOutOfTurnTest (region : Nat)
  /-- TC_READMIT (R150). A write of a READMIT bit tests the Track Circuit and returns it to service if the test
  passes. -/
  | tcReadmit (region : Nat) (tc : Nat)
  /-- TC_CLR_LOW (R173). A write of SB_TC_CTRL.CLR_LOW resets SB_TC_MIN.LOW. -/
  | tcClrLow (region : Nat)
  /-- TC_READ_REFRESH (R173). At every count that is a multiple of 64, SB_TC_READ_A and SB_TC_READ_B are refreshed
  from one region edge. -/
  | tcReadRefresh (region : Nat)
  /-- WHISTLE_STROBE (R154). A short Whistle strobe starts a profile playback, or ends one when its intensity is 0. -/
  | whistleStrobe (region : Nat) (intensity : Nat)
  /-- PROFILE_REFIT (R161). At edge e + 65 a qualifying playback updates the profile weights by sign-LMS. -/
  | profileRefit (region : Nat)
  /-- PROFILE_WRITE (R163). A write of an SB_PROFILE register sets the weights of the entries it covers to 16 x the
  written value. -/
  | profileWrite (region : Nat) (n : Nat) (data : Nat) (strb : Nat)
  /-- HEADWAY_ON (R164). SEC_CTRL.HEADWAY going from 0 to 1 requests a stamped change to FW_HW, at which fixed-
  headway mode starts. -/
  | headwayOn (sec : Nat)
  /-- HEADWAY_OFF (R165). SEC_CTRL.HEADWAY going from 1 to 0 requests a stamped change to SEC_FW, at which fixed-
  headway mode ends. -/
  | headwayOff (sec : Nat)
  /-- FW_HW_WRITE (R169). A write of SEC_HEADWAY.FW_HW in fixed-headway mode is a frequency change. -/
  | fwHwWrite (sec : Nat) (fw : Nat)
  /-- SYM_EN_CLEAR (R183). A write of SEC_SYM_CFG.EN to 0 ends every stretch-bus request of the Section. -/
  | symEnClear (sec : Nat)
  /-- SLIP_CLR_MAX (R195). A write of SB_SLIP_CFG.CLR_MAX sets SB_SLIP_MAX to the current ledger balance. -/
  | slipClrMax (region : Nat)
  /-- CROSSING_WRITE (R199). A writer edge with valid and ready both high writes one entry into a Junction or
  Interchange. -/
  | crossingWrite (x : XId) (data : Nat)
  /-- CROSSING_READ (R199). A reader edge with valid and ready both high reads the oldest readable entry. -/
  | crossingRead (x : XId)
  /-- TOKEN_PULSE (R217). A source pulse adds to the pending count, and a transfer launches when none is
  outstanding. -/
  | tokenPulse (t : Nat)
  /-- TOKEN_DELIVER (R215). The destination sees the request rise and delivers td_pulse with its count. -/
  | tokenDeliver (t : Nat)
  /-- TOKEN_WORD_DELIVER (R216). In WORD mode the destination presents the word on td_valid and acknowledges when it
  is taken. `taken`: `td_ready` is high at this edge. -/
  | tokenWordDeliver (t : Nat) (taken : Bool)
  /-- TOKEN_ACKNOWLEDGE (R214). The source sees the acknowledge fall and may launch its next transfer. `pulse`:
  `ts_pulse` is high at this edge. -/
  | tokenAcknowledge (t : Nat) (pulse : Bool)
  /-- CROSSING_RESET_ASSERT (R220). A side's reset input asserts and empties that side's half of the crossing. -/
  | crossingResetAssert (x : XId) (side : Side)
  /-- CROSSING_FLUSH (R221). At its flush edge the other side discards unread entries and records FLUSHED, CAUSE and
  a class 4 event. -/
  | crossingFlush (x : XId) (side : Side)
  /-- CROSSING_RESET_DEASSERT (R222). After deassertion and the flush acknowledgement, the reset side starts the
  restart handshake. -/
  | crossingResetDeassert (x : XId) (side : Side)
  /-- CROSSING_HANDSHAKE_DONE (R222). The restart handshake completes; both sides raise ready and STATE returns to
  RUN. `side`: the side that raises its ready output. -/
  | crossingHandshakeDone (x : XId) (side : Side)
  /-- POINTER_PARITY (R229). A pointer parity mismatch sets PARITY, posts class 4 code 0x01 or 0x02, and realigns
  the crossing. `pointer`: the write pointer or the read pointer; `side`: the side at whose edge the check fails. -/
  | pointerParity (x : XId) (pointer : Side) (side : Side)
  /-- CROSSING_REALIGN (R231). A write of JCT_CFG.REALIGN or ICH_CFG.REALIGN realigns the crossing with CAUSE 5. -/
  | crossingRealign (x : XId)
  /-- CROSSING_ALIGN (R232). The calibration sequencer aligns a crossing in STATE OFF by a handshake on empty
  halves. -/
  | crossingAlign (x : XId)
  /-- OCC_REFRESH (R234). At every count that is a multiple of 64, OCC and OCC_MAX are refreshed. -/
  | occRefresh (x : XId)
  /-- OCC_CLR_MAX (R234). A write of CLR_MAX sets OCC_MAX to the OCC of the last refresh. -/
  | occClrMax (x : XId)
  /-- SECTION_INIT_STEP (R242). A bring-up step of Section initialisation completes, or is retried up to four
  attempts before it is FLAGGED. `meas`: one attempt of the step. -/
  | sectionInitStep (region : Nat) (step : InitStep) (meas : CalMeas)
  /-- CAL_STEP_START (R252). A lane starts a refinement step when the Section is READY, refinement is enabled and FW
  has settled. -/
  | calStepStart (region : Nat)
  /-- CAL_UNIT_START (R250). A measurement unit of up to 16 edges starts at an edge that lies in a gap. `edges`: how many
  edges it has. -/
  | calUnitStart (region edges : Nat)
  /-- CAL_STEP_DONE (R245). A step's two measurements complete and are checked for repeat agreement and for the
  stage's pass criterion. -/
  | calStepDone (region : Nat) (meas : CalMeas)
  /-- CAL_STEP_ABANDON (R253). A region with no gap for MAX_PAUSE has its step abandoned and returns to the end of
  the queue. -/
  | calStepAbandon (region : Nat)
  /-- CAL_FORCE (R255). A write of CAL_CTRL.FORCE treats every edge of every READY region as a gap. -/
  | calForce
  /-- CAL_RESTART (R256). A write of CAL_CTRL.RESTART marks every stage of every region that is not held as pending. -/
  | calRestart
  /-- REDO_DESKEW (R256). A write of SB_CAL_CTRL.REDO_DESKEW marks the region's DESKEW stage pending. -/
  | redoDeskew (region : Nat)
  /-- REDO_TRIM (R256). A write of SB_CAL_CTRL.REDO_TRIM marks the region's TRIM stage pending. -/
  | redoTrim (region : Nat)
  /-- REDO_EYE (R256). A write of SB_CAL_CTRL.REDO_EYE marks the region's EYE stage pending. -/
  | redoEye (region : Nat)
  /-- CAL_COMMIT (R263). At a multiple-of-64 tick the region's shadow bank becomes live and its Tap Table tile is
  rewritten. `crcBad`: the shadow bank fails its CRC. -/
  | calCommit (region : Nat) (crcBad : Bool)
  /-- CAL_IMG_SAVE (R276). A write of CAL_IMG_CTRL.SAVE starts writing the calibration image over AXI, holding every
  commit. -/
  | calImgSave
  /-- CAL_IMG_SAVE_DONE (R277). The save ends; the results are written, SEQ increments, and class 2 code 0x07 is
  posted on success. `ok`: every write response was good. -/
  | calImgSaveDone (ok : Bool)
  /-- CAL_IMG_RESTORE (R280). A write of CAL_IMG_CTRL.RESTORE starts, or holds until READY, a two-pass restore of
  the image. -/
  | calImgRestore
  /-- CAL_IMG_RESTORE_DONE (R282). The restore either commits the image at one tick edge, or refuses it with REASON
  and TILE. `img`: what the two passes read. -/
  | calImgRestoreDone (img : ImageIn)
  /-- CAL_SPOT_CHECK (R285). A spot check of a restored stage completes; it sets the stage DONE, or posts class 2
  code 0x06 on failure. -/
  | calSpotCheck (region : Nat) (stage : Stage) (meas : CalMeas)
  /-- SLOT_LEN_WRITE (R371). A write of SEC_SLOT.LEN ends the current slot and opens a new one when LEN is above 0. -/
  | slotLenWrite (sec : Nat) (len : Nat)
  /-- SLOT_END (R371). A calibration slot expires at T + 16 x LEN tk. -/
  | slotEnd (sec : Nat)
  /-- DISPATCH_CYCLE (R291). Every 2 tk one Dispatcher cycle gives issue to its owner Desk, or to the next ready
  Desk. `inp`: what the cycle meets. -/
  | dispatchCycle (inp : CycleIn)
  /-- STAMPED_ACTION_APPLY (R324). A stamped action applies at its tick edge, T or T', in every unit it names.
  `lanes`: units, as R508 numbers them, at which a lane of the action network failed. -/
  | stampedActionApply (lanes : List (Nat × Lane))
  /-- DESK_START (R295). A write of DSP_DESK_CTRL.START moves a STOPPED or FAULTED Desk to RUNNING. -/
  | deskStart (desk : Nat)
  /-- DESK_STOP (R296). A write of DSP_DESK_CTRL.STOP stops the Desk at its next issue boundary, abandoning any
  wait. -/
  | deskStop (desk : Nat)
  /-- DESK_STEP (R297). A write of DSP_DESK_CTRL.STEP to a STOPPED Desk issues one instruction and stops the Desk
  again. -/
  | deskStep (desk : Nat)
  /-- DESK0_SAFE (R332). At least 32 tk after a Desk 0 fault, SAFE is set in every Section and class 0 code 0x20 is
  posted. -/
  | desk0Safe
  /-- BR (R341). A conditional branch compares two g registers and jumps to TARGET. -/
  | br (desk : Nat) (cond : Nat) (a : Nat) (b : Nat) (target : Nat)
  /-- CALL (R341). A call pushes the return address and jumps to TARGET. -/
  | call (desk : Nat) (target : Nat)
  /-- RET (R341). A return pops the call stack into the PC. -/
  | ret (desk : Nat)
  /-- JR (R342). A register jump sets the PC to g[A] + IMM. -/
  | jr (desk : Nat) (a : Nat) (imm : Nat)
  /-- HALT (R343). HALT stops its Desk as a STOP would, keeping its pending stamped actions. -/
  | halt (desk : Nat)
  /-- NOP (R340). NOP advances the PC. -/
  | nop (desk : Nat)
  /-- ALU (R344). ALU applies the FN operation to two g registers. -/
  | alu (desk : Nat) (fn : Nat) (rd : Nat) (ra : Nat) (rb : Nat)
  /-- ALUI (R344). ALUI applies the FN operation to a g register and an immediate. -/
  | alui (desk : Nat) (fn : Nat) (rd : Nat) (ra : Nat) (imm : Nat)
  /-- MOVI (R340). MOVI loads a 32-bit immediate into g[D]. -/
  | movi (desk : Nat) (rd : Nat) (imm : Nat)
  /-- CMP (R345). CMP sets g[D] to the truth of a condition on two registers. -/
  | cmp (desk : Nat) (fn : Nat) (rd : Nat) (ra : Nat) (rb : Nat)
  /-- CMPI (R345). CMPI sets g[D] to the truth of a condition on a register and an immediate. -/
  | cmpi (desk : Nat) (fn : Nat) (rd : Nat) (ra : Nat) (imm : Nat)
  /-- LD (R346). LD loads a data-memory word into g[D]. `ecc`: what the decoder finds. -/
  | ld (desk : Nat) (rd : Nat) (ra : Nat) (imm : Nat) (ecc : Ecc)
  /-- ST (R346). ST stores g[D] into a data-memory word. -/
  | st (desk : Nat) (rd : Nat) (ra : Nat) (imm : Nat)
  /-- LDT (R347). LDT loads two data-memory words into a tick register in one cycle. `ecc`: what the decoder finds. -/
  | ldt (desk : Nat) (td : Nat) (ra : Nat) (imm : Nat) (ecc : Ecc)
  /-- STT (R347). STT stores a tick register into two data-memory words in one cycle. -/
  | stt (desk : Nat) (td : Nat) (ra : Nat) (imm : Nat)
  /-- RDT (R348). RDT reads the issue tick into a tick register. -/
  | rdt (desk : Nat) (td : Nat)
  /-- TADDI (R348). TADDI adds a signed immediate to a tick register. -/
  | taddi (desk : Nat) (td : Nat) (ta : Nat) (imm : Nat)
  /-- TADDG (R348). TADDG adds a g register and an immediate to a tick register. -/
  | taddg (desk : Nat) (td : Nat) (ta : Nat) (ra : Nat) (imm : Nat)
  /-- TDIFF (R348). TDIFF writes the saturated difference of two tick registers into g[A]. -/
  | tdiff (desk : Nat) (ra : Nat) (td : Nat) (ta : Nat)
  /-- TLO (R348). TLO moves the low half of a tick register into g[A]. -/
  | tlo (desk : Nat) (ra : Nat) (ta : Nat)
  /-- THI (R348). THI moves the high half of a tick register into g[A]. -/
  | thi (desk : Nat) (ra : Nat) (ta : Nat)
  /-- TSETLO (R348). TSETLO sets the low half of a tick register from g[A]. -/
  | tsetlo (desk : Nat) (td : Nat) (ra : Nat)
  /-- TSETHI (R348). TSETHI sets the high half of a tick register from g[A]. -/
  | tsethi (desk : Nat) (td : Nat) (ra : Nat)
  /-- WAIT (R349). WAIT makes the Desk WAITING until a computed tick w. -/
  | wait (desk : Nat) (ta : Nat) (imm : Nat)
  /-- WAIT_END (R349). The tick w is reached and the waiting Desk is ready in that Dispatcher cycle. -/
  | waitEnd (desk : Nat)
  /-- FREQ (R360). FREQ writes SEC_FW.FW of the named Sections as a frequency change. -/
  | freq (desk : Nat) (v : Nat) (sf : SForm)
  /-- FREQHW (R360). FREQHW writes SEC_HEADWAY.FW_HW of the named Sections. -/
  | freqhw (desk : Nat) (v : Nat) (sf : SForm)
  /-- HEADWAY (R362). HEADWAY writes SEC_CTRL.HEADWAY, and the mode changes 32 tk after the apply edge. -/
  | headway (desk : Nat) (v : Nat) (sf : SForm)
  /-- STRPOL (R359). STRPOL writes the masked fields of SB_STRETCH in the named regions. -/
  | strpol (desk : Nat) (v : Nat) (sf : SForm)
  /-- GATE (R365). GATE writes SB_GATE.FORCE, and WAKE when requested, in the named regions. -/
  | gate (desk : Nat) (v : Nat) (sf : SForm)
  /-- FREEZE (R364). FREEZE sets FORCE in every region of the named scope at one tick edge. -/
  | freeze (desk : Nat) (v : Nat) (sf : SForm)
  /-- THAW (R356). THAW clears FORCE in every region of the named scope at one tick edge. -/
  | thaw (desk : Nat) (v : Nat) (sf : SForm)
  /-- WOFF (R363). WOFF makes the apply edge a frequency change edge with a write-off in each named Section. -/
  | woff (desk : Nat) (v : Nat) (sf : SForm)
  /-- CSLOT (R371). CSLOT writes SEC_SLOT.LEN of the named Sections and grants a calibration slot. -/
  | cslot (desk : Nat) (v : Nat) (sf : SForm)
  /-- LWH (R367). LWH passes a long Whistle for a rail and tick to the Governor, with no action slot. -/
  | lwh (desk : Nat) (v : Nat) (sf : SForm)
  /-- STEP (R374). STEP closes the Meter's step interval at T with a token count and opens the next one. -/
  | step (desk : Nat) (v : Nat) (sf : SForm)
  /-- PHASE (R375). PHASE starts a labelled Meter sub-interval at T. -/
  | phase (desk : Nat) (v : Nat) (sf : SForm)
  /-- POST (R376). POST places a class 5 event with a program code and payload in the log path. -/
  | post (desk : Nat) (fn : Nat) (ra : Nat) (imm : Nat)
  /-- ENVCAP (R378). ENVCAP sets or removes a cap on the Governor's power limit from T. -/
  | envcap (desk : Nat) (v : Nat) (sf : SForm)
  /-- PRIO (R379). PRIO sets the Governor priority of one Section. -/
  | prio (desk : Nat) (ra : Nat) (imm : Nat)
  /-- WR (R381). WR writes g[V] to the named register in every unit named, immediately or stamped. -/
  | wr (desk : Nat) (v : Nat) (sf : SForm)
  /-- RD (R382). RD reads one register into g[D], waiting for a non-Station unit. -/
  | rd (desk : Nat) (rd : Nat) (ra : Nat) (imm : Nat)
  /-- RD_RETURN (R329). The value read from a remote unit returns, and g[D] is written. -/
  | rdReturn (desk : Nat)
  /-- PREF (R384). PREF starts a fill of page p without stalling any Desk. -/
  | pref (desk : Nat) (ra : Nat) (imm : Nat)
  /-- PIN (R385). PIN sets PIN on the frame that holds or is filling page p, prefetching the page if needed. -/
  | pin (desk : Nat) (ra : Nat) (imm : Nat)
  /-- UNPIN (R385). UNPIN clears PIN on the frame that holds page p. -/
  | unpin (desk : Nat) (ra : Nat) (imm : Nat)
  /-- ACQ (R318). ACQ takes a free semaphore, or waits until it is passed to this Desk. -/
  | acq (desk : Nat) (imm : Nat)
  /-- REL (R319). REL releases an owned semaphore. -/
  | rel (desk : Nat) (imm : Nat)
  /-- TRY (R318). TRY takes a free semaphore and reports in g[D] whether it got it. -/
  | try (desk : Nat) (rd : Nat) (imm : Nat)
  /-- SEMAPHORE_PASS (R319). A released semaphore passes to the lowest-numbered waiting Desk at the next cycle. -/
  | semaphorePass (sem : Nat)
  /-- ACTION_ENTRY_FREE (R326). A Desk waiting for room in the action table issues once one of its actions applies. -/
  | actionEntryFree (desk : Nat)
  /-- WHISTLE_ENTRY_FREE (R369). An LWH waiting for room among 32 pending Whistles issues once a pending Whistle's T
  is reached. -/
  | whistleEntryFree (desk : Nat)
  /-- SEM_HOST_RELEASE (R321). A host write of a DSP_SEM_HELD bit releases that semaphore. `sems`: the bits written. -/
  | semHostRelease (sems : Nat)
  /-- RESIDENT_TILE_WRITE (R306). A host write to a resident tile word other than its CRC marks the tile invalid. -/
  | residentTileWrite (addr : Nat) (data : Nat) (strb : Nat)
  /-- RESIDENT_CRC_WRITE (R306). A write to a tile's CRC word checks the tile and marks it valid or invalid. -/
  | residentCrcWrite (tile : Nat) (data : Nat) (strb : Nat)
  /-- TILE_SCRUB (R308). Every 16,384 tk one valid tile is rechecked, and a failure invalidates it and posts class 5
  code 0x04. `bad`: the tile taken fails its check. -/
  | tileScrub (bad : Bool)
  /-- RESIDENT_LOAD (R309). A write of DSP_CTRL.LOAD_RES copies pages 0-7 into the resident area over AXI once no
  Desk runs. -/
  | residentLoad
  /-- RESIDENT_LOAD_DONE (R309). The resident load ends, with tile validity and LOAD_ERR recorded and LOAD_RES
  cleared. `bytes`: the 32 KiB read; `errors`: tiles any of whose reads met an error response. -/
  | residentLoadDone (bytes : List Nat) (errors : List Nat)
  /-- PAGE_FILL_START (R312). A fill starts into the chosen eligible frame once one exists and PAGE_EN is 1. -/
  | pageFillStart (page : Nat)
  /-- PAGE_FILL_DONE (R313). A page fill completes; its tiles are checked, refetched once or faulted, and the
  waiting Desks resume. `bytes`: the page read. -/
  | pageFillDone (page : Nat) (bytes : List Nat) (resp : AxiResp)
  /-- DSP_IMG_WRITE (R394). A write to DSP_IMG or DSP_IMG_SIZE waits until no frame is FILLING. -/
  | dspImgWrite (which : ImgReg) (data : Nat) (strb : Nat)
  /-- DSP_IMG_APPLY (R394). At the first edge with no fill in progress the image address applies and every frame is
  invalidated. -/
  | dspImgApply
  /-- DMEM_DATA_WRITE (R317). A host write of DSP_DMEM_DATA stores the word and advances DSP_DMEM_ADDR. -/
  | dmemDataWrite (data : Nat) (strb : Nat)
  /-- ENV_SAMPLE (R400). Every 64 tk the Station samples env_valid and env_budget, and accepts two equal valid
  samples. -/
  | envSample (valid : Bool) (budget : Nat)
  /-- GOV_ENV_WRITE (R399). A write of GOV_ENV.BUDGET makes that value the envelope in force. -/
  | govEnvWrite (budget : Nat)
  /-- GOVERNOR_CONTROL_TICK (R406). Every 1,600 tk the Governor computes P_now and P_f and decides step-count and
  voltage actions. `mismatch`: the duplicate datapaths disagree (R499). -/
  | governorControlTick (mismatch : Bool)
  /-- STEP_COUNT_APPLY (R412). A step-count change applies as a frequency change with a write-off and posts class 3
  code 0x01. `lanes`: Section Roots, as R508 numbers units, at which a lane of the action network failed. -/
  | stepCountApply (lanes : List (Nat × Lane))
  /-- MARGIN_WINDOW (R414). At each snapshot tick the Governor judges whether the 16,384 tk window was a pressure
  window. -/
  | marginWindow (sec : Nat)
  /-- VOLTAGE_RAISE_STEP (R419). The Governor sends a VOUT_COMMAND 5 mV higher for a rail. -/
  | voltageRaiseStep (rail : Nat)
  /-- VOLTAGE_CONFIRM (R419). A READ_VOUT at or above VCMD - VTOL, or VSETTLE without telemetry, sets VCONF to VCMD. -/
  | voltageConfirm (rail : Nat)
  /-- VOLTAGE_CONFIRM_TIMEOUT (R419). An unconfirmed raise step after VSETTLE posts class 6 code 0x07 and defers a
  retry by 1 ms. -/
  | voltageConfirmTimeout (rail : Nat)
  /-- LONG_WHISTLE_DUE (R403). A pending long Whistle reaches its tick T and leaves the forecast for P_now. -/
  | longWhistleDue
  /-- LOAD_HINT_STROBE (R431). The load-hint port raises lh_stb for the rail with the code presented. -/
  | loadHintStrobe (rail : Nat)
  /-- LOAD_HINT_STROBE_END (R431). The strobe falls after WIDTH tk. -/
  | loadHintStrobeEnd (rail : Nat)
  /-- PMBUS_START (R424). At count 96,000 with PMB_EN set, the PMBus host reads VOUT_MODE and READ_VOUT of every
  rail. -/
  | pmbusStart
  /-- PMB_EN_WRITE (R425). A write of GOV_CTRL.PMB_EN stops the PMBus host after the current transaction, or
  restarts it. -/
  | pmbEnWrite (on : Bool)
  /-- PMBUS_TRANSACTION_DONE (R426). A PMBus transaction ends and the host starts the next one by precedence. -/
  | pmbusTransactionDone (reply : PmbReply)
  /-- TELEMETRY_ROUND (R427). A telemetry round of READ_IOUT over the rails starts at each 1 ms boundary. -/
  | telemetryRound
  /-- TELEMETRY_RETRY (R428). Every 100 ms a rail with TELEM_FAIL is tried again, and is cleared on success. -/
  | telemetryRetry (rail : Nat)
  /-- ALERT_SERVICE (R429). ALERT# low is serviced by Alert Response, STATUS_WORD and CLEAR_FAULTS, or is declared
  stuck. -/
  | alertService
  /-- ALERT_STUCK_CLEAR (R429). Clearing ALERT_STUCK resumes alert service. -/
  | alertStuckClear (rail : Nat)
  /-- PMB_REQUEST (R430). A write of GOV_PMB_REQ.GO runs one host PMBus transaction, or refuses it. -/
  | pmbRequest (type : Nat) (rail : Nat) (cmd : Nat) (data : Nat)
  /-- RECONCILIATION_CLOSE (R433). Every 1,600,000 tk the Meter closes an interval and computes K and reconciled
  energies per rail. `mismatch`: the duplicate datapaths disagree (R499). -/
  | reconciliationClose (mismatch : Bool)
  /-- RECONCILIATION_RESULT (R435). The interval's results appear, MTR_SEQ increments and any closed step's results
  are written. -/
  | reconciliationResult
  /-- ENERGY_ESTIMATE (R433). Every 64 tk each Signal Box adds an activity and voltage energy estimate to its
  accumulator. `e`: the estimate that the formula of R433 gives, in nJ. -/
  | energyEstimate (region : Nat) (e : Nat)
  /-- EVENT_POSTING (R450). A posting merges into a matching place or takes a free place as a new entry. -/
  | eventPosting (src : Nat) (cls : Nat) (code : Nat) (payload : Nat)
  /-- SOURCE_GAP_MARKER (R451). When a general place frees, the source places a GAP marker for its discards. -/
  | sourceGapMarker (src : Nat)
  /-- EVENT_NETWORK_TAKE (R452). Each tick the event network takes up to four entries, class-0 entries first.
  `lanes`: what the checks of R498 find on each entry taken, in order. -/
  | eventNetworkTake (lanes : List Lane)
  /-- LOG_COMMIT (R453). At T + 448 the log writes every received entry of tick T and earlier in TICK, SRC and
  arrival order. -/
  | logCommit
  /-- LOG_OVERFLOW_GAP (R457). Once at most 3,072 entries are unconsumed, the log writes one GAP marker and resumes. -/
  | logOverflowGap
  /-- LOG_READY (R455). 4,096 tk after lock the Event Log becomes ready and starts committing. -/
  | logReady
  /-- EVT_EN_WRITE (R455). A write of EVT_CTRL.EN stops the log, or readies it with a RECOVERY marker of cause 3. -/
  | evtEnWrite (on : Bool)
  /-- EVT_RECOVER (R458). A write of EVT_CTRL.RECOVER commits everything received and writes a RECOVERY marker of
  cause 4. -/
  | evtRecover
  /-- EVT_RIDX_WRITE (R461). A host write of EVT_RIDX in LOCAL mode consumes entries, or is ignored when out of
  range. -/
  | evtRidxWrite (idx : Nat)
  /-- EVT_MODE_WRITE (R466). A write of EVT_CTRL.MODE starts the spill from EVT_RIDX, or stops it once no burst is
  outstanding. -/
  | evtModeWrite (spill : Bool)
  /-- SPILL_BURST (R468). The spill writes up to 16 entries to the ring when BATCH entries wait or TIMEOUT passes.
  `ecc`: what the decoder found at each entry read. -/
  | spillBurst (ecc : List Ecc)
  /-- SPILL_BURST_DONE (R469). The burst's last write response advances EVT_RING_WR and EVT_RIDX and may ring the
  doorbell. -/
  | spillBurstDone (resp : AxiResp)
  /-- CONSUME_INDEX_READ (R470). The spill reads the host's consume index and checks that it is valid. -/
  | consumeIndexRead (value : Nat) (resp : AxiResp)
  /-- RING_FULL_REREAD (R470). While the ring is full the consume index is reread every TIMEOUT us. -/
  | ringFullReread (value : Nat) (resp : AxiResp)
  /-- SPILL_ERR_CLEAR (R472). Clearing SPILL_ERR resumes the spill from the entry that failed. -/
  | spillErrClear
  /-- LOG_ENTRY_READ (R465). A read of a log entry corrects single-bit errors and flags an uncorrectable one with
  class 7 code 0x04. -/
  | logEntryRead (slot : Nat) (word : Nat) (ecc : Ecc)
  /-- JOURNAL_ENTRY_READ (R481). A read of a Journal entry that finds an uncorrectable error sets UNCORR_SEEN and
  posts class 7 code 0x12. -/
  | journalEntryRead (slot : Nat) (word : Nat) (ecc : Ecc)
  /-- MILEAGE_WINDOW_END (R482). Every 1 ms each contributing region adds to its histogram bins and counters. -/
  | mileageWindowEnd
  /-- MIL_SNAP (R484). A write of MIL_CTRL.SNAP requests a snapshot of one region's Mileage. -/
  | milSnap (region : Nat)
  /-- MIL_SNAP_CLR (R484). A write of MIL_CTRL.SNAP_CLR requests a snapshot that also clears the region's Mileage. -/
  | milSnapClr (region : Nat)
  /-- MIL_SNAP_DONE (R484). Within 64 tk the snapshot is copied, cleared if asked, and SEQ increments.
  `corrected`: bits of the Mileage RAM that the copy's read corrects (R493). -/
  | milSnapDone (corrected : Nat)
  /-- SAFE_ALL (R549). A write of STN_GCTRL.SAFE_ALL requests safe settings in every Section. -/
  | safeAll
  /-- SAFE_ALL_APPLY (R549). At least 32 tk after the write, SAFE is set in every Section and journaled per Section. -/
  | safeAllApply
  /-- HOST_REGISTER_WRITE (R513). A host write to a register with no row of its own takes effect at a tick edge and
  is journaled. -/
  | hostRegisterWrite (addr : Nat) (data : Nat) (strb : Nat)
  /-- APB_UNMAPPED_ACCESS (R511). An access to an unmapped range returns PSLVERR, records HIF_APB_ERR and sets
  APB_ERR. -/
  | apbUnmappedAccess (addr : Nat) (write : Bool)
  /-- APB_RESET (R535). PRESETn resets the APB protocol state only. -/
  | apbReset
  /-- AXI_ERROR_RESPONSE (R532). An SLVERR or DECERR response is recorded in HIF_AXI_STATUS and handed to its user. -/
  | axiErrorResponse (user : Nat) (resp : AxiResp)
  /-- AXI_RANGE (R531). A transaction that would cross 2^40 is not issued and is treated as an error. -/
  | axiRange (user : Nat)
  /-- AXI_RESET (R533). ARESETn low stops issue and turns every outstanding transaction into an error. -/
  | axiReset
  /-- SCAN_MODE (R595). scan_mode high bypasses every PLL and DLL and clocks the scan chains from ref_clk. -/
  | scanMode
  /-- WS_BYPASS (R594). The wrapper instruction places the bypass register between WSI and WSO. -/
  | wsBypass
  /-- WS_EXTEST (R594). The wrapper's boundary cells drive and capture the macro's pins. -/
  | wsExtest
  /-- WS_INTEST (R594). The wrapper's boundary cells isolate the core for scan. -/
  | wsIntest
  /-- WS_CLAMP (R594). The wrapper holds outputs at their reset states with bypass selected. -/
  | wsClamp
  /-- TK_PLLTEST (R594). The Station PLL locks from ref_clk and its period and jitter are measured. -/
  | tkPlltest
  /-- TK_DLLTEST (R594). Root and Signal Box DLLs lock at two FW values and each tap is measured. -/
  | tkDlltest
  /-- TK_MBIST (R594). A march test runs over the Station RAMs. -/
  | tkMbist
  /-- TK_TCTEST (R594). Bypass and block tests run on all eight Track Circuits at ten FW values. -/
  | tkTctest
  /-- TOKEN_WORD_OFFER (R216). At a WORD-mode source edge with ts_valid and ts_ready both high, the source takes the
  word and launches a transfer. -/
  | tokenWordOffer (t : Nat) (data : Nat)
  /-- ACKNOWLEDGE_RISE_SEEN (R214). The source of a Token crossing sees the acknowledge rise, 2 or 3 of its own
  edges after it was driven, and lowers its request. -/
  | acknowledgeRiseSeen (t : Nat)
  /-- REQUEST_FALL_SEEN (R214). The destination of a Token crossing sees the request fall, 2 or 3 of its own edges
  after it was driven, and lowers its acknowledge. -/
  | requestFallSeen (t : Nat)
  /-- DMEM_DATA_READ (R317). A host read of DSP_DMEM_DATA that finds an uncorrectable error returns the uncorrected
  word and sets DSP_STATUS.DMEM_ERR. -/
  | dmemDataRead
  /-- AXI_RESET_RELEASE (R533). ARESETn rising ends the AXI manager's hold, so that its waiting users may issue
  transactions again. -/
  | axiResetRelease
  deriving DecidableEq, Repr

end Sys2Proof
end

