-- ==== Sys2Proof/Decode.lean ====
section
/-!
DEFINITION. Words that spell a command. The command table gives no row any bits: a command is an access of the host, an
event on a pin or an event inside the block, so no word spells one.
-/

namespace Sys2Proof

/-- The command that a word of `nbits` bits spells: none, as no row of the table has bits. -/
def decodeTableWord (_nbits _w : Nat) : Option Instr := none

end Sys2Proof
end

