-- ==== Sys2Proof/Config.lean ====
section
/-!
DEFINITION. What the manual leaves open: opaque constants with no body, so that no proof can see a value of them. Each
is named in the assumption log.
-/

namespace Sys2Proof.Config

/-- Content of a byte of a resident program tile before its first write or load (R546: unspecified), by address. -/
opaque residentByte : Nat → BitVec 8

/-- Where an exact quotient is not whole and the manual states no rounding, whether the result is the next whole
number above (true) or below (false). The arguments are the numerator and the denominator. -/
opaque roundsUp : Int → Nat → Bool

/-- Whether `sb_time` of a region, after so many edges, holds the earlier of the two counts that R68 allows. -/
opaque sbTimeEarlier : Nat → Nat → Bool

/-- A byte of a resident tile whose load met an error response (R309: unspecified), by the count of loads and its place. -/
opaque loadByte : Nat → Nat → BitVec 8

/-- Bursts of page fills, resident loads and image transfers that are outstanding at a tick: the manual bounds them
(R529) and gives no count. The arguments are the ticks since lock and whether the bursts write. -/
opaque burstsOut : Nat → Bool → Nat

/-- The K that the event of R434 reports for a rail whose estimates sum to 0. -/
opaque ratioOfNone : Nat → Nat

/-- The rail and the command (0 and 1) in the event of R428 for a failed Alert Response read, which addresses no rail. -/
opaque alertItem : Nat → Nat → Nat

/-- The owner bits of a semaphore that becomes free: they are meaningful only while it is held. The arguments are the
semaphore and the ticks since lock. -/
opaque freeOwner : Nat → Nat → Nat

/-- The local count of a Signal Box less the master count before its counter is first loaded (R59), by region. -/
opaque unloadedCount : Nat → BitVec 64

/-- The estimate of a voltage step of a rail whose commanded voltage is 0 (R421), in mW. -/
opaque stepFromZero : Nat → Nat

/-- The response recorded for a transaction that `ARESETn` cut off (R533: an error response): DECERR (true) or SLVERR. -/
opaque resetResp : Nat → Bool

/-- What the data register of a wrapper or self-test instruction holds (R594), by instruction code and the model's
counter. -/
opaque testData : Nat → Nat → Nat

end Sys2Proof.Config
end

