-- ==== Sys2Proof/Machine/Arith.lean ====
section
/-! DEFINITION. Small arithmetic: majority, saturation, signed fields, quotients whose rounding the manual leaves open. -/

namespace Sys2Proof.Machine

/-- Bitwise majority of three numbers (R47, R176, R494). -/
def maj3 (a b c : Nat) : Nat := (a &&& b) ||| (a &&& c) ||| (b &&& c)

/-- Saturation at the largest value of `w` bits. -/
def satU (w n : Nat) : Nat := min n (2 ^ w - 1)

/-- Signed saturation to `w` bits, held in two's complement. -/
def satS (w : Nat) (i : Int) : Nat :=
  ((max (-(2 ^ (w - 1) : Int)) (min i (2 ^ (w - 1) - 1))) % (2 ^ w : Int)).toNat

/-- A number in two's complement at `w` bits. -/
def twos (w : Nat) (i : Int) : Nat := (i % (2 ^ w : Int)).toNat

/-- The signed value of a `w`-bit field. -/
def signed (w n : Nat) : Int := if n % 2 ^ w < 2 ^ (w - 1) then (n % 2 ^ w : Nat) else (n % 2 ^ w : Nat) - (2 ^ w : Int)

/-- A quotient that is exact where it is whole; where it is not, and the manual states no rounding, one of the two
neighbours, left open by `Config.roundsUp`. -/
def divOpen (n : Int) (d : Nat) : Int :=
  if n % (d : Int) = 0 then n / (d : Int)
  else if Config.roundsUp n d then n / (d : Int) + 1 else n / (d : Int)

/-! ### Quotients -/

/-- A quotient: the estimates of the Governor and the Meter are exact. -/
structure Frac where
  num : Int := 0
  den : Nat := 1
  deriving DecidableEq, Repr

/-- A quotient in lowest terms. -/
def Frac.mk' (n : Int) (d : Nat) : Frac :=
  let g := Nat.gcd n.natAbs d
  if g = 0 then ⟨0, 1⟩ else ⟨n / (g : Int), d / g⟩

def Frac.ofInt (i : Int) : Frac := ⟨i, 1⟩
def Frac.add (a b : Frac) : Frac := Frac.mk' (a.num * b.den + b.num * a.den) (a.den * b.den)
def Frac.neg (a : Frac) : Frac := ⟨-a.num, a.den⟩
def Frac.sub (a b : Frac) : Frac := a.add b.neg
def Frac.mul (a b : Frac) : Frac := Frac.mk' (a.num * b.num) (a.den * b.den)
def Frac.abs (a : Frac) : Frac := ⟨a.num.natAbs, a.den⟩
/-- a ≤ b. -/
def Frac.le (a b : Frac) : Bool := a.num * b.den ≤ b.num * a.den
/-- a < b. -/
def Frac.lt (a b : Frac) : Bool := a.num * b.den < b.num * a.den
/-- The sum of a list. -/
def Frac.sum (l : List Frac) : Frac := l.foldl Frac.add {}
/-- The whole number below or above, left open where it is not whole. -/
def Frac.round (a : Frac) : Int := divOpen a.num a.den

/-- Greatest of a list of numbers, 0 for none. -/
def maxOf (l : List Nat) : Nat := l.foldl max 0

end Sys2Proof.Machine
end

