-- ==== Sys2Proof/Machine/Store.lean ====
section
/-!
DEFINITION. Sparse stores: a list of (key, value) pairs in one canonical form, keys strictly rising and no entry
equal to what an unlisted key reads as. The registers, the memory windows and the per-unit records are kept so.
-/

namespace Sys2Proof.Machine

/-- A sparse store over natural-number keys. -/
abbrev Store (α : Type) := List (Nat × α)

/-- The listed value of a key, if it is listed. -/
def Store.find? {α : Type} : Store α → Nat → Option α
  | [], _ => none
  | (k', v) :: m, k => if k = k' then some v else Store.find? m k

/-- The store without any entry of a key. -/
def Store.erase {α : Type} : Store α → Nat → Store α
  | [], _ => []
  | (k', v) :: m, k => if k = k' then Store.erase m k else (k', v) :: Store.erase m k

/-- The store with a key listed at a value. -/
def Store.insert {α : Type} : Store α → Nat → α → Store α
  | [], k, v => [(k, v)]
  | (k', v') :: m, k, v =>
    if k < k' then (k, v) :: (k', v') :: m
    else if k = k' then (k, v) :: m
    else (k', v') :: Store.insert m k v

/-- Write a key: `isDef k v` says that `v` is what an unlisted `k` reads as, and such a value is not listed. -/
def Store.put {α : Type} (isDef : Nat → α → Bool) (m : Store α) (k : Nat) (v : α) : Store α :=
  if isDef k v then m.erase k else m.insert k v

/-- Every key of the store is above `k`. -/
def Store.above {α : Type} (k : Nat) : Store α → Bool
  | [] => true
  | (k', _) :: _ => k < k'

/-- Keys strictly rising. -/
def Store.sorted {α : Type} : Store α → Bool
  | [] => true
  | (k, _) :: m => Store.above k m && Store.sorted m

/-- The canonical form. -/
def Store.wf {α : Type} (isDef : Nat → α → Bool) (m : Store α) : Bool :=
  m.sorted && m.all (fun e => !isDef e.1 e.2)

/-- Read a key of a store whose unlisted keys all hold `d`. -/
def Store.getD {α : Type} (d : α) (m : Store α) (k : Nat) : α := (m.find? k).getD d

/-- Write a key of a store whose unlisted keys all hold `d`. -/
def Store.setD {α : Type} [DecidableEq α] (d : α) (m : Store α) (k : Nat) (v : α) : Store α :=
  m.put (fun _ v => v == d) k v

end Sys2Proof.Machine
end

