-- ==== Sys2Proof/Machine/Records.lean ====
section
/-!
DEFINITION. The records of the block's state beside its registers: what each unit holds that no register shows. Every
field's default is its value at power-on reset (R534).
-/

namespace Sys2Proof.Machine

/-! ### The instance's build (R27, R32) -/

/-- A Junction of the instance: the region that writes, the region that reads, the data width in bits (R29). -/
structure JctBuild where
  writer : Nat
  reader : Nat
  width  : Nat := 64
  deriving DecidableEq, Repr

/-- An Interchange of the instance: writer and reader region, data width (R198). -/
structure IchBuild where
  writer : Nat
  reader : Nat
  width  : Nat := 64
  deriving DecidableEq, Repr

/-- A Token crossing of the instance: the region its source and its destination lie in, whether it works in WORD mode,
and the width of its word (R213). -/
structure TokBuild where
  src   : Nat
  dst   : Nat
  word  : Bool := false
  width : Nat := 16
  deriving DecidableEq, Repr

/-- The build parameters of R27 and the assignments that R32 fixes at build. -/
structure Build where
  nRegions    : Nat
  nSections   : Nat
  nRails      : Nat
  ichDepth    : Nat
  optMileage  : Bool
  optSync     : Bool
  optLoadhint : Bool
  sczMajor    : Nat
  sczMinor    : Nat
  /-- Runs of consecutive regions, in ascending region number: how many, and of which Section. -/
  regionRuns  : List (Nat × Nat)
  /-- The rail of each Section. -/
  sectionRail : List Nat
  junctions   : List JctBuild
  interchanges : List IchBuild
  tokens      : List TokBuild
  /-- The build signature that CAL_BUILD_SIG reads. -/
  sig         : Nat
  /-- The seed ROM: the taps of a region's seed tile, and the offsets o_i of its Track Circuits in ps; a region not
  listed has taps of 64 and offsets of 0. -/
  seedTaps    : Store (List Nat) := []
  seedOffsets : Store (List Int) := []
  /-- Whether each rail answers telemetry, and its PMBus address: the build's reset values of GOV_RAIL_CFG. -/
  railTelem   : List Bool
  railAddr    : List Nat
  deriving DecidableEq, Repr, Inhabited

/-! ### Station Clock, Time Spine, alignment (Station Clock and Time Spine) -/

/-- The receiver of `sync_in` (R73–R75). -/
structure SyncRx where
  /-- The latest samples, two a tick, newest first: the synchroniser's 2 tk and the echo's 3 tk. -/
  pipe   : List Bool := List.replicate 7 false
  /-- The rising edge of the marker being received, as the count at its detection, in 0.5 tk. -/
  rise   : Option Nat := none
  /-- Half ticks since that edge, the high samples of the marker or of the present cell, the marker recognised. -/
  at_    : Nat := 0
  high   : Nat := 0
  marker : Bool := false
  /-- The cells decoded so far. -/
  bits   : Nat := 0
  /-- A whole frame: its 56 cells and the count at its marker, in 0.5 tk. -/
  frame  : Option (Nat × Nat) := none
  deriving DecidableEq, Repr

/-- The Station's timebase state. -/
structure Stn where
  /-- Lock has been declared since `po_rst_n` released (R39). -/
  locked   : Bool := false
  /-- The three copies of the master tick counter (R47). -/
  cntA     : BitVec 64 := 0
  cntB     : BitVec 64 := 0
  cntC     : BitVec 64 := 0
  /-- Tick edges since lock: what durations are counted with; a hard alignment does not move it. -/
  elapsed  : Nat := 0
  /-- `elapsed` at the latest window end of the Mileage store (R482). -/
  milWin   : Nat := 0
  /-- An acquisition attempt is running (R598). -/
  attempt  : Bool := false
  /-- A detection has classified the reference in this attempt or since holdover began (R45, R598). -/
  classified : Bool := false
  /-- The reference is qualified while HOLD_FORCE keeps holdover (R45, R90). -/
  qualified : Bool := false
  /-- Tick edges counted since holdover began (R46). -/
  holdTk   : Nat := 0
  /-- Tick edges counted since the reference qualified (STN_LOCK_TIME). -/
  reacqTk  : Nat := 0
  /-- A tick capture is pending (R55). -/
  tcapPend : Bool := false
  /-- `elapsed` at the end of Spine calibration (R59). -/
  spineEnd : Option Nat := none
  /-- The leaf that tracking measures next, the Station tap after the last region; `elapsed` at the last measurement
  (R62). -/
  trackIdx : Nat := 0
  trackAt  : Nat := 0
  /-- The fine delay and the last residual of the Station tap (R57, R59). -/
  tapFine  : Nat := 0
  tapResidual : Nat := 0
  /-- Leaves still to measure in the round of R63. -/
  recalLeft : Nat := 0
  /-- Section release is held for a hard alignment (R82). -/
  relHold  : Bool := false
  /-- `elapsed` at the last valid sync frame, or at the edge from which frames are awaited (R76). -/
  syncLast : Nat := 0
  /-- The `sync_out` pin. -/
  syncOut  : Bool := false
  /-- The count that the frame now on `sync_out` carries (R74). -/
  frameN   : Option Nat := none
  /-- The count of the frame that measures the round trip (R78). -/
  measN    : Option Nat := none
  syncRx   : SyncRx := {}
  /-- Slewing (R86): its direction, 1 toward earlier tick edges, and the phase it has moved, in 1/8,192 tk. -/
  slewDir  : Int := 0
  slewPhase : Int := 0
  /-- A hard alignment by this many ticks waits for the next `spine_f` boundary (R81). -/
  hardPend : Option Int := none
  /-- Code 0x05 was posted and code 0x06 not yet (R87). -/
  above2   : Bool := false
  /-- A warm reset is in effect (R536). -/
  warm     : Bool := false
  /-- `elapsed` from which a SAFE_ALL applies (R549). -/
  safeAllAt : Option Nat := none
  /-- `elapsed` at the edge at which the Station last set SAFE in every Section: it overrides that edge's writes (R550). -/
  safeEdge : Option Nat := none
  /-- Distinct Sections released since `po_rst_n` released (HIF_BOOT.SEC_RELEASED). -/
  relCount : Nat := 0
  deriving DecidableEq, Repr

/-! ### Section Roots -/

/-- A frequency change that waits for its tick (R94, R104, R164, R165). -/
structure SecPend where
  due    : Nat
  /-- The word that a host wrote; none where the change applies the word held at its edge (R94, R101, R104). -/
  word   : Option Nat := none
  /-- The headway mode that a transition brings. -/
  hw     : Option Bool := none
  /-- The change after SAFE was cleared or READY was first read, which also commits the calibration store (R239). -/
  commit : Bool := false
  /-- A change of frequency; at READY with nothing to apply only the commit waits (R101, R239). -/
  applies : Bool := true
  deriving DecidableEq, Repr

/-- What a Section Root holds beside its registers. -/
structure Sec where
  released : Bool := false
  everReleased : Bool := false
  /-- A period fault holds its regions dark, until their clocks start again (R106, R501). -/
  dark     : Bool := false
  /-- STATE READY has been read since the last release (R101). -/
  readSeen : Bool := false
  /-- The tick of release, T0 (R99). -/
  t0       : Nat := 0
  /-- Phase accumulated since the phase origin, in 1/65,536 Section cycle (R91). -/
  acc      : Nat := 0
  /-- Target of the ramp in progress and the tick of its next step (R96). -/
  target   : Nat := 49152
  rampNext : Nat := 0
  pend     : List SecPend := []
  /-- The commit of R239 waits for the end of a save (R276). -/
  commitHeld : Bool := false
  /-- The requested word in force; none while the Section runs on the safe word (R101, R102, R104). -/
  req      : Option Nat := none
  /-- The tick of the latest frequency change edge, and the FW in force, target and ramp before that edge (R361). -/
  edgeAt   : Option Nat := none
  preFw    : Nat := 49152
  preRamp  : Bool := false
  preTarget : Nat := 49152
  /-- `Stn.elapsed` at the latest change of FW. -/
  lastChange : Nat := 0
  /-- Stretch-bus values by Section edge (R185). -/
  bus      : Store Nat := []
  /-- SEC_SYM_TK at the last margin window's end (R414). -/
  symTkAt  : Nat := 0
  /-- A region posted class 0 code 0x17 in this margin window (R414). -/
  win17    : Bool := false
  /-- Consecutive windows with and without pressure (R415). -/
  pressRun : Nat := 0
  quietRun : Nat := 0
  /-- A margin step waits for the next control tick: up or down (R415). -/
  marginUp : Bool := false
  marginDn : Bool := false
  /-- The calibration slot's end tick, with the slot's start (R371). -/
  slotEnd  : Nat := 0
  deriving DecidableEq, Repr

/-! ### Signal Boxes -/

/-- A profile playback: the 16 latched entries, the intensity, edges since the strobe, the windows that alarmed, the
lowest vote reading of each window, and the entries written since the strobe (R154, R161, R163). -/
structure Play where
  entries   : List Nat
  intensity : Nat
  j         : Nat := 0
  alarmed   : Nat := 0
  lows      : List Nat := List.replicate 16 32
  written   : List Nat := []
  deriving DecidableEq, Repr

/-- The counters that a snapshot of R132 and R192 takes. -/
structure ActSnap where
  edges  : Nat
  act    : Nat
  gated  : Nat
  str    : Nat
  sym    : Nat
  cu     : Nat
  woff   : Nat
  denied : Nat
  ledger : Nat
  deriving DecidableEq, Repr

/-- What a region did since the last Mileage window end (R482, R483). -/
structure MileWin where
  maxLedger : Nat := 0
  lowVote   : Option Nat := none
  lowMv     : Option Nat := none
  maxTemp   : Option Int := none
  edges  : Nat := 0
  gated  : Nat := 0
  str    : Nat := 0
  sym    : Nat := 0
  cu     : Nat := 0
  woff   : Nat := 0
  denied : Nat := 0
  alarms : Nat := 0
  strobes : Nat := 0
  viols  : Nat := 0
  excl   : Nat := 0
  grants : Nat := 0
  faults : Nat := 0
  posts  : Nat := 0
  hot    : Nat := 0
  act    : Nat := 0
  energy : Nat := 0
  deriving DecidableEq, Repr

/-- What asks for a test of a Track Circuit (R145, R148, R150). -/
inductive TcAsk where
  | outOfTurn | readmit | scheduled
  deriving DecidableEq, Repr

/-- A Track Circuit under test: the edges that the test has taken, the raw bypass reading of its present attempt (R146,
R600). -/
structure TcRun where
  ask    : TcAsk
  tc     : Nat
  edges  : Nat := 0
  bypass : Nat := 0
  deriving DecidableEq, Repr

/-- A time in ticks as a quotient. -/
structure TickTime where
  num : Int := 0
  den : Nat := 1
  deriving DecidableEq, Repr

/-- What a Signal Box holds beside its registers. -/
structure Rgn where
  /-- A granted request: 1 before its edge e is delivered, 2 before edge e + 1, 3 in the last high phase (R114–R117). -/
  grant    : Nat := 0
  /-- Edges for which the gate port's answer is still held (R114). -/
  ackLeft  : Nat := 0
  /-- `sb_gate_req` at the last region edge (R114, R121). -/
  reqHigh  : Bool := false
  /-- The `sb_gate_ack` and `sb_gate_grant` pins. -/
  ackOut   : Bool := false
  grantOut : Bool := false
  /-- A cause began while the clock ran: no further edge is delivered and the clock is about to gate (R364). -/
  stopDue  : Bool := false
  /-- `Stn.elapsed` when that cause began. -/
  stopTk   : Nat := 0
  /-- The position of the withheld edge at whose time the gate port's answer falls (R601). -/
  ackFall  : Option Nat := none
  /-- The position of the restart edge, in ph, once the last cause has ended (R120). -/
  restartMin : Option Nat := none
  /-- Position of the last region edge, in ph of 16 per Section edge from the phase origin. -/
  pos      : Nat := 0
  /-- The Section edge at which the last region edge was due (R185, R186). -/
  duePrev  : Nat := 0
  /-- The time of the last region edge. -/
  tLast    : TickTime := {}
  /-- A frequency change edge came since the last region edge; the FW in force before it (R189). -/
  woff     : Option Nat := none
  /-- The position of the clock's first edge, at a start or restart, until that edge is delivered (R99, R120). -/
  first    : Option Nat := none
  /-- A short Whistle strobe was sampled at the coming edge (R159). -/
  strobed  : Bool := false
  /-- The three copies of the Slip Ledger (R176). -/
  ledA     : Nat := 0
  ledB     : Nat := 0
  ledC     : Nat := 0
  /-- The stretch of R139 decided for the next edge. -/
  own      : Nat := 0
  /-- A write of SEC_SYM_CFG.EN to 0 ends the region's request at its next edge (R183). -/
  symEnd   : Bool := false
  /-- The ledger at the latest four multiples of 64 tk, newest first (R123). -/
  ledWin   : List Nat := [0, 0, 0, 0]
  /-- The alignment that the DLL's lock measured, whole ph and fine steps, not yet reached (R113). -/
  alignTgt : Option (Nat × Nat) := none
  play     : Option Play := none
  /-- A playback that ran to its end and waits for its refit (R161). -/
  refit    : Option Play := none
  /-- Consecutive edges with the vote reading at or above RESTORE (R141). -/
  restRun  : Nat := 0
  /-- Edges since the last catch-up, none before the first (R182). -/
  cuSince  : Option Nat := none
  /-- Code 0x17 may be posted again (R179). -/
  boundArmed : Bool := true
  /-- Off the stretch bus after persistent bad parity, and the run of bad Section edges (R496). -/
  offBus   : Bool := false
  busRun   : Nat := 0
  /-- Consecutive edges without an alarm since the last post of code 0x16, up to 64, at which it may be posted again
  (R168). -/
  hwQuiet  : Nat := 64
  /-- The last reading of each Track Circuit. -/
  readings : List Nat := List.replicate 8 0
  /-- A lone alarm's Track Circuit and the length of its run (R148). -/
  loneTc   : Nat := 0
  loneRun  : Nat := 0
  /-- The last due tick of a scheduled test of each Track Circuit that an edge has seen (R145); the scheduled tests that
  wait, a bit each; the Track Circuit that waits for an out-of-turn test; the test under way (R600). -/
  tcServed : List Nat := List.replicate 8 0
  tcWait   : Nat := 0
  tcTurn   : Option Nat := none
  tcTest   : Option TcRun := none
  /-- The free-running counters (R131, R192). -/
  edges    : Nat := 0
  act      : Nat := 0
  gatedTk  : Nat := 0
  str      : Nat := 0
  sym      : Nat := 0
  cu       : Nat := 0
  woffPh   : Nat := 0
  denied   : Nat := 0
  snap     : Option ActSnap := none
  /-- Edges since `sb_idle` fell, from 24, and consecutive edges with `sb_idle` high (R159, R249). -/
  idleFell : Nat := 24
  idleRun  : Nat := 0
  /-- The spindle that missed or added an edge at the last region edge (R495). -/
  spindleBad : Option Nat := none
  /-- The `sb_time` and `sb_time_vld` pins, and region edges since the clock started. -/
  sbTime   : Nat := 0
  sbTimeVld : Bool := false
  sinceStart : Nat := 0
  /-- The 16 profile weights, in 1/64 ph (R161). -/
  weights  : List Nat := List.replicate 16 0
  /-- The leaf-spindle taps in use and the taps they walk to (R128). -/
  taps     : List Nat := List.replicate 120 0
  tapTgt   : List Nat := List.replicate 120 0
  /-- The local counter has been loaded (R59, R65); local count less the master count since; a mismatch detected and not
  yet reloaded (R64, R65). -/
  loaded   : Bool := false
  localErr : BitVec 64 := 0
  mismatch : Bool := false
  /-- Last measured alignment residual of the Spine leaf, in ps. -/
  residual : Nat := 0
  /-- The `sb_rst_req` pin and the masking of the region's inputs (R568, R569). -/
  rstReq   : Bool := true
  masked   : Bool := true
  /-- `Stn.elapsed` at the last write-off. -/
  lastWoff : Nat := 0
  /-- Gatings of the region so far (R206). -/
  gatings  : Nat := 0
  /-- Activity of the last edge (R247). -/
  lastAct  : Nat := 0
  /-- The latest edge carried a stretch, a catch-up or a sympathetic value (R247). -/
  moved    : Bool := false
  mile     : MileWin := {}
  deriving DecidableEq, Repr

/-! ### Events (Event Log) -/

/-- An Event Log entry (R443), its TICK whole. -/
structure Entry where
  tick    : Nat
  src     : Nat
  cls     : Nat
  code    : Nat
  payload : Nat
  count   : Nat := 1
  mark    : Bool := false
  delayed : Bool := false
  held    : Bool := false
  /-- Stamped before a hard alignment that came while it waited at its source (R83, R458). -/
  stale   : Bool := false
  /-- What the event network's checks found on it (R498). -/
  lane    : Lane := .good
  deriving DecidableEq, Repr

/-- An event source: the entries in places 0–1, those in places 2–7, oldest first, the first tick and the number of
discards that no marker yet carries, and all discards so far (R449–R451). -/
structure Source where
  c0   : List Entry := []
  gen  : List Entry := []
  gap  : Option (Nat × Nat) := none
  /-- The first of those discards was stamped before a hard alignment. -/
  gapStale : Bool := false
  lost : Nat := 0
  deriving DecidableEq, Repr

/-- The spill of the log to the host's ring (R466–R472). -/
structure Spill where
  /-- SPILL mode in force; a change back to LOCAL waits for the outstanding bursts. -/
  active : Bool := false
  stopping : Bool := false
  /-- Ring base, consume-index address, doorbell address and LOG2 taken at the change to SPILL mode (R467). -/
  base   : Nat := 0
  con    : Nat := 0
  ptr    : Nat := 0
  log2   : Nat := 16
  /-- Lengths of the bursts outstanding, in issue order. -/
  bursts : List Nat := []
  /-- `Stn.elapsed` at the latest read of the consume index (R470). -/
  conAt  : Option Nat := none
  deriving DecidableEq, Repr

/-- The Event Log beside its registers and its RAM. -/
structure Log where
  /-- The Event Log registers are ready: 4,096 tk after lock (R455). -/
  up       : Bool := false
  srcs     : Store Source := []
  /-- The source from which the event network's turn goes on (R452). -/
  turn     : Nat := 0
  /-- Entries received and not yet written, in order of arrival. -/
  received : List Entry := []
  /-- Every tick up to this one has been committed (R453). -/
  committed : Nat := 0
  /-- TICK bits 63:48 of the previous entry written (R460). -/
  lastHi   : Option Nat := none
  /-- Overflow discarding: TICK of the first entry discarded, entries discarded, sum of their COUNTs (R457). -/
  overflow : Option (Nat × Nat × Nat) := none
  /-- Recovery causes whose marker waits for the log to be ready, with the entries that precede the marker (R458). -/
  recover  : List (Nat × List Entry) := []
  /-- Entries written, and entries taken from the network, at the present tick edge (R452, R453: at most four). -/
  wrote    : Nat := 0
  took     : Nat := 0
  /-- Tick edges at which the unconsumed entries were written, oldest first (R468). -/
  wtimes   : List Nat := []
  spill    : Spill := {}
  deriving DecidableEq, Repr

/-- A Change Journal entry (R474); its TICK is none while the write waits for the first tick edges after lock. -/
structure JEntry where
  tick  : Option Nat
  src   : Nat
  kind  : Nat
  defer : Bool
  addr  : Nat
  old   : Nat
  new   : Nat
  deriving DecidableEq, Repr

/-- The Change Journal beside its registers and its RAM. -/
structure Jnl where
  /-- Entries of the present and earlier edges that wait for a free write, oldest first (R478). -/
  queue  : List JEntry := []
  /-- Entries written at the present tick edge. -/
  wrote  : Nat := 0
  /-- TICK bits 63:40 of the previous entry (R478). -/
  lastHi : Option Nat := none
  /-- Entries ever written. -/
  total  : Nat := 0
  deriving DecidableEq, Repr

/-- A write that waits in a shadow register (R477): the register's key, the value and strobes written, the source. -/
structure Shadow where
  key  : Nat
  val  : Nat
  strb : Nat
  src  : Nat
  deriving DecidableEq, Repr

/-- The Mileage of one region: 8 × 16 bins, 16 counters, the carried parts, which have saturated (R482–R486). -/
structure Mile where
  bins  : Store Nat := []
  cnts  : Store Nat := []
  carry : Store Nat := []
  satH  : Nat := 0
  satC  : Nat := 0
  deriving DecidableEq, Repr

/-- The pending Mileage snapshot: region and whether to clear (R484, R485). -/
structure MilSnap where
  region : Nat
  clear  : Bool
  /-- `Stn.elapsed` at the first write: the snapshot is made within 64 tk of it. -/
  asked  : Nat
  deriving DecidableEq, Repr

/-! ### Crossings (Junctions, Interchanges and Token Crossings) -/

/-- A region edge as a crossing sees it: its position in ph and its ideal time, the FW then in force, what counts the
frequency changes and gatings before it, and how many edges the two sides' regions had delivered (R202, R206, R211). -/
structure EdgePt where
  pos   : Nat := 0
  time  : TickTime := {}
  fw    : Nat := 49152
  woff  : Nat := 0
  gateW : Nat := 0
  gateR : Nat := 0
  wEdges : Nat := 0
  rEdges : Nat := 0
  deriving DecidableEq, Repr

/-- A flush in progress (R221–R225, R229, R603): its cause, what it has discarded, which sides' flush edges are to come,
the edges their regions had delivered when it started, whether its record is made; the flush acknowledgement on its way to
the side that starts the handshake, by that side's edges, and whether that side has seen it (R222). -/
structure Flush where
  cause  : Nat
  n      : Nat := 0
  wDue   : Bool
  rDue   : Bool
  wFrom  : Nat := 0
  rFrom  : Nat := 0
  recorded : Bool := false
  ackFrom  : Option Nat := none
  acked    : Bool := false
  deriving DecidableEq, Repr

/-- The handshake of R222 on the control channel: the side that starts it; the level changed last, 0 none yet, 1 request
risen, 2 acknowledge risen, 3 request fallen, 4 acknowledge fallen; the edges that the side which is to see it had
delivered then. -/
structure Hand where
  starter : Side
  step    : Nat := 0
  from_   : Nat := 0
  deriving DecidableEq, Repr

/-- The control channel of a crossing: its reset inputs, asserted; the flush and the handshake in progress. -/
structure Chan where
  wRst  : Bool := false
  rRst  : Bool := false
  flush : Option Flush := none
  hand  : Option Hand := none
  deriving DecidableEq, Repr

/-- A Junction or Interchange beside its registers; its STATE is in the register. -/
structure Xing where
  /-- Entries written and not read, oldest first, each with its writer edge. -/
  entries : List (Nat × EdgePt) := []
  /-- Reads that the writer does not see yet, oldest first; entries that the reader's flush edge discarded, which the
  writer counts until its own. -/
  reads   : List EdgePt := []
  gone    : Nat := 0
  /-- The halves that run: their ready outputs may rise from the next edge on (R205, R222). -/
  wRun    : Bool := false
  rRun    : Bool := false
  chan    : Chan := {}
  /-- The outputs at the latest edge of their side: the writer's ready, the reader's valid and data (R203, R205, R212). -/
  wReady  : Bool := false
  rValid  : Bool := false
  rData   : Nat := 0
  /-- The pointers: writes and reads since they restarted at 0. -/
  wPtr    : Nat := 0
  rPtr    : Nat := 0
  /-- A Junction's strobes to come, each the position and the pointer that it samples, and the pointers last sampled: the
  write pointer at the reader, the read pointer at the writer (R207). -/
  wStrobes : List (Nat × Nat) := []
  rStrobes : List (Nat × Nat) := []
  wSamp   : Nat := 0
  rSamp   : Nat := 0
  /-- The edge of each side's region, counted, at which this crossing last acted. -/
  wLast   : Option Nat := none
  rLast   : Option Nat := none
  /-- Strobe offsets in use, which move to JCT_CFG's (R208). -/
  liveWp  : Nat := 8
  liveRp  : Nat := 8
  /-- The phase record of the calibration store, the eye and the EYE state kept for the image (R275). -/
  storeWp : Nat := 8
  storeRp : Nat := 8
  storeEye : Nat := 0
  eyeState : Nat := 0
  /-- An EYE unit holds `jw_ready` low (R260). -/
  eyeUnit : Bool := false
  deriving DecidableEq, Repr

/-- An integrator Token crossing (R214–R218). -/
structure Tok where
  /-- The pending count P (R217). -/
  p      : Nat := 0
  /-- The source's outstanding transfer. -/
  out    : Option Nat := none
  /-- The transfer on its way to the destination or presented there, until it is delivered. -/
  arr    : Option Nat := none
  /-- The request and acknowledge levels, and the receiving region's edges when each last changed. -/
  req    : Bool := false
  ack    : Bool := false
  reqAt  : Nat := 0
  ackAt  : Nat := 0
  /-- The destination's edge, counted, at which it first saw the request of the present transfer (R225). -/
  seenAt : Option Nat := none
  /-- `td_count` or `td_data` of the last delivery, and the `td_valid` pin. -/
  last   : Nat := 0
  tdValid : Bool := false
  chan   : Chan := {}
  /-- The halves that run. -/
  sRun   : Bool := true
  dRun   : Bool := true
  deriving DecidableEq, Repr

/-! ### Calibration (Power-Up Calibration and Refinement) -/

/-- A refinement step or spot check under way: the stage (0 DESKEW, 1 TRIM, 2 EYE), whether it is a spot check,
whether a unit of it has started, the first voltage average it saw (R247). -/
structure CalStep where
  stage   : Nat
  spot    : Bool := false
  started : Bool := false
  volt    : Option Nat := none
  /-- Edges of the unit under way that are still to come, and the region's edge at which the latest unit ended. -/
  left    : Nat := 0
  unitEnd : Option Nat := none
  deriving DecidableEq, Repr

/-- Whose values a shadow bank holds: the safe set before release (R240), a step of Section initialisation (R242), a stage
of refinement, a FLAGGED stage's safe values (R246), a restored image (R282). -/
inductive BankSrc where
  | boot
  | init
  | stage (n : Nat)
  | safe (n : Nat)
  | image
  deriving DecidableEq, Repr

/-- The shadow bank of a region, with the phases of the Junctions it reads: what is filled commits together (R263). -/
structure Bank where
  taps    : Option (List Nat) := none
  trim    : Option Nat := none
  weights : Option (List Nat) := none
  /-- Junction, PHASE_WP, PHASE_RP, eye. -/
  phases  : List (Nat × Nat × Nat × Nat) := []
  src     : BankSrc := .boot
  /-- The tick at which it was complete; none while Junctions of an EYE stage are still to be measured. -/
  doneAt  : Option Nat := none
  deriving DecidableEq, Repr

/-- What the calibration sequencer holds for a region. -/
structure CalRgn where
  step    : Option CalStep := none
  /-- The stage that is being served (R251). -/
  cur     : Option Nat := none
  /-- The next item of the stage, the means of the items done, failures of the step and of the stage (R246). -/
  item    : Nat := 0
  means   : List Int := []
  tries   : Nat := 0
  stageTries : Nat := 0
  /-- The stage's values are committed and its verifying measurement is to come (R258, R259). -/
  verify  : Bool := false
  bank    : Option Bank := none
  /-- The stages that wait for a spot check, a bit each (R285). -/
  spots   : Nat := 0
  /-- Learning updates to come (R257). -/
  learn   : Nat := 0
  /-- The next step of Section initialisation (0 Entry to 3 EYE, 4 none) and its failed attempts (R242). -/
  init    : Nat := 0
  initTries : Nat := 0
  /-- The values of the initialisation step are committed and its verifying measurement is to come. -/
  initVerify : Bool := false
  /-- `Stn.elapsed` at the step's start or at the region's last edge in a gap since (R253). -/
  gapAt   : Nat := 0
  /-- The seed tile failed: uniform taps replace it (R274). -/
  uniform : Bool := false
  /-- The taps last committed or reloaded, none before the seed taps are loaded, and the trim record (R236, R272). -/
  storeTaps : List Nat := []
  storeTrim : Nat := 0
  /-- The median m of the trims being verified (R259). -/
  trimMid : Int := 0
  deriving DecidableEq, Repr

/-- A save or restore in progress (R276, R281): the image's address, GEN and start tick of a save, the transactions issued,
whether a save's header is issued, the tile position at which an error response came, the tick at which a restore's shadow
banks were complete and the GEN it restores. -/
structure ImgOp where
  addr   : Nat := 0
  gen    : Nat := 0
  tick   : Nat := 0
  pos    : Nat := 0
  hdr    : Bool := false
  err    : Option Nat := none
  loaded : Option Nat := none
  deriving DecidableEq, Repr

/-- The calibration sequencer. -/
structure Cal where
  /-- The Tap Table holds the seed tiles (R274). -/
  loaded  : Bool := false
  queue   : List Nat := []
  lanes   : List Nat := []
  /-- The save or the restore in progress (R276, R281). -/
  save    : Option ImgOp := none
  restore : Option ImgOp := none
  /-- The value that CAL_IMG_LEN took at the last save, a length that the register map gives no address (R277). -/
  imgLen  : Nat := 0
  /-- Operations held until they may start (R280). -/
  saveHeld : Bool := false
  restoreHeld : Bool := false
  /-- Time from `po_rst_n` to lock in µs, and `Stn.elapsed` when PHASE reached READY (CAL_TIME). -/
  lockUs  : Nat := 0
  readyAt : Nat := 0
  deriving DecidableEq, Repr

end Sys2Proof.Machine
end

