-- ==== Sys2Proof/Machine/Records2.lean ====
section
/-! DEFINITION. The records of the Dispatcher, the Governor, the PMBus host, the Meter, the AXI manager and test. -/

namespace Sys2Proof.Machine

/-! ### The host's ports (Host Interface and the First Second) -/

/-- The response of the APB target to the last access: `PRDATA` and `PSLVERR`. -/
structure Apb where
  rdata  : Word := 0
  slverr : Bool := false
  deriving DecidableEq, Repr

/-- A transaction as the AXI manager issues it (R527, R528). -/
structure AxiTxn where
  write : Bool
  id    : Nat
  addr  : Nat
  beats : Nat
  size  : Nat
  prot  : Nat
  qos   : Nat
  cache : Nat
  data  : List Nat := []
  /-- WSTRB of a write's beats. -/
  strb  : Nat := 0
  deriving DecidableEq, Repr

/-- The AXI manager: `ARESETn` is low, the last transaction on the read and on the write channels, the user whose read was
issued last (R529). -/
structure Axi where
  held : Bool := false
  rd   : Option AxiTxn := none
  wr   : Option AxiTxn := none
  turn : Nat := 4
  deriving DecidableEq, Repr

/-! ### The Dispatcher (Clopor Machine Model) -/

/-- What a Desk that is WAITING waits for (R294, R326, R329, R349, R369). -/
inductive Wait where
  | none
  | tick (w : Nat)
  | sem (s : Nat)
  | read (addr rd issue : Nat)
  | entry
  | whistle
  deriving DecidableEq, Repr

/-- What a Desk holds beside its registers. -/
structure Desk where
  wait     : Wait := .none
  /-- The PC of the latest instruction issued, which the PC takes again when its wait is abandoned (R387). -/
  pcWait   : Nat := 0
  /-- `Stn.elapsed` at the end of the latest issue cost (R292). -/
  readyAt  : Nat := 0
  /-- A STEP is under way, and its instruction has issued (R297). -/
  stepping : Bool := false
  stepDone : Bool := false
  /-- HALT has issued (R343). -/
  halting  : Bool := false
  /-- The page that a STALLED Desk awaits (R311). -/
  page     : Option Nat := Option.none
  deriving DecidableEq, Repr

/-- What a stamped action does at its edge. -/
inductive ActOp where
  /-- Write the bits of `mask`; `fields` when it writes only some fields, `new` as a MULTI entry shows it (R475). -/
  | write (val mask : Nat) (fields : Bool) (new : Nat)
  | woff
  | step (tokens : Nat)
  | phase (label : Nat)
  | envcap (v : Nat)
  | prio (sec v : Nat)
  /-- The Governor's step counts: raised or lowered in each Section with its reason (R411, R441). -/
  | drop (up : Bool) (secs : List (Nat × Nat))
  deriving DecidableEq, Repr

/-- An entry of the action table, or an immediate write to a Station register that waits for its edge (R322–R328). -/
structure Act where
  /-- 0–3 the Desk, 4 the Governor. -/
  desk  : Nat
  seq   : Nat
  /-- T, and the tick at which it applies. -/
  t     : Nat
  tick  : Nat
  late  : Bool := false
  /-- The launch slot; none for an immediate Station write, which takes no entry. -/
  slot  : Option Nat := none
  op    : ActOp
  scope : Nat := 0
  /-- The address of SCOPE 0, or the unit offset. -/
  addr  : Nat := 0
  /-- The Section of SCOPE 1, or the Sections of SCOPE 3, ascending. -/
  secs  : List Nat := []
  deriving DecidableEq, Repr

/-- A Desk write that a dark or reloading unit holds (R66, R501): the unit as R508 numbers it. -/
structure HeldAct where
  unit : Nat
  addr : Nat
  val  : Nat
  mask : Nat
  /-- The action's MULTI entry covers the write (R475). -/
  covered : Bool := false
  desk : Nat
  t    : Nat
  deriving DecidableEq, Repr

/-- A page fill in progress (R311, R313). -/
structure Fill where
  frame : Nat
  page  : Nat
  again : Bool := false
  /-- Bursts issued, of 16 (R527). -/
  sent  : Nat := 0
  deriving DecidableEq, Repr

/-- A write to DSP_IMG that waits (R394). -/
structure ImgWrite where
  src  : Nat
  addr : Nat
  val  : Nat
  mask : Nat
  deriving DecidableEq, Repr

/-- The Dispatcher. -/
structure Dsp where
  desks  : Store Desk := []
  /-- `Stn.elapsed` at the latest cycle that served a Desk (R291). -/
  cycle  : Option Nat := none
  /-- Actions issued so far. -/
  seq    : Nat := 0
  acts   : List Act := []
  held   : List HeldAct := []
  /-- `Stn.elapsed` from which SAFE is set in every Section (R332). -/
  safeAt : List Nat := []
  /-- Semaphores released with a Desk waiting, and `Stn.elapsed` then (R319). -/
  passes : List (Nat × Nat) := []
  fills  : List Fill := []
  /-- Frames in the order of their latest fetch, latest first (R312). -/
  recent : List Nat := []
  /-- The tile that the scrub takes next (R308). -/
  scrub  : Nat := 0
  /-- Writes to DSP_IMG that wait (R394). -/
  imgs   : List ImgWrite := []
  /-- The resident load in progress: the image's address taken at its start, bursts issued, of 128 (R527), and the tiles
  of which a burst was lost to `ARESETn` (R309, R533). -/
  loadBase : Nat := 0
  loadSent : Nat := 0
  loadErr  : List Nat := []
  deriving DecidableEq, Repr

/-! ### The Governor -/

/-- A pending long Whistle (R367). -/
structure Whistle where
  rail  : Nat
  delta : Int
  t     : Nat
  deriving DecidableEq, Repr

/-- The load-hint port of one rail (R431): the pins, `Stn.elapsed` at the latest rise and fall, the codes that wait with
the earliest tick of their rise. -/
structure LhRail where
  code  : Nat := 0
  stb   : Bool := false
  rose  : Nat := 0
  fell  : Option Nat := none
  queue : List (Nat × Nat) := []
  deriving DecidableEq, Repr

/-- The Governor's voltage control of one rail (R418–R420); ticks are `Stn.elapsed`. -/
structure GovRail where
  /-- Rail targets seen at control ticks, with their tick, newest first. -/
  seen    : List (Nat × Nat) := []
  /-- A raise step is decided, and the step sent and not confirmed. -/
  decided : Option Nat := none
  raising : Option Nat := none
  /-- The READ_VOUT since the step was sent, in mV. -/
  reading : Option Nat := none
  /-- No raise before this tick. -/
  retryAt : Nat := 0
  deriving DecidableEq, Repr

/-- The Governor beside its registers. -/
structure Gov where
  whistles : List Whistle := []
  lh       : Store LhRail := []
  /-- The last sample of `env_budget`, if `env_valid` was high (R400), and the last value accepted. -/
  sample   : Option Nat := none
  port     : Option Nat := none
  /-- The present run of equal samples has been accepted. -/
  portRun  : Bool := false
  /-- The cap of ENVCAP (R378). -/
  cap      : Option Nat := none
  /-- `Stn.elapsed` when GOV_ENV.BUDGET was last written (R399). -/
  budgetAt : Option Nat := none
  /-- Estimated changes decided at the latest control ticks, newest first, in mW (R402). -/
  decided  : List Frac := []
  rails    : Store GovRail := []
  /-- The datapaths disagreed at the latest control tick: this control period sends and changes nothing (R499). -/
  hush     : Bool := false
  deriving DecidableEq, Repr

/-! ### The PMBus host -/

/-- A transaction of the PMBus host (R424–R430). -/
inductive PTxn where
  | mode (rail : Nat)
  | startVout (rail : Nat)
  | alert
  | status (rail : Nat)
  | clear (rail : Nat)
  | command (rail mv : Nat)
  | confirm (rail : Nat)
  | host (type rail cmd data : Nat)
  | iout (rail : Nat)
  | vout (rail : Nat)
  | retry (rail : Nat)
  deriving DecidableEq, Repr

/-- The PMBus host of one rail: VOUT_MODE's exponent, the voltage that the start read, consecutive failed telemetry
reads, the tick of the next try. -/
structure PmbRail where
  expo    : Int := 0
  startMv : Option Nat := none
  fails   : Nat := 0
  retryAt : Nat := 0
  deriving DecidableEq, Repr

/-- The glitch filter of a PMBus input (R560): the level taken, the samples in a row that differ from it, `Stn.elapsed` when
the level was taken. -/
structure PinFilter where
  level : Bool := true
  run   : Nat := 0
  since : Nat := 0
  deriving DecidableEq, Repr

/-- The PMBus host. -/
structure Pmb where
  /-- The start of R424 has begun, and has completed. -/
  begun   : Bool := false
  started : Bool := false
  /-- What the start has still to send. -/
  start   : List PTxn := []
  cur     : Option PTxn := none
  /-- The write of PAGE that comes before the present transaction is under way (R442). -/
  paging  : Bool := false
  /-- Failures of the present transaction, or of its write of PAGE (R428). -/
  fails   : Nat := 0
  /-- VOUT_COMMANDs that wait, the rail with the voltage. -/
  vouts   : List (Nat × Nat) := []
  /-- The host's requests that wait, one for each write of GO: type, rail, command, data (R430). -/
  reqs    : List (Nat × Nat × Nat × Nat) := []
  /-- The reads left of the telemetry round, and a round that waits for the end of the present one (R427). -/
  round   : List PTxn := []
  roundDue : Bool := false
  /-- Reads of rails without telemetry that are due (R428). -/
  retries : List Nat := []
  /-- What an alert service has still to do, the last address returned, how often in a row, NACKed reads (R429). -/
  service : List PTxn := []
  lastAddr : Option Nat := none
  sameAddr : Nat := 0
  nacks   : Nat := 0
  /-- `SMBCLK_in`, `SMBDAT_in` and ALERT# as the host takes them (R560). -/
  clkPin  : PinFilter := {}
  datPin  : PinFilter := {}
  alertPin : PinFilter := {}
  rails   : Store PmbRail := []
  deriving DecidableEq, Repr

/-! ### The Meter -/

/-- The Meter's data of a region: estimates with the tick at which their window ended, newest first, of the open
interval, of the closed one, of the last control period; the weighted sum of voltages; energy of the step so far. -/
structure MtrRgn where
  cur    : List (Nat × Nat) := []
  shut   : List (Nat × Nat) := []
  recent : List (Nat × Nat) := []
  volts  : Nat := 0
  step   : Nat := 0
  deriving DecidableEq, Repr

/-- The Meter's data of a rail: telemetry samples of the open interval (tick, READ_IOUT, mV);
for a rail with no Section its energy of the closed interval and its last fresh energy (R604). -/
structure MtrRail where
  samples : List (Nat × Nat × Nat) := []
  energy  : Nat := 0
  fresh   : Nat := 0
  /-- K as the closed interval gives it (R433, R434). -/
  k       : Nat := 65536
  deriving DecidableEq, Repr

/-- A mark in an interval: a STEP with its tokens or a PHASE with its label (R374, R375). -/
inductive Mark where
  | step (tokens : Nat)
  | phase (label : Nat)
  deriving DecidableEq, Repr

/-- The Meter; ticks are `Stn.elapsed`. -/
structure Mtr where
  rgns   : Store MtrRgn := []
  rails  : Store MtrRail := []
  /-- Marks of the open and of the closed interval, oldest first, with their tick. -/
  marks  : List (Nat × Mark) := []
  shut   : List (Nat × Mark) := []
  /-- When the open interval began; the closed interval that awaits its results: its ends and UNRECON. -/
  start  : Nat := 0
  due    : Option (Nat × Nat × Nat) := none
  /-- When the step in progress began, its label, its energy so far, and the energy under each label. -/
  stepAt : Nat := 0
  label  : Nat := 0
  energy : Nat := 0
  phases : Store Nat := []
  deriving DecidableEq, Repr

/-- The test logic: `scan_mode`, the wrapper or self-test instruction selected, its data register (R594, R595), and
whether it has been used since power-on reset (R575). -/
structure Test where
  scan  : Bool := false
  instr : Nat := 0
  data  : Nat := 0
  used  : Bool := false
  deriving DecidableEq, Repr

end Sys2Proof.Machine
end

