-- ==== Sys2Proof/Machine/Regs.lean ====
section
/-!
DEFINITION. The register map (R543, R552 and the field tables of the chapters): every register with its place in the
address space, its reset word and the bits of each access type, and every field as a bit range of its register.
-/

namespace Sys2Proof.Machine

/-- The address groups of R543. -/
inductive RegClass where
  /-- Absolute address, `stride` apart for numbered registers. -/
  | abs
  /-- Section Root register: offset from 0x0_2000 + 0x80 × Section. -/
  | sec
  /-- Signal Box register: offset from 0x4_0000 + 0x100 × region. -/
  | sb
  /-- Junction register: offset from 0xC_0000 + 0x8 × Junction. -/
  | jct
  /-- Interchange register: offset from 0xC_3000 + 0x10 × Interchange. -/
  | ich
  /-- Desk control register: offset from 0x0_4100 + 0x40 × Desk. -/
  | desk
  /-- Desk state window register: offset from 0x0_6000 + 0x400 × Desk, `stride` apart. -/
  | win
  /-- Rail register: offset from 0x0_1100 + 0x40 × rail. -/
  | rail
  deriving DecidableEq, Repr

/-- What the register map says of one register: where it lies, how often it repeats, its reset word (bits that the
build fixes at 0 here) and the bits of access type RW, W1C, W1S and WO; every other bit ignores writes. -/
structure RegInfo where
  cls    : RegClass
  base   : Nat
  stride : Nat
  count  : Nat
  reset  : Word
  rw     : Word
  w1c    : Word
  w1s    : Word
  wo     : Word
  deriving DecidableEq, Repr

/-- The registers of R552, under the manual's names. -/
inductive Reg where
  | STN_ID
  | STN_CLK_CFG
  | STN_CLK_STATUS
  | STN_LOCK_TIME
  | STN_HOLD_OFFSET
  | STN_HOLD_TIME
  | STN_TICK_LO
  | STN_TICK_HI
  | STN_TCAP_CTRL
  | STN_TCAP_SEQ
  | STN_TCAP_LO
  | STN_TCAP_HI
  | STN_TMR_STATUS
  | STN_SPINE_CTRL
  | STN_SPINE_STATUS
  | STN_SYNC_CTRL
  | STN_SYNC_DLY
  | STN_SYNC_STATUS
  | STN_SYNC_ERR
  | STN_SYNC_RSEQ
  | STN_SYNC_RTT
  | SB_SPINE
  | SB_SPINE_OVR
  | SEC_CFG
  | SEC_FW
  | SEC_FW_STATUS
  | SEC_CTRL
  | SEC_STATUS
  | SEC_PLL
  | SB_ID
  | SB_CLK_STATUS
  | SB_ROT
  | SB_GATE
  | SB_GATE_CNT
  | SB_TAP_CTRL
  | SB_VSENSE
  | SB_TEMP
  | SB_SENSE_CTRL
  | SB_ACT_SEQ
  | SB_EDGES_LO
  | SB_EDGES_HI
  | SB_ACT_LO
  | SB_ACT_HI
  | SB_GATED_TK
  | SEC_HEADWAY
  | SB_TC_THR
  | SB_STRETCH
  | SB_TC_READ_A
  | SB_TC_READ_B
  | SB_TC_MIN
  | SB_TC_STATUS
  | SB_TC_CTRL
  | SB_TC_TRIM
  | SB_TC_ALARMS
  | SB_WHISTLE
  | SB_PROFILE_CFG
  | SB_PROFILE0
  | SB_PROFILE1
  | SB_PROFILE2
  | SB_PROFILE3
  | SB_PROFILE_SEQ
  | SEC_SYM_CFG
  | SEC_SYM_STATUS
  | SEC_SYM_CNT
  | SEC_SYM_TK
  | SEC_WOFF_CNT
  | SB_SLIP
  | SB_SLIP_CFG
  | SB_SLIP_MAX
  | SB_SLIP_STR
  | SB_SLIP_SYM
  | SB_SLIP_CU
  | SB_SLIP_WOFF
  | SB_SLIP_SNAP
  | JCT_CFG
  | JCT_STAT
  | ICH_CFG
  | ICH_STAT
  | ICH_HELD
  | ICH_STARVE
  | JCT_INFO
  | JCT_SUMMARY
  | JCT_TOK_CNT
  | CAL_CTRL
  | CAL_STATUS
  | CAL_CFG
  | CAL_LEARN
  | CAL_TIME
  | CAL_IMG_ADDR_LO
  | CAL_IMG_ADDR_HI
  | CAL_IMG_GEN_LO
  | CAL_IMG_GEN_HI
  | CAL_IMG_MIN_LO
  | CAL_IMG_MIN_HI
  | CAL_IMG_CTRL
  | CAL_IMG_SEQ
  | CAL_IMG_RESULT
  | CAL_IMG_DONE_LO
  | CAL_IMG_DONE_HI
  | CAL_BUILD_SIG
  | SB_CAL_CTRL
  | SB_CAL_STAT
  | SB_CAL_QUAL
  | SB_CAL_CNT
  | SB_CAL_FW
  | DSP_CTRL
  | DSP_STATUS
  | DSP_IMG_LO
  | DSP_IMG_HI
  | DSP_IMG_SIZE
  | DSP_TILE_OK
  | DSP_FRAME
  | DSP_PAGE_CNT
  | DSP_SEM_HELD
  | DSP_SEM_OWNER
  | DSP_DMEM_ADDR
  | DSP_DMEM_DATA
  | DSP_DESK_CTRL
  | DSP_DESK_STATUS
  | DSP_DESK_PC
  | DSP_DESK_ISSUED
  | DSP_DESK_STALL
  | DSP_DESK_LATECNT
  | DSP_G
  | DSP_T_LO
  | DSP_T_HI
  | DSP_STACK
  | SEC_SLOT
  | SEC_SLOT_LEFT
  | DSP_DESK_WHISTLE
  | GOV_CTRL
  | GOV_ENV
  | GOV_ENV_STATUS
  | GOV_CFG
  | GOV_LIMITS
  | GOV_MARGIN
  | GOV_STATUS
  | GOV_POWER
  | GOV_VF
  | GOV_LH_CFG
  | GOV_PMB_REQ
  | GOV_PMB_RES
  | GOV_PRIO
  | GOV_RAIL_CFG
  | GOV_RAIL_V
  | GOV_RAIL_STAT
  | GOV_RAIL_TEL
  | GOV_RAIL_SW
  | GOV_SEC_STAT
  | MTR_CTRL
  | MTR_STATUS
  | MTR_STEP_SEQ
  | MTR_STEP_E_LO
  | MTR_STEP_E_HI
  | MTR_STEP_TOK
  | MTR_STEP_TK_LO
  | MTR_STEP_TK_HI
  | MTR_JPT
  | MTR_RAIL_K
  | MTR_PHASE_LO
  | MTR_PHASE_HI
  | MTR_SEQ
  | MTR_E_LO
  | MTR_E_HI
  | MTR_STEP_LO
  | MTR_STEP_HI
  | EVT_CTRL
  | EVT_STATUS
  | EVT_WIDX
  | EVT_RIDX
  | EVT_PEND
  | EVT_LOST
  | EVT_SRC_LOST
  | EVT_SPILL_CFG
  | EVT_RING_BASE_LO
  | EVT_RING_BASE_HI
  | EVT_RING_CON_LO
  | EVT_RING_CON_HI
  | EVT_RING_PTR_LO
  | EVT_RING_PTR_HI
  | EVT_RING_WR
  | EVT_RING_CONV
  | EVT_CLASS_CNT
  | JNL_WIDX
  | JNL_RIDX
  | JNL_STATUS
  | MIL_CTRL
  | MIL_SEQ
  | MIL_SNAP_INFO
  | MIL_SNAP_TICK_LO
  | MIL_SNAP_TICK_HI
  | MIL_SAT
  | MIL_HIST
  | MIL_CNT_LO
  | MIL_CNT_HI
  | STN_DEP_STATUS
  | STN_DEP_CNT
  | HIF_BOOT
  | HIF_IRQ_SRC
  | HIF_IRQ_ROUTE
  | HIF_IRQ_EVT_ROUTE
  | HIF_IRQ_EN
  | HIF_IRQ_THR
  | HIF_APB_ERR
  | HIF_AXI_CFG
  | HIF_AXI_STATUS
  | STN_BUILD0
  | STN_BUILD1
  | STN_SUMMARY
  | STN_GCTRL
  | STN_SEC_FAULT_LO
  | STN_SEC_FAULT_HI
  | STN_SEC_SAFE_LO
  | STN_SEC_SAFE_HI
  | STN_SCRATCH
  | STN_RFAULT
  | SB_EVT_STAT
  deriving DecidableEq, Repr, Inhabited

/-- The register map's row of each register (R552). -/
def Reg.info : Reg → RegInfo
  | .STN_ID => ⟨.abs, 0x0, 0, 1, 0x20100, 0x0, 0x0, 0x0, 0x0⟩
  | .STN_CLK_CFG => ⟨.abs, 0x100, 0, 1, 0x0, 0x7, 0x0, 0x0, 0x0⟩
  | .STN_CLK_STATUS => ⟨.abs, 0x104, 0, 1, 0x0, 0x0, 0x80, 0x0, 0x0⟩
  | .STN_LOCK_TIME => ⟨.abs, 0x108, 0, 1, 0x0, 0x0, 0x0, 0x0, 0x0⟩
  | .STN_HOLD_OFFSET => ⟨.abs, 0x10C, 0, 1, 0x0, 0x0, 0x0, 0x0, 0x0⟩
  | .STN_HOLD_TIME => ⟨.abs, 0x110, 0, 1, 0x0, 0x0, 0x0, 0x0, 0x0⟩
  | .STN_TICK_LO => ⟨.abs, 0x120, 0, 1, 0x0, 0x0, 0x0, 0x0, 0x0⟩
  | .STN_TICK_HI => ⟨.abs, 0x124, 0, 1, 0x0, 0x0, 0x0, 0x0, 0x0⟩
  | .STN_TCAP_CTRL => ⟨.abs, 0x128, 0, 1, 0x0, 0x0, 0x0, 0x0, 0x1⟩
  | .STN_TCAP_SEQ => ⟨.abs, 0x12C, 0, 1, 0x0, 0x0, 0x0, 0x0, 0x0⟩
  | .STN_TCAP_LO => ⟨.abs, 0x130, 0, 1, 0x0, 0x0, 0x0, 0x0, 0x0⟩
  | .STN_TCAP_HI => ⟨.abs, 0x134, 0, 1, 0x0, 0x0, 0x0, 0x0, 0x0⟩
  | .STN_TMR_STATUS => ⟨.abs, 0x140, 0, 1, 0x0, 0x0, 0x80000000, 0x0, 0x0⟩
  | .STN_SPINE_CTRL => ⟨.abs, 0x150, 0, 1, 0x2, 0x2, 0x0, 0x1, 0x0⟩
  | .STN_SPINE_STATUS => ⟨.abs, 0x154, 0, 1, 0x0, 0x0, 0x20000000, 0x0, 0x0⟩
  | .STN_SYNC_CTRL => ⟨.abs, 0x180, 0, 1, 0x8, 0xB, 0x0, 0x4, 0x0⟩
  | .STN_SYNC_DLY => ⟨.abs, 0x184, 0, 1, 0x0, 0xFFF, 0x0, 0x0, 0x0⟩
  | .STN_SYNC_STATUS => ⟨.abs, 0x188, 0, 1, 0x0, 0x0, 0x4, 0x0, 0x0⟩
  | .STN_SYNC_ERR => ⟨.abs, 0x18C, 0, 1, 0x0, 0x0, 0x0, 0x0, 0x0⟩
  | .STN_SYNC_RSEQ => ⟨.abs, 0x190, 0, 1, 0x0, 0x0, 0x0, 0x0, 0x0⟩
  | .STN_SYNC_RTT => ⟨.abs, 0x194, 0, 1, 0x0, 0x0, 0x0, 0x0, 0x0⟩
  | .SB_SPINE => ⟨.sb, 0xE0, 0, 1, 0x0, 0x0, 0x0, 0x0, 0x0⟩
  | .SB_SPINE_OVR => ⟨.sb, 0xE4, 0, 1, 0x0, 0x800001FF, 0x0, 0x0, 0x0⟩
  | .SEC_CFG => ⟨.sec, 0x0, 0, 1, 0x0, 0x0, 0x0, 0x0, 0x0⟩
  | .SEC_FW => ⟨.sec, 0x4, 0, 1, 0xC000, 0x3FFFF, 0x0, 0x0, 0x0⟩
  | .SEC_FW_STATUS => ⟨.sec, 0x8, 0, 1, 0xC000, 0x0, 0x80000000, 0x0, 0x0⟩
  | .SEC_CTRL => ⟨.sec, 0xC, 0, 1, 0x0, 0x6, 0x0, 0x8, 0x0⟩
  | .SEC_STATUS => ⟨.sec, 0x10, 0, 1, 0x0, 0x0, 0x80000000, 0x0, 0x0⟩
  | .SEC_PLL => ⟨.sec, 0x14, 0, 1, 0x0, 0x0, 0x0, 0x0, 0x0⟩
  | .SB_ID => ⟨.sb, 0x0, 0, 1, 0x0, 0x0, 0x0, 0x0, 0x0⟩
  | .SB_CLK_STATUS => ⟨.sb, 0x4, 0, 1, 0x0, 0x0, 0x0, 0x0, 0x0⟩
  | .SB_ROT => ⟨.sb, 0x8, 0, 1, 0x0, 0x0, 0x0, 0x0, 0x0⟩
  | .SB_GATE => ⟨.sb, 0xC, 0, 1, 0x0, 0x2000000, 0x80000000, 0x0, 0x1000000⟩
  | .SB_GATE_CNT => ⟨.sb, 0x10, 0, 1, 0x0, 0x0, 0x0, 0x0, 0x0⟩
  | .SB_TAP_CTRL => ⟨.sb, 0x14, 0, 1, 0x0, 0x0, 0x80000000, 0x1, 0x0⟩
  | .SB_VSENSE => ⟨.sb, 0x18, 0, 1, 0x3FF0000, 0x0, 0x0, 0x0, 0x0⟩
  | .SB_TEMP => ⟨.sb, 0x1C, 0, 1, 0x80000000, 0x0, 0x0, 0x0, 0x0⟩
  | .SB_SENSE_CTRL => ⟨.sb, 0x20, 0, 1, 0x6E0, 0xFFC, 0x80000000, 0x0, 0x3⟩
  | .SB_ACT_SEQ => ⟨.sb, 0x24, 0, 1, 0x0, 0x0, 0x0, 0x0, 0x0⟩
  | .SB_EDGES_LO => ⟨.sb, 0x28, 0, 1, 0x0, 0x0, 0x0, 0x0, 0x0⟩
  | .SB_EDGES_HI => ⟨.sb, 0x2C, 0, 1, 0x0, 0x0, 0x0, 0x0, 0x0⟩
  | .SB_ACT_LO => ⟨.sb, 0x30, 0, 1, 0x0, 0x0, 0x0, 0x0, 0x0⟩
  | .SB_ACT_HI => ⟨.sb, 0x34, 0, 1, 0x0, 0x0, 0x0, 0x0, 0x0⟩
  | .SB_GATED_TK => ⟨.sb, 0x38, 0, 1, 0x0, 0x0, 0x0, 0x0, 0x0⟩
  | .SEC_HEADWAY => ⟨.sec, 0x20, 0, 1, 0xC000, 0x3FFFF, 0x0, 0x0, 0x0⟩
  | .SB_TC_THR => ⟨.sb, 0x40, 0, 1, 0x81008, 0xF1F1F, 0x0, 0x0, 0x0⟩
  | .SB_STRETCH => ⟨.sb, 0x44, 0, 1, 0xE210, 0xE71F, 0x0, 0x0, 0x0⟩
  | .SB_TC_READ_A => ⟨.sb, 0x48, 0, 1, 0x0, 0x0, 0x0, 0x0, 0x0⟩
  | .SB_TC_READ_B => ⟨.sb, 0x4C, 0, 1, 0x0, 0x0, 0x0, 0x0, 0x0⟩
  | .SB_TC_MIN => ⟨.sb, 0x50, 0, 1, 0x1F0000, 0x0, 0x0, 0x0, 0x0⟩
  | .SB_TC_STATUS => ⟨.sb, 0x54, 0, 1, 0x0, 0x0, 0x40FFFF00, 0x0, 0x0⟩
  | .SB_TC_CTRL => ⟨.sb, 0x58, 0, 1, 0x10000, 0x10000, 0x0, 0xFF, 0x100⟩
  | .SB_TC_TRIM => ⟨.sb, 0x5C, 0, 1, 0x0, 0xFFFFFFFF, 0x0, 0x0, 0x0⟩
  | .SB_TC_ALARMS => ⟨.sb, 0x60, 0, 1, 0x0, 0x0, 0x0, 0x0, 0x0⟩
  | .SB_WHISTLE => ⟨.sb, 0x64, 0, 1, 0x0, 0x0, 0x80000000, 0x0, 0x0⟩
  | .SB_PROFILE_CFG => ⟨.sb, 0x68, 0, 1, 0x4404, 0xFF0F, 0x0, 0x0, 0x0⟩
  | .SB_PROFILE0 => ⟨.sb, 0x6C, 0, 1, 0x0, 0xFFFFFFFF, 0x0, 0x0, 0x0⟩
  | .SB_PROFILE1 => ⟨.sb, 0x70, 0, 1, 0x0, 0xFFFFFFFF, 0x0, 0x0, 0x0⟩
  | .SB_PROFILE2 => ⟨.sb, 0x74, 0, 1, 0x0, 0xFFFFFFFF, 0x0, 0x0, 0x0⟩
  | .SB_PROFILE3 => ⟨.sb, 0x78, 0, 1, 0x0, 0xFFFFFFFF, 0x0, 0x0, 0x0⟩
  | .SB_PROFILE_SEQ => ⟨.sb, 0x7C, 0, 1, 0x0, 0x0, 0x0, 0x0, 0x0⟩
  | .SEC_SYM_CFG => ⟨.sec, 0x24, 0, 1, 0x80004050, 0x80007F7F, 0x0, 0x0, 0x0⟩
  | .SEC_SYM_STATUS => ⟨.sec, 0x28, 0, 1, 0x0, 0x0, 0x40000000, 0x0, 0x0⟩
  | .SEC_SYM_CNT => ⟨.sec, 0x2C, 0, 1, 0x0, 0x0, 0x0, 0x0, 0x0⟩
  | .SEC_SYM_TK => ⟨.sec, 0x30, 0, 1, 0x0, 0x0, 0x0, 0x0, 0x0⟩
  | .SEC_WOFF_CNT => ⟨.sec, 0x34, 0, 1, 0x0, 0x0, 0x0, 0x0, 0x0⟩
  | .SB_SLIP => ⟨.sb, 0x80, 0, 1, 0x0, 0x0, 0x80000000, 0x0, 0x0⟩
  | .SB_SLIP_CFG => ⟨.sb, 0x84, 0, 1, 0x2, 0x1F, 0x0, 0x0, 0x80000000⟩
  | .SB_SLIP_MAX => ⟨.sb, 0x88, 0, 1, 0x0, 0x0, 0x0, 0x0, 0x0⟩
  | .SB_SLIP_STR => ⟨.sb, 0x8C, 0, 1, 0x0, 0x0, 0x0, 0x0, 0x0⟩
  | .SB_SLIP_SYM => ⟨.sb, 0x90, 0, 1, 0x0, 0x0, 0x0, 0x0, 0x0⟩
  | .SB_SLIP_CU => ⟨.sb, 0x94, 0, 1, 0x0, 0x0, 0x0, 0x0, 0x0⟩
  | .SB_SLIP_WOFF => ⟨.sb, 0x98, 0, 1, 0x0, 0x0, 0x0, 0x0, 0x0⟩
  | .SB_SLIP_SNAP => ⟨.sb, 0x9C, 0, 1, 0x0, 0x0, 0x0, 0x0, 0x0⟩
  | .JCT_CFG => ⟨.jct, 0x0, 0, 1, 0x880, 0xFF0, 0x0, 0x2, 0x4⟩
  | .JCT_STAT => ⟨.jct, 0x4, 0, 1, 0x0, 0x0, 0xE0000000, 0x0, 0x0⟩
  | .ICH_CFG => ⟨.ich, 0x0, 0, 1, 0x0, 0x0, 0x0, 0x2, 0x4⟩
  | .ICH_STAT => ⟨.ich, 0x4, 0, 1, 0x0, 0x0, 0xE0000000, 0x0, 0x0⟩
  | .ICH_HELD => ⟨.ich, 0x8, 0, 1, 0x0, 0x0, 0x0, 0x0, 0x0⟩
  | .ICH_STARVE => ⟨.ich, 0xC, 0, 1, 0x0, 0x0, 0x0, 0x0, 0x0⟩
  | .JCT_INFO => ⟨.abs, 0xC3F00, 0, 1, 0x0, 0x0, 0x0, 0x0, 0x0⟩
  | .JCT_SUMMARY => ⟨.abs, 0xC3F04, 0, 1, 0x0, 0x0, 0x0, 0x0, 0x0⟩
  | .JCT_TOK_CNT => ⟨.abs, 0xC3F08, 0, 1, 0x0, 0x0, 0x0, 0x0, 0x0⟩
  | .CAL_CTRL => ⟨.abs, 0x400, 0, 1, 0x1, 0xE1, 0x0, 0xC, 0x0⟩
  | .CAL_STATUS => ⟨.abs, 0x404, 0, 1, 0x0, 0x0, 0x8000000, 0x0, 0x0⟩
  | .CAL_CFG => ⟨.abs, 0x408, 0, 1, 0xAA23C20, 0xFFFFCFF, 0x0, 0x0, 0x0⟩
  | .CAL_LEARN => ⟨.abs, 0x40C, 0, 1, 0xF40, 0xFFF, 0x0, 0x0, 0x0⟩
  | .CAL_TIME => ⟨.abs, 0x410, 0, 1, 0x0, 0x0, 0x0, 0x0, 0x0⟩
  | .CAL_IMG_ADDR_LO => ⟨.abs, 0x420, 0, 1, 0x0, 0xFFFFFF00, 0x0, 0x0, 0x0⟩
  | .CAL_IMG_ADDR_HI => ⟨.abs, 0x424, 0, 1, 0x0, 0xFF, 0x0, 0x0, 0x0⟩
  | .CAL_IMG_GEN_LO => ⟨.abs, 0x428, 0, 1, 0x0, 0xFFFFFFFF, 0x0, 0x0, 0x0⟩
  | .CAL_IMG_GEN_HI => ⟨.abs, 0x42C, 0, 1, 0x0, 0xFFFFFFFF, 0x0, 0x0, 0x0⟩
  | .CAL_IMG_MIN_LO => ⟨.abs, 0x430, 0, 1, 0x0, 0xFFFFFFFF, 0x0, 0x0, 0x0⟩
  | .CAL_IMG_MIN_HI => ⟨.abs, 0x434, 0, 1, 0x0, 0xFFFFFFFF, 0x0, 0x0, 0x0⟩
  | .CAL_IMG_CTRL => ⟨.abs, 0x438, 0, 1, 0x0, 0x0, 0x0, 0x3, 0x0⟩
  | .CAL_IMG_SEQ => ⟨.abs, 0x440, 0, 1, 0x0, 0x0, 0x0, 0x0, 0x0⟩
  | .CAL_IMG_RESULT => ⟨.abs, 0x444, 0, 1, 0x0, 0x0, 0x0, 0x0, 0x0⟩
  | .CAL_IMG_DONE_LO => ⟨.abs, 0x448, 0, 1, 0x0, 0x0, 0x0, 0x0, 0x0⟩
  | .CAL_IMG_DONE_HI => ⟨.abs, 0x44C, 0, 1, 0x0, 0x0, 0x0, 0x0, 0x0⟩
  | .CAL_BUILD_SIG => ⟨.abs, 0x450, 0, 1, 0x0, 0x0, 0x0, 0x0, 0x0⟩
  | .SB_CAL_CTRL => ⟨.sb, 0xA0, 0, 1, 0x0, 0x1, 0x0, 0xE, 0x0⟩
  | .SB_CAL_STAT => ⟨.sb, 0xA4, 0, 1, 0x0, 0x0, 0x80000000, 0x0, 0x0⟩
  | .SB_CAL_QUAL => ⟨.sb, 0xA8, 0, 1, 0x7FF, 0x0, 0x0, 0x0, 0x0⟩
  | .SB_CAL_CNT => ⟨.sb, 0xAC, 0, 1, 0x0, 0x0, 0x0, 0x0, 0x0⟩
  | .SB_CAL_FW => ⟨.sb, 0xB0, 0, 1, 0x0, 0x0, 0x0, 0x0, 0x0⟩
  | .DSP_CTRL => ⟨.abs, 0x4000, 0, 1, 0x5, 0x5, 0x0, 0x2, 0x0⟩
  | .DSP_STATUS => ⟨.abs, 0x4004, 0, 1, 0x0, 0x0, 0x38000000, 0x0, 0x0⟩
  | .DSP_IMG_LO => ⟨.abs, 0x4008, 0, 1, 0x0, 0xFFFFF000, 0x0, 0x0, 0x0⟩
  | .DSP_IMG_HI => ⟨.abs, 0x400C, 0, 1, 0x0, 0xFF, 0x0, 0x0, 0x0⟩
  | .DSP_IMG_SIZE => ⟨.abs, 0x4010, 0, 1, 0x8, 0x1FFF, 0x0, 0x0, 0x0⟩
  | .DSP_TILE_OK => ⟨.abs, 0x4014, 0, 1, 0x0, 0x0, 0x0, 0x0, 0x0⟩
  | .DSP_FRAME => ⟨.abs, 0x4020, 4, 8, 0x0, 0x40000000, 0x0, 0x0, 0x0⟩
  | .DSP_PAGE_CNT => ⟨.abs, 0x4040, 0, 1, 0x0, 0x0, 0x0, 0x0, 0x0⟩
  | .DSP_SEM_HELD => ⟨.abs, 0x4050, 0, 1, 0x0, 0x0, 0xFFFF, 0x0, 0x0⟩
  | .DSP_SEM_OWNER => ⟨.abs, 0x4054, 0, 1, 0x0, 0x0, 0x0, 0x0, 0x0⟩
  | .DSP_DMEM_ADDR => ⟨.abs, 0x4070, 0, 1, 0x0, 0x3FFC, 0x0, 0x0, 0x0⟩
  | .DSP_DMEM_DATA => ⟨.abs, 0x4074, 0, 1, 0x0, 0xFFFFFFFF, 0x0, 0x0, 0x0⟩
  | .DSP_DESK_CTRL => ⟨.desk, 0x0, 0, 1, 0x0, 0x0, 0x0, 0x7, 0x0⟩
  | .DSP_DESK_STATUS => ⟨.desk, 0x4, 0, 1, 0x0, 0x0, 0x10000000, 0x0, 0x0⟩
  | .DSP_DESK_PC => ⟨.desk, 0x8, 0, 1, 0x0, 0x1FFFFF, 0x0, 0x0, 0x0⟩
  | .DSP_DESK_ISSUED => ⟨.desk, 0xC, 0, 1, 0x0, 0x0, 0x0, 0x0, 0x0⟩
  | .DSP_DESK_STALL => ⟨.desk, 0x10, 0, 1, 0x0, 0x0, 0x0, 0x0, 0x0⟩
  | .DSP_DESK_LATECNT => ⟨.desk, 0x14, 0, 1, 0x0, 0x0, 0x0, 0x0, 0x0⟩
  | .DSP_G => ⟨.win, 0x0, 4, 32, 0x0, 0xFFFFFFFF, 0x0, 0x0, 0x0⟩
  | .DSP_T_LO => ⟨.win, 0x80, 8, 4, 0x0, 0xFFFFFFFF, 0x0, 0x0, 0x0⟩
  | .DSP_T_HI => ⟨.win, 0x84, 8, 4, 0x0, 0xFFFFFFFF, 0x0, 0x0, 0x0⟩
  | .DSP_STACK => ⟨.win, 0xC0, 4, 8, 0x0, 0x1FFFFF, 0x0, 0x0, 0x0⟩
  | .SEC_SLOT => ⟨.sec, 0x38, 0, 1, 0x0, 0xFFFFF, 0x0, 0x0, 0x0⟩
  | .SEC_SLOT_LEFT => ⟨.sec, 0x3C, 0, 1, 0x0, 0x0, 0x0, 0x0, 0x0⟩
  | .DSP_DESK_WHISTLE => ⟨.desk, 0x18, 0, 1, 0x0, 0x0, 0x0, 0x0, 0x0⟩
  | .GOV_CTRL => ⟨.abs, 0x1000, 0, 1, 0xF, 0x3F, 0x0, 0x0, 0x0⟩
  | .GOV_ENV => ⟨.abs, 0x1004, 0, 1, 0xFFFF, 0xFFFFFFFF, 0x0, 0x0, 0x0⟩
  | .GOV_ENV_STATUS => ⟨.abs, 0x1008, 0, 1, 0xFFFFFFFF, 0x0, 0x0, 0x0, 0x0⟩
  | .GOV_CFG => ⟨.abs, 0x100C, 0, 1, 0x4504140A, 0xFFFFFFFF, 0x0, 0x0, 0x0⟩
  | .GOV_LIMITS => ⟨.abs, 0x1010, 0, 1, 0x1400C000, 0xFF03FFFF, 0x0, 0x0, 0x0⟩
  | .GOV_MARGIN => ⟨.abs, 0x1014, 0, 1, 0x62040020, 0xFF0F00FF, 0x0, 0x0, 0x0⟩
  | .GOV_STATUS => ⟨.abs, 0x1018, 0, 1, 0x0, 0x0, 0x8000000, 0x0, 0x0⟩
  | .GOV_POWER => ⟨.abs, 0x101C, 0, 1, 0x0, 0x0, 0x0, 0x0, 0x0⟩
  | .GOV_VF => ⟨.abs, 0x1020, 4, 8, 0x88000320, 0xFFFFC3FF, 0x0, 0x0, 0x0⟩
  | .GOV_LH_CFG => ⟨.abs, 0x1040, 0, 1, 0x200000, 0xFF0FFF, 0x0, 0x0, 0x0⟩
  | .GOV_PMB_REQ => ⟨.abs, 0x1044, 0, 1, 0x0, 0x7FFFFFFF, 0x0, 0x80000000, 0x0⟩
  | .GOV_PMB_RES => ⟨.abs, 0x1048, 0, 1, 0x0, 0x0, 0x0, 0x0, 0x0⟩
  | .GOV_PRIO => ⟨.abs, 0x1060, 4, 8, 0x88888888, 0xFFFFFFFF, 0x0, 0x0, 0x0⟩
  | .GOV_RAIL_CFG => ⟨.rail, 0x0, 0, 1, 0x0, 0xE0FFFF7F, 0x0, 0x0, 0x0⟩
  | .GOV_RAIL_V => ⟨.rail, 0x4, 0, 1, 0x3200226, 0x3FF03FF, 0x0, 0x0, 0x0⟩
  | .GOV_RAIL_STAT => ⟨.rail, 0x8, 0, 1, 0x0, 0x0, 0x30000000, 0x0, 0x0⟩
  | .GOV_RAIL_TEL => ⟨.rail, 0xC, 0, 1, 0x0, 0x0, 0x0, 0x0, 0x0⟩
  | .GOV_RAIL_SW => ⟨.rail, 0x10, 0, 1, 0x0, 0x0, 0x0, 0x0, 0x0⟩
  | .GOV_SEC_STAT => ⟨.sec, 0x40, 0, 1, 0x83000000, 0x0, 0x0, 0x0, 0x0⟩
  | .MTR_CTRL => ⟨.abs, 0x1800, 0, 1, 0x1, 0x1, 0x0, 0x0, 0x0⟩
  | .MTR_STATUS => ⟨.abs, 0x1804, 0, 1, 0x0, 0x0, 0x80000000, 0x0, 0x0⟩
  | .MTR_STEP_SEQ => ⟨.abs, 0x1808, 0, 1, 0x0, 0x0, 0x0, 0x0, 0x0⟩
  | .MTR_STEP_E_LO => ⟨.abs, 0x180C, 0, 1, 0x0, 0x0, 0x0, 0x0, 0x0⟩
  | .MTR_STEP_E_HI => ⟨.abs, 0x1810, 0, 1, 0x0, 0x0, 0x0, 0x0, 0x0⟩
  | .MTR_STEP_TOK => ⟨.abs, 0x1814, 0, 1, 0x0, 0x0, 0x0, 0x0, 0x0⟩
  | .MTR_STEP_TK_LO => ⟨.abs, 0x1818, 0, 1, 0x0, 0x0, 0x0, 0x0, 0x0⟩
  | .MTR_STEP_TK_HI => ⟨.abs, 0x181C, 0, 1, 0x0, 0x0, 0x0, 0x0, 0x0⟩
  | .MTR_JPT => ⟨.abs, 0x1820, 0, 1, 0x0, 0x0, 0x0, 0x0, 0x0⟩
  | .MTR_RAIL_K => ⟨.abs, 0x1840, 4, 16, 0x10000, 0x0, 0x0, 0x0, 0x0⟩
  | .MTR_PHASE_LO => ⟨.abs, 0x1880, 8, 16, 0x0, 0x0, 0x0, 0x0, 0x0⟩
  | .MTR_PHASE_HI => ⟨.abs, 0x1884, 8, 16, 0x0, 0x0, 0x0, 0x0, 0x0⟩
  | .MTR_SEQ => ⟨.sb, 0xC0, 0, 1, 0x0, 0x0, 0x0, 0x0, 0x0⟩
  | .MTR_E_LO => ⟨.sb, 0xC4, 0, 1, 0x0, 0x0, 0x0, 0x0, 0x0⟩
  | .MTR_E_HI => ⟨.sb, 0xC8, 0, 1, 0x0, 0x0, 0x0, 0x0, 0x0⟩
  | .MTR_STEP_LO => ⟨.sb, 0xCC, 0, 1, 0x0, 0x0, 0x0, 0x0, 0x0⟩
  | .MTR_STEP_HI => ⟨.sb, 0xD0, 0, 1, 0x0, 0x0, 0x0, 0x0, 0x0⟩
  | .EVT_CTRL => ⟨.abs, 0x800, 0, 1, 0x1, 0x3, 0x0, 0x4, 0x0⟩
  | .EVT_STATUS => ⟨.abs, 0x804, 0, 1, 0x0, 0x0, 0x1E000000, 0x0, 0x0⟩
  | .EVT_WIDX => ⟨.abs, 0x808, 0, 1, 0x0, 0x0, 0x0, 0x0, 0x0⟩
  | .EVT_RIDX => ⟨.abs, 0x80C, 0, 1, 0x0, 0xFFFFFFFF, 0x0, 0x0, 0x0⟩
  | .EVT_PEND => ⟨.abs, 0x810, 0, 1, 0x0, 0x0, 0xFFFF, 0x0, 0x0⟩
  | .EVT_LOST => ⟨.abs, 0x814, 0, 1, 0x0, 0x0, 0x0, 0x0, 0x0⟩
  | .EVT_SRC_LOST => ⟨.abs, 0x818, 0, 1, 0x0, 0x0, 0x0, 0x0, 0x0⟩
  | .EVT_SPILL_CFG => ⟨.abs, 0x81C, 0, 1, 0xA100010, 0xFF1F011F, 0x0, 0x0, 0x0⟩
  | .EVT_RING_BASE_LO => ⟨.abs, 0x820, 0, 1, 0x0, 0xFFFFF000, 0x0, 0x0, 0x0⟩
  | .EVT_RING_BASE_HI => ⟨.abs, 0x824, 0, 1, 0x0, 0xFF, 0x0, 0x0, 0x0⟩
  | .EVT_RING_CON_LO => ⟨.abs, 0x828, 0, 1, 0x0, 0xFFFFFFFC, 0x0, 0x0, 0x0⟩
  | .EVT_RING_CON_HI => ⟨.abs, 0x82C, 0, 1, 0x0, 0xFF, 0x0, 0x0, 0x0⟩
  | .EVT_RING_PTR_LO => ⟨.abs, 0x830, 0, 1, 0x0, 0xFFFFFFFC, 0x0, 0x0, 0x0⟩
  | .EVT_RING_PTR_HI => ⟨.abs, 0x834, 0, 1, 0x0, 0xFF, 0x0, 0x0, 0x0⟩
  | .EVT_RING_WR => ⟨.abs, 0x838, 0, 1, 0x0, 0x0, 0x0, 0x0, 0x0⟩
  | .EVT_RING_CONV => ⟨.abs, 0x83C, 0, 1, 0x0, 0x0, 0x0, 0x0, 0x0⟩
  | .EVT_CLASS_CNT => ⟨.abs, 0x880, 4, 16, 0x0, 0x0, 0x0, 0x0, 0x0⟩
  | .JNL_WIDX => ⟨.abs, 0x900, 0, 1, 0x0, 0x0, 0x0, 0x0, 0x0⟩
  | .JNL_RIDX => ⟨.abs, 0x904, 0, 1, 0x0, 0xFFFFFFFF, 0x0, 0x0, 0x0⟩
  | .JNL_STATUS => ⟨.abs, 0x908, 0, 1, 0x0, 0x0, 0xC0000000, 0x0, 0x0⟩
  | .MIL_CTRL => ⟨.abs, 0xA0000, 0, 1, 0x0, 0x3FF, 0x0, 0xC00, 0x0⟩
  | .MIL_SEQ => ⟨.abs, 0xA0004, 0, 1, 0x0, 0x0, 0x0, 0x0, 0x0⟩
  | .MIL_SNAP_INFO => ⟨.abs, 0xA0008, 0, 1, 0x0, 0x0, 0x0, 0x0, 0x0⟩
  | .MIL_SNAP_TICK_LO => ⟨.abs, 0xA000C, 0, 1, 0x0, 0x0, 0x0, 0x0, 0x0⟩
  | .MIL_SNAP_TICK_HI => ⟨.abs, 0xA0010, 0, 1, 0x0, 0x0, 0x0, 0x0, 0x0⟩
  | .MIL_SAT => ⟨.abs, 0xA0014, 0, 1, 0x0, 0x0, 0x0, 0x0, 0x0⟩
  | .MIL_HIST => ⟨.abs, 0xA0100, 4, 128, 0x0, 0x0, 0x0, 0x0, 0x0⟩
  | .MIL_CNT_LO => ⟨.abs, 0xA0300, 8, 16, 0x0, 0x0, 0x0, 0x0, 0x0⟩
  | .MIL_CNT_HI => ⟨.abs, 0xA0304, 8, 16, 0x0, 0x0, 0x0, 0x0, 0x0⟩
  | .STN_DEP_STATUS => ⟨.abs, 0x300, 0, 1, 0x0, 0x0, 0xFE000000, 0x0, 0x0⟩
  | .STN_DEP_CNT => ⟨.abs, 0x304, 0, 1, 0x0, 0x0, 0x0, 0x0, 0x0⟩
  | .HIF_BOOT => ⟨.abs, 0xA00, 0, 1, 0x0, 0x0, 0x0, 0x0, 0x0⟩
  | .HIF_IRQ_SRC => ⟨.abs, 0xA04, 0, 1, 0x0, 0x0, 0xFFFF, 0x0, 0x0⟩
  | .HIF_IRQ_ROUTE => ⟨.abs, 0xA08, 0, 1, 0x0, 0xFFFFFFFF, 0x0, 0x0, 0x0⟩
  | .HIF_IRQ_EVT_ROUTE => ⟨.abs, 0xA0C, 0, 1, 0x0, 0xFFFFFFFC, 0x0, 0x0, 0x0⟩
  | .HIF_IRQ_EN => ⟨.abs, 0xA10, 0, 1, 0x0, 0xE, 0x0, 0x0, 0x0⟩
  | .HIF_IRQ_THR => ⟨.abs, 0xA14, 0, 1, 0xC000300, 0xFFF03FF, 0x0, 0x0, 0x0⟩
  | .HIF_APB_ERR => ⟨.abs, 0xA18, 0, 1, 0x0, 0x0, 0x0, 0x0, 0x0⟩
  | .HIF_AXI_CFG => ⟨.abs, 0xA1C, 0, 1, 0x2330808, 0xF3FF0F0F, 0x0, 0x0, 0x0⟩
  | .HIF_AXI_STATUS => ⟨.abs, 0xA20, 0, 1, 0x0, 0x0, 0xC0000000, 0x0, 0x0⟩
  | .STN_BUILD0 => ⟨.abs, 0x4, 0, 1, 0x0, 0x0, 0x0, 0x0, 0x0⟩
  | .STN_BUILD1 => ⟨.abs, 0x8, 0, 1, 0x0, 0x0, 0x0, 0x0, 0x0⟩
  | .STN_SUMMARY => ⟨.abs, 0x10, 0, 1, 0x0, 0x0, 0x0, 0x0, 0x0⟩
  | .STN_GCTRL => ⟨.abs, 0x14, 0, 1, 0x0, 0x0, 0x0, 0x1, 0x0⟩
  | .STN_SEC_FAULT_LO => ⟨.abs, 0x18, 0, 1, 0x0, 0x0, 0x0, 0x0, 0x0⟩
  | .STN_SEC_FAULT_HI => ⟨.abs, 0x1C, 0, 1, 0x0, 0x0, 0x0, 0x0, 0x0⟩
  | .STN_SEC_SAFE_LO => ⟨.abs, 0x20, 0, 1, 0x0, 0x0, 0x0, 0x0, 0x0⟩
  | .STN_SEC_SAFE_HI => ⟨.abs, 0x24, 0, 1, 0x0, 0x0, 0x0, 0x0, 0x0⟩
  | .STN_SCRATCH => ⟨.abs, 0x30, 4, 4, 0x0, 0xFFFFFFFF, 0x0, 0x0, 0x0⟩
  | .STN_RFAULT => ⟨.abs, 0x40, 4, 32, 0x0, 0x0, 0x0, 0x0, 0x0⟩
  | .SB_EVT_STAT => ⟨.sb, 0xE8, 0, 1, 0x0, 0x0, 0x0, 0x0, 0x0⟩

/-- Registers 0 to 31 in the order of their numbers. -/
def Reg.part0 : List Reg :=
  [.STN_ID, .STN_CLK_CFG, .STN_CLK_STATUS, .STN_LOCK_TIME, .STN_HOLD_OFFSET, .STN_HOLD_TIME, .STN_TICK_LO, .STN_TICK_HI, .STN_TCAP_CTRL, .STN_TCAP_SEQ, .STN_TCAP_LO, .STN_TCAP_HI, .STN_TMR_STATUS, .STN_SPINE_CTRL, .STN_SPINE_STATUS, .STN_SYNC_CTRL, .STN_SYNC_DLY, .STN_SYNC_STATUS, .STN_SYNC_ERR, .STN_SYNC_RSEQ, .STN_SYNC_RTT, .SB_SPINE, .SB_SPINE_OVR, .SEC_CFG, .SEC_FW, .SEC_FW_STATUS, .SEC_CTRL, .SEC_STATUS, .SEC_PLL, .SB_ID, .SB_CLK_STATUS, .SB_ROT]

/-- Registers 32 to 63 in the order of their numbers. -/
def Reg.part1 : List Reg :=
  [.SB_GATE, .SB_GATE_CNT, .SB_TAP_CTRL, .SB_VSENSE, .SB_TEMP, .SB_SENSE_CTRL, .SB_ACT_SEQ, .SB_EDGES_LO, .SB_EDGES_HI, .SB_ACT_LO, .SB_ACT_HI, .SB_GATED_TK, .SEC_HEADWAY, .SB_TC_THR, .SB_STRETCH, .SB_TC_READ_A, .SB_TC_READ_B, .SB_TC_MIN, .SB_TC_STATUS, .SB_TC_CTRL, .SB_TC_TRIM, .SB_TC_ALARMS, .SB_WHISTLE, .SB_PROFILE_CFG, .SB_PROFILE0, .SB_PROFILE1, .SB_PROFILE2, .SB_PROFILE3, .SB_PROFILE_SEQ, .SEC_SYM_CFG, .SEC_SYM_STATUS, .SEC_SYM_CNT]

/-- Registers 64 to 95 in the order of their numbers. -/
def Reg.part2 : List Reg :=
  [.SEC_SYM_TK, .SEC_WOFF_CNT, .SB_SLIP, .SB_SLIP_CFG, .SB_SLIP_MAX, .SB_SLIP_STR, .SB_SLIP_SYM, .SB_SLIP_CU, .SB_SLIP_WOFF, .SB_SLIP_SNAP, .JCT_CFG, .JCT_STAT, .ICH_CFG, .ICH_STAT, .ICH_HELD, .ICH_STARVE, .JCT_INFO, .JCT_SUMMARY, .JCT_TOK_CNT, .CAL_CTRL, .CAL_STATUS, .CAL_CFG, .CAL_LEARN, .CAL_TIME, .CAL_IMG_ADDR_LO, .CAL_IMG_ADDR_HI, .CAL_IMG_GEN_LO, .CAL_IMG_GEN_HI, .CAL_IMG_MIN_LO, .CAL_IMG_MIN_HI, .CAL_IMG_CTRL, .CAL_IMG_SEQ]

/-- Registers 96 to 127 in the order of their numbers. -/
def Reg.part3 : List Reg :=
  [.CAL_IMG_RESULT, .CAL_IMG_DONE_LO, .CAL_IMG_DONE_HI, .CAL_BUILD_SIG, .SB_CAL_CTRL, .SB_CAL_STAT, .SB_CAL_QUAL, .SB_CAL_CNT, .SB_CAL_FW, .DSP_CTRL, .DSP_STATUS, .DSP_IMG_LO, .DSP_IMG_HI, .DSP_IMG_SIZE, .DSP_TILE_OK, .DSP_FRAME, .DSP_PAGE_CNT, .DSP_SEM_HELD, .DSP_SEM_OWNER, .DSP_DMEM_ADDR, .DSP_DMEM_DATA, .DSP_DESK_CTRL, .DSP_DESK_STATUS, .DSP_DESK_PC, .DSP_DESK_ISSUED, .DSP_DESK_STALL, .DSP_DESK_LATECNT, .DSP_G, .DSP_T_LO, .DSP_T_HI, .DSP_STACK, .SEC_SLOT]

/-- Registers 128 to 159 in the order of their numbers. -/
def Reg.part4 : List Reg :=
  [.SEC_SLOT_LEFT, .DSP_DESK_WHISTLE, .GOV_CTRL, .GOV_ENV, .GOV_ENV_STATUS, .GOV_CFG, .GOV_LIMITS, .GOV_MARGIN, .GOV_STATUS, .GOV_POWER, .GOV_VF, .GOV_LH_CFG, .GOV_PMB_REQ, .GOV_PMB_RES, .GOV_PRIO, .GOV_RAIL_CFG, .GOV_RAIL_V, .GOV_RAIL_STAT, .GOV_RAIL_TEL, .GOV_RAIL_SW, .GOV_SEC_STAT, .MTR_CTRL, .MTR_STATUS, .MTR_STEP_SEQ, .MTR_STEP_E_LO, .MTR_STEP_E_HI, .MTR_STEP_TOK, .MTR_STEP_TK_LO, .MTR_STEP_TK_HI, .MTR_JPT, .MTR_RAIL_K, .MTR_PHASE_LO]

/-- Registers 160 to 191 in the order of their numbers. -/
def Reg.part5 : List Reg :=
  [.MTR_PHASE_HI, .MTR_SEQ, .MTR_E_LO, .MTR_E_HI, .MTR_STEP_LO, .MTR_STEP_HI, .EVT_CTRL, .EVT_STATUS, .EVT_WIDX, .EVT_RIDX, .EVT_PEND, .EVT_LOST, .EVT_SRC_LOST, .EVT_SPILL_CFG, .EVT_RING_BASE_LO, .EVT_RING_BASE_HI, .EVT_RING_CON_LO, .EVT_RING_CON_HI, .EVT_RING_PTR_LO, .EVT_RING_PTR_HI, .EVT_RING_WR, .EVT_RING_CONV, .EVT_CLASS_CNT, .JNL_WIDX, .JNL_RIDX, .JNL_STATUS, .MIL_CTRL, .MIL_SEQ, .MIL_SNAP_INFO, .MIL_SNAP_TICK_LO, .MIL_SNAP_TICK_HI, .MIL_SAT]

/-- Registers 192 to 216 in the order of their numbers. -/
def Reg.part6 : List Reg :=
  [.MIL_HIST, .MIL_CNT_LO, .MIL_CNT_HI, .STN_DEP_STATUS, .STN_DEP_CNT, .HIF_BOOT, .HIF_IRQ_SRC, .HIF_IRQ_ROUTE, .HIF_IRQ_EVT_ROUTE, .HIF_IRQ_EN, .HIF_IRQ_THR, .HIF_APB_ERR, .HIF_AXI_CFG, .HIF_AXI_STATUS, .STN_BUILD0, .STN_BUILD1, .STN_SUMMARY, .STN_GCTRL, .STN_SEC_FAULT_LO, .STN_SEC_FAULT_HI, .STN_SEC_SAFE_LO, .STN_SEC_SAFE_HI, .STN_SCRATCH, .STN_RFAULT, .SB_EVT_STAT]

/-- The registers in the order of their numbers. -/
def Reg.all : List Reg :=
  Reg.part0 ++ Reg.part1 ++ Reg.part2 ++ Reg.part3 ++ Reg.part4 ++ Reg.part5 ++ Reg.part6

/-- A register's number, from 0. -/
def Reg.num (r : Reg) : Nat := r.ctorIdx

/-- The register of a number (the first register for a number that no register has). -/
def Reg.ofNum (n : Nat) : Reg := (Reg.all[n]?).getD .STN_ID

/-- A field: a bit range of a register. -/
structure Fld where
  reg : Reg
  lo  : Nat
  w   : Nat
  deriving DecidableEq, Repr

namespace F

/-- STN_ID.MAJOR (RO). -/
def STN_ID_MAJOR : Fld := ⟨.STN_ID, 16, 8⟩
/-- STN_ID.MINOR (RO). -/
def STN_ID_MINOR : Fld := ⟨.STN_ID, 8, 8⟩
/-- STN_ID.PATCH (RO). -/
def STN_ID_PATCH : Fld := ⟨.STN_ID, 0, 8⟩
/-- STN_CLK_CFG.HOLD_FORCE (RW). -/
def STN_CLK_CFG_HOLD_FORCE : Fld := ⟨.STN_CLK_CFG, 2, 1⟩
/-- STN_CLK_CFG.REF_SEL (RW). -/
def STN_CLK_CFG_REF_SEL : Fld := ⟨.STN_CLK_CFG, 0, 2⟩
/-- STN_CLK_STATUS.LOSS_SEEN (W1C). -/
def STN_CLK_STATUS_LOSS_SEEN : Fld := ⟨.STN_CLK_STATUS, 7, 1⟩
/-- STN_CLK_STATUS.LOCK_FAIL (RO). -/
def STN_CLK_STATUS_LOCK_FAIL : Fld := ⟨.STN_CLK_STATUS, 6, 1⟩
/-- STN_CLK_STATUS.STATE (RO). -/
def STN_CLK_STATUS_STATE : Fld := ⟨.STN_CLK_STATUS, 4, 2⟩
/-- STN_CLK_STATUS.REF_DET (RO). -/
def STN_CLK_STATUS_REF_DET : Fld := ⟨.STN_CLK_STATUS, 2, 2⟩
/-- STN_CLK_STATUS.REF_PRESENT (RO). -/
def STN_CLK_STATUS_REF_PRESENT : Fld := ⟨.STN_CLK_STATUS, 1, 1⟩
/-- STN_CLK_STATUS.LOCKED (RO). -/
def STN_CLK_STATUS_LOCKED : Fld := ⟨.STN_CLK_STATUS, 0, 1⟩
/-- STN_LOCK_TIME.TK (RO). -/
def STN_LOCK_TIME_TK : Fld := ⟨.STN_LOCK_TIME, 0, 20⟩
/-- STN_HOLD_OFFSET.OFFSET (RO). -/
def STN_HOLD_OFFSET_OFFSET : Fld := ⟨.STN_HOLD_OFFSET, 0, 32⟩
/-- STN_HOLD_TIME.SPAN (RO). -/
def STN_HOLD_TIME_SPAN : Fld := ⟨.STN_HOLD_TIME, 0, 32⟩
/-- STN_TICK_LO.COUNT (RO). -/
def STN_TICK_LO_COUNT : Fld := ⟨.STN_TICK_LO, 0, 32⟩
/-- STN_TICK_HI.COUNT (RO). -/
def STN_TICK_HI_COUNT : Fld := ⟨.STN_TICK_HI, 0, 32⟩
/-- STN_TCAP_CTRL.CAPTURE (WO). -/
def STN_TCAP_CTRL_CAPTURE : Fld := ⟨.STN_TCAP_CTRL, 0, 1⟩
/-- STN_TCAP_SEQ.NOT_READY (RS). -/
def STN_TCAP_SEQ_NOT_READY : Fld := ⟨.STN_TCAP_SEQ, 31, 1⟩
/-- STN_TCAP_SEQ.SEQ (RS). -/
def STN_TCAP_SEQ_SEQ : Fld := ⟨.STN_TCAP_SEQ, 0, 31⟩
/-- STN_TCAP_LO.COUNT (RS). -/
def STN_TCAP_LO_COUNT : Fld := ⟨.STN_TCAP_LO, 0, 32⟩
/-- STN_TCAP_HI.COUNT (RS). -/
def STN_TCAP_HI_COUNT : Fld := ⟨.STN_TCAP_HI, 0, 32⟩
/-- STN_TMR_STATUS.TRIPLE (W1C). -/
def STN_TMR_STATUS_TRIPLE : Fld := ⟨.STN_TMR_STATUS, 31, 1⟩
/-- STN_TMR_STATUS.CORR_C (RO). -/
def STN_TMR_STATUS_CORR_C : Fld := ⟨.STN_TMR_STATUS, 16, 8⟩
/-- STN_TMR_STATUS.CORR_B (RO). -/
def STN_TMR_STATUS_CORR_B : Fld := ⟨.STN_TMR_STATUS, 8, 8⟩
/-- STN_TMR_STATUS.CORR_A (RO). -/
def STN_TMR_STATUS_CORR_A : Fld := ⟨.STN_TMR_STATUS, 0, 8⟩
/-- STN_SPINE_CTRL.TRACK_EN (RW). -/
def STN_SPINE_CTRL_TRACK_EN : Fld := ⟨.STN_SPINE_CTRL, 1, 1⟩
/-- STN_SPINE_CTRL.RECAL (W1S). -/
def STN_SPINE_CTRL_RECAL : Fld := ⟨.STN_SPINE_CTRL, 0, 1⟩
/-- STN_SPINE_STATUS.CAL_DONE (RO). -/
def STN_SPINE_STATUS_CAL_DONE : Fld := ⟨.STN_SPINE_STATUS, 31, 1⟩
/-- STN_SPINE_STATUS.CAL_FAIL (RO). -/
def STN_SPINE_STATUS_CAL_FAIL : Fld := ⟨.STN_SPINE_STATUS, 30, 1⟩
/-- STN_SPINE_STATUS.MISMATCH_SEEN (W1C). -/
def STN_SPINE_STATUS_MISMATCH_SEEN : Fld := ⟨.STN_SPINE_STATUS, 29, 1⟩
/-- STN_SPINE_STATUS.WORST_PS (RO). -/
def STN_SPINE_STATUS_WORST_PS : Fld := ⟨.STN_SPINE_STATUS, 16, 8⟩
/-- STN_SPINE_STATUS.WORST_REGION (RO). -/
def STN_SPINE_STATUS_WORST_REGION : Fld := ⟨.STN_SPINE_STATUS, 0, 10⟩
/-- STN_SYNC_CTRL.AUTO_SLEW (RW). -/
def STN_SYNC_CTRL_AUTO_SLEW : Fld := ⟨.STN_SYNC_CTRL, 3, 1⟩
/-- STN_SYNC_CTRL.MEASURE (W1S). -/
def STN_SYNC_CTRL_MEASURE : Fld := ⟨.STN_SYNC_CTRL, 2, 1⟩
/-- STN_SYNC_CTRL.ROLE (RW). -/
def STN_SYNC_CTRL_ROLE : Fld := ⟨.STN_SYNC_CTRL, 0, 2⟩
/-- STN_SYNC_DLY.DELAY (RW). -/
def STN_SYNC_DLY_DELAY : Fld := ⟨.STN_SYNC_DLY, 0, 12⟩
/-- STN_SYNC_STATUS.LOST (RO). -/
def STN_SYNC_STATUS_LOST : Fld := ⟨.STN_SYNC_STATUS, 5, 1⟩
/-- STN_SYNC_STATUS.HARD_DONE (RO). -/
def STN_SYNC_STATUS_HARD_DONE : Fld := ⟨.STN_SYNC_STATUS, 4, 1⟩
/-- STN_SYNC_STATUS.SLEWING (RO). -/
def STN_SYNC_STATUS_SLEWING : Fld := ⟨.STN_SYNC_STATUS, 3, 1⟩
/-- STN_SYNC_STATUS.CRC_ERR_SEEN (W1C). -/
def STN_SYNC_STATUS_CRC_ERR_SEEN : Fld := ⟨.STN_SYNC_STATUS, 2, 1⟩
/-- STN_SYNC_STATUS.FRAME_OK (RO). -/
def STN_SYNC_STATUS_FRAME_OK : Fld := ⟨.STN_SYNC_STATUS, 1, 1⟩
/-- STN_SYNC_STATUS.ALIGNED (RO). -/
def STN_SYNC_STATUS_ALIGNED : Fld := ⟨.STN_SYNC_STATUS, 0, 1⟩
/-- STN_SYNC_ERR.ERR (RO). -/
def STN_SYNC_ERR_ERR : Fld := ⟨.STN_SYNC_ERR, 0, 32⟩
/-- STN_SYNC_RSEQ.NOT_READY (RS). -/
def STN_SYNC_RSEQ_NOT_READY : Fld := ⟨.STN_SYNC_RSEQ, 31, 1⟩
/-- STN_SYNC_RSEQ.SEQ (RS). -/
def STN_SYNC_RSEQ_SEQ : Fld := ⟨.STN_SYNC_RSEQ, 0, 31⟩
/-- STN_SYNC_RTT.RT (RS). -/
def STN_SYNC_RTT_RT : Fld := ⟨.STN_SYNC_RTT, 0, 16⟩
/-- SB_SPINE.FAILED (RO). -/
def SB_SPINE_FAILED : Fld := ⟨.SB_SPINE, 31, 1⟩
/-- SB_SPINE.RESYNC (RO). -/
def SB_SPINE_RESYNC : Fld := ⟨.SB_SPINE, 16, 8⟩
/-- SB_SPINE.FINE (RO). -/
def SB_SPINE_FINE : Fld := ⟨.SB_SPINE, 0, 9⟩
/-- SB_SPINE_OVR.EN (RW). -/
def SB_SPINE_OVR_EN : Fld := ⟨.SB_SPINE_OVR, 31, 1⟩
/-- SB_SPINE_OVR.FINE (RW). -/
def SB_SPINE_OVR_FINE : Fld := ⟨.SB_SPINE_OVR, 0, 9⟩
/-- SEC_CFG.RAIL (RO). -/
def SEC_CFG_RAIL : Fld := ⟨.SEC_CFG, 24, 4⟩
/-- SEC_CFG.REGION_COUNT (RO). -/
def SEC_CFG_REGION_COUNT : Fld := ⟨.SEC_CFG, 0, 9⟩
/-- SEC_FW.FW (RW). -/
def SEC_FW_FW : Fld := ⟨.SEC_FW, 0, 18⟩
/-- SEC_FW_STATUS.CLAMPED (W1C). -/
def SEC_FW_STATUS_CLAMPED : Fld := ⟨.SEC_FW_STATUS, 31, 1⟩
/-- SEC_FW_STATUS.RAMPING (RO). -/
def SEC_FW_STATUS_RAMPING : Fld := ⟨.SEC_FW_STATUS, 30, 1⟩
/-- SEC_FW_STATUS.PENDING (RO). -/
def SEC_FW_STATUS_PENDING : Fld := ⟨.SEC_FW_STATUS, 29, 1⟩
/-- SEC_FW_STATUS.FW_CUR (RO). -/
def SEC_FW_STATUS_FW_CUR : Fld := ⟨.SEC_FW_STATUS, 0, 18⟩
/-- SEC_CTRL.RESTART (W1S). -/
def SEC_CTRL_RESTART : Fld := ⟨.SEC_CTRL, 3, 1⟩
/-- SEC_CTRL.SAFE (RW). -/
def SEC_CTRL_SAFE : Fld := ⟨.SEC_CTRL, 2, 1⟩
/-- SEC_CTRL.HEADWAY (RW). -/
def SEC_CTRL_HEADWAY : Fld := ⟨.SEC_CTRL, 1, 1⟩
/-- SEC_STATUS.PERIOD_FAULT (W1C). -/
def SEC_STATUS_PERIOD_FAULT : Fld := ⟨.SEC_STATUS, 31, 1⟩
/-- SEC_STATUS.SAFE_ACTIVE (RO). -/
def SEC_STATUS_SAFE_ACTIVE : Fld := ⟨.SEC_STATUS, 30, 1⟩
/-- SEC_STATUS.LOCKED (RO). -/
def SEC_STATUS_LOCKED : Fld := ⟨.SEC_STATUS, 29, 1⟩
/-- SEC_STATUS.STATE (RO). -/
def SEC_STATUS_STATE : Fld := ⟨.SEC_STATUS, 24, 3⟩
/-- SEC_STATUS.GATED (RO). -/
def SEC_STATUS_GATED : Fld := ⟨.SEC_STATUS, 0, 9⟩
/-- SEC_PLL.MAX_PS (RO). -/
def SEC_PLL_MAX_PS : Fld := ⟨.SEC_PLL, 16, 8⟩
/-- SEC_PLL.PHASE_ERR (RO). -/
def SEC_PLL_PHASE_ERR : Fld := ⟨.SEC_PLL, 0, 16⟩
/-- SB_ID.SECTION (RO). -/
def SB_ID_SECTION : Fld := ⟨.SB_ID, 20, 6⟩
/-- SB_ID.RAIL (RO). -/
def SB_ID_RAIL : Fld := ⟨.SB_ID, 16, 4⟩
/-- SB_ID.REGION (RO). -/
def SB_ID_REGION : Fld := ⟨.SB_ID, 0, 10⟩
/-- SB_CLK_STATUS.STATE (RO). -/
def SB_CLK_STATUS_STATE : Fld := ⟨.SB_CLK_STATUS, 30, 2⟩
/-- SB_CLK_STATUS.DLL_LOCKED (RO). -/
def SB_CLK_STATUS_DLL_LOCKED : Fld := ⟨.SB_CLK_STATUS, 29, 1⟩
/-- SB_CLK_STATUS.ALIGNED (RO). -/
def SB_CLK_STATUS_ALIGNED : Fld := ⟨.SB_CLK_STATUS, 28, 1⟩
/-- SB_CLK_STATUS.PHASE_SEL (RO). -/
def SB_CLK_STATUS_PHASE_SEL : Fld := ⟨.SB_CLK_STATUS, 20, 4⟩
/-- SB_CLK_STATUS.PERIOD_DEV (RO). -/
def SB_CLK_STATUS_PERIOD_DEV : Fld := ⟨.SB_CLK_STATUS, 0, 8⟩
/-- SB_ROT.RESID_PS (RO). -/
def SB_ROT_RESID_PS : Fld := ⟨.SB_ROT, 16, 8⟩
/-- SB_ROT.ALIGN_PH (RO). -/
def SB_ROT_ALIGN_PH : Fld := ⟨.SB_ROT, 8, 4⟩
/-- SB_ROT.ALIGN_FINE (RO). -/
def SB_ROT_ALIGN_FINE : Fld := ⟨.SB_ROT, 0, 7⟩
/-- SB_GATE.FAULT (W1C). -/
def SB_GATE_FAULT : Fld := ⟨.SB_GATE, 31, 1⟩
/-- SB_GATE.FAULT_CAUSE (RO). -/
def SB_GATE_FAULT_CAUSE : Fld := ⟨.SB_GATE, 28, 3⟩
/-- SB_GATE.SECTION (RO). -/
def SB_GATE_SECTION : Fld := ⟨.SB_GATE, 27, 1⟩
/-- SB_GATE.PORT (RO). -/
def SB_GATE_PORT : Fld := ⟨.SB_GATE, 26, 1⟩
/-- SB_GATE.FORCE (RW). -/
def SB_GATE_FORCE : Fld := ⟨.SB_GATE, 25, 1⟩
/-- SB_GATE.WAKE (WO). -/
def SB_GATE_WAKE : Fld := ⟨.SB_GATE, 24, 1⟩
/-- SB_GATE_CNT.REFUSED (RO). -/
def SB_GATE_CNT_REFUSED : Fld := ⟨.SB_GATE_CNT, 16, 16⟩
/-- SB_GATE_CNT.GRANTED (RO). -/
def SB_GATE_CNT_GRANTED : Fld := ⟨.SB_GATE_CNT, 0, 16⟩
/-- SB_TAP_CTRL.TILE_ERR (W1C). -/
def SB_TAP_CTRL_TILE_ERR : Fld := ⟨.SB_TAP_CTRL, 31, 1⟩
/-- SB_TAP_CTRL.WALKING (RO). -/
def SB_TAP_CTRL_WALKING : Fld := ⟨.SB_TAP_CTRL, 30, 1⟩
/-- SB_TAP_CTRL.RELOAD (W1S). -/
def SB_TAP_CTRL_RELOAD : Fld := ⟨.SB_TAP_CTRL, 0, 1⟩
/-- SB_VSENSE.MIN_MV (RO). -/
def SB_VSENSE_MIN_MV : Fld := ⟨.SB_VSENSE, 16, 10⟩
/-- SB_VSENSE.MV (RO). -/
def SB_VSENSE_MV : Fld := ⟨.SB_VSENSE, 0, 10⟩
/-- SB_TEMP.MAX (RO). -/
def SB_TEMP_MAX : Fld := ⟨.SB_TEMP, 16, 16⟩
/-- SB_TEMP.TEMP (RO). -/
def SB_TEMP_TEMP : Fld := ⟨.SB_TEMP, 0, 16⟩
/-- SB_SENSE_CTRL.TEMP_ALARM (W1C). -/
def SB_SENSE_CTRL_TEMP_ALARM : Fld := ⟨.SB_SENSE_CTRL, 31, 1⟩
/-- SB_SENSE_CTRL.TEMP_LIMIT (RW). -/
def SB_SENSE_CTRL_TEMP_LIMIT : Fld := ⟨.SB_SENSE_CTRL, 2, 10⟩
/-- SB_SENSE_CTRL.CLR_TEMP_MAX (WO). -/
def SB_SENSE_CTRL_CLR_TEMP_MAX : Fld := ⟨.SB_SENSE_CTRL, 1, 1⟩
/-- SB_SENSE_CTRL.CLR_V_MIN (WO). -/
def SB_SENSE_CTRL_CLR_V_MIN : Fld := ⟨.SB_SENSE_CTRL, 0, 1⟩
/-- SB_ACT_SEQ.NOT_READY (RS). -/
def SB_ACT_SEQ_NOT_READY : Fld := ⟨.SB_ACT_SEQ, 31, 1⟩
/-- SB_ACT_SEQ.SEQ (RS). -/
def SB_ACT_SEQ_SEQ : Fld := ⟨.SB_ACT_SEQ, 0, 31⟩
/-- SB_EDGES_LO.COUNT (RS). -/
def SB_EDGES_LO_COUNT : Fld := ⟨.SB_EDGES_LO, 0, 32⟩
/-- SB_EDGES_HI.COUNT (RS). -/
def SB_EDGES_HI_COUNT : Fld := ⟨.SB_EDGES_HI, 0, 32⟩
/-- SB_ACT_LO.SUM (RS). -/
def SB_ACT_LO_SUM : Fld := ⟨.SB_ACT_LO, 0, 32⟩
/-- SB_ACT_HI.SUM (RS). -/
def SB_ACT_HI_SUM : Fld := ⟨.SB_ACT_HI, 0, 32⟩
/-- SB_GATED_TK.COUNT (RS). -/
def SB_GATED_TK_COUNT : Fld := ⟨.SB_GATED_TK, 0, 32⟩
/-- SEC_HEADWAY.ACTIVE (RO). -/
def SEC_HEADWAY_ACTIVE : Fld := ⟨.SEC_HEADWAY, 31, 1⟩
/-- SEC_HEADWAY.PENDING (RO). -/
def SEC_HEADWAY_PENDING : Fld := ⟨.SEC_HEADWAY, 30, 1⟩
/-- SEC_HEADWAY.FW_HW (RW). -/
def SEC_HEADWAY_FW_HW : Fld := ⟨.SEC_HEADWAY, 0, 18⟩
/-- SB_TC_THR.RESTORE_RC (RW). -/
def SB_TC_THR_RESTORE_RC : Fld := ⟨.SB_TC_THR, 16, 4⟩
/-- SB_TC_THR.RESTORE (RW). -/
def SB_TC_THR_RESTORE : Fld := ⟨.SB_TC_THR, 8, 5⟩
/-- SB_TC_THR.ALARM (RW). -/
def SB_TC_THR_ALARM : Fld := ⟨.SB_TC_THR, 0, 5⟩
/-- SB_STRETCH.TC_EN (RW). -/
def SB_STRETCH_TC_EN : Fld := ⟨.SB_STRETCH, 15, 1⟩
/-- SB_STRETCH.PROFILE_EN (RW). -/
def SB_STRETCH_PROFILE_EN : Fld := ⟨.SB_STRETCH, 14, 1⟩
/-- SB_STRETCH.REFIT_EN (RW). -/
def SB_STRETCH_REFIT_EN : Fld := ⟨.SB_STRETCH, 13, 1⟩
/-- SB_STRETCH.GAIN (RW). -/
def SB_STRETCH_GAIN : Fld := ⟨.SB_STRETCH, 8, 3⟩
/-- SB_STRETCH.MAX (RW). -/
def SB_STRETCH_MAX : Fld := ⟨.SB_STRETCH, 0, 5⟩
/-- SB_TC_READ_A.TC3 (RO). -/
def SB_TC_READ_A_TC3 : Fld := ⟨.SB_TC_READ_A, 24, 5⟩
/-- SB_TC_READ_A.TC2 (RO). -/
def SB_TC_READ_A_TC2 : Fld := ⟨.SB_TC_READ_A, 16, 5⟩
/-- SB_TC_READ_A.TC1 (RO). -/
def SB_TC_READ_A_TC1 : Fld := ⟨.SB_TC_READ_A, 8, 5⟩
/-- SB_TC_READ_A.TC0 (RO). -/
def SB_TC_READ_A_TC0 : Fld := ⟨.SB_TC_READ_A, 0, 5⟩
/-- SB_TC_READ_B.TC7 (RO). -/
def SB_TC_READ_B_TC7 : Fld := ⟨.SB_TC_READ_B, 24, 5⟩
/-- SB_TC_READ_B.TC6 (RO). -/
def SB_TC_READ_B_TC6 : Fld := ⟨.SB_TC_READ_B, 16, 5⟩
/-- SB_TC_READ_B.TC5 (RO). -/
def SB_TC_READ_B_TC5 : Fld := ⟨.SB_TC_READ_B, 8, 5⟩
/-- SB_TC_READ_B.TC4 (RO). -/
def SB_TC_READ_B_TC4 : Fld := ⟨.SB_TC_READ_B, 0, 5⟩
/-- SB_TC_MIN.LOW (RO). -/
def SB_TC_MIN_LOW : Fld := ⟨.SB_TC_MIN, 16, 5⟩
/-- SB_TC_MIN.LOW_TC (RO). -/
def SB_TC_MIN_LOW_TC : Fld := ⟨.SB_TC_MIN, 8, 3⟩
/-- SB_TC_MIN.VOTE (RO). -/
def SB_TC_MIN_VOTE : Fld := ⟨.SB_TC_MIN, 0, 5⟩
/-- SB_TC_STATUS.NONE (RO). -/
def SB_TC_STATUS_NONE : Fld := ⟨.SB_TC_STATUS, 31, 1⟩
/-- SB_TC_STATUS.HW_ALARM (W1C). -/
def SB_TC_STATUS_HW_ALARM : Fld := ⟨.SB_TC_STATUS, 30, 1⟩
/-- SB_TC_STATUS.ALARM_FAIL (W1C). -/
def SB_TC_STATUS_ALARM_FAIL : Fld := ⟨.SB_TC_STATUS, 16, 8⟩
/-- SB_TC_STATUS.QUIET_FAIL (W1C). -/
def SB_TC_STATUS_QUIET_FAIL : Fld := ⟨.SB_TC_STATUS, 8, 8⟩
/-- SB_TC_STATUS.EXCL (RO). -/
def SB_TC_STATUS_EXCL : Fld := ⟨.SB_TC_STATUS, 0, 8⟩
/-- SB_TC_CTRL.SELFTEST_EN (RW). -/
def SB_TC_CTRL_SELFTEST_EN : Fld := ⟨.SB_TC_CTRL, 16, 1⟩
/-- SB_TC_CTRL.CLR_LOW (WO). -/
def SB_TC_CTRL_CLR_LOW : Fld := ⟨.SB_TC_CTRL, 8, 1⟩
/-- SB_TC_CTRL.READMIT (W1S). -/
def SB_TC_CTRL_READMIT : Fld := ⟨.SB_TC_CTRL, 0, 8⟩
/-- SB_TC_TRIM.TRIM7 (RW). -/
def SB_TC_TRIM_TRIM7 : Fld := ⟨.SB_TC_TRIM, 28, 4⟩
/-- SB_TC_TRIM.TRIM6 (RW). -/
def SB_TC_TRIM_TRIM6 : Fld := ⟨.SB_TC_TRIM, 24, 4⟩
/-- SB_TC_TRIM.TRIM5 (RW). -/
def SB_TC_TRIM_TRIM5 : Fld := ⟨.SB_TC_TRIM, 20, 4⟩
/-- SB_TC_TRIM.TRIM4 (RW). -/
def SB_TC_TRIM_TRIM4 : Fld := ⟨.SB_TC_TRIM, 16, 4⟩
/-- SB_TC_TRIM.TRIM3 (RW). -/
def SB_TC_TRIM_TRIM3 : Fld := ⟨.SB_TC_TRIM, 12, 4⟩
/-- SB_TC_TRIM.TRIM2 (RW). -/
def SB_TC_TRIM_TRIM2 : Fld := ⟨.SB_TC_TRIM, 8, 4⟩
/-- SB_TC_TRIM.TRIM1 (RW). -/
def SB_TC_TRIM_TRIM1 : Fld := ⟨.SB_TC_TRIM, 4, 4⟩
/-- SB_TC_TRIM.TRIM0 (RW). -/
def SB_TC_TRIM_TRIM0 : Fld := ⟨.SB_TC_TRIM, 0, 4⟩
/-- SB_TC_ALARMS.COUNT (RO). -/
def SB_TC_ALARMS_COUNT : Fld := ⟨.SB_TC_ALARMS, 0, 32⟩
/-- SB_WHISTLE.IDLE_VIOL (W1C). -/
def SB_WHISTLE_IDLE_VIOL : Fld := ⟨.SB_WHISTLE, 31, 1⟩
/-- SB_WHISTLE.IDLE (RO). -/
def SB_WHISTLE_IDLE : Fld := ⟨.SB_WHISTLE, 30, 1⟩
/-- SB_WHISTLE.PLAYING (RO). -/
def SB_WHISTLE_PLAYING : Fld := ⟨.SB_WHISTLE, 29, 1⟩
/-- SB_WHISTLE.VIOLS (RO). -/
def SB_WHISTLE_VIOLS : Fld := ⟨.SB_WHISTLE, 24, 5⟩
/-- SB_WHISTLE.LAST_I (RO). -/
def SB_WHISTLE_LAST_I : Fld := ⟨.SB_WHISTLE, 20, 4⟩
/-- SB_WHISTLE.STROBES (RO). -/
def SB_WHISTLE_STROBES : Fld := ⟨.SB_WHISTLE, 0, 16⟩
/-- SB_PROFILE_CFG.MIN_I (RW). -/
def SB_PROFILE_CFG_MIN_I : Fld := ⟨.SB_PROFILE_CFG, 12, 4⟩
/-- SB_PROFILE_CFG.HI_BAND (RW). -/
def SB_PROFILE_CFG_HI_BAND : Fld := ⟨.SB_PROFILE_CFG, 8, 4⟩
/-- SB_PROFILE_CFG.MU (RW). -/
def SB_PROFILE_CFG_MU : Fld := ⟨.SB_PROFILE_CFG, 0, 4⟩
/-- SB_PROFILE0.ENTRY_3 (RW). -/
def SB_PROFILE0_ENTRY_3 : Fld := ⟨.SB_PROFILE0, 24, 8⟩
/-- SB_PROFILE0.ENTRY_2 (RW). -/
def SB_PROFILE0_ENTRY_2 : Fld := ⟨.SB_PROFILE0, 16, 8⟩
/-- SB_PROFILE0.ENTRY_1 (RW). -/
def SB_PROFILE0_ENTRY_1 : Fld := ⟨.SB_PROFILE0, 8, 8⟩
/-- SB_PROFILE0.ENTRY_0 (RW). -/
def SB_PROFILE0_ENTRY_0 : Fld := ⟨.SB_PROFILE0, 0, 8⟩
/-- SB_PROFILE1.ENTRY_3 (RW). -/
def SB_PROFILE1_ENTRY_3 : Fld := ⟨.SB_PROFILE1, 24, 8⟩
/-- SB_PROFILE1.ENTRY_2 (RW). -/
def SB_PROFILE1_ENTRY_2 : Fld := ⟨.SB_PROFILE1, 16, 8⟩
/-- SB_PROFILE1.ENTRY_1 (RW). -/
def SB_PROFILE1_ENTRY_1 : Fld := ⟨.SB_PROFILE1, 8, 8⟩
/-- SB_PROFILE1.ENTRY_0 (RW). -/
def SB_PROFILE1_ENTRY_0 : Fld := ⟨.SB_PROFILE1, 0, 8⟩
/-- SB_PROFILE2.ENTRY_3 (RW). -/
def SB_PROFILE2_ENTRY_3 : Fld := ⟨.SB_PROFILE2, 24, 8⟩
/-- SB_PROFILE2.ENTRY_2 (RW). -/
def SB_PROFILE2_ENTRY_2 : Fld := ⟨.SB_PROFILE2, 16, 8⟩
/-- SB_PROFILE2.ENTRY_1 (RW). -/
def SB_PROFILE2_ENTRY_1 : Fld := ⟨.SB_PROFILE2, 8, 8⟩
/-- SB_PROFILE2.ENTRY_0 (RW). -/
def SB_PROFILE2_ENTRY_0 : Fld := ⟨.SB_PROFILE2, 0, 8⟩
/-- SB_PROFILE3.ENTRY_3 (RW). -/
def SB_PROFILE3_ENTRY_3 : Fld := ⟨.SB_PROFILE3, 24, 8⟩
/-- SB_PROFILE3.ENTRY_2 (RW). -/
def SB_PROFILE3_ENTRY_2 : Fld := ⟨.SB_PROFILE3, 16, 8⟩
/-- SB_PROFILE3.ENTRY_1 (RW). -/
def SB_PROFILE3_ENTRY_1 : Fld := ⟨.SB_PROFILE3, 8, 8⟩
/-- SB_PROFILE3.ENTRY_0 (RW). -/
def SB_PROFILE3_ENTRY_0 : Fld := ⟨.SB_PROFILE3, 0, 8⟩
/-- SB_PROFILE_SEQ.SKIPPED (RO). -/
def SB_PROFILE_SEQ_SKIPPED : Fld := ⟨.SB_PROFILE_SEQ, 16, 16⟩
/-- SB_PROFILE_SEQ.SEQ (RO). -/
def SB_PROFILE_SEQ_SEQ : Fld := ⟨.SB_PROFILE_SEQ, 0, 16⟩
/-- SEC_SYM_CFG.EN (RW). -/
def SEC_SYM_CFG_EN : Fld := ⟨.SEC_SYM_CFG, 31, 1⟩
/-- SEC_SYM_CFG.RELEASE (RW). -/
def SEC_SYM_CFG_RELEASE : Fld := ⟨.SEC_SYM_CFG, 8, 7⟩
/-- SEC_SYM_CFG.TRIG (RW). -/
def SEC_SYM_CFG_TRIG : Fld := ⟨.SEC_SYM_CFG, 0, 7⟩
/-- SEC_SYM_STATUS.ACTIVE (RO). -/
def SEC_SYM_STATUS_ACTIVE : Fld := ⟨.SEC_SYM_STATUS, 31, 1⟩
/-- SEC_SYM_STATUS.SEEN (W1C). -/
def SEC_SYM_STATUS_SEEN : Fld := ⟨.SEC_SYM_STATUS, 30, 1⟩
/-- SEC_SYM_STATUS.LAST_VALUE (RO). -/
def SEC_SYM_STATUS_LAST_VALUE : Fld := ⟨.SEC_SYM_STATUS, 16, 5⟩
/-- SEC_SYM_STATUS.REQUESTERS (RO). -/
def SEC_SYM_STATUS_REQUESTERS : Fld := ⟨.SEC_SYM_STATUS, 0, 9⟩
/-- SEC_SYM_CNT.EPISODES (RO). -/
def SEC_SYM_CNT_EPISODES : Fld := ⟨.SEC_SYM_CNT, 0, 32⟩
/-- SEC_SYM_TK.COUNT (RO). -/
def SEC_SYM_TK_COUNT : Fld := ⟨.SEC_SYM_TK, 0, 32⟩
/-- SEC_WOFF_CNT.COUNT (RO). -/
def SEC_WOFF_CNT_COUNT : Fld := ⟨.SEC_WOFF_CNT, 0, 32⟩
/-- SB_SLIP.BOUND_HIT (W1C). -/
def SB_SLIP_BOUND_HIT : Fld := ⟨.SB_SLIP, 31, 1⟩
/-- SB_SLIP.REQ (RO). -/
def SB_SLIP_REQ : Fld := ⟨.SB_SLIP, 30, 1⟩
/-- SB_SLIP.RESTORED (RO). -/
def SB_SLIP_RESTORED : Fld := ⟨.SB_SLIP, 29, 1⟩
/-- SB_SLIP.CORR (RO). -/
def SB_SLIP_CORR : Fld := ⟨.SB_SLIP, 16, 8⟩
/-- SB_SLIP.LEDGER (RO). -/
def SB_SLIP_LEDGER : Fld := ⟨.SB_SLIP, 0, 7⟩
/-- SB_SLIP_CFG.CLR_MAX (WO). -/
def SB_SLIP_CFG_CLR_MAX : Fld := ⟨.SB_SLIP_CFG, 31, 1⟩
/-- SB_SLIP_CFG.CU_INT (RW). -/
def SB_SLIP_CFG_CU_INT : Fld := ⟨.SB_SLIP_CFG, 0, 5⟩
/-- SB_SLIP_MAX.MAX (RO). -/
def SB_SLIP_MAX_MAX : Fld := ⟨.SB_SLIP_MAX, 0, 7⟩
/-- SB_SLIP_STR.PH (RS). -/
def SB_SLIP_STR_PH : Fld := ⟨.SB_SLIP_STR, 0, 32⟩
/-- SB_SLIP_SYM.PH (RS). -/
def SB_SLIP_SYM_PH : Fld := ⟨.SB_SLIP_SYM, 0, 32⟩
/-- SB_SLIP_CU.PH (RS). -/
def SB_SLIP_CU_PH : Fld := ⟨.SB_SLIP_CU, 0, 32⟩
/-- SB_SLIP_WOFF.PH (RS). -/
def SB_SLIP_WOFF_PH : Fld := ⟨.SB_SLIP_WOFF, 0, 32⟩
/-- SB_SLIP_SNAP.LEDGER (RS). -/
def SB_SLIP_SNAP_LEDGER : Fld := ⟨.SB_SLIP_SNAP, 24, 7⟩
/-- SB_SLIP_SNAP.DENIED (RS). -/
def SB_SLIP_SNAP_DENIED : Fld := ⟨.SB_SLIP_SNAP, 0, 24⟩
/-- JCT_CFG.WRITER (RO). -/
def JCT_CFG_WRITER : Fld := ⟨.JCT_CFG, 22, 10⟩
/-- JCT_CFG.READER (RO). -/
def JCT_CFG_READER : Fld := ⟨.JCT_CFG, 12, 10⟩
/-- JCT_CFG.PHASE_WP (RW). -/
def JCT_CFG_PHASE_WP : Fld := ⟨.JCT_CFG, 8, 4⟩
/-- JCT_CFG.PHASE_RP (RW). -/
def JCT_CFG_PHASE_RP : Fld := ⟨.JCT_CFG, 4, 4⟩
/-- JCT_CFG.CLR_MAX (WO). -/
def JCT_CFG_CLR_MAX : Fld := ⟨.JCT_CFG, 2, 1⟩
/-- JCT_CFG.REALIGN (W1S). -/
def JCT_CFG_REALIGN : Fld := ⟨.JCT_CFG, 1, 1⟩
/-- JCT_STAT.PARITY (W1C). -/
def JCT_STAT_PARITY : Fld := ⟨.JCT_STAT, 31, 1⟩
/-- JCT_STAT.FLUSH (W1C). -/
def JCT_STAT_FLUSH : Fld := ⟨.JCT_STAT, 30, 1⟩
/-- JCT_STAT.HELD (W1C). -/
def JCT_STAT_HELD : Fld := ⟨.JCT_STAT, 29, 1⟩
/-- JCT_STAT.STATE (RO). -/
def JCT_STAT_STATE : Fld := ⟨.JCT_STAT, 27, 2⟩
/-- JCT_STAT.EYE (RO). -/
def JCT_STAT_EYE : Fld := ⟨.JCT_STAT, 22, 5⟩
/-- JCT_STAT.OCC (RO). -/
def JCT_STAT_OCC : Fld := ⟨.JCT_STAT, 17, 5⟩
/-- JCT_STAT.OCC_MAX (RO). -/
def JCT_STAT_OCC_MAX : Fld := ⟨.JCT_STAT, 12, 5⟩
/-- JCT_STAT.FLUSHED (RO). -/
def JCT_STAT_FLUSHED : Fld := ⟨.JCT_STAT, 7, 5⟩
/-- JCT_STAT.CAUSE (RO). -/
def JCT_STAT_CAUSE : Fld := ⟨.JCT_STAT, 4, 3⟩
/-- ICH_CFG.WRITER (RO). -/
def ICH_CFG_WRITER : Fld := ⟨.ICH_CFG, 22, 10⟩
/-- ICH_CFG.READER (RO). -/
def ICH_CFG_READER : Fld := ⟨.ICH_CFG, 12, 10⟩
/-- ICH_CFG.CLR_MAX (WO). -/
def ICH_CFG_CLR_MAX : Fld := ⟨.ICH_CFG, 2, 1⟩
/-- ICH_CFG.REALIGN (W1S). -/
def ICH_CFG_REALIGN : Fld := ⟨.ICH_CFG, 1, 1⟩
/-- ICH_STAT.PARITY (W1C). -/
def ICH_STAT_PARITY : Fld := ⟨.ICH_STAT, 31, 1⟩
/-- ICH_STAT.FLUSH (W1C). -/
def ICH_STAT_FLUSH : Fld := ⟨.ICH_STAT, 30, 1⟩
/-- ICH_STAT.HELD (W1C). -/
def ICH_STAT_HELD : Fld := ⟨.ICH_STAT, 29, 1⟩
/-- ICH_STAT.STATE (RO). -/
def ICH_STAT_STATE : Fld := ⟨.ICH_STAT, 27, 2⟩
/-- ICH_STAT.CAUSE (RO). -/
def ICH_STAT_CAUSE : Fld := ⟨.ICH_STAT, 24, 3⟩
/-- ICH_STAT.OCC (RO). -/
def ICH_STAT_OCC : Fld := ⟨.ICH_STAT, 16, 6⟩
/-- ICH_STAT.OCC_MAX (RO). -/
def ICH_STAT_OCC_MAX : Fld := ⟨.ICH_STAT, 8, 6⟩
/-- ICH_STAT.FLUSHED (RO). -/
def ICH_STAT_FLUSHED : Fld := ⟨.ICH_STAT, 0, 6⟩
/-- ICH_HELD.COUNT (RO). -/
def ICH_HELD_COUNT : Fld := ⟨.ICH_HELD, 0, 32⟩
/-- ICH_STARVE.COUNT (RO). -/
def ICH_STARVE_COUNT : Fld := ⟨.ICH_STARVE, 0, 32⟩
/-- JCT_INFO.N_JCT (RO). -/
def JCT_INFO_N_JCT : Fld := ⟨.JCT_INFO, 17, 11⟩
/-- JCT_INFO.N_ICH (RO). -/
def JCT_INFO_N_ICH : Fld := ⟨.JCT_INFO, 9, 8⟩
/-- JCT_INFO.N_TOK (RO). -/
def JCT_INFO_N_TOK : Fld := ⟨.JCT_INFO, 0, 9⟩
/-- JCT_SUMMARY.ANY_PARITY (RO). -/
def JCT_SUMMARY_ANY_PARITY : Fld := ⟨.JCT_SUMMARY, 31, 1⟩
/-- JCT_SUMMARY.ANY_FLUSH (RO). -/
def JCT_SUMMARY_ANY_FLUSH : Fld := ⟨.JCT_SUMMARY, 30, 1⟩
/-- JCT_SUMMARY.ANY_HELD (RO). -/
def JCT_SUMMARY_ANY_HELD : Fld := ⟨.JCT_SUMMARY, 29, 1⟩
/-- JCT_TOK_CNT.SAT (RO). -/
def JCT_TOK_CNT_SAT : Fld := ⟨.JCT_TOK_CNT, 16, 16⟩
/-- JCT_TOK_CNT.FLUSHES (RO). -/
def JCT_TOK_CNT_FLUSHES : Fld := ⟨.JCT_TOK_CNT, 0, 16⟩
/-- CAL_CTRL.LANES (RW). -/
def CAL_CTRL_LANES : Fld := ⟨.CAL_CTRL, 5, 3⟩
/-- CAL_CTRL.RESTART (W1S). -/
def CAL_CTRL_RESTART : Fld := ⟨.CAL_CTRL, 3, 1⟩
/-- CAL_CTRL.FORCE (W1S). -/
def CAL_CTRL_FORCE : Fld := ⟨.CAL_CTRL, 2, 1⟩
/-- CAL_CTRL.REFINE_EN (RW). -/
def CAL_CTRL_REFINE_EN : Fld := ⟨.CAL_CTRL, 0, 1⟩
/-- CAL_STATUS.PHASE (RO). -/
def CAL_STATUS_PHASE : Fld := ⟨.CAL_STATUS, 29, 3⟩
/-- CAL_STATUS.SAVING (RO). -/
def CAL_STATUS_SAVING : Fld := ⟨.CAL_STATUS, 28, 1⟩
/-- CAL_STATUS.FLAG_SEEN (W1C). -/
def CAL_STATUS_FLAG_SEEN : Fld := ⟨.CAL_STATUS, 27, 1⟩
/-- CAL_STATUS.PENDING (RO). -/
def CAL_STATUS_PENDING : Fld := ⟨.CAL_STATUS, 11, 11⟩
/-- CAL_STATUS.FLAGGED (RO). -/
def CAL_STATUS_FLAGGED : Fld := ⟨.CAL_STATUS, 0, 11⟩
/-- CAL_CFG.SETTLE (RW). -/
def CAL_CFG_SETTLE : Fld := ⟨.CAL_CFG, 24, 4⟩
/-- CAL_CFG.MAX_PAUSE (RW). -/
def CAL_CFG_MAX_PAUSE : Fld := ⟨.CAL_CFG, 20, 4⟩
/-- CAL_CFG.EYE_MIN (RW). -/
def CAL_CFG_EYE_MIN : Fld := ⟨.CAL_CFG, 15, 5⟩
/-- CAL_CFG.V_WIN (RW). -/
def CAL_CFG_V_WIN : Fld := ⟨.CAL_CFG, 10, 5⟩
/-- CAL_CFG.MIN_IDLE (RW). -/
def CAL_CFG_MIN_IDLE : Fld := ⟨.CAL_CFG, 0, 8⟩
/-- CAL_LEARN.MU (RW). -/
def CAL_LEARN_MU : Fld := ⟨.CAL_LEARN, 8, 4⟩
/-- CAL_LEARN.COUNT (RW). -/
def CAL_LEARN_COUNT : Fld := ⟨.CAL_LEARN, 0, 8⟩
/-- CAL_TIME.REFINE_MS (RO). -/
def CAL_TIME_REFINE_MS : Fld := ⟨.CAL_TIME, 16, 16⟩
/-- CAL_TIME.READY_US (RO). -/
def CAL_TIME_READY_US : Fld := ⟨.CAL_TIME, 0, 16⟩
/-- CAL_IMG_ADDR_LO.ADDR (RW). -/
def CAL_IMG_ADDR_LO_ADDR : Fld := ⟨.CAL_IMG_ADDR_LO, 8, 24⟩
/-- CAL_IMG_ADDR_HI.ADDR (RW). -/
def CAL_IMG_ADDR_HI_ADDR : Fld := ⟨.CAL_IMG_ADDR_HI, 0, 8⟩
/-- CAL_IMG_GEN_LO.GEN (RW). -/
def CAL_IMG_GEN_LO_GEN : Fld := ⟨.CAL_IMG_GEN_LO, 0, 32⟩
/-- CAL_IMG_GEN_HI.GEN (RW). -/
def CAL_IMG_GEN_HI_GEN : Fld := ⟨.CAL_IMG_GEN_HI, 0, 32⟩
/-- CAL_IMG_MIN_LO.MIN (RW). -/
def CAL_IMG_MIN_LO_MIN : Fld := ⟨.CAL_IMG_MIN_LO, 0, 32⟩
/-- CAL_IMG_MIN_HI.MIN (RW). -/
def CAL_IMG_MIN_HI_MIN : Fld := ⟨.CAL_IMG_MIN_HI, 0, 32⟩
/-- CAL_IMG_CTRL.RESTORE (W1S). -/
def CAL_IMG_CTRL_RESTORE : Fld := ⟨.CAL_IMG_CTRL, 1, 1⟩
/-- CAL_IMG_CTRL.SAVE (W1S). -/
def CAL_IMG_CTRL_SAVE : Fld := ⟨.CAL_IMG_CTRL, 0, 1⟩
/-- CAL_IMG_SEQ.NOT_READY (RS). -/
def CAL_IMG_SEQ_NOT_READY : Fld := ⟨.CAL_IMG_SEQ, 31, 1⟩
/-- CAL_IMG_SEQ.SEQ (RS). -/
def CAL_IMG_SEQ_SEQ : Fld := ⟨.CAL_IMG_SEQ, 0, 31⟩
/-- CAL_IMG_RESULT.OP (RS). -/
def CAL_IMG_RESULT_OP : Fld := ⟨.CAL_IMG_RESULT, 30, 2⟩
/-- CAL_IMG_RESULT.FAILED (RS). -/
def CAL_IMG_RESULT_FAILED : Fld := ⟨.CAL_IMG_RESULT, 29, 1⟩
/-- CAL_IMG_RESULT.REASON (RS). -/
def CAL_IMG_RESULT_REASON : Fld := ⟨.CAL_IMG_RESULT, 20, 4⟩
/-- CAL_IMG_RESULT.TILE (RS). -/
def CAL_IMG_RESULT_TILE : Fld := ⟨.CAL_IMG_RESULT, 0, 11⟩
/-- CAL_IMG_DONE_LO.GEN (RS). -/
def CAL_IMG_DONE_LO_GEN : Fld := ⟨.CAL_IMG_DONE_LO, 0, 32⟩
/-- CAL_IMG_DONE_HI.GEN (RS). -/
def CAL_IMG_DONE_HI_GEN : Fld := ⟨.CAL_IMG_DONE_HI, 0, 32⟩
/-- CAL_BUILD_SIG.SIG (RO). -/
def CAL_BUILD_SIG_SIG : Fld := ⟨.CAL_BUILD_SIG, 0, 32⟩
/-- SB_CAL_CTRL.REDO_EYE (W1S). -/
def SB_CAL_CTRL_REDO_EYE : Fld := ⟨.SB_CAL_CTRL, 3, 1⟩
/-- SB_CAL_CTRL.REDO_TRIM (W1S). -/
def SB_CAL_CTRL_REDO_TRIM : Fld := ⟨.SB_CAL_CTRL, 2, 1⟩
/-- SB_CAL_CTRL.REDO_DESKEW (W1S). -/
def SB_CAL_CTRL_REDO_DESKEW : Fld := ⟨.SB_CAL_CTRL, 1, 1⟩
/-- SB_CAL_CTRL.HOLD (RW). -/
def SB_CAL_CTRL_HOLD : Fld := ⟨.SB_CAL_CTRL, 0, 1⟩
/-- SB_CAL_STAT.FLAG (W1C). -/
def SB_CAL_STAT_FLAG : Fld := ⟨.SB_CAL_STAT, 31, 1⟩
/-- SB_CAL_STAT.PENDING (RO). -/
def SB_CAL_STAT_PENDING : Fld := ⟨.SB_CAL_STAT, 8, 3⟩
/-- SB_CAL_STAT.PROFILE (RO). -/
def SB_CAL_STAT_PROFILE : Fld := ⟨.SB_CAL_STAT, 6, 2⟩
/-- SB_CAL_STAT.EYE (RO). -/
def SB_CAL_STAT_EYE : Fld := ⟨.SB_CAL_STAT, 4, 2⟩
/-- SB_CAL_STAT.TRIM (RO). -/
def SB_CAL_STAT_TRIM : Fld := ⟨.SB_CAL_STAT, 2, 2⟩
/-- SB_CAL_STAT.DESKEW (RO). -/
def SB_CAL_STAT_DESKEW : Fld := ⟨.SB_CAL_STAT, 0, 2⟩
/-- SB_CAL_QUAL.SKEW_DIST (RO). -/
def SB_CAL_QUAL_SKEW_DIST : Fld := ⟨.SB_CAL_QUAL, 31, 1⟩
/-- SB_CAL_QUAL.TRIM_DIST (RO). -/
def SB_CAL_QUAL_TRIM_DIST : Fld := ⟨.SB_CAL_QUAL, 30, 1⟩
/-- SB_CAL_QUAL.EYE_DIST (RO). -/
def SB_CAL_QUAL_EYE_DIST : Fld := ⟨.SB_CAL_QUAL, 29, 1⟩
/-- SB_CAL_QUAL.EYE_MIN (RO). -/
def SB_CAL_QUAL_EYE_MIN : Fld := ⟨.SB_CAL_QUAL, 16, 5⟩
/-- SB_CAL_QUAL.TC_ERR (RO). -/
def SB_CAL_QUAL_TC_ERR : Fld := ⟨.SB_CAL_QUAL, 8, 3⟩
/-- SB_CAL_QUAL.SKEW_PS (RO). -/
def SB_CAL_QUAL_SKEW_PS : Fld := ⟨.SB_CAL_QUAL, 0, 8⟩
/-- SB_CAL_CNT.RETRIES (RO). -/
def SB_CAL_CNT_RETRIES : Fld := ⟨.SB_CAL_CNT, 24, 8⟩
/-- SB_CAL_CNT.SPOT_FAIL (RO). -/
def SB_CAL_CNT_SPOT_FAIL : Fld := ⟨.SB_CAL_CNT, 16, 8⟩
/-- SB_CAL_CNT.DISTURBED (RO). -/
def SB_CAL_CNT_DISTURBED : Fld := ⟨.SB_CAL_CNT, 0, 16⟩
/-- SB_CAL_FW.FW_TRIM (RO). -/
def SB_CAL_FW_FW_TRIM : Fld := ⟨.SB_CAL_FW, 0, 18⟩
/-- DSP_CTRL.SCRUB_EN (RW). -/
def DSP_CTRL_SCRUB_EN : Fld := ⟨.DSP_CTRL, 2, 1⟩
/-- DSP_CTRL.LOAD_RES (W1S). -/
def DSP_CTRL_LOAD_RES : Fld := ⟨.DSP_CTRL, 1, 1⟩
/-- DSP_CTRL.PAGE_EN (RW). -/
def DSP_CTRL_PAGE_EN : Fld := ⟨.DSP_CTRL, 0, 1⟩
/-- DSP_STATUS.READY (RO). -/
def DSP_STATUS_READY : Fld := ⟨.DSP_STATUS, 31, 1⟩
/-- DSP_STATUS.LOADING (RO). -/
def DSP_STATUS_LOADING : Fld := ⟨.DSP_STATUS, 30, 1⟩
/-- DSP_STATUS.LOAD_ERR (W1C). -/
def DSP_STATUS_LOAD_ERR : Fld := ⟨.DSP_STATUS, 29, 1⟩
/-- DSP_STATUS.DMEM_ERR (W1C). -/
def DSP_STATUS_DMEM_ERR : Fld := ⟨.DSP_STATUS, 28, 1⟩
/-- DSP_STATUS.SCRUB_ERR (W1C). -/
def DSP_STATUS_SCRUB_ERR : Fld := ⟨.DSP_STATUS, 27, 1⟩
/-- DSP_STATUS.TMR_CORR (RO). -/
def DSP_STATUS_TMR_CORR : Fld := ⟨.DSP_STATUS, 16, 8⟩
/-- DSP_IMG_LO.ADDR (RW). -/
def DSP_IMG_LO_ADDR : Fld := ⟨.DSP_IMG_LO, 12, 20⟩
/-- DSP_IMG_HI.ADDR (RW). -/
def DSP_IMG_HI_ADDR : Fld := ⟨.DSP_IMG_HI, 0, 8⟩
/-- DSP_IMG_SIZE.PAGES (RW). -/
def DSP_IMG_SIZE_PAGES : Fld := ⟨.DSP_IMG_SIZE, 0, 13⟩
/-- DSP_TILE_OK.VALID (RO). -/
def DSP_TILE_OK_VALID : Fld := ⟨.DSP_TILE_OK, 0, 32⟩
/-- DSP_FRAME.VALID (RO). -/
def DSP_FRAME_VALID : Fld := ⟨.DSP_FRAME, 31, 1⟩
/-- DSP_FRAME.PIN (RW). -/
def DSP_FRAME_PIN : Fld := ⟨.DSP_FRAME, 30, 1⟩
/-- DSP_FRAME.FILLING (RO). -/
def DSP_FRAME_FILLING : Fld := ⟨.DSP_FRAME, 29, 1⟩
/-- DSP_FRAME.LAST_DESK (RO). -/
def DSP_FRAME_LAST_DESK : Fld := ⟨.DSP_FRAME, 20, 2⟩
/-- DSP_FRAME.PAGE (RO). -/
def DSP_FRAME_PAGE : Fld := ⟨.DSP_FRAME, 0, 12⟩
/-- DSP_PAGE_CNT.REFETCH (RO). -/
def DSP_PAGE_CNT_REFETCH : Fld := ⟨.DSP_PAGE_CNT, 16, 16⟩
/-- DSP_PAGE_CNT.MISSES (RO). -/
def DSP_PAGE_CNT_MISSES : Fld := ⟨.DSP_PAGE_CNT, 0, 16⟩
/-- DSP_SEM_HELD.HELD (W1C). -/
def DSP_SEM_HELD_HELD : Fld := ⟨.DSP_SEM_HELD, 0, 16⟩
/-- DSP_SEM_OWNER.OWNER (RO). -/
def DSP_SEM_OWNER_OWNER : Fld := ⟨.DSP_SEM_OWNER, 0, 32⟩
/-- DSP_DMEM_ADDR.WORD (RW). -/
def DSP_DMEM_ADDR_WORD : Fld := ⟨.DSP_DMEM_ADDR, 2, 12⟩
/-- DSP_DMEM_DATA.DATA (RW). -/
def DSP_DMEM_DATA_DATA : Fld := ⟨.DSP_DMEM_DATA, 0, 32⟩
/-- DSP_DESK_CTRL.STEP (W1S). -/
def DSP_DESK_CTRL_STEP : Fld := ⟨.DSP_DESK_CTRL, 2, 1⟩
/-- DSP_DESK_CTRL.STOP (W1S). -/
def DSP_DESK_CTRL_STOP : Fld := ⟨.DSP_DESK_CTRL, 1, 1⟩
/-- DSP_DESK_CTRL.START (W1S). -/
def DSP_DESK_CTRL_START : Fld := ⟨.DSP_DESK_CTRL, 0, 1⟩
/-- DSP_DESK_STATUS.STATE (RO). -/
def DSP_DESK_STATUS_STATE : Fld := ⟨.DSP_DESK_STATUS, 29, 3⟩
/-- DSP_DESK_STATUS.LATE (W1C). -/
def DSP_DESK_STATUS_LATE : Fld := ⟨.DSP_DESK_STATUS, 28, 1⟩
/-- DSP_DESK_STATUS.CAUSE (RO). -/
def DSP_DESK_STATUS_CAUSE : Fld := ⟨.DSP_DESK_STATUS, 20, 4⟩
/-- DSP_DESK_STATUS.DEPTH (RO). -/
def DSP_DESK_STATUS_DEPTH : Fld := ⟨.DSP_DESK_STATUS, 16, 4⟩
/-- DSP_DESK_STATUS.PENDING (RO). -/
def DSP_DESK_STATUS_PENDING : Fld := ⟨.DSP_DESK_STATUS, 0, 7⟩
/-- DSP_DESK_PC.PC (RW). -/
def DSP_DESK_PC_PC : Fld := ⟨.DSP_DESK_PC, 0, 21⟩
/-- DSP_DESK_ISSUED.COUNT (RO). -/
def DSP_DESK_ISSUED_COUNT : Fld := ⟨.DSP_DESK_ISSUED, 0, 32⟩
/-- DSP_DESK_STALL.TK (RO). -/
def DSP_DESK_STALL_TK : Fld := ⟨.DSP_DESK_STALL, 0, 32⟩
/-- DSP_DESK_LATECNT.DISCARDED (RO). -/
def DSP_DESK_LATECNT_DISCARDED : Fld := ⟨.DSP_DESK_LATECNT, 16, 16⟩
/-- DSP_DESK_LATECNT.LATE (RO). -/
def DSP_DESK_LATECNT_LATE : Fld := ⟨.DSP_DESK_LATECNT, 0, 16⟩
/-- DSP_G.VALUE (RW). -/
def DSP_G_VALUE : Fld := ⟨.DSP_G, 0, 32⟩
/-- DSP_T_LO.VALUE (RW). -/
def DSP_T_LO_VALUE : Fld := ⟨.DSP_T_LO, 0, 32⟩
/-- DSP_T_HI.VALUE (RW). -/
def DSP_T_HI_VALUE : Fld := ⟨.DSP_T_HI, 0, 32⟩
/-- DSP_STACK.RET (RW). -/
def DSP_STACK_RET : Fld := ⟨.DSP_STACK, 0, 21⟩
/-- SEC_SLOT.ACTIVE (RO). -/
def SEC_SLOT_ACTIVE : Fld := ⟨.SEC_SLOT, 31, 1⟩
/-- SEC_SLOT.LEN (RW). -/
def SEC_SLOT_LEN : Fld := ⟨.SEC_SLOT, 0, 20⟩
/-- SEC_SLOT_LEFT.LEFT (RO). -/
def SEC_SLOT_LEFT_LEFT : Fld := ⟨.SEC_SLOT_LEFT, 0, 20⟩
/-- DSP_DESK_WHISTLE.SHORT (RO). -/
def DSP_DESK_WHISTLE_SHORT : Fld := ⟨.DSP_DESK_WHISTLE, 16, 16⟩
/-- DSP_DESK_WHISTLE.ISSUED (RO). -/
def DSP_DESK_WHISTLE_ISSUED : Fld := ⟨.DSP_DESK_WHISTLE, 0, 16⟩
/-- GOV_CTRL.PMB_RATE (RW). -/
def GOV_CTRL_PMB_RATE : Fld := ⟨.GOV_CTRL, 4, 2⟩
/-- GOV_CTRL.LH_EN (RW). -/
def GOV_CTRL_LH_EN : Fld := ⟨.GOV_CTRL, 3, 1⟩
/-- GOV_CTRL.MARGIN_EN (RW). -/
def GOV_CTRL_MARGIN_EN : Fld := ⟨.GOV_CTRL, 2, 1⟩
/-- GOV_CTRL.PMB_EN (RW). -/
def GOV_CTRL_PMB_EN : Fld := ⟨.GOV_CTRL, 1, 1⟩
/-- GOV_CTRL.EN (RW). -/
def GOV_CTRL_EN : Fld := ⟨.GOV_CTRL, 0, 1⟩
/-- GOV_ENV.RESERVE (RW). -/
def GOV_ENV_RESERVE : Fld := ⟨.GOV_ENV, 16, 16⟩
/-- GOV_ENV.BUDGET (RW). -/
def GOV_ENV_BUDGET : Fld := ⟨.GOV_ENV, 0, 16⟩
/-- GOV_ENV_STATUS.L (RO). -/
def GOV_ENV_STATUS_L : Fld := ⟨.GOV_ENV_STATUS, 16, 16⟩
/-- GOV_ENV_STATUS.IN_FORCE (RO). -/
def GOV_ENV_STATUS_IN_FORCE : Fld := ⟨.GOV_ENV_STATUS, 0, 16⟩
/-- GOV_CFG.VSETTLE (RW). -/
def GOV_CFG_VSETTLE : Fld := ⟨.GOV_CFG, 28, 4⟩
/-- GOV_CFG.VTOL (RW). -/
def GOV_CFG_VTOL : Fld := ⟨.GOV_CFG, 24, 4⟩
/-- GOV_CFG.HORIZON (RW). -/
def GOV_CFG_HORIZON : Fld := ⟨.GOV_CFG, 16, 8⟩
/-- GOV_CFG.HYST (RW). -/
def GOV_CFG_HYST : Fld := ⟨.GOV_CFG, 8, 8⟩
/-- GOV_CFG.SLEW (RW). -/
def GOV_CFG_SLEW : Fld := ⟨.GOV_CFG, 0, 8⟩
/-- GOV_LIMITS.VHOLD (RW). -/
def GOV_LIMITS_VHOLD : Fld := ⟨.GOV_LIMITS, 24, 8⟩
/-- GOV_LIMITS.FW_FLOOR (RW). -/
def GOV_LIMITS_FW_FLOOR : Fld := ⟨.GOV_LIMITS, 0, 18⟩
/-- GOV_MARGIN.RETRY (RW). -/
def GOV_MARGIN_RETRY : Fld := ⟨.GOV_MARGIN, 24, 8⟩
/-- GOV_MARGIN.WINS (RW). -/
def GOV_MARGIN_WINS : Fld := ⟨.GOV_MARGIN, 16, 4⟩
/-- GOV_MARGIN.ACT (RW). -/
def GOV_MARGIN_ACT : Fld := ⟨.GOV_MARGIN, 0, 8⟩
/-- GOV_STATUS.OVER (RO). -/
def GOV_STATUS_OVER : Fld := ⟨.GOV_STATUS, 31, 1⟩
/-- GOV_STATUS.SLEW_LIM (RO). -/
def GOV_STATUS_SLEW_LIM : Fld := ⟨.GOV_STATUS, 30, 1⟩
/-- GOV_STATUS.AT_FLOOR (RO). -/
def GOV_STATUS_AT_FLOOR : Fld := ⟨.GOV_STATUS, 29, 1⟩
/-- GOV_STATUS.FW_HELD (RO). -/
def GOV_STATUS_FW_HELD : Fld := ⟨.GOV_STATUS, 28, 1⟩
/-- GOV_STATUS.OVER_SEEN (W1C). -/
def GOV_STATUS_OVER_SEEN : Fld := ⟨.GOV_STATUS, 27, 1⟩
/-- GOV_STATUS.PENDING (RO). -/
def GOV_STATUS_PENDING : Fld := ⟨.GOV_STATUS, 16, 6⟩
/-- GOV_STATUS.LATE (RO). -/
def GOV_STATUS_LATE : Fld := ⟨.GOV_STATUS, 0, 16⟩
/-- GOV_POWER.P_F (RO). -/
def GOV_POWER_P_F : Fld := ⟨.GOV_POWER, 16, 16⟩
/-- GOV_POWER.P_NOW (RO). -/
def GOV_POWER_P_NOW : Fld := ⟨.GOV_POWER, 0, 16⟩
/-- GOV_VF.FW_MAX (RW). -/
def GOV_VF_FW_MAX : Fld := ⟨.GOV_VF, 14, 18⟩
/-- GOV_VF.MV (RW). -/
def GOV_VF_MV : Fld := ⟨.GOV_VF, 0, 10⟩
/-- GOV_LH_CFG.WIDTH (RW). -/
def GOV_LH_CFG_WIDTH : Fld := ⟨.GOV_LH_CFG, 16, 8⟩
/-- GOV_LH_CFG.ADV (RW). -/
def GOV_LH_CFG_ADV : Fld := ⟨.GOV_LH_CFG, 0, 12⟩
/-- GOV_PMB_REQ.GO (W1S). -/
def GOV_PMB_REQ_GO : Fld := ⟨.GOV_PMB_REQ, 31, 1⟩
/-- GOV_PMB_REQ.TYPE (RW). -/
def GOV_PMB_REQ_TYPE : Fld := ⟨.GOV_PMB_REQ, 28, 3⟩
/-- GOV_PMB_REQ.RAIL (RW). -/
def GOV_PMB_REQ_RAIL : Fld := ⟨.GOV_PMB_REQ, 24, 4⟩
/-- GOV_PMB_REQ.CMD (RW). -/
def GOV_PMB_REQ_CMD : Fld := ⟨.GOV_PMB_REQ, 16, 8⟩
/-- GOV_PMB_REQ.DATA (RW). -/
def GOV_PMB_REQ_DATA : Fld := ⟨.GOV_PMB_REQ, 0, 16⟩
/-- GOV_PMB_RES.NOT_READY (RS). -/
def GOV_PMB_RES_NOT_READY : Fld := ⟨.GOV_PMB_RES, 31, 1⟩
/-- GOV_PMB_RES.SEQ (RS). -/
def GOV_PMB_RES_SEQ : Fld := ⟨.GOV_PMB_RES, 24, 7⟩
/-- GOV_PMB_RES.ERR (RS). -/
def GOV_PMB_RES_ERR : Fld := ⟨.GOV_PMB_RES, 22, 2⟩
/-- GOV_PMB_RES.DATA (RS). -/
def GOV_PMB_RES_DATA : Fld := ⟨.GOV_PMB_RES, 0, 16⟩
/-- GOV_PRIO.PRIO (RW). -/
def GOV_PRIO_PRIO : Fld := ⟨.GOV_PRIO, 0, 32⟩
/-- GOV_RAIL_CFG.TELEM (RW). -/
def GOV_RAIL_CFG_TELEM : Fld := ⟨.GOV_RAIL_CFG, 31, 1⟩
/-- GOV_RAIL_CFG.PEC (RW). -/
def GOV_RAIL_CFG_PEC : Fld := ⟨.GOV_RAIL_CFG, 30, 1⟩
/-- GOV_RAIL_CFG.PAGE_EN (RW). -/
def GOV_RAIL_CFG_PAGE_EN : Fld := ⟨.GOV_RAIL_CFG, 29, 1⟩
/-- GOV_RAIL_CFG.PAGE (RW). -/
def GOV_RAIL_CFG_PAGE : Fld := ⟨.GOV_RAIL_CFG, 16, 8⟩
/-- GOV_RAIL_CFG.OFFSET (RW). -/
def GOV_RAIL_CFG_OFFSET : Fld := ⟨.GOV_RAIL_CFG, 8, 8⟩
/-- GOV_RAIL_CFG.ADDR (RW). -/
def GOV_RAIL_CFG_ADDR : Fld := ⟨.GOV_RAIL_CFG, 0, 7⟩
/-- GOV_RAIL_V.VMAX (RW). -/
def GOV_RAIL_V_VMAX : Fld := ⟨.GOV_RAIL_V, 16, 10⟩
/-- GOV_RAIL_V.VMIN (RW). -/
def GOV_RAIL_V_VMIN : Fld := ⟨.GOV_RAIL_V, 0, 10⟩
/-- GOV_RAIL_STAT.TELEM_FAIL (RO). -/
def GOV_RAIL_STAT_TELEM_FAIL : Fld := ⟨.GOV_RAIL_STAT, 31, 1⟩
/-- GOV_RAIL_STAT.MODE_ERR (RO). -/
def GOV_RAIL_STAT_MODE_ERR : Fld := ⟨.GOV_RAIL_STAT, 30, 1⟩
/-- GOV_RAIL_STAT.ALERT_STUCK (W1C). -/
def GOV_RAIL_STAT_ALERT_STUCK : Fld := ⟨.GOV_RAIL_STAT, 29, 1⟩
/-- GOV_RAIL_STAT.ALERT_SEEN (W1C). -/
def GOV_RAIL_STAT_ALERT_SEEN : Fld := ⟨.GOV_RAIL_STAT, 28, 1⟩
/-- GOV_RAIL_STAT.RAISING (RO). -/
def GOV_RAIL_STAT_RAISING : Fld := ⟨.GOV_RAIL_STAT, 27, 1⟩
/-- GOV_RAIL_STAT.VCONF (RO). -/
def GOV_RAIL_STAT_VCONF : Fld := ⟨.GOV_RAIL_STAT, 16, 10⟩
/-- GOV_RAIL_STAT.VCMD (RO). -/
def GOV_RAIL_STAT_VCMD : Fld := ⟨.GOV_RAIL_STAT, 0, 10⟩
/-- GOV_RAIL_TEL.IOUT (RO). -/
def GOV_RAIL_TEL_IOUT : Fld := ⟨.GOV_RAIL_TEL, 16, 16⟩
/-- GOV_RAIL_TEL.VOUT (RO). -/
def GOV_RAIL_TEL_VOUT : Fld := ⟨.GOV_RAIL_TEL, 0, 10⟩
/-- GOV_RAIL_SW.ALERTS (RO). -/
def GOV_RAIL_SW_ALERTS : Fld := ⟨.GOV_RAIL_SW, 24, 8⟩
/-- GOV_RAIL_SW.STATUS_WORD (RO). -/
def GOV_RAIL_SW_STATUS_WORD : Fld := ⟨.GOV_RAIL_SW, 0, 16⟩
/-- GOV_SEC_STAT.EXCLUDED (RO). -/
def GOV_SEC_STAT_EXCLUDED : Fld := ⟨.GOV_SEC_STAT, 31, 1⟩
/-- GOV_SEC_STAT.HELD_V (RO). -/
def GOV_SEC_STAT_HELD_V : Fld := ⟨.GOV_SEC_STAT, 30, 1⟩
/-- GOV_SEC_STAT.FW_GOV (RO). -/
def GOV_SEC_STAT_FW_GOV : Fld := ⟨.GOV_SEC_STAT, 10, 18⟩
/-- GOV_SEC_STAT.DROP_M (RO). -/
def GOV_SEC_STAT_DROP_M : Fld := ⟨.GOV_SEC_STAT, 5, 5⟩
/-- GOV_SEC_STAT.DROP_E (RO). -/
def GOV_SEC_STAT_DROP_E : Fld := ⟨.GOV_SEC_STAT, 0, 5⟩
/-- MTR_CTRL.RECON_EN (RW). -/
def MTR_CTRL_RECON_EN : Fld := ⟨.MTR_CTRL, 0, 1⟩
/-- MTR_STATUS.CLAMP_SEEN (W1C). -/
def MTR_STATUS_CLAMP_SEEN : Fld := ⟨.MTR_STATUS, 31, 1⟩
/-- MTR_STATUS.UNRECON (RO). -/
def MTR_STATUS_UNRECON : Fld := ⟨.MTR_STATUS, 0, 16⟩
/-- MTR_STEP_SEQ.NOT_READY (RS). -/
def MTR_STEP_SEQ_NOT_READY : Fld := ⟨.MTR_STEP_SEQ, 31, 1⟩
/-- MTR_STEP_SEQ.SEQ (RS). -/
def MTR_STEP_SEQ_SEQ : Fld := ⟨.MTR_STEP_SEQ, 0, 31⟩
/-- MTR_STEP_E_LO.NJ (RS). -/
def MTR_STEP_E_LO_NJ : Fld := ⟨.MTR_STEP_E_LO, 0, 32⟩
/-- MTR_STEP_E_HI.NJ (RS). -/
def MTR_STEP_E_HI_NJ : Fld := ⟨.MTR_STEP_E_HI, 0, 32⟩
/-- MTR_STEP_TOK.TOKENS (RS). -/
def MTR_STEP_TOK_TOKENS : Fld := ⟨.MTR_STEP_TOK, 0, 32⟩
/-- MTR_STEP_TK_LO.TK (RS). -/
def MTR_STEP_TK_LO_TK : Fld := ⟨.MTR_STEP_TK_LO, 0, 32⟩
/-- MTR_STEP_TK_HI.TK (RS). -/
def MTR_STEP_TK_HI_TK : Fld := ⟨.MTR_STEP_TK_HI, 0, 32⟩
/-- MTR_JPT.JPT (RS). -/
def MTR_JPT_JPT : Fld := ⟨.MTR_JPT, 0, 32⟩
/-- MTR_RAIL_K.K (RO). -/
def MTR_RAIL_K_K : Fld := ⟨.MTR_RAIL_K, 0, 18⟩
/-- MTR_PHASE_LO.NJ (RS). -/
def MTR_PHASE_LO_NJ : Fld := ⟨.MTR_PHASE_LO, 0, 32⟩
/-- MTR_PHASE_HI.NJ (RS). -/
def MTR_PHASE_HI_NJ : Fld := ⟨.MTR_PHASE_HI, 0, 32⟩
/-- MTR_SEQ.NOT_READY (RS). -/
def MTR_SEQ_NOT_READY : Fld := ⟨.MTR_SEQ, 31, 1⟩
/-- MTR_SEQ.SEQ (RS). -/
def MTR_SEQ_SEQ : Fld := ⟨.MTR_SEQ, 0, 31⟩
/-- MTR_E_LO.NJ (RS). -/
def MTR_E_LO_NJ : Fld := ⟨.MTR_E_LO, 0, 32⟩
/-- MTR_E_HI.NJ (RS). -/
def MTR_E_HI_NJ : Fld := ⟨.MTR_E_HI, 0, 32⟩
/-- MTR_STEP_LO.NJ (RS). -/
def MTR_STEP_LO_NJ : Fld := ⟨.MTR_STEP_LO, 0, 32⟩
/-- MTR_STEP_HI.NJ (RS). -/
def MTR_STEP_HI_NJ : Fld := ⟨.MTR_STEP_HI, 0, 32⟩
/-- EVT_CTRL.RECOVER (W1S). -/
def EVT_CTRL_RECOVER : Fld := ⟨.EVT_CTRL, 2, 1⟩
/-- EVT_CTRL.MODE (RW). -/
def EVT_CTRL_MODE : Fld := ⟨.EVT_CTRL, 1, 1⟩
/-- EVT_CTRL.EN (RW). -/
def EVT_CTRL_EN : Fld := ⟨.EVT_CTRL, 0, 1⟩
/-- EVT_STATUS.READY (RO). -/
def EVT_STATUS_READY : Fld := ⟨.EVT_STATUS, 31, 1⟩
/-- EVT_STATUS.DISCARDING (RO). -/
def EVT_STATUS_DISCARDING : Fld := ⟨.EVT_STATUS, 30, 1⟩
/-- EVT_STATUS.RING_FULL (RO). -/
def EVT_STATUS_RING_FULL : Fld := ⟨.EVT_STATUS, 29, 1⟩
/-- EVT_STATUS.SPILL_ERR (W1C). -/
def EVT_STATUS_SPILL_ERR : Fld := ⟨.EVT_STATUS, 28, 1⟩
/-- EVT_STATUS.RING_ERR (W1C). -/
def EVT_STATUS_RING_ERR : Fld := ⟨.EVT_STATUS, 27, 1⟩
/-- EVT_STATUS.GAP_SEEN (W1C). -/
def EVT_STATUS_GAP_SEEN : Fld := ⟨.EVT_STATUS, 26, 1⟩
/-- EVT_STATUS.UNCORR_SEEN (W1C). -/
def EVT_STATUS_UNCORR_SEEN : Fld := ⟨.EVT_STATUS, 25, 1⟩
/-- EVT_STATUS.CORR (RO). -/
def EVT_STATUS_CORR : Fld := ⟨.EVT_STATUS, 0, 16⟩
/-- EVT_WIDX.INDEX (RO). -/
def EVT_WIDX_INDEX : Fld := ⟨.EVT_WIDX, 0, 32⟩
/-- EVT_RIDX.INDEX (RW). -/
def EVT_RIDX_INDEX : Fld := ⟨.EVT_RIDX, 0, 32⟩
/-- EVT_PEND.CLASS (W1C). -/
def EVT_PEND_CLASS : Fld := ⟨.EVT_PEND, 0, 16⟩
/-- EVT_LOST.COUNT (RO). -/
def EVT_LOST_COUNT : Fld := ⟨.EVT_LOST, 0, 32⟩
/-- EVT_SRC_LOST.COUNT (RO). -/
def EVT_SRC_LOST_COUNT : Fld := ⟨.EVT_SRC_LOST, 0, 32⟩
/-- EVT_SPILL_CFG.TIMEOUT (RW). -/
def EVT_SPILL_CFG_TIMEOUT : Fld := ⟨.EVT_SPILL_CFG, 24, 8⟩
/-- EVT_SPILL_CFG.BATCH (RW). -/
def EVT_SPILL_CFG_BATCH : Fld := ⟨.EVT_SPILL_CFG, 16, 5⟩
/-- EVT_SPILL_CFG.DOORBELL_EN (RW). -/
def EVT_SPILL_CFG_DOORBELL_EN : Fld := ⟨.EVT_SPILL_CFG, 8, 1⟩
/-- EVT_SPILL_CFG.LOG2 (RW). -/
def EVT_SPILL_CFG_LOG2 : Fld := ⟨.EVT_SPILL_CFG, 0, 5⟩
/-- EVT_RING_BASE_LO.ADDR (RW). -/
def EVT_RING_BASE_LO_ADDR : Fld := ⟨.EVT_RING_BASE_LO, 12, 20⟩
/-- EVT_RING_BASE_HI.ADDR (RW). -/
def EVT_RING_BASE_HI_ADDR : Fld := ⟨.EVT_RING_BASE_HI, 0, 8⟩
/-- EVT_RING_CON_LO.ADDR (RW). -/
def EVT_RING_CON_LO_ADDR : Fld := ⟨.EVT_RING_CON_LO, 2, 30⟩
/-- EVT_RING_CON_HI.ADDR (RW). -/
def EVT_RING_CON_HI_ADDR : Fld := ⟨.EVT_RING_CON_HI, 0, 8⟩
/-- EVT_RING_PTR_LO.ADDR (RW). -/
def EVT_RING_PTR_LO_ADDR : Fld := ⟨.EVT_RING_PTR_LO, 2, 30⟩
/-- EVT_RING_PTR_HI.ADDR (RW). -/
def EVT_RING_PTR_HI_ADDR : Fld := ⟨.EVT_RING_PTR_HI, 0, 8⟩
/-- EVT_RING_WR.INDEX (RO). -/
def EVT_RING_WR_INDEX : Fld := ⟨.EVT_RING_WR, 0, 32⟩
/-- EVT_RING_CONV.INDEX (RO). -/
def EVT_RING_CONV_INDEX : Fld := ⟨.EVT_RING_CONV, 0, 32⟩
/-- EVT_CLASS_CNT.COUNT (RO). -/
def EVT_CLASS_CNT_COUNT : Fld := ⟨.EVT_CLASS_CNT, 0, 32⟩
/-- JNL_WIDX.INDEX (RO). -/
def JNL_WIDX_INDEX : Fld := ⟨.JNL_WIDX, 0, 32⟩
/-- JNL_RIDX.INDEX (RW). -/
def JNL_RIDX_INDEX : Fld := ⟨.JNL_RIDX, 0, 32⟩
/-- JNL_STATUS.OVERRUN_SEEN (W1C). -/
def JNL_STATUS_OVERRUN_SEEN : Fld := ⟨.JNL_STATUS, 31, 1⟩
/-- JNL_STATUS.UNCORR_SEEN (W1C). -/
def JNL_STATUS_UNCORR_SEEN : Fld := ⟨.JNL_STATUS, 30, 1⟩
/-- JNL_STATUS.OVERRUN (RO). -/
def JNL_STATUS_OVERRUN : Fld := ⟨.JNL_STATUS, 0, 16⟩
/-- MIL_CTRL.SNAP_CLR (W1S). -/
def MIL_CTRL_SNAP_CLR : Fld := ⟨.MIL_CTRL, 11, 1⟩
/-- MIL_CTRL.SNAP (W1S). -/
def MIL_CTRL_SNAP : Fld := ⟨.MIL_CTRL, 10, 1⟩
/-- MIL_CTRL.REGION (RW). -/
def MIL_CTRL_REGION : Fld := ⟨.MIL_CTRL, 0, 10⟩
/-- MIL_SEQ.NOT_READY (RS). -/
def MIL_SEQ_NOT_READY : Fld := ⟨.MIL_SEQ, 31, 1⟩
/-- MIL_SEQ.SEQ (RS). -/
def MIL_SEQ_SEQ : Fld := ⟨.MIL_SEQ, 0, 31⟩
/-- MIL_SNAP_INFO.CLEARED (RS). -/
def MIL_SNAP_INFO_CLEARED : Fld := ⟨.MIL_SNAP_INFO, 31, 1⟩
/-- MIL_SNAP_INFO.REGION (RS). -/
def MIL_SNAP_INFO_REGION : Fld := ⟨.MIL_SNAP_INFO, 0, 10⟩
/-- MIL_SNAP_TICK_LO.TICK (RS). -/
def MIL_SNAP_TICK_LO_TICK : Fld := ⟨.MIL_SNAP_TICK_LO, 0, 32⟩
/-- MIL_SNAP_TICK_HI.TICK (RS). -/
def MIL_SNAP_TICK_HI_TICK : Fld := ⟨.MIL_SNAP_TICK_HI, 0, 32⟩
/-- MIL_SAT.CNT (RS). -/
def MIL_SAT_CNT : Fld := ⟨.MIL_SAT, 16, 16⟩
/-- MIL_SAT.HIST (RS). -/
def MIL_SAT_HIST : Fld := ⟨.MIL_SAT, 0, 8⟩
/-- MIL_HIST.COUNT (RS). -/
def MIL_HIST_COUNT : Fld := ⟨.MIL_HIST, 0, 32⟩
/-- MIL_CNT_LO.VALUE (RS). -/
def MIL_CNT_LO_VALUE : Fld := ⟨.MIL_CNT_LO, 0, 32⟩
/-- MIL_CNT_HI.VALUE (RS). -/
def MIL_CNT_HI_VALUE : Fld := ⟨.MIL_CNT_HI, 0, 32⟩
/-- STN_DEP_STATUS.FW_TRIPLE (W1C). -/
def STN_DEP_STATUS_FW_TRIPLE : Fld := ⟨.STN_DEP_STATUS, 31, 1⟩
/-- STN_DEP_STATUS.SPINDLE (W1C). -/
def STN_DEP_STATUS_SPINDLE : Fld := ⟨.STN_DEP_STATUS, 30, 1⟩
/-- STN_DEP_STATUS.BUS_PARITY (W1C). -/
def STN_DEP_STATUS_BUS_PARITY : Fld := ⟨.STN_DEP_STATUS, 29, 1⟩
/-- STN_DEP_STATUS.ACT_LANE (W1C). -/
def STN_DEP_STATUS_ACT_LANE : Fld := ⟨.STN_DEP_STATUS, 28, 1⟩
/-- STN_DEP_STATUS.ACT_LOST (W1C). -/
def STN_DEP_STATUS_ACT_LOST : Fld := ⟨.STN_DEP_STATUS, 27, 1⟩
/-- STN_DEP_STATUS.EVT_LANE (W1C). -/
def STN_DEP_STATUS_EVT_LANE : Fld := ⟨.STN_DEP_STATUS, 26, 1⟩
/-- STN_DEP_STATUS.GOV_CMP (W1C). -/
def STN_DEP_STATUS_GOV_CMP : Fld := ⟨.STN_DEP_STATUS, 25, 1⟩
/-- STN_DEP_CNT.FW_CORR (RO). -/
def STN_DEP_CNT_FW_CORR : Fld := ⟨.STN_DEP_CNT, 24, 8⟩
/-- STN_DEP_CNT.ACT_CORR (RO). -/
def STN_DEP_CNT_ACT_CORR : Fld := ⟨.STN_DEP_CNT, 16, 8⟩
/-- STN_DEP_CNT.EVT_CORR (RO). -/
def STN_DEP_CNT_EVT_CORR : Fld := ⟨.STN_DEP_CNT, 8, 8⟩
/-- STN_DEP_CNT.GOV_CMP (RO). -/
def STN_DEP_CNT_GOV_CMP : Fld := ⟨.STN_DEP_CNT, 0, 8⟩
/-- HIF_BOOT.ALL_READY (RO). -/
def HIF_BOOT_ALL_READY : Fld := ⟨.HIF_BOOT, 26, 1⟩
/-- HIF_BOOT.PMB_STARTED (RO). -/
def HIF_BOOT_PMB_STARTED : Fld := ⟨.HIF_BOOT, 25, 1⟩
/-- HIF_BOOT.LOG_READY (RO). -/
def HIF_BOOT_LOG_READY : Fld := ⟨.HIF_BOOT, 24, 1⟩
/-- HIF_BOOT.DSP_READY (RO). -/
def HIF_BOOT_DSP_READY : Fld := ⟨.HIF_BOOT, 23, 1⟩
/-- HIF_BOOT.SPINE_DONE (RO). -/
def HIF_BOOT_SPINE_DONE : Fld := ⟨.HIF_BOOT, 22, 1⟩
/-- HIF_BOOT.LOCKED (RO). -/
def HIF_BOOT_LOCKED : Fld := ⟨.HIF_BOOT, 21, 1⟩
/-- HIF_BOOT.SEC_READY (RO). -/
def HIF_BOOT_SEC_READY : Fld := ⟨.HIF_BOOT, 14, 7⟩
/-- HIF_BOOT.SEC_RELEASED (RO). -/
def HIF_BOOT_SEC_RELEASED : Fld := ⟨.HIF_BOOT, 7, 7⟩
/-- HIF_IRQ_SRC.WARM_DONE (W1C). -/
def HIF_IRQ_SRC_WARM_DONE : Fld := ⟨.HIF_IRQ_SRC, 15, 1⟩
/-- HIF_IRQ_SRC.AXI_ERR (W1C). -/
def HIF_IRQ_SRC_AXI_ERR : Fld := ⟨.HIF_IRQ_SRC, 14, 1⟩
/-- HIF_IRQ_SRC.APB_ERR (W1C). -/
def HIF_IRQ_SRC_APB_ERR : Fld := ⟨.HIF_IRQ_SRC, 13, 1⟩
/-- HIF_IRQ_SRC.JNL_HIGH (W1C). -/
def HIF_IRQ_SRC_JNL_HIGH : Fld := ⟨.HIF_IRQ_SRC, 12, 1⟩
/-- HIF_IRQ_SRC.LOG_HIGH (W1C). -/
def HIF_IRQ_SRC_LOG_HIGH : Fld := ⟨.HIF_IRQ_SRC, 11, 1⟩
/-- HIF_IRQ_SRC.SPILL (W1C). -/
def HIF_IRQ_SRC_SPILL : Fld := ⟨.HIF_IRQ_SRC, 10, 1⟩
/-- HIF_IRQ_SRC.MIL_DONE (W1C). -/
def HIF_IRQ_SRC_MIL_DONE : Fld := ⟨.HIF_IRQ_SRC, 9, 1⟩
/-- HIF_IRQ_SRC.PMB_DONE (W1C). -/
def HIF_IRQ_SRC_PMB_DONE : Fld := ⟨.HIF_IRQ_SRC, 8, 1⟩
/-- HIF_IRQ_SRC.STEP_DONE (W1C). -/
def HIF_IRQ_SRC_STEP_DONE : Fld := ⟨.HIF_IRQ_SRC, 7, 1⟩
/-- HIF_IRQ_SRC.REFINED (W1C). -/
def HIF_IRQ_SRC_REFINED : Fld := ⟨.HIF_IRQ_SRC, 6, 1⟩
/-- HIF_IRQ_SRC.ALL_READY (W1C). -/
def HIF_IRQ_SRC_ALL_READY : Fld := ⟨.HIF_IRQ_SRC, 5, 1⟩
/-- HIF_IRQ_SRC.IMG_DONE (W1C). -/
def HIF_IRQ_SRC_IMG_DONE : Fld := ⟨.HIF_IRQ_SRC, 4, 1⟩
/-- HIF_IRQ_SRC.DESK_STOP (W1C). -/
def HIF_IRQ_SRC_DESK_STOP : Fld := ⟨.HIF_IRQ_SRC, 3, 1⟩
/-- HIF_IRQ_SRC.LOAD_DONE (W1C). -/
def HIF_IRQ_SRC_LOAD_DONE : Fld := ⟨.HIF_IRQ_SRC, 2, 1⟩
/-- HIF_IRQ_SRC.SYNC_DONE (W1C). -/
def HIF_IRQ_SRC_SYNC_DONE : Fld := ⟨.HIF_IRQ_SRC, 1, 1⟩
/-- HIF_IRQ_SRC.TCAP_DONE (W1C). -/
def HIF_IRQ_SRC_TCAP_DONE : Fld := ⟨.HIF_IRQ_SRC, 0, 1⟩
/-- HIF_IRQ_ROUTE.ROUTE (RW). -/
def HIF_IRQ_ROUTE_ROUTE : Fld := ⟨.HIF_IRQ_ROUTE, 0, 32⟩
/-- HIF_IRQ_EVT_ROUTE.ROUTE (RW). -/
def HIF_IRQ_EVT_ROUTE_ROUTE : Fld := ⟨.HIF_IRQ_EVT_ROUTE, 2, 30⟩
/-- HIF_IRQ_EN.LEVEL (RO). -/
def HIF_IRQ_EN_LEVEL : Fld := ⟨.HIF_IRQ_EN, 16, 4⟩
/-- HIF_IRQ_EN.EN (RW). -/
def HIF_IRQ_EN_EN : Fld := ⟨.HIF_IRQ_EN, 1, 3⟩
/-- HIF_IRQ_THR.LOG (RW). -/
def HIF_IRQ_THR_LOG : Fld := ⟨.HIF_IRQ_THR, 16, 12⟩
/-- HIF_IRQ_THR.JNL (RW). -/
def HIF_IRQ_THR_JNL : Fld := ⟨.HIF_IRQ_THR, 0, 10⟩
/-- HIF_APB_ERR.COUNT (RO). -/
def HIF_APB_ERR_COUNT : Fld := ⟨.HIF_APB_ERR, 24, 8⟩
/-- HIF_APB_ERR.WRITE (RO). -/
def HIF_APB_ERR_WRITE : Fld := ⟨.HIF_APB_ERR, 21, 1⟩
/-- HIF_APB_ERR.ADDR (RO). -/
def HIF_APB_ERR_ADDR : Fld := ⟨.HIF_APB_ERR, 0, 20⟩
/-- HIF_AXI_CFG.QOS (RW). -/
def HIF_AXI_CFG_QOS : Fld := ⟨.HIF_AXI_CFG, 28, 4⟩
/-- HIF_AXI_CFG.PROT (RW). -/
def HIF_AXI_CFG_PROT : Fld := ⟨.HIF_AXI_CFG, 24, 2⟩
/-- HIF_AXI_CFG.AWCACHE (RW). -/
def HIF_AXI_CFG_AWCACHE : Fld := ⟨.HIF_AXI_CFG, 20, 4⟩
/-- HIF_AXI_CFG.ARCACHE (RW). -/
def HIF_AXI_CFG_ARCACHE : Fld := ⟨.HIF_AXI_CFG, 16, 4⟩
/-- HIF_AXI_CFG.MAX_WR (RW). -/
def HIF_AXI_CFG_MAX_WR : Fld := ⟨.HIF_AXI_CFG, 8, 4⟩
/-- HIF_AXI_CFG.MAX_RD (RW). -/
def HIF_AXI_CFG_MAX_RD : Fld := ⟨.HIF_AXI_CFG, 0, 4⟩
/-- HIF_AXI_STATUS.ERR_SEEN (W1C). -/
def HIF_AXI_STATUS_ERR_SEEN : Fld := ⟨.HIF_AXI_STATUS, 31, 1⟩
/-- HIF_AXI_STATUS.RANGE (W1C). -/
def HIF_AXI_STATUS_RANGE : Fld := ⟨.HIF_AXI_STATUS, 30, 1⟩
/-- HIF_AXI_STATUS.BUSY (RO). -/
def HIF_AXI_STATUS_BUSY : Fld := ⟨.HIF_AXI_STATUS, 29, 1⟩
/-- HIF_AXI_STATUS.LAST_RESP (RO). -/
def HIF_AXI_STATUS_LAST_RESP : Fld := ⟨.HIF_AXI_STATUS, 27, 2⟩
/-- HIF_AXI_STATUS.LAST_USER (RO). -/
def HIF_AXI_STATUS_LAST_USER : Fld := ⟨.HIF_AXI_STATUS, 24, 3⟩
/-- HIF_AXI_STATUS.RD_OUT (RO). -/
def HIF_AXI_STATUS_RD_OUT : Fld := ⟨.HIF_AXI_STATUS, 8, 8⟩
/-- HIF_AXI_STATUS.WR_OUT (RO). -/
def HIF_AXI_STATUS_WR_OUT : Fld := ⟨.HIF_AXI_STATUS, 0, 8⟩
/-- STN_BUILD0.ICH_DEPTH (RO). -/
def STN_BUILD0_ICH_DEPTH : Fld := ⟨.STN_BUILD0, 23, 6⟩
/-- STN_BUILD0.N_RAILS (RO). -/
def STN_BUILD0_N_RAILS : Fld := ⟨.STN_BUILD0, 18, 5⟩
/-- STN_BUILD0.N_SECTIONS (RO). -/
def STN_BUILD0_N_SECTIONS : Fld := ⟨.STN_BUILD0, 11, 7⟩
/-- STN_BUILD0.N_REGIONS (RO). -/
def STN_BUILD0_N_REGIONS : Fld := ⟨.STN_BUILD0, 0, 11⟩
/-- STN_BUILD1.SCZ_MAJOR (RO). -/
def STN_BUILD1_SCZ_MAJOR : Fld := ⟨.STN_BUILD1, 24, 8⟩
/-- STN_BUILD1.SCZ_MINOR (RO). -/
def STN_BUILD1_SCZ_MINOR : Fld := ⟨.STN_BUILD1, 16, 8⟩
/-- STN_BUILD1.OPT_LOADHINT (RO). -/
def STN_BUILD1_OPT_LOADHINT : Fld := ⟨.STN_BUILD1, 2, 1⟩
/-- STN_BUILD1.OPT_SYNC (RO). -/
def STN_BUILD1_OPT_SYNC : Fld := ⟨.STN_BUILD1, 1, 1⟩
/-- STN_BUILD1.OPT_MILEAGE (RO). -/
def STN_BUILD1_OPT_MILEAGE : Fld := ⟨.STN_BUILD1, 0, 1⟩
/-- STN_SUMMARY.SEC_FAULT (RO). -/
def STN_SUMMARY_SEC_FAULT : Fld := ⟨.STN_SUMMARY, 31, 1⟩
/-- STN_SUMMARY.SAFE (RO). -/
def STN_SUMMARY_SAFE : Fld := ⟨.STN_SUMMARY, 30, 1⟩
/-- STN_SUMMARY.REGION_FAULT (RO). -/
def STN_SUMMARY_REGION_FAULT : Fld := ⟨.STN_SUMMARY, 29, 1⟩
/-- STN_SUMMARY.DESK0_FAULT (RO). -/
def STN_SUMMARY_DESK0_FAULT : Fld := ⟨.STN_SUMMARY, 28, 1⟩
/-- STN_SUMMARY.DESK_FAULT (RO). -/
def STN_SUMMARY_DESK_FAULT : Fld := ⟨.STN_SUMMARY, 27, 1⟩
/-- STN_SUMMARY.HOLDOVER (RO). -/
def STN_SUMMARY_HOLDOVER : Fld := ⟨.STN_SUMMARY, 26, 1⟩
/-- STN_SUMMARY.TC_EXCL (RO). -/
def STN_SUMMARY_TC_EXCL : Fld := ⟨.STN_SUMMARY, 25, 1⟩
/-- STN_SUMMARY.TC_NONE (RO). -/
def STN_SUMMARY_TC_NONE : Fld := ⟨.STN_SUMMARY, 24, 1⟩
/-- STN_SUMMARY.CAL_FLAGGED (RO). -/
def STN_SUMMARY_CAL_FLAGGED : Fld := ⟨.STN_SUMMARY, 23, 1⟩
/-- STN_SUMMARY.CROSSING (RO). -/
def STN_SUMMARY_CROSSING : Fld := ⟨.STN_SUMMARY, 22, 1⟩
/-- STN_SUMMARY.GOV_OVER (RO). -/
def STN_SUMMARY_GOV_OVER : Fld := ⟨.STN_SUMMARY, 21, 1⟩
/-- STN_SUMMARY.GOV_FLOOR (RO). -/
def STN_SUMMARY_GOV_FLOOR : Fld := ⟨.STN_SUMMARY, 20, 1⟩
/-- STN_SUMMARY.RAIL (RO). -/
def STN_SUMMARY_RAIL : Fld := ⟨.STN_SUMMARY, 19, 1⟩
/-- STN_SUMMARY.LOG_GAP (RO). -/
def STN_SUMMARY_LOG_GAP : Fld := ⟨.STN_SUMMARY, 18, 1⟩
/-- STN_SUMMARY.DEP (RO). -/
def STN_SUMMARY_DEP : Fld := ⟨.STN_SUMMARY, 17, 1⟩
/-- STN_SUMMARY.LATE (RO). -/
def STN_SUMMARY_LATE : Fld := ⟨.STN_SUMMARY, 16, 1⟩
/-- STN_GCTRL.SAFE_ALL (W1S). -/
def STN_GCTRL_SAFE_ALL : Fld := ⟨.STN_GCTRL, 0, 1⟩
/-- STN_SEC_FAULT_LO.SECTIONS (RO). -/
def STN_SEC_FAULT_LO_SECTIONS : Fld := ⟨.STN_SEC_FAULT_LO, 0, 32⟩
/-- STN_SEC_FAULT_HI.SECTIONS (RO). -/
def STN_SEC_FAULT_HI_SECTIONS : Fld := ⟨.STN_SEC_FAULT_HI, 0, 32⟩
/-- STN_SEC_SAFE_LO.SECTIONS (RO). -/
def STN_SEC_SAFE_LO_SECTIONS : Fld := ⟨.STN_SEC_SAFE_LO, 0, 32⟩
/-- STN_SEC_SAFE_HI.SECTIONS (RO). -/
def STN_SEC_SAFE_HI_SECTIONS : Fld := ⟨.STN_SEC_SAFE_HI, 0, 32⟩
/-- STN_SCRATCH.VALUE (RW). -/
def STN_SCRATCH_VALUE : Fld := ⟨.STN_SCRATCH, 0, 32⟩
/-- STN_RFAULT.REGIONS (RO). -/
def STN_RFAULT_REGIONS : Fld := ⟨.STN_RFAULT, 0, 32⟩
/-- SB_EVT_STAT.GAP_PEND (RO). -/
def SB_EVT_STAT_GAP_PEND : Fld := ⟨.SB_EVT_STAT, 31, 1⟩
/-- SB_EVT_STAT.C0_USED (RO). -/
def SB_EVT_STAT_C0_USED : Fld := ⟨.SB_EVT_STAT, 24, 2⟩
/-- SB_EVT_STAT.GEN_USED (RO). -/
def SB_EVT_STAT_GEN_USED : Fld := ⟨.SB_EVT_STAT, 20, 3⟩
/-- SB_EVT_STAT.DISCARDED (RO). -/
def SB_EVT_STAT_DISCARDED : Fld := ⟨.SB_EVT_STAT, 0, 16⟩

end F

end Sys2Proof.Machine
end

