-- ==== Sys2Proof/Machine/State.lean ====
section
/-!
DEFINITION. The state of the block as plain data: its build, its registers, its memory windows, what each unit holds
beside its registers, and the queue of commands that wait. `State.reset` is the block with `po_rst_n` still low (R534).
-/

namespace Sys2Proof.Machine

/-- The block's state. -/
structure State where
  /-- The build of the instance (R27, R32). -/
  build   : Build
  /-- `po_rst_n` is low (R534). -/
  por     : Bool := true
  /-- Registers, by `regKey`; an unlisted register holds its reset word. -/
  regs    : Store Word := []
  /-- The memory windows and the Clopor data memory, one byte an address: the windows at their APB addresses, data
  memory from `dmemBase`. -/
  mem     : List Host.Cell := []
  /-- Flags that hardware set at the present tick edge, and flags set since that edge, by register (R9). -/
  fresh    : Store Word := []
  freshMid : Store Word := []
  /-- Writes that wait in shadow registers, in completion order (R477, R541). -/
  shadow  : List Shadow := []
  stn     : Stn := {}
  secs    : Store Sec := []
  rgns    : Store Rgn := []
  log     : Log := {}
  jnl     : Jnl := {}
  miles   : Store Mile := []
  milSnap : Option MilSnap := none
  xings   : Store Xing := []
  toks    : Store Tok := []
  cal     : Cal := {}
  calRgns : Store CalRgn := []
  dsp     : Dsp := {}
  gov     : Gov := {}
  pmb     : Pmb := {}
  mtr     : Mtr := {}
  axi     : Axi := {}
  apb     : Apb := {}
  test    : Test := {}
  /-- The model's own counter of free values taken (not the manual's). -/
  freeCtr : Nat := 0
  /-- The commands that wait, first in first out. -/
  pending : List Instr := []
  deriving DecidableEq, Repr, Inhabited

/-- Why a command stops with a fault. The manual gives every command an effect, so no command raises a fault and the
type has no constructor (safe: nothing is cut short). -/
inductive Fault where
  deriving DecidableEq, Repr

/-- Why a command is refused. -/
inductive Refusal where
  /-- Raised by an arm of the dispatch whose command has no meaning yet, with the command's name (safe: the model stops
  where the hardware goes on). -/
  | notModelled (mnemonic : String)
  deriving DecidableEq, Repr

/-- The reference integration of the manual, Lomvy 896 (Scope of the Tilnik Manual): its build parameters, Sections,
rails. Its crossings and its build signature, which the manual does not list, are the model's example.
DESIGN CHOICE, log entry 2. -/
def lomvy896 : Build where
  nRegions := 896
  nSections := 30
  nRails := 12
  ichDepth := 16
  optMileage := true
  optSync := true
  optLoadhint := true
  sczMajor := 2
  sczMinor := 1
  regionRuns :=
    (List.range 24).map (fun k => (32, k)) ++ (List.range 4).map (fun k => (24, 24 + k)) ++ [(16, 28), (16, 29)]
  sectionRail :=
    (List.range 24).map (fun k => k / 3) ++ [8, 8, 9, 9, 10, 10]
  junctions := [{ writer := 170, reader := 171 }, { writer := 171, reader := 170 }, { writer := 403, reader := 402 }]
  interchanges := [{ writer := 170, reader := 864 }, { writer := 864, reader := 170 }]
  tokens := [{ src := 170, dst := 402 }, { src := 402, dst := 864, word := true, width := 16 }]
  sig := 0
  railTelem := List.replicate 12 true
  railAddr := (List.range 12).map (fun k => 0x40 + k)

/-- The machine of a build, right after power-on reset: every state at its reset value, nothing waiting (R534). -/
def State.resetOf (b : Build) : State := { build := b }

/-- The machine right after reset: the reference integration, with `po_rst_n` still low and an empty queue. -/
def State.reset : State := State.resetOf lomvy896

end Sys2Proof.Machine
end

