-- ==== Sys2Proof/Machine/Ops.lean ====
section
/-!
DEFINITION. The named operations over the state: the build's facts, registers and fields, flags, the memory windows,
and the per-unit records.
-/

namespace Sys2Proof.Machine

/-! ### The build -/

/-- The Section of the region `r` places into a list of runs. -/
def runSection : List (Nat × Nat) → Nat → Nat
  | [], _ => 0
  | (n, k) :: t, r => if r < n then k else runSection t (r - n)

/-- The regions of Section `k` among runs that start at region `r`. -/
def runRegions (k : Nat) : List (Nat × Nat) → Nat → List Nat
  | [], _ => []
  | (n, k') :: t, r => (if k' = k then (List.range n).map (r + ·) else []) ++ runRegions k t (r + n)

/-- The Section of a region (R32). -/
def Build.sectionOf (b : Build) (r : Nat) : Nat := runSection b.regionRuns r

/-- The regions of a Section, ascending. -/
def Build.regionsOf (b : Build) (k : Nat) : List Nat := runRegions k b.regionRuns 0

/-- The rail of a Section (R28, R32). -/
def Build.railOf (b : Build) (k : Nat) : Nat := (b.sectionRail[k]?).getD 0

/-- The Sections of a rail, ascending. -/
def Build.sectionsOn (b : Build) (rail : Nat) : List Nat :=
  (List.range b.nSections).filter (fun k => b.railOf k = rail)

/-- The Junctions that a region reads. -/
def Build.jctsRead (b : Build) (r : Nat) : List Nat :=
  (List.range b.junctions.length).filter (fun j => (b.junctions[j]?).any (fun x => x.reader = r))

/-- The seed taps of a region's seed tile (R237). -/
def Build.seedTapsOf (b : Build) (r : Nat) : List Nat := (b.seedTaps.find? r).getD (List.replicate 120 64)

/-- The offset o_i of a Track Circuit in the seed ROM, in ps. -/
def Build.seedOffsetOf (b : Build) (r i : Nat) : Int := (((b.seedOffsets.find? r).getD [])[i]?).getD 0

/-! ### Registers -/

/-- The key of a register in the register file: the unit's number and the register's. -/
def regKey (r : Reg) (u : Nat) : Nat := u * 512 + r.num

/-- The reset word of a register of an instance: the map's word, with the fields that the build fixes (R547, R134,
R235, R288). -/
def Build.resetWord (b : Build) (r : Reg) (u : Nat) : Word :=
  match r with
  | .STN_BUILD0 => BitVec.ofNat 32 (b.nRegions + b.nSections * 2 ^ 11 + b.nRails * 2 ^ 18 + b.ichDepth * 2 ^ 23)
  | .STN_BUILD1 => BitVec.ofNat 32 (b.optMileage.toNat + b.optSync.toNat * 2 + b.optLoadhint.toNat * 4
      + b.sczMinor * 2 ^ 16 + b.sczMajor * 2 ^ 24)
  | .SEC_CFG => BitVec.ofNat 32 (b.railOf u * 2 ^ 24 + (b.regionsOf u).length)
  | .SB_ID => BitVec.ofNat 32 (b.sectionOf u * 2 ^ 20 + b.railOf (b.sectionOf u) * 2 ^ 16 + u)
  | .JCT_CFG =>
    match b.junctions[u]? with
    | some j => BitVec.ofNat 32 (j.writer * 2 ^ 22 + j.reader * 2 ^ 12 + 0x880)
    | none => 0x880
  | .ICH_CFG =>
    match b.interchanges[u]? with
    | some i => BitVec.ofNat 32 (i.writer * 2 ^ 22 + i.reader * 2 ^ 12)
    | none => 0
  | .JCT_INFO => BitVec.ofNat 32 (b.junctions.length * 2 ^ 17 + b.interchanges.length * 2 ^ 9 + b.tokens.length)
  | .CAL_BUILD_SIG => BitVec.ofNat 32 b.sig
  | .GOV_RAIL_CFG => BitVec.ofNat 32 (((b.railTelem[u]?).getD false).toNat * 2 ^ 31 + (b.railAddr[u]?).getD 0 % 128)
  | r => r.info.reset

/-- Whether a word is what an unlisted register reads as. -/
def regIsDef (b : Build) (k : Nat) (w : Word) : Bool := w == b.resetWord (Reg.ofNum (k % 512)) (k / 512)

/-- The word a register holds. -/
def State.reg (s : State) (r : Reg) (u : Nat) : Word :=
  (s.regs.find? (regKey r u)).getD (s.build.resetWord r u)

/-- The state with a register's word replaced. -/
def State.setReg (s : State) (r : Reg) (u : Nat) (w : Word) : State :=
  { s with regs := s.regs.put (regIsDef s.build) (regKey r u) w }

/-- Bits `lo` to `lo + n - 1` of a word, as a number. -/
def getF (w : Word) (lo n : Nat) : Nat := w.toNat / 2 ^ lo % 2 ^ n

/-- The mask of bits `lo` to `lo + n - 1`. -/
def maskF (lo n : Nat) : Word := BitVec.ofNat 32 (2 ^ n - 1) <<< lo

/-- A word with bits `lo` to `lo + n - 1` replaced by the low `n` bits of a number. -/
def putF (w : Word) (lo n v : Nat) : Word :=
  (w &&& ~~~ maskF lo n) ||| ((BitVec.ofNat 32 v <<< lo) &&& maskF lo n)

/-- Read a field. -/
def State.fget (s : State) (f : Fld) (u : Nat) : Nat := getF (s.reg f.reg u) f.lo f.w

/-- Write a field; a value too wide for it keeps its low bits. -/
def State.fset (s : State) (f : Fld) (u v : Nat) : State := s.setReg f.reg u (putF (s.reg f.reg u) f.lo f.w v)

/-- A one-bit field is 1. -/
def State.on (s : State) (f : Fld) (u : Nat) : Bool := s.fget f u == 1

/-- Write a one-bit field. -/
def State.fsetB (s : State) (f : Fld) (u : Nat) (v : Bool) : State := s.fset f u v.toNat

/-- Add to a field that saturates. -/
def State.faddSat (s : State) (f : Fld) (u n : Nat) : State := s.fset f u (satU f.w (s.fget f u + n))

/-- Add to a field that wraps. -/
def State.faddWrap (s : State) (f : Fld) (u n : Nat) : State := s.fset f u (s.fget f u + n)

/-! ### Flags (R9) -/

/-- Hardware sets bits of a W1C field at the present tick edge; before lock there is none (R38) and R9 protects nothing. -/
def State.setBits (s : State) (f : Fld) (u bits : Nat) : State :=
  let k := regKey f.reg u
  let s := s.fset f u (s.fget f u ||| bits)
  { s with fresh := if s.stn.locked then Store.setD 0 s.fresh k (Store.getD 0 s.fresh k ||| (BitVec.ofNat 32 bits <<< f.lo))
                    else s.fresh }

/-- Hardware sets a W1C flag at the present tick edge. -/
def State.setFlag (s : State) (f : Fld) (u : Nat) : State := s.setBits f u 1

/-- Hardware sets bits of a W1C field at a moment between tick edges, such as a region edge: R9 counts it at the next
tick edge. -/
def State.setBitsMid (s : State) (f : Fld) (u bits : Nat) : State :=
  let k := regKey f.reg u
  let s := s.fset f u (s.fget f u ||| bits)
  { s with freshMid := Store.setD 0 s.freshMid k (Store.getD 0 s.freshMid k ||| (BitVec.ofNat 32 bits <<< f.lo)) }

/-- Hardware sets a W1C flag at a moment between tick edges. -/
def State.setFlagMid (s : State) (f : Fld) (u : Nat) : State := s.setBitsMid f u 1

/-- The bits of a register that a clear at the present tick edge does not clear (R9). -/
def State.freshBits (s : State) (r : Reg) (u : Nat) : Word :=
  Store.getD 0 s.fresh (regKey r u) ||| Store.getD 0 s.freshMid (regKey r u)

/-! ### Memory windows -/

/-- An address of the resident tiles, whose content is unspecified before it is written (R546). -/
def isResident (a : Nat) : Bool := 0x10000 ≤ a && a < 0x18000

/-- Where the Clopor data memory lies in `State.mem`: word w at `dmemBase + 4 * w`. -/
def dmemBase : Nat := 0x100000

/-- Whether a byte is what an unlisted address reads as: an unlisted resident byte reads as no value, every other
unlisted byte as 0. -/
def memIsDef (a : Nat) (b : Byte) : Bool := !isResident a && b == 0

/-- The canonical form of a memory. -/
def Memory.wf (m : List Host.Cell) : Bool := Store.wf memIsDef m

/-- Read one byte. A resident byte never written is unspecified (R546): a free value. -/
def State.rdByte (s : State) (a : Nat) : Byte :=
  match Store.find? s.mem a with
  | some b => b
  | none => if isResident a then Config.residentByte a else 0

/-- Write one byte. -/
def State.wrByte (s : State) (a : Nat) (b : Byte) : State := { s with mem := Store.put memIsDef s.mem a b }

/-- Read a 32-bit little-endian word. -/
def State.rdWord (s : State) (a : Nat) : Word :=
  s.rdByte (a + 3) ++ s.rdByte (a + 2) ++ s.rdByte (a + 1) ++ s.rdByte a

/-- Write the bytes of a 32-bit little-endian word whose strobes are 1. -/
def State.wrWord (s : State) (a : Nat) (w : Word) (strb : Nat := 15) : State :=
  let put (s : State) (i : Nat) : State :=
    if strb.testBit i then s.wrByte (a + i) (BitVec.ofNat 8 (w.toNat / 2 ^ (8 * i))) else s
  put (put (put (put s 0) 1) 2) 3

/-- Read consecutive bytes. -/
def State.rdBytes (s : State) (a n : Nat) : List Nat := (List.range n).map (fun i => (s.rdByte (a + i)).toNat)

/-- Write consecutive bytes. -/
def State.wrBytes (s : State) (a : Nat) : List Nat → State
  | [] => s
  | b :: t => (s.wrByte a (BitVec.ofNat 8 b)).wrBytes (a + 1) t

/-! ### Units -/

/-- The count of the master tick counter (R47). -/
def State.count (s : State) : Nat := maj3 s.stn.cntA.toNat s.stn.cntB.toNat s.stn.cntC.toNat

def State.sec (s : State) (k : Nat) : Sec := Store.getD {} s.secs k
def State.rgn (s : State) (r : Nat) : Rgn := Store.getD {} s.rgns r
def State.xing (s : State) (k : Nat) : Xing := Store.getD {} s.xings k
def State.tok (s : State) (k : Nat) : Tok := Store.getD {} s.toks k
def State.calRgn (s : State) (r : Nat) : CalRgn := Store.getD {} s.calRgns r
def State.mile (s : State) (r : Nat) : Mile := Store.getD {} s.miles r

def State.setSec (s : State) (k : Nat) (v : Sec) : State := { s with secs := Store.setD {} s.secs k v }
def State.setRgn (s : State) (r : Nat) (v : Rgn) : State := { s with rgns := Store.setD {} s.rgns r v }
def State.setXing (s : State) (k : Nat) (v : Xing) : State := { s with xings := Store.setD {} s.xings k v }
def State.setTok (s : State) (k : Nat) (v : Tok) : State := { s with toks := Store.setD {} s.toks k v }
def State.setCalRgn (s : State) (r : Nat) (v : CalRgn) : State := { s with calRgns := Store.setD {} s.calRgns r v }
def State.setMile (s : State) (r : Nat) (v : Mile) : State := { s with miles := Store.setD {} s.miles r v }

/-- The local count of a Signal Box less the master count: free until its counter is first loaded (R59). -/
def Rgn.localOff (g : Rgn) (r : Nat) : BitVec 64 := if g.loaded then g.localErr else Config.unloadedCount r

/-- The state with the Station's record replaced. -/
def State.setStn (s : State) (v : Stn) : State := { s with stn := v }

/-- Run a step over a list of units. -/
def State.each {α : Type} (s : State) (l : List α) (f : State → α → State) : State := l.foldl f s

/-- A command's effect on a live block. While `po_rst_n` is low every state holds its reset value (R534), so that a
command then changes nothing. No command but those of `po_rst_n` moves that pin, the build is fixed (R32), and the queue
is the step's. -/
def State.act (s : State) (f : State → State) : Host.Outcome State Fault Refusal :=
  .next (if s.por then s else { f s with build := s.build, por := false, pending := s.pending })

/-- An effect that takes place when its condition holds; a command sent at another moment changes nothing. -/
def State.iff (s : State) (c : Bool) (f : State → State) : State := if c then f s else s

end Sys2Proof.Machine
end

