-- ==== Sys2Proof/Machine/Events.lean ====
section
/-!
DEFINITION. Posting an event: the payload's packing (R445, R446), a source's places, merging and discards
(R449–R451), and the numbers of the sources (R444).
-/

namespace Sys2Proof.Machine

/-! ### Payloads (R445, R446) -/

/-- One item of a payload. -/
inductive PItem where
  /-- An unsigned item of `w` bits. -/
  | num (w v : Nat)
  /-- A signed item of `w` bits. -/
  | sgn (w : Nat) (v : Int)
  /-- A tick: 16 bits, of which the low bits are kept. -/
  | tick (v : Nat)
  /-- A frequency word: FW / 1,024 in 8 bits, or the full FW as the last item. -/
  | fw (v : Nat)
  deriving DecidableEq, Repr

/-- The width of an item that is not the last. -/
def PItem.width : PItem → Nat
  | .num w _ => w
  | .sgn w _ => w
  | .tick _ => 16
  | .fw _ => 8

/-- An item that is not the last, at its width. -/
def PItem.packed : PItem → Nat
  | .num w v => satU w v
  | .sgn w v => satS w v
  | .tick v => v % 2 ^ 16
  | .fw v => satU 8 (v / 1024)

/-- The last item, in the `rem` bits that remain. -/
def PItem.last (rem : Nat) : PItem → Nat
  | .num _ v => satU rem v
  | .sgn _ v => satS rem v
  | .tick v => v % 2 ^ rem
  | .fw v => satU rem v

/-- Items packed downward from bit `rem - 1`. -/
def packItems : Nat → List PItem → Nat
  | _, [] => 0
  | rem, [x] => x.last rem
  | rem, x :: t => x.packed * 2 ^ (rem - x.width) + packItems (rem - x.width) t

/-- The payload of a list of items (R445). -/
def payload (l : List PItem) : Nat := packItems 32 l

/-- A region as a payload item. -/
def pRegion (r : Nat) : PItem := .num 10 r
/-- A Section as a payload item. -/
def pSection (k : Nat) : PItem := .num 6 k
/-- A rail as a payload item. -/
def pRail (n : Nat) : PItem := .num 4 n
/-- An enumerated value as a payload item. -/
def pEnum (n : Nat) : PItem := .num 4 n
/-- A voltage in mV as a payload item. -/
def pMv (n : Nat) : PItem := .num 10 n
/-- A power in 0.1 W as a payload item. -/
def pPower (n : Nat) : PItem := .num 16 n
/-- Any other item. -/
def pOther (n : Nat) : PItem := .num 8 n

/-! ### Sources (R444) -/

def srcSec (k : Nat) : Nat := 1024 + k
def srcStation : Nat := 1792
def srcCal : Nat := 1793
def srcGov : Nat := 1794
def srcPmb : Nat := 1795
def srcLog : Nat := 1796
def srcDispatcher : Nat := 1799
def srcDesk (d : Nat) : Nat := 1800 + d
def srcMarker : Nat := 2047

/-- The Event Log is ready: 4,096 tk after lock, while EVT_CTRL.EN is 1 (R455). -/
def State.logReady (s : State) : Bool := s.log.up && s.on F.EVT_CTRL_EN 0

/-! ### Places (R449–R451) -/

/-- The first entry that a posting merges into, with its COUNT grown (R450). -/
def mergeInto (e : Entry) : List Entry → Option (List Entry)
  | [] => none
  | x :: t =>
    if x.cls = e.cls ∧ x.code = e.code ∧ x.mark = false ∧ x.count < 65535 then some ({ x with count := x.count + 1 } :: t)
    else (mergeInto e t).map (x :: ·)

/-- A further discard added to the source's unsent GAP marker (R451). -/
def growGap : List Entry → Option (List Entry)
  | [] => none
  | x :: t =>
    if x.mark then some ({ x with payload := satU 32 (x.payload + 1), count := min 65535 (x.count + 1) } :: t)
    else (growGap t).map (x :: ·)

/-- A posting discarded and counted (R451). -/
def Source.discard (o : Source) (e : Entry) : Source :=
  let o := { o with lost := satU 16 (o.lost + 1) }
  match growGap o.gen with
  | some g => { o with gen := g }
  | none =>
    match o.gap with
    | some (t, n) => { o with gap := some (t, n + 1) }
    | none => { o with gap := some (e.tick, 1) }

/-- The GAP marker placed once a general place is free (R451, R456). -/
def Source.placeGap (o : Source) (src : Nat) (held : Bool) : Source :=
  match o.gap with
  | some (t, n) =>
    if o.gen.length < 6 then
      { o with
        gap := none
        gapStale := false
        gen := o.gen ++ [{ tick := t, src, cls := 0, code := 1, payload := satU 32 n, count := min 65535 n,
                           mark := true, held, stale := o.gapStale }] }
    else o
  | none => o

/-- A posting merges, takes a place of its kind, or is discarded (R449–R451). -/
def Source.post (o : Source) (e : Entry) : Source :=
  if e.cls = 0 then
    match mergeInto e o.c0 with
    | some l => { o with c0 := l }
    | none => if o.c0.length < 2 then { o with c0 := o.c0 ++ [e] } else o.discard e
  else
    match mergeInto e o.gen with
    | some l => { o with gen := l }
    | none => if o.gen.length < 6 then { o with gen := o.gen ++ [e] } else o.discard e

/-- The source of a number. -/
def State.source (s : State) (src : Nat) : Source := Store.getD {} s.log.srcs src

/-- The state with a source replaced. -/
def State.setSource (s : State) (src : Nat) (o : Source) : State :=
  { s with log := { s.log with srcs := Store.setD {} s.log.srcs src o } }

/-- A posting of a whole payload word. A posting made while the log is not ready waits and is flagged HELD (R455). -/
def State.postRaw (s : State) (src cls code word : Nat) (tick : Nat) : State :=
  let held := !s.logReady
  s.setSource src (((s.source src).placeGap src held).post { tick, src, cls, code, payload := word % 2 ^ 32, held })

/-- A posting of the block's own, stamped with the tick edge at which its condition is detected (R447). -/
def State.post (s : State) (src cls code : Nat) (items : List PItem) : State :=
  s.postRaw src cls code (payload items) s.count

end Sys2Proof.Machine
end

