-- ==== Sys2Proof/Machine/Journal.lean ====
section
/-! DEFINITION. The Change Journal (R474–R481): what one entry holds and how entries reach the Journal's RAM. -/

namespace Sys2Proof.Machine

/-- The sources of a write (R474), after the Desks 0 to 3. -/
def wAxi : Nat := 4
def wApb : Nat := 5
def wCal : Nat := 6
def wStation : Nat := 7

/-- Where the Journal's window begins (R479). -/
def jnlBase : Nat := 0x90000

/-- One entry is overwritten while its index is at or above JNL_RIDX (R480, R481). -/
def State.jnlOverrun (s : State) : State :=
  let s := s.faddSat F.JNL_STATUS_OVERRUN 0 1
  if s.on F.JNL_STATUS_OVERRUN_SEEN 0 then s
  else
    let s := s.setFlag F.JNL_STATUS_OVERRUN_SEEN 0
    s.post srcLog 7 0x11 [.num 16 (s.fget F.JNL_STATUS_OVERRUN 0)]

/-- HIF_IRQ_SRC.JNL_HIGH is set as JNL_WIDX − JNL_RIDX reaches HIF_IRQ_THR.JNL with the entry of index `w` (R524). -/
def State.jnlHigh (s : State) (w : Nat) : State :=
  let d := (w + 2 ^ 32 - (s.reg .JNL_RIDX 0).toNat) % 2 ^ 32
  let thr := s.fget F.HIF_IRQ_THR_JNL 0
  if thr ≠ 0 ∧ d + 1 = thr then s.setFlag F.HIF_IRQ_SRC_JNL_HIGH 0 else s

/-- Store one Journal entry's four words at JNL_WIDX (R474, R479). -/
def State.jnlStore (s : State) (tick : Nat) (e : JEntry) : State :=
  let w := (s.reg .JNL_WIDX 0).toNat
  let a := jnlBase + 16 * (w % 1024)
  let s := if w < 1024 && s.jnl.total < 1024 then s
    else if signed 32 (w + 2 ^ 32 - 1024 + 2 ^ 32 - (s.reg .JNL_RIDX 0).toNat) ≥ 0 then s.jnlOverrun else s
  let s := s.wrWord a (BitVec.ofNat 32 tick)
  let s := s.wrWord (a + 4) (BitVec.ofNat 32 (tick / 2 ^ 32 % 256 * 2 ^ 24 + e.src % 8 * 2 ^ 21 + e.kind % 4 * 2 ^ 19
    + e.defer.toNat * 2 ^ 18 + e.addr / 4 % 2 ^ 18))
  let s := s.wrWord (a + 8) (BitVec.ofNat 32 e.old)
  let s := s.wrWord (a + 12) (BitVec.ofNat 32 e.new)
  let s := s.setReg .JNL_WIDX 0 (BitVec.ofNat 32 (w + 1))
  let s := s.jnlHigh w
  { s with jnl := { s.jnl with total := s.jnl.total + 1, wrote := s.jnl.wrote + 1 } }

/-- The entry before an entry whose TICK bits 63:40 differ from the previous entry's (R478). -/
def jnlEpoch (tick : Nat) : JEntry :=
  { tick := some tick, src := 7, kind := 3, defer := false, addr := 0, old := 0, new := tick / 2 ^ 40 % 2 ^ 24 }

/-- Write waiting entries, at most four at one tick edge, from the first tick edge on (R478). -/
def State.jnlDrain : Nat → State → State
  | 0, s => s
  | n + 1, s =>
    match s.jnl.queue with
    | [] => s
    | e :: t =>
      if !s.stn.locked || s.jnl.wrote ≥ 4 then s
      else
        let tick := e.tick.getD s.count
        let hi := tick / 2 ^ 40
        if s.jnl.lastHi = some hi then
          State.jnlDrain n ({ s with jnl := { s.jnl with queue := t } }.jnlStore tick e)
        else
          State.jnlDrain n ({ s with jnl := { s.jnl with lastHi := some hi } }.jnlStore tick (jnlEpoch tick))

/-- Record one write (R475): its entry joins those that wait, in the order of application. -/
def State.journal (s : State) (src kind : Nat) (defer : Bool) (addr old new : Nat) : State :=
  let e : JEntry := { tick := if s.stn.locked then some s.count else none, src, kind, defer, addr, old, new }
  State.jnlDrain 8 { s with jnl := { s.jnl with queue := s.jnl.queue ++ [e] } }

end Sys2Proof.Machine
end

