-- ==== Sys2Proof/Machine/CalBase.lean ====
section
/-!
DEFINITION. What calibration shares with the Section Root and the Signal Box: CRC-32C, Tap Table tiles, the region safe
set, the calibration store's commit, disturbances (R236–R239, R247, R248, R263–R274).
-/

namespace Sys2Proof.Machine

/-! ### CRC-32C (R270) -/

/-- One bit of the reflected CRC-32C; 0x82F6_3B78 is 0x1EDC_6F41 reflected. -/
def crcBit (c : Nat) : Nat := if c % 2 = 1 then (c / 2) ^^^ 0x82F63B78 else c / 2

/-- One byte into the CRC. -/
def crcByte (c b : Nat) : Nat := (List.range 8).foldl (fun c _ => crcBit c) (c ^^^ (b % 256))

/-- The CRC-32C of bytes. -/
def crc32c (l : List Nat) : Nat := l.foldl crcByte 0xFFFFFFFF ^^^ 0xFFFFFFFF

/-- A number as `n` little-endian bytes. -/
def leBytes : Nat → Nat → List Nat
  | 0, _ => []
  | n + 1, v => v % 256 :: leBytes n (v / 256)

/-- Little-endian bytes as a number. -/
def leNat : List Nat → Nat
  | [] => 0
  | b :: t => b % 256 + 256 * leNat t

/-! ### Tap Table tiles (R271) -/

/-- The address of a region's tile. -/
def tileAddr (r : Nat) : Nat := 0x20000 + 0x80 * r

/-- The bytes of a tile of taps (R271). -/
def tileBytes (taps : List Nat) : List Nat :=
  let body := taps.map (· % 128) ++ [0, 0, 0, 0]
  body ++ leBytes 4 (crc32c body)

/-- The taps of a stored tile. -/
def State.tileTaps (s : State) (r : Nat) : List Nat := (s.rdBytes (tileAddr r) 120).map (· % 128)

/-- The CRC-32C that a stored tile holds. -/
def State.tileCrc (s : State) (r : Nat) : Nat := leNat (s.rdBytes (tileAddr r + 0x7C) 4)

/-- A stored tile passes its check. -/
def State.tileOk (s : State) (r : Nat) : Bool := crc32c (s.rdBytes (tileAddr r) 0x7C) == s.tileCrc r

/-- Store a region's tile. -/
def State.writeTile (s : State) (r : Nat) (taps : List Nat) : State := s.wrBytes (tileAddr r) (tileBytes taps)

/-- The seed taps of a region's safe set (R237, R274). -/
def State.seedTaps (s : State) (r : Nat) : List Nat :=
  if (s.calRgn r).uniform then List.replicate 120 64 else s.build.seedTapsOf r

/-- The taps of the calibration store: those last committed or reloaded, the seed taps before. A host's write of the Tap
Table leaves them (R272). -/
def State.storeTaps (s : State) (r : Nat) : List Nat :=
  match (s.calRgn r).storeTaps with
  | [] => s.seedTaps r
  | taps => taps

/-! ### Live values -/

/-- New taps: each leaf spindle walks to its own (R128). -/
def State.setTaps (s : State) (r : Nat) (taps : List Nat) : State :=
  let g := s.rgn r
  (s.setRgn r { g with tapTgt := taps }).fsetB F.SB_TAP_CTRL_WALKING r (g.taps != taps)

/-- The phases of a Junction (R208). -/
def State.setPhases (s : State) (j wp rp : Nat) : State :=
  (s.fset F.JCT_CFG_PHASE_WP j wp).fset F.JCT_CFG_PHASE_RP j rp

/-- The live values become the region safe set (R237). -/
def State.goSafe (s : State) (r : Nat) : State :=
  let s := s.setTaps r (s.seedTaps r)
  let s := s.setReg .SB_TC_TRIM r 0
  s.each (s.build.jctsRead r) fun s j => s.setPhases j 8 8

/-- The stages as R445 numbers them. -/
def stageCode : Stage → Nat
  | .deskew => 0
  | .trim => 1
  | .eye => 2

/-- The state field of a stage number in SB_CAL_STAT. -/
def stageFld : Nat → Fld
  | 0 => F.SB_CAL_STAT_DESKEW
  | 1 => F.SB_CAL_STAT_TRIM
  | _ => F.SB_CAL_STAT_EYE

/-- The disturbance bit of a stage number in SB_CAL_QUAL. -/
def distFld : Nat → Fld
  | 0 => F.SB_CAL_QUAL_SKEW_DIST
  | 1 => F.SB_CAL_QUAL_TRIM_DIST
  | _ => F.SB_CAL_QUAL_EYE_DIST

/-- A stage is FLAGGED. -/
def State.isFlagged (s : State) (r st : Nat) : Bool := s.fget (stageFld st) r == 3

/-- The calibration store of a region becomes live, but for FLAGGED stages, which keep their safe values; the Station
writes the region's tile, and the commit is journaled as one BLOCK entry (R239, R263, R475). -/
def State.storeCommit (s : State) (r : Nat) : State :=
  let old := s.tileCrc r
  let s := s.writeTile r (s.storeTaps r)
  let s := s.setTaps r (if s.isFlagged r 0 then s.seedTaps r else s.storeTaps r)
  let s := s.setReg .SB_TC_TRIM r (if s.isFlagged r 1 then 0 else BitVec.ofNat 32 (s.calRgn r).storeTrim)
  let s := s.each (s.build.jctsRead r) fun s j =>
    if s.isFlagged r 2 then s.setPhases j 8 8 else s.setPhases j (s.xing j).storeWp (s.xing j).storeRp
  s.journal wCal 2 false (tileAddr r) old (s.tileCrc r)

/-- The commit of R239 for every region of a Section; a save holds it until the save ends (R276). -/
def State.secStoreCommit (s : State) (k : Nat) : State :=
  if s.cal.save.isSome then s.setSec k { s.sec k with commitHeld := true }
  else s.each (s.build.regionsOf k) State.storeCommit

/-- The commits of R239 that a save held take place as it ends, in Sections that are not on safe settings (R238, R276). -/
def State.heldCommits (s : State) : State :=
  s.each (List.range s.build.nSections) fun s k =>
    if (s.sec k).commitHeld then
      let s := s.setSec k { s.sec k with commitHeld := false }
      if s.on F.SEC_CTRL_SAFE k then s else s.secStoreCommit k
    else s

/-! ### Pending stages -/

/-- A region joins the end of the queue, once (R251). -/
def State.calEnqueue (s : State) (r : Nat) : State :=
  if s.cal.queue.contains r || s.cal.lanes.contains r then s
  else { s with cal := { s.cal with queue := s.cal.queue ++ [r] } }

/-- A region has work for a lane: a pending stage or a spot check. -/
def State.calWaits (s : State) (r : Nat) : Bool := s.fget F.SB_CAL_STAT_PENDING r != 0 || (s.calRgn r).spots != 0

/-- A stage of a region becomes pending on its own and joins the end of the queue. Refinement that had ended goes on
(R254, R256). -/
def State.markPending (s : State) (r st : Nat) : State :=
  let s := s.fset F.SB_CAL_STAT_PENDING r (s.fget F.SB_CAL_STAT_PENDING r ||| 2 ^ st)
  let s := s.setCalRgn r { s.calRgn r with spots := (s.calRgn r).spots &&& (7 - 2 ^ st) }
  let s := s.calEnqueue r
  if s.fget F.CAL_STATUS_PHASE 0 = 5 then s.fset F.CAL_STATUS_PHASE 0 4 else s

/-- A tile fails its check at a load: the taps are kept and the DESKEW stage becomes pending (R129, R273). -/
def State.tileFailed (s : State) (r : Nat) : State :=
  ((s.setFlag F.SB_TAP_CTRL_TILE_ERR r).markPending r 0).post srcCal 2 0x0B [.num 32 r]

/-! ### Disturbances (R247, R248) -/

/-- The Junctions that the EYE step under way in a region measures: one at a time in the stage, every one that the region
reads in a spot check (R260, R285). -/
def State.eyeJcts (s : State) (r : Nat) : List Nat :=
  match (s.calRgn r).step with
  | some st =>
    if st.stage ≠ 2 then [] else if st.spot then s.build.jctsRead r else ((s.build.jctsRead r)[(s.calRgn r).item]?).toList
  | none => []

/-- The Junctions of an EYE unit restore their pointers and are free from the next writer edge on (R260). -/
def State.eyeFree (s : State) (r : Nat) : State := s.each (s.eyeJcts r) fun s j => s.setXing j { s.xing j with eyeUnit := false }

/-- A step under way in a region is disturbed: aborted, flagged, counted; it starts again at the next gap. -/
def State.calDisturb (s : State) (r : Nat) : State :=
  match (s.calRgn r).step with
  | some st =>
    if st.started then
      let s := s.eyeFree r
      let s := s.setCalRgn r { s.calRgn r with step := some { st with started := false, volt := none, left := 0 } }
      (s.fset (distFld st.stage) r 1).faddSat F.SB_CAL_CNT_DISTURBED r 1
    else s
  | none => s

/-- The stage of the step under way in a region. -/
def State.calStage (s : State) (r : Nat) : Option Nat := (s.calRgn r).step.map (·.stage)

/-- A disturbance that concerns a step of one stage only. -/
def State.calDisturbStage (s : State) (r st : Nat) : State := s.iff (s.calStage r == some st) fun s => s.calDisturb r

/-- A disturbance of the EYE step that measures a Junction. -/
def State.calDisturbEye (s : State) (j : Nat) : State :=
  match s.build.junctions[j]? with
  | some b => s.iff ((s.eyeJcts b.reader).contains j) fun s => s.calDisturb b.reader
  | none => s

/-- Activity in a writer region disturbs the EYE steps that measure Junctions it writes (R247). -/
def State.calDisturbReaders (s : State) (w : Nat) : State :=
  s.each (List.range s.build.junctions.length) fun s j =>
    s.iff ((s.build.junctions[j]?).any fun b => b.writer == w) fun s => s.calDisturbEye j

/-! ### Gaps and units (R247, R249, R250, R253, R255) -/

/-- The region is in a gap at its latest edge: an announced idle, a calibration slot, or FORCE in a READY Section. -/
def State.inGap (s : State) (r : Nat) : Bool :=
  let k := s.build.sectionOf r
  (s.rgn r).idleRun > s.fget F.CAL_CFG_MIN_IDLE 0 || s.on F.SEC_SLOT_ACTIVE k
    || (s.on F.CAL_CTRL_FORCE 0 && s.fget F.SEC_STATUS_STATE k == 3)

/-- The step under way takes an edge of its region: a unit has one edge fewer to come, and its end frees the Junctions; an
edge in a gap is the latest one that MAX_PAUSE counts from (R253, R260). A TRIM step is disturbed by a stretch, a catch-up
or a sympathetic value on an edge of a unit (R247). -/
def State.calEdge (s : State) (r : Nat) : State :=
  match (s.calRgn r).step with
  | none => s
  | some st =>
    let c := s.calRgn r
    let s := s.setCalRgn r { c with gapAt := if s.inGap r then s.stn.elapsed else c.gapAt }
    if st.left = 0 then s
    else if st.stage = 1 ∧ (s.rgn r).moved then s.calDisturb r
    else
      let c := s.calRgn r
      let n := (s.rgn r).edges
      let s := s.setCalRgn r { c with
        step := some { st with left := st.left - 1, unitEnd := if st.left = 1 then some n else st.unitEnd } }
      if st.left = 1 then s.eyeFree r else s

end Sys2Proof.Machine
end

