-- ==== Sys2Proof/Machine/SectionRoot.lean ====
section
/-! DEFINITION. The Section Root: frequency words, change edges, ramps, period faults (R91–R107, R404, R417). -/

namespace Sys2Proof.Machine

/-! ### Frequency words -/

/-- The lowest and highest FW that a Section Root applies (R93). -/
def fwClamp (fw : Nat) : Nat := max 14336 (min 139264 fw)

/-- The safe word (R102). -/
def fwSafe : Nat := 49152

def State.secState (s : State) (k : Nat) : Nat := s.fget F.SEC_STATUS_STATE k
def State.fwCur (s : State) (k : Nat) : Nat := s.fget F.SEC_FW_STATUS_FW_CUR k
def State.ramping (s : State) (k : Nat) : Bool := s.on F.SEC_FW_STATUS_RAMPING k
def State.headway (s : State) (k : Nat) : Bool := s.on F.SEC_HEADWAY_ACTIVE k

/-- The requested word R of a Section (R404). -/
def State.fwAsked (s : State) (k : Nat) : Nat :=
  if s.headway k then s.fget F.SEC_HEADWAY_FW_HW k else s.fget F.SEC_FW_FW k

/-- The governed word of a requested word, before R93's clamp (R404). -/
def State.fwGovRaw (s : State) (k r : Nat) : Nat :=
  max (r - 4096 * (s.fget F.GOV_SEC_STAT_DROP_E k + s.fget F.GOV_SEC_STAT_DROP_M k))
    (min r (s.fget F.GOV_LIMITS_FW_FLOOR 0))

/-- The governed frequency word FW_GOV (R404). -/
def State.fwGov (s : State) (k : Nat) : Nat := fwClamp (s.fwGovRaw k (s.fwAsked k))

/-- The voltage that an entry of the voltage-frequency table demands on a rail, in mV. -/
def State.vfDemand (s : State) (rail n : Nat) : Int :=
  (s.fget F.GOV_VF_MV n : Int) + signed 8 (s.fget F.GOV_RAIL_CFG_OFFSET rail)

/-- FW_V of a rail: the largest FW_MAX that VCONF supports, 49,152 when none qualifies (R417). -/
def State.fwV (s : State) (rail : Nat) : Nat :=
  let ok := (List.range 8).filter fun n => s.vfDemand rail n ≤ (s.fget F.GOV_RAIL_STAT_VCONF rail : Int)
  if ok.isEmpty then fwSafe else maxOf (ok.map fun n => s.fget F.GOV_VF_FW_MAX n)

/-- The requested word that the Section Root runs at; none on safe settings, before STATE READY has been read, and until
the word that follows them applies (R101, R102, R104). -/
def State.fwReq (s : State) (k : Nat) : Option Nat := if s.on F.SEC_CTRL_SAFE k then none else (s.sec k).req

/-- The word that the Section is to run at before the voltage's cap and R93's clamp. -/
def State.fwWanted (s : State) (k : Nat) : Nat :=
  match s.fwReq k with
  | none => fwSafe
  | some r => s.fwGovRaw k r

/-- The word that the Section is to run at, before R93's clamp: while the Governor is enabled FW_V caps every word, the
safe word among them (R102, R417). -/
def State.fwCapped (s : State) (k : Nat) : Nat :=
  if s.on F.GOV_CTRL_EN 0 then min (s.fwWanted k) (s.fwV (s.build.railOf k)) else s.fwWanted k

/-- The word that the Section is to run at (R93, R417). -/
def State.fwTarget (s : State) (k : Nat) : Nat := fwClamp (s.fwCapped k)

/-- HELD_V follows R417 and posts class 3 code 0x05 as it rises. -/
def State.updateHeld (s : State) (k : Nat) : State :=
  let held := s.on F.GOV_CTRL_EN 0 && (s.sec k).released && s.fwV (s.build.railOf k) < fwClamp (s.fwWanted k)
  let was := s.on F.GOV_SEC_STAT_HELD_V k
  let s := s.fsetB F.GOV_SEC_STAT_HELD_V k held
  if held && !was then s.post srcGov 3 5 [pSection k, .fw (s.fwGov k), .fw (s.fwV (s.build.railOf k))] else s

/-! ### Change edges -/

/-- PENDING of SEC_FW_STATUS and SEC_HEADWAY follow the changes that wait. -/
def State.updatePend (s : State) (k : Nat) : State :=
  let p := (s.sec k).pend
  (s.fsetB F.SEC_FW_STATUS_PENDING k (p.any (·.applies))).fsetB F.SEC_HEADWAY_PENDING k (p.any (·.hw.isSome))

/-- A playback that ends unqualified counts as skipped (R162). -/
def State.endPlay (s : State) (r : Nat) : State :=
  if (s.rgn r).play.isSome then
    (s.setRgn r { s.rgn r with play := none, own := 0 }).faddWrap F.SB_PROFILE_SEQ_SKIPPED r 1
  else s.setRgn r { s.rgn r with own := 0 }

/-- What a frequency change edge does in one region: a running region is to write off at its first edge, a playback
ends, the region may request on the stretch bus again, and a calibration step is disturbed (R156, R188, R247, R496). -/
def State.edgeRegion (fwOld : Nat) (s : State) (r : Nat) : State :=
  let g := s.rgn r
  let s := s.setRgn r { g with
    woff := if s.fget F.SB_CLK_STATUS_STATE r = 1 ∧ g.first = none then some (g.woff.getD fwOld) else g.woff
    offBus := false
    busRun := 0 }
  (s.endPlay r).calDisturb r

/-- A frequency change edge of a Section, once at a tick edge however many changes meet there (R188, R191, R361). -/
def State.startEdge (s : State) (k : Nat) : State :=
  let c := s.sec k
  if c.edgeAt = some s.count then s
  else
    let fwOld := s.fwCur k
    let s := s.setSec k { c with edgeAt := some s.count, preFw := fwOld, preRamp := s.ramping k, preTarget := c.target,
                                 bus := [] }
    let s := s.faddWrap F.SEC_WOFF_CNT_COUNT k 1
    s.each (s.build.regionsOf k) (State.edgeRegion fwOld)

/-- Put a word in force. A change of FW unlocks the DLLs until they lock again (R110, R113). -/
def State.moveFw (s : State) (k fw : Nat) : State :=
  if fw = s.fwCur k then s
  else
    let s := s.fset F.SEC_FW_STATUS_FW_CUR k fw
    let s := s.setSec k { s.sec k with lastChange := s.stn.elapsed }
    s.each (s.build.regionsOf k) fun s r => (s.fset F.SB_CLK_STATUS_DLL_LOCKED r 0).fset F.SB_CLK_STATUS_ALIGNED r 0

/-- One step of at most 8,192 from one word toward another (R96). -/
def fwStep (fw target : Nat) : Nat :=
  if target ≤ fw then (if fw - target ≤ 8192 then target else fw - 8192)
  else if target - fw ≤ 8192 then target else fw + 8192

/-- A step toward a target: the ramp goes on while the target is not reached (R96). -/
def State.stepFw (s : State) (k fw target : Nat) : State :=
  let next := fwStep fw target
  let s := s.moveFw k next
  let s := s.fsetB F.SEC_FW_STATUS_RAMPING k (next != target)
  s.setSec k { s.sec k with target, rampNext := s.count + 128 }

/-- CLAMPED is set where R93 clamps the word that the Section is to run at. -/
def State.noteClamp (s : State) (k : Nat) : State :=
  if s.fwTarget k ≠ s.fwCapped k ∨ (s.fwReq k).any (fun r => fwClamp r != r) then s.setFlag F.SEC_FW_STATUS_CLAMPED k else s

/-- Apply the target at a change edge. Changes that meet at one edge start from the word in force before it; in a ramp
only the target is replaced (R96, R98, R361). -/
def State.applyTarget (s : State) (k : Nat) : State :=
  let s := (s.noteClamp k).updateHeld k
  let c := s.sec k
  let target := s.fwTarget k
  if c.preRamp then
    if s.ramping k || target = s.fwCur k then s.setSec k { c with target }
    else (s.setSec k { c with target, rampNext := s.count + 128 }).fset F.SEC_FW_STATUS_RAMPING k 1
  else s.stepFw k c.preFw target

/-- A frequency change takes effect now, at a change edge of its own. A ramp under way keeps the word of its step and its
128 tk boundaries, and goes on to the new target (R98, R188). -/
def State.freqChange (s : State) (k : Nat) : State := (s.startEdge k).applyTarget k

/-- A requested word takes force now. -/
def State.takeWord (s : State) (k fw : Nat) : State := (s.setSec k { s.sec k with req := some fw }).freqChange k

/-- A write-off at will, with no change of frequency (R191, R363). -/
def State.writeOffNow (s : State) (k : Nat) : State := s.startEdge k

/-- The region's last edge fell on the present tick edge. -/
def State.edgeOnTick (s : State) (r : Nat) : Bool :=
  let t := (s.rgn r).tLast
  t.num == (s.count * t.den : Nat)

/-- Hardware sets bits of a W1C field at the region's last edge (R9). -/
def State.setBitsEdge (s : State) (r : Nat) (f : Fld) (u bits : Nat) : State :=
  if s.edgeOnTick r then s.setBits f u bits else s.setBitsMid f u bits

/-- Hardware sets a W1C flag at the region's last edge (R9). -/
def State.setFlagEdge (s : State) (r : Nat) (f : Fld) (u : Nat) : State := s.setBitsEdge r f u 1

/-- The bus status of a Section after a request of region `r` changed (R184). -/
def State.busCount (s : State) (r k n : Nat) : State :=
  let was := s.fget F.SEC_SYM_STATUS_REQUESTERS k
  let s := (s.fset F.SEC_SYM_STATUS_REQUESTERS k n).fsetB F.SEC_SYM_STATUS_ACTIVE k (n != 0)
  if was = 0 ∧ n ≠ 0 then (s.setFlagEdge r F.SEC_SYM_STATUS_SEEN k).faddWrap F.SEC_SYM_CNT_EPISODES k 1 else s

/-- A region starts or ends its request (R183). -/
def State.setRequest (s : State) (r : Nat) (on : Bool) : State :=
  let k := s.build.sectionOf r
  let n := s.fget F.SEC_SYM_STATUS_REQUESTERS k
  let s := s.setRgn r { s.rgn r with symEnd := (s.rgn r).symEnd && on }
  if on == s.on F.SB_SLIP_REQ r then s
  else (s.fsetB F.SB_SLIP_REQ r on).busCount r k (if on then n + 1 else n - 1)

/-- Fixed-headway mode starts or ends (R164–R167). -/
def State.setHeadway (s : State) (k : Nat) (on : Bool) : State :=
  let s := s.fsetB F.SEC_HEADWAY_ACTIVE k on
  if on then s.each (s.build.regionsOf k) (fun s r => s.setRequest r false) else s

/-- A headway transition is due: the mode changes at this edge, with the word of the mode, 32 tk after the write even where
a ramp is under way (R164, R165, R171, R362); on safe settings the word stays the safe word (R170). -/
def State.headwayDue (s : State) (k : Nat) (on : Bool) : State :=
  let s := (s.startEdge k).setHeadway k on
  let s := if s.on F.SEC_CTRL_SAFE k then s else s.setSec k { s.sec k with req := some (s.fwAsked k) }
  s.applyTarget k

/-- A change waits for its tick. -/
def State.addPend (s : State) (k : Nat) (p : SecPend) : State :=
  (s.setSec k { s.sec k with pend := (s.sec k).pend ++ [p] }).updatePend k

/-- The word held for the mode that SEC_CTRL.HEADWAY asks for (R101, R104). -/
def State.fwHeld (s : State) (k : Nat) : Nat :=
  if s.on F.SEC_CTRL_HEADWAY k then s.fget F.SEC_HEADWAY_FW_HW k else s.fget F.SEC_FW_FW k

/-- One change whose tick has come: its commit of the calibration store (R239), its headway transition, its word. -/
def State.applyPend (k : Nat) (s : State) (p : SecPend) : State :=
  let s := if p.commit then s.secStoreCommit k else s
  match p.hw with
  | some on => s.headwayDue k on
  | none =>
    if p.applies then s.takeWord k (p.word.getD (s.fwHeld k)) else s.setSec k { s.sec k with req := some (s.fwHeld k) }

/-- The changes of a Section that are due at the present tick. -/
def State.pendDue (s : State) (k : Nat) : State :=
  let (due, wait) := (s.sec k).pend.partition (fun p => p.due ≤ s.count)
  let s := (s.setSec k { s.sec k with pend := wait }).updatePend k
  s.each due (State.applyPend k)

/-- SAFE is set while changes wait: words and commits are dropped, headway transitions stay (R102, R170, R238; DEDUCED,
log entry 70). -/
def SecPend.onSafe (l : List SecPend) : List SecPend :=
  (l.filter fun p => p.hw.isSome).map fun p => { p with commit := false }

/-! ### Writes of the Section's registers -/

/-- The Section applies written words now: READY, and not on safe settings (R101, R102). -/
def State.secApplies (s : State) (k : Nat) : Bool := s.secState k == 3 && !s.on F.SEC_CTRL_SAFE k

/-- A written word of the mode in use: a Desk's applies at the edge at which the write takes effect (R360), any other
32 tk later, as written (R94, R169). -/
def State.wordWritten (s : State) (k fw : Nat) (desk : Bool) : State :=
  if desk then s.takeWord k fw else s.addPend k { due := s.count + 32, word := some fw }

/-- A write of SEC_FW has been stored (R94, R169). -/
def State.secFwWritten (s : State) (k : Nat) (desk : Bool) : State :=
  if s.secApplies k && !s.on F.SEC_CTRL_HEADWAY k then s.wordWritten k (s.fget F.SEC_FW_FW k) desk else s

/-- A write of SEC_HEADWAY.FW_HW has been stored: a frequency change while HEADWAY is 1 (R169). -/
def State.secHeadwayWritten (s : State) (k : Nat) (desk : Bool) : State :=
  if s.secApplies k && s.on F.SEC_CTRL_HEADWAY k then s.wordWritten k (s.fget F.SEC_HEADWAY_FW_HW k) desk else s

/-- SAFE went from 0 to 1: the region safe set, and the safe word at this edge where the Section does not run at it
(R102, R238). -/
def State.safeSet (s : State) (k : Nat) : State :=
  let s := s.fset F.SEC_STATUS_SAFE_ACTIVE k 1
  let s := s.each (s.build.regionsOf k) fun s r => (s.calDisturb r).goSafe r
  let s := (s.setSec k { s.sec k with req := none, pend := SecPend.onSafe (s.sec k).pend, commitHeld := false }).updatePend k
  let runs := s.secState k == 1 || s.secState k == 2 || s.secState k == 3
  let s := s.updateHeld k
  if runs && (s.fwCur k != s.fwTarget k || s.ramping k) then s.freqChange k else s

/-- SAFE went from 1 to 0: the requested word applies 32 tk later and brings the commit of R239 (R104). -/
def State.safeClear (s : State) (k : Nat) : State :=
  let s := s.fset F.SEC_STATUS_SAFE_ACTIVE k 0
  let s := s.each (s.build.regionsOf k) fun s r => s.calDisturb r
  if (s.sec k).readSeen && s.secState k == 3 then s.addPend k { due := s.count + 32, commit := true } else s

/-- A write of SEC_CTRL has been stored; RESTART is left to the release (R106, R107). -/
def State.secCtrlWritten (s : State) (k : Nat) (old : Word) : State :=
  let s := if s.secState k = 4 then s else s.fset F.SEC_CTRL_RESTART k 0
  let s :=
    if getF old 2 1 = 0 ∧ s.on F.SEC_CTRL_SAFE k then s.safeSet k
    else if getF old 2 1 = 1 ∧ !s.on F.SEC_CTRL_SAFE k then s.safeClear k
    else s
  if getF old 1 1 ≠ s.fget F.SEC_CTRL_HEADWAY k then
    let s := s.each (s.build.regionsOf k) fun s r => s.calDisturb r
    if s.secState k = 3 then s.addPend k { due := s.count + 32, hw := some (s.on F.SEC_CTRL_HEADWAY k) } else s
  else s

/-- The Station sets SEC_CTRL.SAFE in one Section, journaled with SRC 7 (R103, R475, R549). -/
def State.stationSafe (s : State) (k : Nat) : State :=
  let old := s.reg .SEC_CTRL k
  let s := s.fset F.SEC_CTRL_SAFE k 1
  let s := if getF old 2 1 = 0 then s.safeSet k else s
  s.journal wStation 0 false (0x2000 + 0x80 * k + 0xC) old.toNat (s.reg .SEC_CTRL k).toNat

/-! ### The commands -/

/-- FREQUENCY_CHANGE (R188): the changes of a Section whose tick has come. -/
def execFrequencyChange (sec : Nat) (s : State) : Host.Outcome State Fault Refusal :=
  s.act fun s => s.iff (sec < s.build.nSections) fun s => s.pendDue sec

/-- RAMP_STEP (R96): every 128 tk of a ramp. -/
def execRampStep (sec : Nat) (s : State) : Host.Outcome State Fault Refusal :=
  s.act fun s => s.iff (s.ramping sec && (s.sec sec).rampNext ≤ s.count) fun s =>
    let s := s.startEdge sec
    s.stepFw sec (s.fwCur sec) (s.sec sec).target

/-- A cause begins: a running clock stops before its next edge; a restart that was set is withdrawn (R122, R601). -/
def State.causeBegun (s : State) (r : Nat) : State :=
  let g := s.rgn r
  if s.fget F.SB_CLK_STATUS_STATE r = 1 ∧ !g.stopDue then
    s.setRgn r { g with stopDue := true, stopTk := s.stn.elapsed, restartMin := none }
  else s.setRgn r { g with restartMin := none }

/-- A region enters cause SECTION (R106): a running clock stops before its next edge. -/
def State.causeSection (s : State) (r : Nat) : State :=
  let s := (s.fset F.SB_GATE_SECTION r 1).causeBegun r
  s.setRgn r { s.rgn r with rstReq := true, masked := true }

/-- Every Section is READY or FAULT (HIF_BOOT.ALL_READY). -/
def State.allReady (s : State) : Bool := (List.range s.build.nSections).all fun k => s.secState k == 3 || s.secState k == 4

/-- A Section enters a STATE; HIF_IRQ_SRC is set as ALL_READY rises (R524). -/
def State.enterState (s : State) (k n : Nat) : State :=
  let t := s.fset F.SEC_STATUS_STATE k n
  if !s.allReady && t.allReady then t.setFlag F.HIF_IRQ_SRC_ALL_READY 0 else t

/-- A Section period fault (R106). -/
def State.secFault (s : State) (k edges : Nat) : State :=
  let s := s.setFlag F.SEC_STATUS_PERIOD_FAULT k
  let s := (s.enterState k 4).fset F.SEC_STATUS_LOCKED k 0
  let s := s.setSec k { s.sec k with pend := [], req := none, dark := true }
  let s := (s.fset F.SEC_FW_STATUS_RAMPING k 0).updatePend k
  let s := s.each (s.build.regionsOf k) State.causeSection
  s.post (srcSec k) 0 0x10 [pSection k, pOther edges]

/-- SECTION_PERIOD_CHECK (R105, R106): every 64 tk, over 192 tk without a change of FW. -/
def execSectionPeriodCheck (sec edges : Nat) (phaseErr : Int) (s : State) : Host.Outcome State Fault Refusal :=
  s.act fun s =>
    let runs := s.secState sec == 1 || s.secState sec == 2 || s.secState sec == 3
    s.iff (sec < s.build.nSections && s.count % 64 == 0 && runs) fun s =>
      let s := s.fset F.SEC_PLL_PHASE_ERR sec (satS 16 phaseErr)
      let s := s.fset F.SEC_PLL_MAX_PS sec (max (s.fget F.SEC_PLL_MAX_PS sec) (satU 8 phaseErr.natAbs))
      let quiet := s.stn.elapsed ≥ (s.sec sec).lastChange + 192
      let diff := ((edges * 1024 : Nat) - (3 * s.fwCur sec : Nat) : Int).natAbs
      if quiet && diff > 2 * 1024 then s.secFault sec edges else s

end Sys2Proof.Machine
end

