-- ==== Sys2Proof/Machine/Rotator.lean ====
section
/-!
DEFINITION. The rotator: whether a region runs, where its coming edge lies, the write-off at a change edge, the
alignment offset (R22, R109, R113, R175–R189).
-/

namespace Sys2Proof.Machine

/-- A region of the instance. -/
def State.isRegion (s : State) (r : Nat) : Bool := r < s.build.nRegions

/-- SB_CLK_STATUS.STATE: 0 STOPPED, 1 RUNNING, 2 GATED. -/
def State.clk (s : State) (r : Nat) : Nat := s.fget F.SB_CLK_STATUS_STATE r

/-- A gating cause is present (R122). -/
def State.gateCause (s : State) (r : Nat) : Bool :=
  s.on F.SB_GATE_FAULT r || s.on F.SB_GATE_SECTION r || s.on F.SB_GATE_PORT r || s.on F.SB_GATE_FORCE r

/-- The balance of a region's Slip Ledger: the majority of its copies (R176). -/
def Rgn.ledger (g : Rgn) : Nat := maj3 g.ledA g.ledB g.ledC

/-- The three ledger copies at one value. -/
def Rgn.setLedger (g : Rgn) (l : Nat) : Rgn := { g with ledA := l, ledB := l, ledC := l }

/-- The region's Section clock runs. -/
def State.secRuns (s : State) (r : Nat) : Bool :=
  let st := s.secState (s.build.sectionOf r)
  st == 2 || st == 3

/-- The catch-up interval (R180). -/
def State.cuInt (s : State) (r : Nat) : Nat := max 2 (min 16 (s.fget F.SB_SLIP_CFG_CU_INT r))

/-! ### The alignment offset (R113) -/

/-- ALIGN_PH of a running region takes up what the DLL measured where the rotator returns to ALIGN: at a write-off or at
the start of the clock (R109; DESIGN CHOICE, log entry 71). -/
def State.alignPhNow (s : State) (r : Nat) : State :=
  match (s.rgn r).alignTgt with
  | some (ph, _) => s.fset F.SB_ROT_ALIGN_PH r ph
  | none => s

/-- The alignment is reached once ALIGN holds what the DLL measured (R113). -/
def State.alignReached (s : State) (r : Nat) : State :=
  match (s.rgn r).alignTgt with
  | some (ph, fine) =>
    if s.fget F.SB_ROT_ALIGN_PH r = ph ∧ s.fget F.SB_ROT_ALIGN_FINE r = fine then
      (s.setRgn r { s.rgn r with alignTgt := none }).fsetB F.SB_CLK_STATUS_ALIGNED r
        ((signed 8 (s.fget F.SB_ROT_RESID_PS r)).natAbs ≤ 15)
    else s
  | none => s

/-- ALIGN_FINE moves by at most one step at a region edge (R113). -/
def State.alignWalk (s : State) (r : Nat) : State :=
  match (s.rgn r).alignTgt with
  | some (_, fine) =>
    let f := s.fget F.SB_ROT_ALIGN_FINE r
    (s.fset F.SB_ROT_ALIGN_FINE r (if f < fine then f + 1 else if fine < f then f - 1 else f)).alignReached r
  | none => s

/-! ### The write-off at a change edge (R189) -/

/-- The smallest whole number at or above a quotient, not below 0. -/
def ceilNat (n : Int) (d : Nat) : Nat := ((n + (d : Int) - 1) / (d : Int)).toNat

/-- The first zero-lag edge of the new FW that lies at least one rc of the old FW after the region's last edge, and after
the change edge, as a position in ph (R189). -/
def State.writeOffPos (s : State) (k : Nat) (t : TickTime) (fwOld : Nat) : Nat :=
  let c := s.sec k
  let fw := s.fwCur k
  -- Section edge n falls at count + (65536 n − acc) / fw, and the old grid's next edge at t + 65536 / fwOld.
  let at_ (num : Int) (den : Nat) : Int := (num - (s.count * den : Nat)) * (fw : Int) + (c.acc * den : Nat)
  let oldDen := t.den * fwOld
  16 * max (ceilNat (at_ (t.num * (fwOld : Int) + (65536 * t.den : Nat)) oldDen) (65536 * oldDen))
    (ceilNat (at_ ((c.edgeAt.getD 0 : Nat) : Int) 1 + 1) 65536)

/-- WRITE_OFF (R189): the rotator returns to ALIGN, the ledger goes to 0 and the balance counts as written off. -/
def State.takeWriteOff (s : State) (r : Nat) : State :=
  let g := s.rgn r
  match g.woff with
  | none => s
  | some fwOld =>
    let l := g.ledger
    let pos := s.writeOffPos (s.build.sectionOf r) g.tLast fwOld
    let g := g.setLedger 0
    let s := s.setRgn r { g with
      woff := none, first := some pos, woffPh := g.woffPh + l, restRun := 0, cuSince := none, own := 0
      lastWoff := s.stn.elapsed, mile := { g.mile with woff := g.mile.woff + l } }
    (((s.setRequest r false).fset F.SB_SLIP_RESTORED r 0)).alignPhNow r

/-! ### Placing the edge (R175–R187) -/

/-- What one edge carries: the Section edge at which it is due, its stretch, catch-up, own and sympathetic stretch. -/
structure Placed where
  due  : Nat
  s    : Nat := 0
  c    : Nat := 0
  own  : Nat := 0
  sym  : Nat := 0
  deriving DecidableEq, Repr

/-- The stretch denied by the bound (R179). -/
def Placed.denied (p : Placed) : Nat := max p.own p.sym - p.s

/-- The maximum of the bus values that are due on an edge due at Section edge `n` (R186). -/
def State.busDue (s : State) (k duePrev n : Nat) : Nat :=
  maxOf (((s.sec k).bus.filter fun e => duePrev < e.1 + 2 && e.1 + 2 ≤ n).map (·.2))

/-- The stretch and catch-up of a region's coming edge (R175, R177, R180–R182, R186). -/
def State.placeEdge (s : State) (r : Nat) (busBad : Bool) : Placed :=
  let k := s.build.sectionOf r
  let g := s.rgn r
  match g.first with
  | some p => { due := p / 16 }
  | none =>
    let n := (g.pos + 16) / 16
    if s.headway k then { due := n }
    else
      let req := s.on F.SB_SLIP_REQ r
      let dueVal := if busBad || g.offBus then 0 else s.busDue k g.duePrev n
      let sym := if req then 0 else dueVal
      let l := g.ledger
      let st := min (96 - l) (max g.own sym)
      let spaced := match g.cuSince with
        | none => true
        | some n => n + 1 ≥ s.cuInt r
      let cu := s.on F.SB_SLIP_RESTORED r && st == 0 && dueVal == 0 && (req || !s.on F.SEC_SYM_STATUS_ACTIVE k)
        && l > 0 && spaced
      { due := n, s := st, c := cu.toNat, own := g.own, sym }

/-- The time of a position of a Section's clock, from the present tick edge and FW. -/
def State.timeOf (s : State) (k pos : Nat) : TickTime :=
  let fw := s.fwCur k
  { num := (s.count * fw + pos * 4096 : Nat) - ((s.sec k).acc : Int), den := max 1 fw }

/-- The position of a region's coming edge, in ph (R109, R175, R189). -/
def State.nextPos (s : State) (r : Nat) (busBad : Bool) : Nat :=
  let s := s.takeWriteOff r
  let p := s.placeEdge r busBad
  match (s.rgn r).first with
  | some q => q
  | none => (s.rgn r).pos + 16 + p.s - p.c

/-- A position of a Section's clock has come by the next tick edge: what R22 places later is not delivered yet. -/
def State.posComes (s : State) (k pos : Nat) : Bool := pos * 4096 < (s.sec k).acc + s.fwCur k

/-- The region delivers edges: it runs, and no cause or grant stops it. -/
def State.delivers (s : State) (r : Nat) : Bool :=
  s.isRegion r && s.clk r == 1 && !(s.rgn r).stopDue && (s.rgn r).grant != 3 && s.secRuns r

/-- The region delivers an edge before the next tick edge (R22). -/
def State.edgeComes (s : State) (r : Nat) (busBad : Bool := false) : Bool :=
  s.delivers r && s.posComes (s.build.sectionOf r) (s.nextPos r busBad)

end Sys2Proof.Machine
end

