-- ==== Sys2Proof/Machine/Channel.lean ====
section
/-!
DEFINITION. The control channel of a crossing (R214, R220–R226, R229, R603): reset inputs, flush edges, the restart
handshake. `ed` gives the edges that each side's region has delivered.
-/

namespace Sys2Proof.Machine

/-- Edges of 48-bit counts since an earlier count. -/
def edgesSince (a b : Nat) : Nat := (b + 2 ^ 48 - a) % 2 ^ 48

/-- A level driven when the receiving side had delivered `a` edges is seen at its edge `b`: the second, or the third where
the synchroniser takes that one (R211, R214, R221). -/
def seenBy (late : Bool) (a b : Nat) : Bool := edgesSince a b ≥ (if late then 3 else 2)

def otherSide : Side → Side
  | .writer => .reader
  | .reader => .writer

/-- The reset input of a side. -/
def Chan.rst (c : Chan) : Side → Bool
  | .writer => c.wRst
  | .reader => c.rRst

/-- The flush edge of a side is to come. -/
def Flush.due (f : Flush) : Side → Bool
  | .writer => f.wDue
  | .reader => f.rDue

/-- The edges of a side's region at the cause of its flush edge. -/
def Flush.from_ (f : Flush) : Side → Nat
  | .writer => f.wFrom
  | .reader => f.rFrom

/-- Both flush edges have passed. -/
def Flush.passed (f : Flush) : Bool := !f.wDue && !f.rDue

/-- The side that starts the handshake: the one reset, else the reader (R222, R223, R229). -/
def Flush.starter (f : Flush) : Side := if f.cause = 1 then .writer else .reader

/-- What an unrecorded flush has discarded, which a new one carries on (R603). -/
def Chan.carried (c : Chan) : Nat :=
  match c.flush with
  | some f => if f.recorded then 0 else f.n
  | none => 0

/-- A reset input is asserted: a flush starts, of both sides where the other input is asserted, and `n` is discarded at
once (R220, R223, R224). -/
def Chan.assert (c : Chan) (side : Side) (ed : Side → Nat) (n : Nat) : Chan :=
  let both := c.rst (otherSide side)
  let still (sd : Side) : Bool := both && c.flush.any (·.due sd)
  let since (sd : Side) : Nat := (c.flush.map (·.from_ sd)).getD 0
  match side with
  | .writer =>
    { c with wRst := true, hand := none
             flush := some { cause := if both then 3 else 1, n := c.carried + n, wDue := still .writer, rDue := true
                             wFrom := since .writer, rFrom := if still .reader then since .reader else ed .reader } }
  | .reader =>
    { c with rRst := true, hand := none
             flush := some { cause := if both then 3 else 2, n := c.carried + n, wDue := true, rDue := still .reader
                             wFrom := if still .writer then since .writer else ed .writer, rFrom := since .reader } }

/-- A realignment is requested (R229, R231). -/
def Chan.realign (c : Chan) (cause : Nat) (ed : Side → Nat) : Chan :=
  { c with hand := none
           flush := some { cause, n := c.carried, wDue := true, rDue := true, wFrom := ed .writer, rFrom := ed .reader } }

/-- The flush edge of a side may be this one: its second after the cause, or its third (R221). -/
def Chan.flushes (c : Chan) (side : Side) (ed : Side → Nat) : Bool :=
  c.flush.any fun f => f.due side && seenBy false (f.from_ side) (ed side)

/-- The flush edge of a side can be no later than this one (R221). -/
def Chan.mustFlush (c : Chan) (side : Side) (ed : Side → Nat) : Bool :=
  c.flush.any fun f => f.due side && seenBy true (f.from_ side) (ed side)

/-- The flush edge of a side: `n` is discarded, and the flush acknowledgement is driven to the side that was reset. -/
def Chan.flushEdge (c : Chan) (side : Side) (ed : Side → Nat) (n : Nat) : Chan :=
  match c.flush with
  | none => c
  | some f =>
    let f := { f with n := f.n + n, ackFrom := some (ed f.starter) }
    { c with flush := some (match side with
        | .writer => { f with wDue := false }
        | .reader => { f with rDue := false }) }

/-- The handshake may start (R222, R223, R229). -/
def Chan.mayStart (c : Chan) : Bool :=
  c.hand.isNone && !c.wRst && !c.rRst && c.flush.any fun f => f.passed && (f.acked || f.cause ≥ 3)

/-- The request rises, at an edge of the side that starts the handshake. -/
def Chan.start (c : Chan) (side : Side) (ed : Side → Nat) : Chan :=
  if c.mayStart && c.flush.any (fun f => f.starter == side) then
    { c with hand := some { starter := side, step := 1, from_ := ed (otherSide side) } }
  else c

/-- A reset input is deasserted at an edge of its side (R220, R222). -/
def Chan.deassert (c : Chan) (side : Side) (ed : Side → Nat) : Chan :=
  match side with
  | .writer => { c with wRst := false }.start side ed
  | .reader => { c with rRst := false }.start side ed

/-- The flush acknowledgement, where this edge sees it (R222). -/
def Chan.seeAck (c : Chan) (side : Side) (ed : Side → Nat) (late : Bool) : Chan :=
  { c with flush := c.flush.map fun f =>
      if f.starter = side ∧ f.ackFrom.any (fun a => seenBy late a (ed side)) then { f with acked := true } else f }

/-- The handshake's steps that no command makes: its start, the acknowledge's rise, the request's fall (R222). -/
def Hand.edge (h : Hand) (side : Side) (ed : Side → Nat) (late : Bool) : Hand :=
  if h.step = 0 ∧ side = h.starter then { h with step := 1, from_ := ed (otherSide side) }
  else if h.step = 1 ∧ side ≠ h.starter ∧ seenBy late h.from_ (ed side) then { h with step := 2, from_ := ed h.starter }
  else if h.step = 2 ∧ side = h.starter ∧ seenBy late h.from_ (ed side) then
    { h with step := 3, from_ := ed (otherSide side) }
  else h

/-- An edge of a side: what its synchronisers see; `late`: they take their third edge at this one. -/
def Chan.edge (c : Chan) (side : Side) (ed : Side → Nat) (late : Bool) : Chan :=
  match c.hand with
  | some h => { c with hand := some (h.edge side ed late) }
  | none => (c.seeAck side ed late).start side ed

/-- The steps with which a side's half comes to run: the other side sees the request fall, then the starter sees the
acknowledge fall, which ends the handshake and its flush (R222, R603). -/
def Chan.ends (c : Chan) (side : Side) (ed : Side → Nat) : Option Chan :=
  match c.hand with
  | none => none
  | some h =>
    if h.step = 3 ∧ side ≠ h.starter ∧ seenBy false h.from_ (ed side) then
      some { c with hand := some { h with step := 4, from_ := ed h.starter } }
    else if h.step = 4 ∧ side = h.starter ∧ seenBy false h.from_ (ed side) then some { c with hand := none, flush := none }
    else none

end Sys2Proof.Machine
end

