-- ==== Sys2Proof/Machine/Crossing.lean ====
section
/-!
DEFINITION. Junctions and Interchanges: their outputs at each edge, writes, reads, holds, pointer samples, resets,
flushes, handshakes, realignment, occupancy (R199–R212, R219–R235, R602, R603).
-/

namespace Sys2Proof.Machine

/-! ### Which cell -/

/-- A Junction or Interchange: the key of its record, its index, its two regions, the depth, the data's width. -/
structure Cell where
  isJct  : Bool
  key    : Nat
  idx    : Nat
  writer : Nat
  reader : Nat
  depth  : Nat
  width  : Nat
  deriving DecidableEq, Repr

/-- The cell of an id, none for a Token crossing or one that the instance lacks. -/
def Build.cell (b : Build) : XId → Option Cell
  | .jct j => (b.junctions[j]?).map fun x => ⟨true, j, j, x.writer, x.reader, 16, x.width⟩
  | .ich i => (b.interchanges[i]?).map fun x => ⟨false, 4096 + i, i, x.writer, x.reader, b.ichDepth, x.width⟩
  | .tok _ => none

/-- The Junction's or the Interchange's field. -/
def Cell.fld (c : Cell) (j i : Fld) : Fld := if c.isJct then j else i

def Cell.stateF (c : Cell) : Fld := c.fld F.JCT_STAT_STATE F.ICH_STAT_STATE
def Cell.heldF (c : Cell) : Fld := c.fld F.JCT_STAT_HELD F.ICH_STAT_HELD
def Cell.parityF (c : Cell) : Fld := c.fld F.JCT_STAT_PARITY F.ICH_STAT_PARITY
def Cell.flushF (c : Cell) : Fld := c.fld F.JCT_STAT_FLUSH F.ICH_STAT_FLUSH
def Cell.flushedF (c : Cell) : Fld := c.fld F.JCT_STAT_FLUSHED F.ICH_STAT_FLUSHED
def Cell.causeF (c : Cell) : Fld := c.fld F.JCT_STAT_CAUSE F.ICH_STAT_CAUSE
def Cell.occF (c : Cell) : Fld := c.fld F.JCT_STAT_OCC F.ICH_STAT_OCC
def Cell.occMaxF (c : Cell) : Fld := c.fld F.JCT_STAT_OCC_MAX F.ICH_STAT_OCC_MAX
def Cell.realignF (c : Cell) : Fld := c.fld F.JCT_CFG_REALIGN F.ICH_CFG_REALIGN

/-- The cell as the first item of a payload (R445). -/
def Cell.item (c : Cell) : PItem := if c.isJct then .num 11 c.idx else pOther c.idx

/-- STATE: 0 OFF, 1 RUN, 2 FLUSHED, 3 RESTART. -/
def State.xState (s : State) (c : Cell) : Nat := s.fget c.stateF c.idx

/-- The region of a side. -/
def Cell.side (c : Cell) : Side → Nat
  | .writer => c.writer
  | .reader => c.reader

/-- A region has just delivered an edge. -/
def State.atEdge (s : State) (r : Nat) : Bool := s.clk r == 1 && (s.rgn r).first.isNone && (s.rgn r).sinceStart > 0

/-! ### Edges as a crossing sees them (R202–R206, R211) -/

/-- The latest edge of a region, for a cell. -/
def State.edgePt (s : State) (c : Cell) (r : Nat) : EdgePt :=
  let g := s.rgn r
  let k := s.build.sectionOf r
  { pos := g.pos, time := g.tLast, fw := s.fwCur k, woff := s.fget F.SEC_WOFF_CNT_COUNT k
    gateW := (s.rgn c.writer).gatings, gateR := (s.rgn c.reader).gatings
    wEdges := (s.rgn c.writer).edges, rEdges := (s.rgn c.reader).edges }

/-- At least 40 ph after an edge: in ph, or in tk at the slower FW across a frequency change or a gating (R202, R204,
R206). -/
def EdgePt.after40 (x y : EdgePt) : Bool :=
  if x.woff = y.woff ∧ x.gateW = y.gateW ∧ x.gateR = y.gateR then x.pos + 40 ≤ y.pos
  else
    let dt := y.time.num * (x.time.den : Int) - x.time.num * (y.time.den : Int)
    dt * (min x.fw y.fw : Nat) ≥ (163840 * x.time.den * y.time.den : Nat)

/-- The edges that each side's region has delivered. -/
def State.cellEdges (s : State) (c : Cell) (side : Side) : Nat := (s.rgn (c.side side)).edges

/-- An entry written at `w` is readable at the reader edge `r` (R202, R211). -/
def Cell.readable (c : Cell) (late : Bool) (w r : EdgePt) : Bool :=
  if c.isJct then w.after40 r else seenBy late w.rEdges r.rEdges

/-- A read at `r` is visible at the writer edge `w` (R204, R211). -/
def Cell.visible (c : Cell) (late : Bool) (r w : EdgePt) : Bool :=
  if c.isJct then r.after40 w else seenBy late r.wEdges w.wEdges

/-! ### Pointer samples (R207, R208) -/

/-- A strobe offset moves by at most 1 ph (R208). -/
def walkPhase (p tgt : Nat) : Nat := if p < tgt then p + 1 else if p > tgt then p - 1 else p

/-- The sample held once every strobe up to a position has fallen, and the strobes to come. -/
def sampled (held pos : Nat) (l : List (Nat × Nat)) : Nat × List (Nat × Nat) :=
  let (past, rest) := l.partition (fun x => x.1 ≤ pos)
  (((past.getLast?).map (·.2)).getD held, rest)

/-- A sending edge of a Junction: its strobe falls at 16 + PHASE ph after it, with the offset in use, which then moves
(R207, R208). -/
def Xing.sends (x : Xing) (side : Side) (pos wp rp : Nat) : Xing :=
  match side with
  | .writer =>
    let (held, rest) := sampled x.wSamp pos x.wStrobes
    { x with wSamp := held, wStrobes := rest ++ [(pos + 16 + x.liveWp, x.wPtr)], liveWp := walkPhase x.liveWp wp }
  | .reader =>
    let (held, rest) := sampled x.rSamp pos x.rStrobes
    { x with rSamp := held, rStrobes := rest ++ [(pos + 16 + x.liveRp, x.rPtr)], liveRp := walkPhase x.liveRp rp }

/-- A receiving edge of a Junction: the samples made before it. -/
def Xing.receives (x : Xing) (side : Side) (pos : Nat) : Xing :=
  match side with
  | .writer =>
    let (held, rest) := sampled x.rSamp pos x.rStrobes
    { x with rSamp := held, rStrobes := rest }
  | .reader =>
    let (held, rest) := sampled x.wSamp pos x.wStrobes
    { x with wSamp := held, wStrobes := rest }

/-- The pointer that a sending edge carries is the one after its write or read. -/
def resample (ptr : Nat) (l : List (Nat × Nat)) : List (Nat × Nat) :=
  l.dropLast ++ (l.getLast?).toList.map fun x => (x.1, ptr)

/-! ### The outputs at an edge (R203, R205, R212) -/

/-- The writer-seen occupancy has reached the depth (R201). -/
def Xing.full (x : Xing) (depth : Nat) : Bool := x.entries.length + x.reads.length + x.gone ≥ depth

/-- A writer edge: the reads that become visible, and the ready output (R204, R205, R211, R212). -/
def State.xWriterEdge (s : State) (c : Cell) (late : Bool) : State :=
  let x := s.xing c.key
  let e := s.edgePt c c.writer
  let x := { x with reads := x.reads.dropWhile (fun p => c.visible late p e) }
  s.setXing c.key { x with wReady := x.wRun && !x.chan.wRst && !x.eyeUnit && !x.full c.depth }

/-- A reader edge: the valid output, and the oldest entry on the data output where it is readable (R203, R212). -/
def State.xReaderEdge (s : State) (c : Cell) (late : Bool) : State :=
  let x := s.xing c.key
  let e := s.edgePt c c.reader
  match x.entries with
  | (d, w) :: _ =>
    if x.rRun && !x.chan.rRst && c.readable late w e then s.setXing c.key { x with rValid := true, rData := d }
    else s.setXing c.key { x with rValid := false }
  | [] => s.setXing c.key { x with rValid := false }

/-- STATE reads RESTART while the handshake that ends a flush runs (R222). -/
def State.xRestarts (s : State) (c : Cell) : State :=
  if s.xState c = 2 ∧ (s.xing c.key).chan.hand.isSome then s.fset c.stateF c.idx 3 else s

/-- An edge of a side of a cell. -/
def State.xEdge (s : State) (c : Cell) (late : Bool) (side : Side) : State :=
  let x := s.xing c.key
  let x := { x with chan := x.chan.edge side (s.cellEdges c) late }
  let pos := (s.rgn (c.side side)).pos
  let x := if c.isJct then
      (x.receives side pos).sends side pos (s.fget F.JCT_CFG_PHASE_WP c.idx) (s.fget F.JCT_CFG_PHASE_RP c.idx)
    else x
  let s := (s.setXing c.key x).xRestarts c
  match side with
  | .writer => s.xWriterEdge c late
  | .reader => s.xReaderEdge c late

/-- The Junctions and Interchanges of the instance. -/
def Build.cellIds (b : Build) : List XId :=
  (List.range b.junctions.length).map .jct ++ (List.range b.interchanges.length).map .ich

/-- An edge of a region, in the Junctions and Interchanges that it writes or reads; `late`: those whose synchronisers take
their third edge at this one. -/
def State.cellsEdge (s : State) (r : Nat) (late : List XId) : State :=
  s.each s.build.cellIds fun s x =>
    match s.build.cell x with
    | none => s
    | some c =>
      let s := if c.writer = r then s.xEdge c (late.contains x) .writer else s
      if c.reader = r then s.xEdge c (late.contains x) .reader else s

/-! ### Write and read -/

/-- A write takes place. -/
def State.xPut (s : State) (c : Cell) (data : Nat) : State :=
  let x := s.xing c.key
  let ptr := (x.wPtr + 1) % (2 * c.depth)
  s.setXing c.key { x with entries := x.entries ++ [(data % 2 ^ c.width, s.edgePt c c.writer)], wPtr := ptr
                           wStrobes := resample ptr x.wStrobes }

/-- A writer edge with the valid input high: the entry is written, or the writer is held (R199, R205, R212). It ends an
EYE unit, after which the next edge is free (R260). -/
def State.xWrite (s : State) (c : Cell) (data : Nat) : State :=
  let x := s.xing c.key
  let n := s.cellEdges c .writer
  let occupied := x.wRun && !x.chan.wRst && !x.eyeUnit && x.full c.depth
  let s := s.setXing c.key { x with wLast := some n, eyeUnit := false }
  let s := if c.isJct then s.calDisturbEye c.idx else s
  if x.wReady && x.wRun then s.xPut c data
  else if c.isJct then s.iff occupied fun s => s.setFlagEdge c.writer c.heldF c.idx
  else (s.setFlagEdge c.writer c.heldF c.idx).faddWrap F.ICH_HELD_COUNT c.idx 1

/-- CROSSING_WRITE (R199): the valid input is high at a writer edge. -/
def execCrossingWrite (x : XId) (data : Nat) (s : State) : Host.Outcome State Fault Refusal :=
  s.act fun s =>
    match s.build.cell x with
    | none => s
    | some c => s.iff (s.atEdge c.writer && (s.xing c.key).wLast != some (s.cellEdges c .writer)) fun s => s.xWrite c data

/-- A reader edge with the ready input high (R199, R200, R203). -/
def State.xRead (s : State) (c : Cell) : State :=
  let x := { s.xing c.key with rLast := some (s.cellEdges c .reader) }
  if x.rValid && x.rRun then
    let ptr := (x.rPtr + 1) % (2 * c.depth)
    s.setXing c.key { x with entries := x.entries.drop 1, reads := x.reads ++ [s.edgePt c c.reader], rPtr := ptr
                             rStrobes := resample ptr x.rStrobes }
  else if c.isJct then s.setXing c.key x
  else (s.setXing c.key x).faddWrap F.ICH_STARVE_COUNT c.idx 1

/-- CROSSING_READ (R199): the ready input is high at a reader edge. -/
def execCrossingRead (x : XId) (s : State) : Host.Outcome State Fault Refusal :=
  s.act fun s =>
    match s.build.cell x with
    | none => s
    | some c => s.iff (s.atEdge c.reader && (s.xing c.key).rLast != some (s.cellEdges c .reader)) fun s => s.xRead c

/-! ### Resets and flushes (R220–R224, R229, R231, R603) -/

/-- The half of a side is empty and stopped, its outputs low (R220). -/
def Xing.clearHalf (x : Xing) : Side → Xing
  | .writer => { x with wRun := false, wReady := false, wPtr := 0, reads := [], gone := 0, wStrobes := [], rSamp := 0 }
  | .reader => { x with rRun := false, rValid := false, rPtr := 0, rStrobes := [], wSamp := 0 }

/-- The record of a flush, made once, at the later flush edge, which is of region `r` (R603). -/
def State.xRecord (s : State) (c : Cell) (r : Nat) : State :=
  let x := s.xing c.key
  match x.chan.flush with
  | none => s
  | some f =>
    if f.recorded || !f.passed then s
    else
      let s := s.setXing c.key { x with chan := { x.chan with flush := some { f with recorded := true } } }
      let s := (s.fset c.flushedF c.idx (satU c.flushedF.w f.n)).fset c.causeF c.idx f.cause
      (s.setFlagEdge r c.flushF c.idx).post c.reader 4 (if c.isJct then 3 else 4) [c.item, pOther f.n, pEnum f.cause]

/-- A realignment starts (R229, R231). -/
def State.xRealign (s : State) (c : Cell) (cause : Nat) : State :=
  let x := s.xing c.key
  (s.setXing c.key { x with chan := x.chan.realign cause (s.cellEdges c) }).fset c.stateF c.idx 2

/-- A reset input is asserted: the side's half is cleared; both halves cleared leave nothing for a flush edge to find
(R220, R223, R224). -/
def State.xReset (s : State) (c : Cell) (side : Side) : State :=
  let x := s.xing c.key
  let both := x.chan.rst (otherSide side)
  let n := if both then x.entries.length else 0
  let x := { x.clearHalf side with
    chan := x.chan.assert side (s.cellEdges c) n, entries := if both then [] else x.entries }
  (s.setXing c.key x).fset c.stateF c.idx 2

/-- A reset input of a cell in STATE OFF: its half stays empty, an alignment handshake is abandoned, nothing is recorded
(R602). -/
def State.xResetOff (s : State) (c : Cell) (side : Side) : State :=
  let x := s.xing c.key
  let chan := match side with
    | .writer => { x.chan with wRst := true, hand := none }
    | .reader => { x.chan with rRst := true, hand := none }
  s.setXing c.key { (x.clearHalf .writer).clearHalf .reader with chan, entries := [] }

/-- A reset input of a cell (R220, R602). -/
def State.xResetAssert (s : State) (c : Cell) (side : Side) : State :=
  if (s.xing c.key).chan.rst side then s
  else if s.xState c = 0 then s.xResetOff c side
  else s.xReset c side

/-- The flush edge of a side: what is unread is discarded (R221). What the reader discards the writer counts until its own
flush edge (R229). -/
def State.xFlush (s : State) (c : Cell) (side : Side) : State :=
  let x := s.xing c.key
  if !(x.chan.flushes side (s.cellEdges c) && s.atEdge (c.side side)) then s
  else
    let n := x.entries.length
    let chan := x.chan.flushEdge side (s.cellEdges c) n
    let x := match side with
      | .writer => { x with chan, entries := [], wRun := false, wReady := false, reads := [], gone := 0 }
      | .reader => { x with chan, entries := [], rRun := false, rValid := false, gone := x.gone + n }
    (s.setXing c.key x).xRecord c (c.side side)

/-- A reset input is deasserted at an edge of its own side; the handshake starts where it waited for this (R220, R222). -/
def State.xResetDeassert (s : State) (c : Cell) (side : Side) : State :=
  let x := s.xing c.key
  (s.setXing c.key { x with chan := x.chan.deassert side (s.cellEdges c) }).xRestarts c

/-- The step of the handshake with which a side's half runs, from pointers of 0; the last one ends the flush, returns STATE
to RUN and clears REALIGN (R222, R231). -/
def State.xHandshake (s : State) (c : Cell) (side : Side) : State :=
  let x := s.xing c.key
  match x.chan.ends side (s.cellEdges c) with
  | none => s
  | some chan =>
    if !s.atEdge (c.side side) then s
    else
      let x := match side with
        | .writer => { x.clearHalf .writer with chan, wRun := true }
        | .reader => { x.clearHalf .reader with chan, rRun := true }
      let s := s.setXing c.key x
      if chan.hand.isNone then (s.fset c.stateF c.idx 1).fset c.realignF c.idx 0 else s

/-- The alignment of R232 begins: its handshake starts at the reader's next edge, as a realignment's does (R229; DEDUCED,
log entry 73). -/
def State.xAlign (s : State) (c : Cell) : State :=
  let x := s.xing c.key
  s.setXing c.key { x with chan := { x.chan with hand := some { starter := .reader } } }

/-- A pointer's parity fails at an edge of a side: PARITY, the event, and a realignment of CAUSE 4; in STATE OFF, and while
a reset input is asserted, it merges into the alignment or flush that clears the pointers (R228, R229; DEDUCED, log entry
73). -/
def State.xParity (s : State) (c : Cell) (pointer side : Side) : State :=
  let s := s.setFlagEdge (c.side side) c.parityF c.idx
  let s := s.post c.reader 4 (if c.isJct then 1 else 2) [c.item, pEnum (if pointer = .writer then 0 else 1)]
  let x := s.xing c.key
  if s.xState c = 0 || x.chan.wRst || x.chan.rRst then s else s.xRealign c 4

/-- The sides that hold a pointer: its own, and in a Junction also the side that samples it (R228). -/
def Cell.holds (c : Cell) (pointer side : Side) : Bool := c.isJct || pointer == side

/-- POINTER_PARITY (R228, R229): the check at an edge of a side that holds the pointer. -/
def execPointerParity (x : XId) (pointer side : Side) (s : State) : Host.Outcome State Fault Refusal :=
  s.act fun s =>
    match s.build.cell x with
    | none => s
    | some c => s.iff (c.holds pointer side && s.atEdge (c.side side)) fun s => s.xParity c pointer side

/-- A write of REALIGN has been stored (R231): a cell in RUN realigns; otherwise the request merges. -/
def State.realignWritten (s : State) (x : XId) (old : Word) : State :=
  match s.build.cell x with
  | none => s
  | some c => if getF old 1 1 = 0 ∧ s.on c.realignF c.idx ∧ s.xState c = 1 then s.xRealign c 5 else s

/-- OCC_REFRESH (R234). -/
def execOccRefresh (x : XId) (s : State) : Host.Outcome State Fault Refusal :=
  s.act fun s =>
    match s.build.cell x with
    | none => s
    | some c => s.iff (s.stn.locked && s.count % 64 == 0) fun s =>
      let n := (s.xing c.key).entries.length
      (s.fset c.occF c.idx n).fset c.occMaxF c.idx (max n (s.fget c.occMaxF c.idx))

/-- A write of CLR_MAX (R234). -/
def State.occClrMax (s : State) (x : XId) : State :=
  match s.build.cell x with
  | none => s
  | some c => s.fset c.occMaxF c.idx (s.fget c.occF c.idx)

end Sys2Proof.Machine
end

