-- ==== Sys2Proof/Machine/Axi.lean ====
section
/-! DEFINITION. The AXI manager: issuing a transaction (R527–R531) and recording an error response (R532). -/

namespace Sys2Proof.Machine

/-- The users of the AXI manager by ID (R527). -/
def axPage : Nat := 0
def axLoad : Nat := 1
def axSpill : Nat := 2
def axIndex : Nat := 3
def axImage : Nat := 4

/-- A limit on bursts outstanding: 0 acts as 1, above 8 as 8 (R542). -/
def axLimit (n : Nat) : Nat := max 1 (min 8 n)

/-- An error response is recorded with its user (R532). -/
def State.axiRecord (s : State) (user : Nat) (resp : AxiResp) : State :=
  match resp with
  | .okay => s
  | r =>
    let s := s.setFlag F.HIF_AXI_STATUS_ERR_SEEN 0
    let s := s.fset F.HIF_AXI_STATUS_LAST_RESP 0 (if r = .slverr then 2 else 3)
    let s := s.fset F.HIF_AXI_STATUS_LAST_USER 0 user
    s.setFlag F.HIF_IRQ_SRC_AXI_ERR 0

/-- A transaction that would cross 2^40 is recorded and not issued (R531). -/
def State.axiRange (s : State) (user : Nat) : State :=
  let s := s.setFlag F.HIF_AXI_STATUS_RANGE 0
  let s := s.fset F.HIF_AXI_STATUS_LAST_USER 0 user
  s.setFlag F.HIF_IRQ_SRC_AXI_ERR 0

/-- Whether a transaction of this length stays below 2^40. -/
def axFits (addr len : Nat) : Bool := addr + len ≤ 2 ^ 40

/-- WSTRB of a write: all ones of a full beat, the four bytes of a doorbell at their place in the beat (R527, R528). -/
def axStrb (write : Bool) (addr size : Nat) : Nat :=
  if write then (2 ^ size - 1) * (if size = 16 then 1 else 2 ^ (addr % 16)) else 0

/-- Issue a transaction with the attributes of R528; while `ARESETn` is low nothing is issued (R533). -/
def State.axiIssue (s : State) (write : Bool) (id addr beats size : Nat) (data : List Nat := []) : State :=
  let t : AxiTxn :=
    { write, id, addr, beats, size, data
      strb := axStrb write addr size
      prot := s.fget F.HIF_AXI_CFG_PROT 0 + if id ≤ 1 && !write then 4 else 0
      qos := s.fget F.HIF_AXI_CFG_QOS 0
      cache := if write then s.fget F.HIF_AXI_CFG_AWCACHE 0 else s.fget F.HIF_AXI_CFG_ARCACHE 0 }
  if s.axi.held then s
  else if write then { s with axi := { s.axi with wr := some t } }
  else { s with axi := { s.axi with rd := some t } }

end Sys2Proof.Machine
end

