-- ==== Sys2Proof/Machine/Dispatcher.lean ====
section
/-!
DEFINITION. The Dispatcher's Desks and program store, but for the instructions: Desk registers, starting, stopping and
faults (R289–R303, R330–R332), semaphores (R318–R321), resident tiles, paging, scrub (R304–R315, R383–R386), and the
action table (R322–R327).
-/

namespace Sys2Proof.Machine

def State.desk (s : State) (d : Nat) : Desk := Store.getD {} s.dsp.desks d
def State.setDesk (s : State) (d : Nat) (v : Desk) : State :=
  { s with dsp := { s.dsp with desks := Store.setD {} s.dsp.desks d v } }
def State.setDsp (s : State) (v : Dsp) : State := { s with dsp := v }

/-! ### Registers of a Desk (R300) -/

/-- g[n]; g0 reads 0. -/
def State.g (s : State) (d n : Nat) : Nat := if n % 32 = 0 then 0 else (s.reg .DSP_G (d * 32 + n % 32)).toNat
/-- Write g[n], modulo 2³²; g0 ignores writes. -/
def State.setG (s : State) (d n v : Nat) : State :=
  if n % 32 = 0 then s else s.setReg .DSP_G (d * 32 + n % 32) (BitVec.ofNat 32 v)
/-- t[n]. -/
def State.t (s : State) (d n : Nat) : Nat :=
  (s.reg .DSP_T_HI (d * 4 + n % 4)).toNat * 2 ^ 32 + (s.reg .DSP_T_LO (d * 4 + n % 4)).toNat
/-- Write t[n], modulo 2⁶⁴. -/
def State.setT (s : State) (d n v : Nat) : State :=
  (s.setReg .DSP_T_LO (d * 4 + n % 4) (BitVec.ofNat 32 v)).setReg .DSP_T_HI (d * 4 + n % 4) (BitVec.ofNat 32 (v / 2 ^ 32))
def State.pc (s : State) (d : Nat) : Nat := s.fget F.DSP_DESK_PC_PC d
def State.setPc (s : State) (d v : Nat) : State := s.fset F.DSP_DESK_PC_PC d v
def State.depth (s : State) (d : Nat) : Nat := s.fget F.DSP_DESK_STATUS_DEPTH d

/-- DSP_DESK_STATUS.STATE as held: 0 STOPPED, 1 RUNNING, 2 WAITING, 3 STALLED, 4 FAULTED (R294). -/
def State.deskState (s : State) (d : Nat) : Nat := s.fget F.DSP_DESK_STATUS_STATE d
def State.setDeskState (s : State) (d n : Nat) : State := s.fset F.DSP_DESK_STATUS_STATE d n

/-- A WAIT whose issue cost still runs: the Desk is WAITING only from the end of that cost (R349). -/
def State.waitCost (s : State) (d : Nat) : Bool :=
  match (s.desk d).wait with
  | .tick _ => s.stn.elapsed < (s.desk d).readyAt
  | _ => false

/-- STATE as it reads. -/
def State.deskShows (s : State) (d : Nat) : Nat := if s.deskState d = 2 ∧ s.waitCost d then 1 else s.deskState d

/-- Actions of a Desk issued and not applied (R326). -/
def State.pendingOf (s : State) (d : Nat) : Nat :=
  (s.dsp.acts.filter (fun a => a.desk = d && a.slot.isSome)).length

/-- Whether a word address is word 127 of a tile (R305). -/
def lastWord (a : Nat) : Bool := a % 128 == 127

/-- The word that follows a word (R305). -/
def nextPc (pc : Nat) : Nat := (if pc % 128 = 126 then pc + 2 else pc + 1) % 2 ^ 21

/-! ### Semaphores (R318–R321) -/

def State.semHeld (s : State) (i : Nat) : Bool := (s.fget F.DSP_SEM_HELD_HELD 0).testBit i
def State.semOwner (s : State) (i : Nat) : Nat := s.fget F.DSP_SEM_OWNER_OWNER 0 / 4 ^ i % 4
def State.semOwned (s : State) (d i : Nat) : Bool := s.semHeld i && s.semOwner i == d

/-- Write a semaphore's owner bits. -/
def State.semOwn (s : State) (i d : Nat) : State :=
  s.fset F.DSP_SEM_OWNER_OWNER 0 (putF (s.reg .DSP_SEM_OWNER 0) (2 * i) 2 d).toNat

/-- Give a semaphore to a Desk; its HELD bit is set at this edge (R9). -/
def State.semTake (s : State) (d i : Nat) : State := (s.setBits F.DSP_SEM_HELD_HELD 0 (2 ^ i)).semOwn i d

/-- A semaphore becomes free. Its owner bits mean nothing then and hold a free value (DESIGN CHOICE, log entry 57). -/
def State.semFree (s : State) (i : Nat) : State :=
  if s.semHeld i then
    (s.fset F.DSP_SEM_HELD_HELD 0 (s.fget F.DSP_SEM_HELD_HELD 0 - 2 ^ i)).semOwn i (Config.freeOwner i s.stn.elapsed)
  else s

/-- The Desks that wait for a semaphore, lowest first. -/
def State.semWaiters (s : State) (i : Nat) : List Nat :=
  (List.range 4).filter fun d => s.deskState d == 2 && (s.desk d).wait == .sem i

/-- Release a semaphore: with a Desk waiting it passes at the next Dispatcher cycle, else it is free (R319). -/
def State.semRelease (s : State) (i : Nat) : State :=
  if !s.semHeld i || s.dsp.passes.any (fun p => p.1 == i) then s
  else if (s.semWaiters i).isEmpty then s.semFree i
  else s.setDsp { s.dsp with passes := s.dsp.passes ++ [(i, s.stn.elapsed)] }

/-- A released semaphore passes to the lowest-numbered waiting Desk (R319). -/
def State.semPass (s : State) (i : Nat) : State :=
  if s.dsp.passes.any (fun p => p.1 == i && p.2 < s.stn.elapsed) then
    let s := s.setDsp { s.dsp with passes := s.dsp.passes.filter (fun p => p.1 != i) }
    match s.semWaiters i with
    | d :: _ => ((s.semTake d i).setDesk d { s.desk d with wait := .none }).setDeskState d 1
    | [] => s.semFree i
  else s

/-- A host write to DSP_SEM_HELD releases the semaphores whose bits are 1, but for those taken at this edge (R9, R321). -/
def State.semHeldWritten (s : State) (w : Word) : State :=
  let clear := (w &&& ~~~ s.freshBits .DSP_SEM_HELD 0).toNat
  s.each ((List.range 16).filter (fun i => clear.testBit i)) State.semRelease

/-! ### Starting and stopping (R294–R298, R387) -/

/-- The image address (R311). -/
def State.imgBase (s : State) : Nat := s.fget F.DSP_IMG_HI_ADDR 0 * 2 ^ 32 + s.fget F.DSP_IMG_LO_ADDR 0 * 2 ^ 12

/-- Every Desk is STOPPED or FAULTED. -/
def State.desksQuiet (s : State) : Bool := (List.range 4).all fun d => s.deskState d == 0 || s.deskState d == 4

/-- A resident load starts once it may (R309, R392): every tile is invalid until it is checked, and its bursts go out from
then on. -/
def State.loadStart (s : State) : State :=
  if s.on F.DSP_CTRL_LOAD_RES 0 && !s.on F.DSP_STATUS_LOADING 0 && s.desksQuiet then
    let s := (s.fset F.DSP_STATUS_LOADING 0 1).fset F.DSP_TILE_OK_VALID 0 0
    s.setDsp { s.dsp with loadBase := s.imgBase, loadSent := 0, loadErr := [] }
  else s

/-- A hold of a load ends at an edge at which the Dispatcher cycle has already run: the load starts in that cycle (R309). -/
def State.loadInCycle (s : State) : State :=
  if s.on F.DSP_STATUS_READY 0 && s.count % 2 == 0 && s.dsp.cycle == some s.stn.elapsed then s.loadStart else s

/-- A Desk enters STOPPED: STOP and STEP clear, and the host is told (R296, R297, R524). -/
def State.deskStopped (s : State) (d : Nat) : State :=
  let s := s.setDesk d { s.desk d with wait := .none, stepping := false, stepDone := false, halting := false, page := none }
  let s := s.setDeskState d 0
  let s := (s.fset F.DSP_DESK_CTRL_STOP d 0).fset F.DSP_DESK_CTRL_STEP d 0
  (s.setFlag F.HIF_IRQ_SRC_DESK_STOP 0).loadInCycle

/-- A wait is abandoned: an instruction that had issued is the next one again (R387). -/
def State.abandon (s : State) (d : Nat) : State :=
  let s' := s.setDesk d { s.desk d with wait := .none }
  match (s.desk d).wait with
  | .tick _ | .sem _ | .read _ _ _ => s'.setPc d (s.desk d).pcWait
  | _ => s'

/-- START (R295). -/
def State.deskStart (s : State) (d : Nat) : State :=
  let s := s.fset F.DSP_DESK_CTRL_START d 0
  if s.deskState d = 0 ∨ s.deskState d = 4 then
    (s.fset F.DSP_DESK_STATUS_CAUSE d 0).setDeskState d 1
  else s

/-- STEP (R297). -/
def State.deskStep (s : State) (d : Nat) : State :=
  if s.deskState d = 0 then
    (s.setDesk d { s.desk d with stepping := true, stepDone := false }).setDeskState d 1
  else if (s.desk d).stepping then s
  else s.fset F.DSP_DESK_CTRL_STEP d 0

/-- STOP (R296): a RUNNING Desk stops once its present issue cost has run. -/
def State.deskStop (s : State) (d : Nat) : State :=
  let st := s.deskShows d
  if st = 0 ∨ st = 4 then s.fset F.DSP_DESK_CTRL_STOP d 0
  else if st = 2 then (s.abandon d).deskStopped d
  else if st = 3 then s.deskStopped d
  else if (s.desk d).readyAt ≤ s.stn.elapsed then (s.abandon d).deskStopped d
  else s

/-- What waits in a Desk's control bits takes effect; before READY a START or STEP is held (R298). -/
def State.deskCtrlTake (s : State) (d : Nat) : State :=
  if !s.on F.DSP_STATUS_READY 0 then s.fset F.DSP_DESK_CTRL_STOP d 0
  else
    let s := if s.on F.DSP_DESK_CTRL_START d then s.deskStart d else s
    let s := if s.on F.DSP_DESK_CTRL_STEP d then s.deskStep d else s
    if s.on F.DSP_DESK_CTRL_STOP d then s.deskStop d else s

/-! ### Faults (R330–R332) -/

/-- A Desk faults (R331, R332). -/
def State.deskFault (s : State) (d cause : Nat) : State :=
  if s.deskState d = 4 then s
  else
    let s := s.abandon d
    let s := s.setDesk d { s.desk d with stepping := false, stepDone := false, halting := false, page := none }
    let s := (s.setDeskState d 4).fset F.DSP_DESK_STATUS_CAUSE d cause
    let s := (s.fset F.DSP_DESK_CTRL_STOP d 0).fset F.DSP_DESK_CTRL_STEP d 0
    let s := (s.setFlag F.HIF_IRQ_SRC_DESK_STOP 0).loadInCycle
    let lost (a : Act) : Bool := a.desk == d && a.slot.any (fun x => s.count < x)
    let n := (s.dsp.acts.filter lost).length
    let s := s.setDsp { s.dsp with acts := s.dsp.acts.filter (fun a => !lost a) }
    let s := s.faddSat F.DSP_DESK_LATECNT_DISCARDED d n
    let s := s.each ((List.range 16).filter (s.semOwned d)) State.semRelease
    if d = 0 then
      (s.setDsp { s.dsp with safeAt := s.dsp.safeAt ++ [s.stn.elapsed + 32] }).post (srcDesk 0) 0 0x20
        [pEnum cause, pOther (s.pc 0)]
    else s.post (srcDesk d) 5 1 [.num 2 d, pEnum cause, pOther (s.pc d)]

/-! ### Resident tiles and scrub (R304–R309) -/

def State.tileValid (s : State) (n : Nat) : Bool := (s.fget F.DSP_TILE_OK_VALID 0).testBit n

/-- Mark a resident tile valid or invalid. -/
def State.markTile (s : State) (n : Nat) (ok : Bool) : State :=
  let w := s.fget F.DSP_TILE_OK_VALID 0
  if ok then s.fset F.DSP_TILE_OK_VALID 0 (w ||| 2 ^ n)
  else if w.testBit n then s.fset F.DSP_TILE_OK_VALID 0 (w - 2 ^ n) else s

/-- The bytes of a tile pass its check (R304). -/
def tileBytesOk (l : List Nat) : Bool := crc32c (l.take 1020) == leNat ((l.drop 1020).take 4)

/-- Where resident tile `n` begins. -/
def residentAddr (n : Nat) : Nat := 0x10000 + 0x400 * n

/-- A word of a resident tile has been written: its CRC word checks the tile, any other marks it invalid (R306). -/
def State.residentWritten (s : State) (a : Nat) : State :=
  let n := (a - 0x10000) / 0x400
  if a % 0x400 = 0x3FC then s.markTile n (tileBytesOk (s.rdBytes (residentAddr n) 1024)) else s.markTile n false

/-- The image's pages: 0 acts as 1, above 4,096 as 4,096. -/
def State.imgPages (s : State) : Nat := max 1 (min 4096 (s.fget F.DSP_IMG_SIZE_PAGES 0))

/-- A tile of the load has been read: written and checked; one with an error response is invalid with its bytes
unspecified, and left so by free values. -/
def State.loadTile (bytes errors : List Nat) (s : State) (n : Nat) : State :=
  let a := residentAddr n
  let old := (s.rdWord (a + 0x3FC)).toNat
  let bad := errors.contains n || s.dsp.loadErr.contains n || !axFits (s.dsp.loadBase + 0x400 * n) 0x400
  let data := if bad then (List.range 1024).map (fun i => (Config.loadByte s.freeCtr (0x400 * n + i)).toNat)
    else ((bytes.drop (0x400 * n)).take 1024) ++ List.replicate (1024 - ((bytes.drop (0x400 * n)).take 1024).length) 0
  let s := (s.wrBytes a data).journal wAxi 2 false a old (leNat (data.drop 1020))
  let ok := !bad && tileBytesOk data
  let s := s.markTile n ok
  if ok then s else s.setFlag F.DSP_STATUS_LOAD_ERR 0

/-- The load ends. -/
def State.loadEnd (s : State) : State :=
  let s := (s.fset F.DSP_CTRL_LOAD_RES 0 0).fset F.DSP_STATUS_LOADING 0 0
  s.setFlag F.HIF_IRQ_SRC_LOAD_DONE 0

/-! ### Paging (R310–R315, R383–R386) -/

def State.frameHolds (s : State) (p f : Nat) : Bool := s.on F.DSP_FRAME_VALID f && s.fget F.DSP_FRAME_PAGE f == p

/-- The frame that holds a page. -/
def State.frameOf (s : State) (p : Nat) : Option Nat := (List.range 8).find? (s.frameHolds p)

/-- The frame that is being filled with a page. -/
def State.fillOf (s : State) (p : Nat) : Option Fill := s.dsp.fills.find? (fun f => f.page == p)

/-- How recently a frame was fetched from: 0 the latest. -/
def State.frameAge (s : State) (f : Nat) : Nat := s.dsp.recent.findIdx (· == f)

/-- The frame to be filled, if one is eligible (R312). -/
def State.frameFor (s : State) : Option Nat :=
  let empty := (List.range 8).filter fun f => !s.on F.DSP_FRAME_VALID f && !s.on F.DSP_FRAME_FILLING f
  match empty with
  | f :: _ => some f
  | [] =>
    let free := (List.range 8).filter fun f => s.on F.DSP_FRAME_VALID f && !s.on F.DSP_FRAME_PIN f
    match free with
    | [] => none
    | f :: t => some (t.foldl (fun b f => if s.frameAge b < s.frameAge f then f else b) f)

/-- A Desk leaves STALLED. -/
def State.unstall (p : Nat) (s : State) (d : Nat) : State :=
  if s.deskState d = 3 ∧ (s.desk d).page = some p then (s.setDesk d { s.desk d with page := none }).setDeskState d 1 else s

/-- A fill fails: its frame is invalid and loses its PIN bit, and every Desk that waits for the page faults (R313, R314,
R386). -/
def State.fillFails (s : State) (f : Fill) : State :=
  let s := s.setDsp { s.dsp with fills := s.dsp.fills.filter (fun x => x.frame != f.frame) }
  let s := ((s.fset F.DSP_FRAME_FILLING f.frame 0).fset F.DSP_FRAME_VALID f.frame 0).fset F.DSP_FRAME_PIN f.frame 0
  s.each ((List.range 4).filter fun d => s.deskState d == 3 && (s.desk d).page == some f.page) fun s d => s.deskFault d 4

/-- A fill starts, where PAGE_EN allows it, no write to DSP_IMG waits and a frame is eligible (R311, R312, R315, R394); its
bursts go out from then on. -/
def State.fillStart (s : State) (p : Nat) : State :=
  if !s.on F.DSP_CTRL_PAGE_EN 0 || !s.dsp.imgs.isEmpty || (s.frameOf p).isSome || (s.fillOf p).isSome then s
  else
    match s.frameFor with
    | none => s
    | some f =>
      let s := (s.fset F.DSP_FRAME_VALID f 0).fset F.DSP_FRAME_FILLING f 1
      let s := (s.fset F.DSP_FRAME_PAGE f p).faddWrap F.DSP_PAGE_CNT_MISSES 0 1
      s.setDsp { s.dsp with fills := s.dsp.fills ++ [{ frame := f, page := p }] }

/-- The next burst of a page fill; one beyond 2^40 counts as an error response (R314, R527, R531). -/
def State.pageIssue (s : State) : State :=
  match s.dsp.fills.find? (·.sent < 16) with
  | none => s
  | some f =>
    let a := s.imgBase + 4096 * f.page + 256 * f.sent
    if axFits a 256 then
      let fills := s.dsp.fills.map fun x => if x.frame = f.frame then { x with sent := f.sent + 1 } else x
      (s.setDsp { s.dsp with fills }).axiIssue false axPage a 16 16
    else (s.axiRange axPage).fillFails f

/-- The next burst of a resident load; one beyond 2^40 leaves its tile with an error response (R309, R527, R531). -/
def State.loadIssue (s : State) : State :=
  let a := s.dsp.loadBase + 256 * s.dsp.loadSent
  let s := s.setDsp { s.dsp with loadSent := s.dsp.loadSent + 1 }
  if axFits a 256 then s.axiIssue false axLoad a 16 16 else s.axiRange axLoad

/-- PAGE_FILL_START (R311, R312): for a page that a STALLED Desk awaits. -/
def execPageFillStart (page : Nat) (s : State) : Host.Outcome State Fault Refusal :=
  s.act fun s => s.iff ((List.range 4).any fun d => s.deskState d == 3 && (s.desk d).page == some page)
    fun s => s.fillStart page

/-- The tiles of a page pass their checks (R313). -/
def pageOk (bytes : List Nat) : Bool :=
  bytes.length == 4096 && (List.range 4).all fun i => tileBytesOk ((bytes.drop (1024 * i)).take 1024)

/-- PAGE_FILL_DONE (R313, R314, R386): every burst of the fill has returned, or one returned an error response. -/
def execPageFillDone (page : Nat) (bytes : List Nat) (resp : AxiResp) (s : State) : Host.Outcome State Fault Refusal :=
  s.act fun s =>
    match s.fillOf page with
    | none => s
    | some f =>
      if f.sent = 0 ∨ (resp = .okay ∧ f.sent < 16) then s
      else if resp ≠ .okay then (s.axiRecord axPage resp).fillFails f
      else if pageOk bytes then
        let s := s.wrBytes (0x18000 + 0x1000 * f.frame) bytes
        let s := s.setDsp { s.dsp with fills := s.dsp.fills.filter (fun x => x.frame != f.frame) }
        let s := (s.fset F.DSP_FRAME_FILLING f.frame 0).fset F.DSP_FRAME_VALID f.frame 1
        s.each (List.range 4) (State.unstall page)
      else if f.again then s.fillFails f
      else
        let s := (s.faddSat F.DSP_PAGE_CNT_REFETCH 0 1).post srcDispatcher 5 3 [.num 12 page]
        s.setDsp { s.dsp with
          fills := s.dsp.fills.map fun x => if x.frame = f.frame then { x with again := true, sent := 0 } else x }

/-- Every frame becomes invalid and loses its PIN bit (R394). -/
def State.dropFrames (s : State) : State :=
  s.each (List.range 8) fun s f => (s.fset F.DSP_FRAME_VALID f 0).fset F.DSP_FRAME_PIN f 0

/-- The tiles that the scrub takes in turn, resident then framed, and whether each is valid (R308). -/
def State.scrubValid (s : State) (n : Nat) : Bool :=
  if n < 32 then s.tileValid n else s.on F.DSP_FRAME_VALID ((n - 32) / 4)

/-- The next valid tile from a place in the turn. -/
def State.scrubNext (s : State) : Option Nat :=
  ((List.range 64).map (fun i => (s.dsp.scrub + i) % 64)).find? s.scrubValid

/-- TILE_SCRUB (R308): every 16,384 tk. -/
def execTileScrub (bad : Bool) (s : State) : Host.Outcome State Fault Refusal :=
  s.act fun s => s.iff (s.stn.locked && s.on F.DSP_CTRL_SCRUB_EN 0 && s.count % 16384 == 0) fun s =>
    match s.scrubNext with
    | none => s
    | some n =>
      let s := s.setDsp { s.dsp with scrub := (n + 1) % 64 }
      if bad then
        let s := if n < 32 then s.markTile n false else s.fset F.DSP_FRAME_VALID ((n - 32) / 4) 0
        (s.setFlag F.DSP_STATUS_SCRUB_ERR 0).post srcDispatcher 5 4 [.num 32 n]
      else s

/-! ### The action table (R322–R327) -/

/-- The launch slots that actions hold. -/
def State.slots (s : State) : List Nat := s.dsp.acts.filterMap (·.slot)

/-- The earliest launch slot for an action issued at `issue` that applies at `t` (R323). Slots are even ticks, one to a
Dispatcher cycle. -/
def State.slotFor (s : State) (issue t : Nat) : Option Nat :=
  let lo := (max (issue + 2) (t - 64) + 1) / 2 * 2
  let taken := s.slots
  ((List.range 25).map (fun i => lo + 2 * i)).find? fun x => x + 16 ≤ t && !taken.contains x

/-- The smallest T′ from `t` on for which a slot can be assigned (R325). -/
def State.lateSlot (s : State) (issue : Nat) : Nat → Nat → Nat × Option Nat
  | 0, t => (t, none)
  | n + 1, t =>
    match s.slotFor issue t with
    | some x => (t, some x)
    | none => s.lateSlot issue n (t + 1)

/-- T's slot, or T′ with its slot and the mark of lateness (R323–R325). Each action holds one slot, so that two tries for
each action in the table find one. -/
def State.place (s : State) (issue t : Nat) : Nat × Option Nat × Bool :=
  let onTime := if issue + 32 ≤ t then s.slotFor issue t else none
  match onTime with
  | some x => (t, some x, false)
  | none =>
    let (t', x) := s.lateSlot issue (2 * s.dsp.acts.length + 64) (max (t + 1) (issue + 32))
    (t', x, true)

/-- A late action of a Desk is marked, counted and reported (R325). -/
def State.noteLate (s : State) (d t ticks : Nat) : State :=
  let s := (s.setFlag F.DSP_DESK_STATUS_LATE d).faddSat F.DSP_DESK_LATECNT_LATE d 1
  s.post (srcDesk d) 5 2 [.num 2 d, .tick t, pOther ticks]

/-- Issue an action: it takes an entry and a slot (R323–R325). -/
def State.issueAct (s : State) (a : Act) : State :=
  let (tick, slot, late) := s.place s.count a.t
  let s := s.setDsp { s.dsp with acts := s.dsp.acts ++ [{ a with tick, slot, late, seq := s.dsp.seq }],
                                 seq := s.dsp.seq + 1 }
  if !late then s
  else if a.desk < 4 then s.noteLate a.desk a.t (tick - a.t)
  else s.faddSat F.GOV_STATUS_LATE 0 1

/-- An immediate write of a Desk to a Station register, at the tick edge 2 tk after its issue (R328). -/
def State.issueNow (s : State) (a : Act) : State :=
  s.setDsp { s.dsp with acts := s.dsp.acts ++ [{ a with t := s.count + 2, tick := s.count + 2, seq := s.dsp.seq }],
                        seq := s.dsp.seq + 1 }

/-! ### The action network (R497, R508) -/

/-- The Station, as R508 numbers it. -/
def unitStation : Nat := 1088

/-- The event source of a unit, for a Desk's actions there. -/
def unitSrc (u d : Nat) : Nat := if u = unitStation then srcDesk d else u

/-- The lane result of an action at a unit. -/
def laneAt (lanes : List (Nat × Lane)) (u : Nat) : Lane := ((lanes.find? (fun x => x.1 == u)).map (·.2)).getD .good

/-- The checks of a unit on an action's lanes: failed lanes are counted; both failed are reported. -/
def State.laneCheck (s : State) (t u d : Nat) : Lane → State
  | .good => s
  | .one => (s.faddSat F.STN_DEP_CNT_ACT_CORR 0 1).setFlag F.STN_DEP_STATUS_ACT_LANE 0
  | .both =>
    let s := (s.faddSat F.STN_DEP_CNT_ACT_CORR 0 2).setFlag F.STN_DEP_STATUS_ACT_LANE 0
    (s.setFlag F.STN_DEP_STATUS_ACT_LOST 0).post (unitSrc u d) 0 0x21 [.tick t, .num 11 u]

/-! ### The start of a Dispatcher cycle -/

/-- What a cycle's start ends or stops for one Desk: a WAIT whose tick has come (R349), a wait for an entry of the action
table or of the Whistle table (R326, R369), a stop that an issue cost held up (R296, R297, R343). -/
def State.cycleDesk (s : State) (d : Nat) : State :=
  let k := s.desk d
  let s :=
    if s.deskState d = 2 then
      match k.wait with
      | .tick w =>
        if s.stn.elapsed < k.readyAt then s
        else if w ≤ s.count then (s.setDesk d { k with wait := .none }).setDeskState d 1
        else if s.on F.DSP_DESK_CTRL_STOP d || (k.stepping && k.stepDone) then (s.abandon d).deskStopped d
        else s
      | .entry => if s.pendingOf d < 64 then (s.setDesk d { k with wait := .none }).setDeskState d 1 else s
      | .whistle => if s.gov.whistles.length < 32 then (s.setDesk d { k with wait := .none }).setDeskState d 1 else s
      | _ => s
    else s
  let k := s.desk d
  if s.deskState d = 1 ∧ k.readyAt ≤ s.stn.elapsed ∧
      (s.on F.DSP_DESK_CTRL_STOP d || k.halting || (k.stepping && k.stepDone)) then
    s.deskStopped d
  else s

/-- A Dispatcher cycle begins (R290, R298): at an even count, once READY. -/
def State.cycleOpen (s : State) : Bool := s.on F.DSP_STATUS_READY 0 && s.count % 2 == 0 && s.dsp.cycle != some s.stn.elapsed

/-- What the start of a cycle does: semaphores pass (R319), waits and stops end, a resident load may start (R309). -/
def State.cycleBegin (s : State) : State :=
  let s := s.each (s.dsp.passes.map (·.1)) State.semPass
  (s.each (List.range 4) State.cycleDesk).loadStart

/-- A Desk is ready (R294). -/
def State.deskReady (s : State) (d : Nat) : Bool := s.deskState d == 1 && (s.desk d).readyAt ≤ s.stn.elapsed

/-- The Desk that issues in the present cycle (R291). -/
def State.issuer (s : State) : Option Nat :=
  ((List.range 4).map (fun i => (s.count / 2 + i) % 4)).find? s.deskReady

/-- SEMAPHORE_PASS (R319): at the next Dispatcher cycle after the release. -/
def execSemaphorePass (sem : Nat) (s : State) : Host.Outcome State Fault Refusal :=
  s.act fun s => s.iff (s.cycleOpen && sem < 16) fun s => s.semPass sem

/-- A wait of one kind ends at a cycle's start. -/
def State.waitOver (s : State) (d : Nat) (kind : Wait → Bool) : State :=
  s.iff (s.cycleOpen && d < 4 && kind (s.desk d).wait) fun s => s.cycleDesk d

/-- WAIT_END (R349). -/
def execWaitEnd (desk : Nat) (s : State) : Host.Outcome State Fault Refusal :=
  s.act fun s => s.waitOver desk fun w => match w with | .tick _ => true | _ => false

/-- ACTION_ENTRY_FREE (R326). -/
def execActionEntryFree (desk : Nat) (s : State) : Host.Outcome State Fault Refusal :=
  s.act fun s => s.waitOver desk (· == .entry)

/-- WHISTLE_ENTRY_FREE (R369). -/
def execWhistleEntryFree (desk : Nat) (s : State) : Host.Outcome State Fault Refusal :=
  s.act fun s => s.waitOver desk (· == .whistle)

/-- A warm reset aborts a resident load in progress (R537). -/
def State.loadAbort (s : State) : State :=
  if s.on F.DSP_STATUS_LOADING 0 then
    let s := if s.fget F.DSP_TILE_OK_VALID 0 = 2 ^ 32 - 1 then s else s.setFlag F.DSP_STATUS_LOAD_ERR 0
    s.loadEnd
  else s

/-- The Dispatcher at a warm reset (R299, R537). -/
def State.dspWarm (s : State) : State :=
  let s := s.loadAbort
  let s := s.each (List.range 4) fun s d =>
    let s := if s.deskState d = 0 then s else s.deskStopped d
    let s := s.each (List.range 32) fun s n => s.setG d n 0
    let s := s.each (List.range 4) fun s n => s.setT d n 0
    let s := s.each (List.range 8) fun s n => s.fset F.DSP_STACK_RET (d * 8 + n) 0
    let s := (s.setPc d 0).fset F.DSP_DESK_STATUS_DEPTH d 0
    let s := (s.fset F.DSP_DESK_STATUS_CAUSE d 0).setReg .DSP_DESK_CTRL d 0
    s.setDesk d {}
  let s := (s.setReg .DSP_SEM_HELD 0 0).setReg .DSP_SEM_OWNER 0 0
  s.setDsp { s.dsp with passes := [], acts := s.dsp.acts.filter fun a => !a.slot.any (fun x => s.count < x) || 4 ≤ a.desk }

/-- The first Dispatcher cycle (R298): READY, and what was held takes effect. -/
def State.dspGo (s : State) : State :=
  let s := s.fset F.DSP_STATUS_READY 0 1
  (s.each (List.range 4) State.deskCtrlTake).loadStart

end Sys2Proof.Machine
end

