-- ==== Sys2Proof/Machine/Meter.lean ====
section
/-!
DEFINITION. The Meter: estimates, reconciliation, steps and phases (R433–R440, R604). Energies are in nJ; ticks are
`Stn.elapsed`.
-/

namespace Sys2Proof.Machine

def State.mtrRgn (s : State) (r : Nat) : MtrRgn := Store.getD {} s.mtr.rgns r
def State.setMtrRgn (s : State) (r : Nat) (v : MtrRgn) : State :=
  { s with mtr := { s.mtr with rgns := Store.setD {} s.mtr.rgns r v } }
def State.mtrRail (s : State) (n : Nat) : MtrRail := Store.getD {} s.mtr.rails n
def State.setMtrRail (s : State) (n : Nat) (v : MtrRail) : State :=
  { s with mtr := { s.mtr with rails := Store.setD {} s.mtr.rails n v } }

/-- A LINEAR11 word: mantissa bits 10:0, exponent bits 15:11, both signed. -/
def linear11 (w : Nat) : Frac :=
  let e := signed 5 (w / 2048)
  let m := signed 11 w
  if e < 0 then Frac.mk' m (2 ^ e.natAbs) else Frac.ofInt (m * 2 ^ e.toNat)

/-- A rail with no Section (R604). -/
def Build.bareRail (b : Build) (n : Nat) : Bool := (b.sectionsOn n).isEmpty

/-- The regions of a rail. -/
def Build.railRegions (b : Build) (n : Nat) : List Nat := (b.sectionsOn n).flatMap b.regionsOf

/-! ### Estimates -/

/-- ENERGY_ESTIMATE (R433): the estimate of the 64 tk that end at this edge. -/
def execEnergyEstimate (region e : Nat) (s : State) : Host.Outcome State Fault Refusal :=
  s.act fun s => s.iff (region < s.build.nRegions && s.stn.locked && s.count % 64 == 0) fun s =>
    let g := s.mtrRgn region
    let now := s.stn.elapsed
    s.setMtrRgn region { g with
      cur := (now, e) :: g.cur
      recent := (now, e) :: g.recent.filter (fun x => now < x.1 + 1600)
      volts := g.volts + e * s.fget F.SB_VSENSE_MV region }

/-- A region's estimates of the last 1,600 tk. -/
def State.estRecent (s : State) (r : Nat) : Nat :=
  (((s.mtrRgn r).recent.filter fun x => s.stn.elapsed < x.1 + 1600).map (·.2)).sum

/-- A sample of READ_IOUT, with the voltage of its rail in mV. -/
def State.mtrSample (s : State) (rail iout mv : Nat) : State :=
  let g := s.mtrRail rail
  s.setMtrRail rail { g with samples := g.samples ++ [(s.stn.elapsed, iout, mv)] }

/-- A reading of READ_VOUT joins the latest sample of its rail. -/
def State.mtrVolt (s : State) (rail mv : Nat) : State :=
  let g := s.mtrRail rail
  let samples := match g.samples.reverse with
    | (t, i, _) :: l => (((t, i, mv) :: l).reverse)
    | [] => []
  s.setMtrRail rail { g with samples }

/-- The power of a rail with no Section over the last control period, in mW: that of the latest sample of the open interval;
without one, that of the last interval with fresh telemetry (R402, R604). -/
def State.barePower (s : State) (rail : Nat) : Frac :=
  let g := s.mtrRail rail
  if !s.on F.GOV_RAIL_CFG_TELEM rail then {}
  else
    match g.samples.getLast? with
    | some (_, i, mv) => if s.on F.GOV_CTRL_PMB_EN 0 then (linear11 i).mul (Frac.ofInt mv) else Frac.mk' g.fresh 1000
    | none => Frac.mk' g.fresh 1000

/-! ### Closing an interval (R433, R434, R604) -/

/-- The samples' energy over an interval, each held until the next and the first from the interval's start, for a
voltage that a sample's own voltage gives. -/
def holdEnergy (volt : Nat → Frac) (stop : Nat) : Nat → List (Nat × Nat × Nat) → Frac
  | _, [] => {}
  | lo, [(_, i, mv)] => ((linear11 i).mul (volt mv)).mul (Frac.mk' (stop - lo : Nat) 1600)
  | lo, (_, i, mv) :: (t, i', mv') :: l =>
    (((linear11 i).mul (volt mv)).mul (Frac.mk' (t - lo : Nat) 1600)).add (holdEnergy volt stop t ((t, i', mv') :: l))

/-- A rail has fresh telemetry in the interval that closes. -/
def State.freshTelem (s : State) (rail : Nat) : Bool :=
  s.on F.GOV_CTRL_PMB_EN 0 && s.on F.GOV_RAIL_CFG_TELEM rail && !(s.mtrRail rail).samples.isEmpty

/-- The sum of the estimates of a rail's regions over the open interval, and the sum weighted by voltage. -/
def State.railEst (s : State) (rail : Nat) : Nat × Nat :=
  (s.build.railRegions rail).foldl (fun a r =>
    (a.1 + (((s.mtrRgn r).cur).map (·.2)).sum, a.2 + (s.mtrRgn r).volts)) (0, 0)

/-- K of a rail before its range is checked: none where the estimates sum to 0. -/
def State.railK (s : State) (rail : Nat) : Option Int :=
  let (e, ve) := s.railEst rail
  if e = 0 then none
  else
    let meas := holdEnergy (fun _ => Frac.mk' ve e) s.stn.elapsed s.mtr.start (s.mtrRail rail).samples
    let k := Frac.mk' (2 * 65536 * meas.num + meas.den * e) (2 * meas.den * e)
    some (k.num / k.den)

/-- One rail's interval closes: the state, and whether the rail is unreconciled. Without any estimate K lies in no range,
and the value that the event reports is free. -/
def State.closeRail (good : Bool) (a : State × Nat) (rail : Nat) : State × Nat :=
  let (s, un) := a
  let g := s.mtrRail rail
  let shut (g : MtrRail) : MtrRail := { g with samples := [] }
  let span := s.stn.elapsed - s.mtr.start
  if s.build.bareRail rail then
    if good && s.freshTelem rail then
      let e := (holdEnergy (fun mv => Frac.ofInt mv) s.stn.elapsed s.mtr.start g.samples).round.toNat
      (s.setMtrRail rail { shut g with energy := e, fresh := (divOpen (e * 1600000 : Nat) span).toNat }, un)
    else
      let e := if s.on F.GOV_RAIL_CFG_TELEM rail then (divOpen (g.fresh * span : Nat) 1600000).toNat else 0
      (s.setMtrRail rail { shut g with energy := e }, un + 2 ^ rail)
  else
    let last := s.fget F.MTR_RAIL_K_K rail
    if !(good && s.on F.MTR_CTRL_RECON_EN 0 && s.freshTelem rail) then
      (s.setMtrRail rail { shut g with k := last }, un + 2 ^ rail)
    else
      match s.railK rail with
      | some k =>
        if 32768 ≤ k ∧ k ≤ 131072 then (s.setMtrRail rail { shut g with k := k.toNat }, un)
        else
          let s := (s.setMtrRail rail { shut g with k := last }).setFlag F.MTR_STATUS_CLAMP_SEEN 0
          (s.post srcGov 3 6 [pRail rail, if k < 0 then .sgn 28 k else .num 28 k.toNat], un + 2 ^ rail)
      | none =>
        let s := (s.setMtrRail rail { shut g with k := last }).setFlag F.MTR_STATUS_CLAMP_SEEN 0
        let s := s.post srcGov 3 6 [pRail rail, .num 28 (Config.ratioOfNone s.freeCtr)]
        ({ s with freeCtr := s.freeCtr + 1 }, un + 2 ^ rail)

/-- The duplicate datapaths of the Governor or the Meter disagree (R499). -/
def State.compareFault (s : State) (who : Nat) : State :=
  let s := (s.setFlag F.STN_DEP_STATUS_GOV_CMP 0).faddSat F.STN_DEP_CNT_GOV_CMP 0 1
  s.post srcGov 3 7 [pOther who, .tick s.count]

/-- The regions' data of the interval that closes. -/
def State.closeRegion (s : State) (r : Nat) : State :=
  let g := s.mtrRgn r
  (s.setMtrRgn r { g with cur := [], shut := g.cur, volts := 0 }).fset F.MTR_SEQ_NOT_READY r 1

/-- RECONCILIATION_CLOSE (R433, R434): at counts that are multiples of 1,600,000. -/
def execReconciliationClose (mismatch : Bool) (s : State) : Host.Outcome State Fault Refusal :=
  s.act fun s => s.iff (s.stn.locked && s.count % 1600000 == 0 && s.mtr.due.isNone) fun s =>
    let s := if mismatch then s.compareFault 1 else s
    let (s, un) := (List.range s.build.nRails).foldl (State.closeRail (!mismatch)) (s, 0)
    let s := s.each (List.range s.build.nRegions) State.closeRegion
    { s with mtr := { s.mtr with marks := [], shut := s.mtr.marks, start := s.stn.elapsed,
                                 due := some (s.mtr.start, s.stn.elapsed, un) } }

/-! ### Results (R435, R438–R440) -/

/-- An estimate as the interval's K reconciles it. -/
def reconciled (k e : Nat) : Nat := e * k / 65536

/-- What of a window's energy lies at or before a tick: the window is the 64 tk that end at `t`. -/
def windowPart (f t x : Nat) : Nat :=
  if t ≤ x then f else if x + 64 ≤ t then 0 else (divOpen (f * (x + 64 - t) : Nat) 64).toNat

/-- A region's energy between two ticks of the closed interval. -/
def State.regionPart (s : State) (lo hi r : Nat) : Nat :=
  let k := (s.mtrRail (s.build.railOf (s.build.sectionOf r))).k
  ((s.mtrRgn r).shut.map fun x => windowPart (reconciled k x.2) x.1 hi - windowPart (reconciled k x.2) x.1 lo).sum

/-- The energy of the rails without Sections between two ticks of an interval: even over the interval. -/
def State.barePart (s : State) (start stop lo hi : Nat) : Nat :=
  (((List.range s.build.nRails).filter s.build.bareRail).map fun n =>
    let e := (s.mtrRail n).energy
    let cut (x : Nat) : Nat := (divOpen (e * (x - start) : Nat) (stop - start)).toNat
    cut hi - cut lo).sum

/-- The energy between two ticks of the closed interval joins the step in progress and its sub-interval's label. -/
def State.addSpan (start stop lo hi : Nat) (s : State) : State :=
  let parts := (List.range s.build.nRegions).map fun r => (r, s.regionPart lo hi r)
  let total := (parts.map (·.2)).sum + s.barePart start stop lo hi
  let s := s.each parts fun s p => s.setMtrRgn p.1 { s.mtrRgn p.1 with step := (s.mtrRgn p.1).step + p.2 }
  let l := s.mtr.label % 16
  { s with mtr := { s.mtr with energy := s.mtr.energy + total
                               phases := Store.setD 0 s.mtr.phases l (Store.getD 0 s.mtr.phases l + total) } }

/-- Write the two words of a 64-bit result. -/
def State.setPair (s : State) (lo hi : Reg) (u v : Nat) : State :=
  (s.setReg lo u (BitVec.ofNat 32 v)).setReg hi u (BitVec.ofNat 32 (v / 2 ^ 32))

/-- A step's results are written (R438, R439). -/
def State.stepResult (s : State) (at_ tokens : Nat) : State :=
  let tk := at_ - s.mtr.stepAt
  let e := s.mtr.energy + (divOpen (s.fget F.GOV_ENV_RESERVE 0 * tk : Nat) 16).toNat
  let s := (s.setPair .MTR_STEP_E_LO .MTR_STEP_E_HI 0 e).setReg .MTR_STEP_TOK 0 (BitVec.ofNat 32 tokens)
  let s := s.setPair .MTR_STEP_TK_LO .MTR_STEP_TK_HI 0 tk
  let s := if tokens % 2 ^ 32 = 0 then s
    else s.fset F.MTR_JPT_JPT 0 (satU 32 (e * 4096 / (1000 * (tokens % 2 ^ 32))))
  let s := s.each (List.range 16) fun s n => s.setPair .MTR_PHASE_LO .MTR_PHASE_HI n (Store.getD 0 s.mtr.phases n)
  let s := s.each (List.range s.build.nRegions) fun s r =>
    (s.setPair .MTR_STEP_LO .MTR_STEP_HI r (s.mtrRgn r).step).setMtrRgn r { s.mtrRgn r with step := 0 }
  let s := s.faddWrap F.MTR_STEP_SEQ_SEQ 0 1
  let s := s.setFlag F.HIF_IRQ_SRC_STEP_DONE 0
  { s with mtr := { s.mtr with energy := 0, phases := [], stepAt := at_, label := 0 } }

/-- The marks of the closed interval in turn, from a tick on. -/
def State.runMarks (start stop : Nat) : Nat → List (Nat × Mark) → State → State
  | lo, [], s => s.addSpan start stop lo stop
  | lo, (t, .phase l) :: m, s =>
    let s := s.addSpan start stop lo t
    State.runMarks start stop t m { s with mtr := { s.mtr with label := l } }
  | lo, (t, .step n) :: m, s => State.runMarks start stop t m ((s.addSpan start stop lo t).stepResult t n)

/-- A region's results: its reconciled energy of the interval (R433). -/
def State.regionResult (s : State) (r : Nat) : State :=
  let k := (s.mtrRail (s.build.railOf (s.build.sectionOf r))).k
  let g := s.mtrRgn r
  let e := (g.shut.map fun x => reconciled k x.2).sum
  let was := (s.reg .MTR_E_HI r).toNat * 2 ^ 32 + (s.reg .MTR_E_LO r).toNat
  let s := s.setPair .MTR_E_LO .MTR_E_HI r (was + e)
  let s := s.setRgn r { s.rgn r with mile := { (s.rgn r).mile with energy := (s.rgn r).mile.energy + e } }
  let s := s.setMtrRgn r { g with shut := [] }
  (s.faddWrap F.MTR_SEQ_SEQ r 1).fset F.MTR_SEQ_NOT_READY r 0

/-- A step that closed waits for its result. -/
def Mark.isStep : Mark → Bool
  | .step _ => true
  | .phase _ => false

/-- RECONCILIATION_RESULT (R435, R438). -/
def execReconciliationResult (s : State) : Host.Outcome State Fault Refusal :=
  s.act fun s =>
    match s.mtr.due with
    | none => s
    | some (start, stop, un) =>
      let s := State.runMarks start stop start s.mtr.shut s
      let s := s.each (List.range s.build.nRegions) State.regionResult
      let s := s.each ((List.range s.build.nRails).filter (fun n => !s.build.bareRail n))
        fun s n => s.fset F.MTR_RAIL_K_K n (s.mtrRail n).k
      let s := s.fset F.MTR_STATUS_UNRECON 0 un
      let s := if s.mtr.marks.any (·.2.isStep) then s else s.fset F.MTR_STEP_SEQ_NOT_READY 0 0
      { s with mtr := { s.mtr with shut := [], due := none } }

/-- A STEP or a PHASE applies (R374, R375, R438). -/
def State.mtrMark (s : State) (m : Mark) : State :=
  let s := if m.isStep then s.fset F.MTR_STEP_SEQ_NOT_READY 0 1 else s
  { s with mtr := { s.mtr with marks := s.mtr.marks ++ [(s.stn.elapsed, m)] } }

end Sys2Proof.Machine
end

