-- ==== Sys2Proof/Machine/SignalBox.lean ====
section
/-! DEFINITION. The Signal Box: gating, faults, sensors, counters, tiles, the region reset request (R109–R134, R568). -/

namespace Sys2Proof.Machine

/-! ### Causes -/

/-- The position, in ph, of the first zero-lag edge at least two Section cycles after the present tick edge (R120). -/
def State.restartPos (s : State) (k : Nat) : Nat := 16 * (((s.sec k).acc + 65535) / 65536 + 2)

/-- Where the last cause has ended, the restart is set (R120, R122). -/
def State.causeEndedAt (s : State) (r pos : Nat) : State :=
  if s.clk r = 2 ∧ !s.gateCause r ∧ s.secRuns r then s.setRgn r { s.rgn r with restartMin := some pos } else s

/-- A cause has ended at the present tick edge. -/
def State.causeEnded (s : State) (r : Nat) : State := s.causeEndedAt r (s.restartPos (s.build.sectionOf r))

/-- A cause that begins and ends at one tick edge never begins, and no edge is withheld (R364). -/
def State.causeWithdrawn (s : State) (r : Nat) : State :=
  let g := s.rgn r
  if g.stopDue && g.stopTk == s.stn.elapsed && !s.gateCause r then s.setRgn r { g with stopDue := false }
  else s.causeEnded r

/-- A region enters cause FAULT, at the present tick edge or at a moment after it: the first reason is kept (R9, R125,
R568). -/
def State.regionFault (s : State) (r : Nat) (onTick : Bool) (cause code : Nat) (items : List PItem) : State :=
  if s.on F.SB_GATE_FAULT r then s
  else
    let s := if onTick then s.setFlag F.SB_GATE_FAULT r else s.setFlagMid F.SB_GATE_FAULT r
    let s := s.fset F.SB_GATE_FAULT_CAUSE r cause
    let s := s.causeBegun r
    let g := s.rgn r
    let s := s.setRgn r { g with rstReq := true, masked := true, mile := { g.mile with faults := g.mile.faults + 1 } }
    s.post r 0 code items

/-- A failed Spine leaf while SB_SPINE_OVR.EN is 0 is cause FAULT (R60, R125). -/
def State.leafFault (s : State) (r : Nat) : State :=
  if s.on F.SB_SPINE_FAILED r && !s.on F.SB_SPINE_OVR_EN r then s.regionFault r true 3 0x13 [.num 32 0] else s

/-- A write of SB_SPINE_OVR has been stored: EN going to 0 on a failed leaf of a released Section is the fault of R125. -/
def State.spineOvrFault (s : State) (r : Nat) : State :=
  if (s.sec (s.build.sectionOf r)).released then s.leafFault r else s

/-- A write of SB_GATE has been stored, its FAULT bit already cleared where it was written 1 (R119, R126, R364).
`persists`: the condition of the fault still holds. -/
def State.gateWritten (s : State) (r : Nat) (old w : Word) (persists : Bool) : State :=
  let leaf := s.fget F.SB_GATE_FAULT_CAUSE r == 3 && s.on F.SB_SPINE_FAILED r && !s.on F.SB_SPINE_OVR_EN r
  let s :=
    if getF w 31 1 = 1 ∧ getF old 31 1 = 1 ∧ !s.on F.SB_GATE_FAULT r then
      if persists || leaf then s.setFlag F.SB_GATE_FAULT r
      else (s.fset F.SB_GATE_FAULT_CAUSE r 0).causeEnded r
    else s
  let s :=
    if getF old 25 1 = 0 ∧ s.on F.SB_GATE_FORCE r then s.causeBegun r
    else if getF old 25 1 = 1 ∧ !s.on F.SB_GATE_FORCE r then s.causeWithdrawn r
    else s
  if getF w 24 1 = 1 ∧ s.on F.SB_GATE_PORT r then (s.fset F.SB_GATE_PORT r 0).causeEnded r else s

/-! ### The gate port and gating -/

/-- GATE_REQUEST (R114, R115): a rising `sb_gate_req` at the coming edge; masked inputs take none (R569). -/
def execGateRequest (region : Nat) (s : State) : Host.Outcome State Fault Refusal :=
  s.act fun s =>
    let g := s.rgn region
    s.iff (s.edgeComes region && !g.reqHigh && !g.masked && g.grant == 0 && g.ackLeft == 0) fun s =>
      let granted := s.secState (s.build.sectionOf region) == 3
      let s := s.setRgn region { g with ackOut := true, grantOut := granted, ackLeft := 2, reqHigh := true,
                                        grant := if granted then 1 else 0,
                                        mile := { g.mile with grants := g.mile.grants + granted.toNat } }
      if granted then (s.faddSat F.SB_GATE_CNT_GRANTED region 1).calDisturb region
      else s.faddSat F.SB_GATE_CNT_REFUSED region 1

/-- GATING_WRITE_OFF (R117, R601): at the end of the last delivered high phase the clock stops and the ledger is
written off. An answer that the gate port still holds falls when the withheld edge would have come. -/
def execGatingWriteOff (region : Nat) (s : State) : Host.Outcome State Fault Refusal :=
  s.act fun s =>
    let g := s.rgn region
    s.iff (s.isRegion region && s.clk region == 1 && (g.stopDue || g.grant == 3)) fun s =>
      let s := if g.grant != 0 then s.fset F.SB_GATE_PORT region 1 else s
      let l := g.ledger
      let fall := if g.ackOut then some (s.nextPos region false) else none
      let g' := g.setLedger 0
      let s := s.setRgn region { g' with
        grant := 0, ackLeft := 0, ackFall := fall, stopDue := false, woff := none, first := none
        woffPh := g.woffPh + l, restRun := 0, cuSince := none, gatings := g.gatings + 1, lastWoff := s.stn.elapsed
        mile := { g.mile with woff := g.mile.woff + l } }
      let s := (s.endPlay region).setRequest region false
      let s := (s.fset F.SB_SLIP_RESTORED region 0).calDisturb region
      (s.fset F.SB_CLK_STATUS_STATE region 2).causeEnded region

/-- The gate port's answer falls once the withheld edge would have been delivered (R601). -/
def State.ackFalls (s : State) (r : Nat) : State :=
  let g := s.rgn r
  if g.ackFall.any (fun p => p * 4096 ≤ (s.sec (s.build.sectionOf r)).acc) then
    s.setRgn r { g with ackOut := false, grantOut := false, ackFall := none }
  else s

/-- WAKE_INPUT (R119, R120): `sb_wake` high on two Section edges, the second of number `edge`; discarded where no PORT
cause is present. -/
def execWakeInput (region edge : Nat) (s : State) : Host.Outcome State Fault Refusal :=
  s.act fun s =>
    let k := s.build.sectionOf region
    s.iff (s.isRegion region && s.on F.SB_GATE_PORT region && (s.sec k).acc ≤ 65536 * edge && s.posComes k (16 * edge))
      fun s => (s.fset F.SB_GATE_PORT region 0).causeEndedAt region (16 * (edge + 2))

/-- The clock of a region starts at a position: the ledger is 0, the full count is yet to load (R70, R120, R175). -/
def State.startClock (s : State) (r pos : Nat) : State :=
  let g := (s.rgn r).setLedger 0
  let s := s.setRgn r { g with
    first := some pos, restartMin := none, woff := none, stopDue := false, ackOut := false, grantOut := false
    ackFall := none, sbTimeVld := false, sinceStart := 0, reqHigh := true, own := 0, restRun := 0, cuSince := none }
  (s.fset F.SB_CLK_STATUS_STATE r 1).alignPhNow r

/-- REGION_RESTART (R120). -/
def State.restartRegion (s : State) (r : Nat) : State :=
  match (s.rgn r).restartMin with
  | some p => s.startClock r p
  | none => s

/-- A restart is due: gated, no cause left, the Section's clock running. -/
def State.restartDue (s : State) (r : Nat) : Bool :=
  s.isRegion r && s.clk r == 2 && !s.gateCause r && s.secRuns r && (s.rgn r).restartMin.isSome

/-! ### DLL and period -/

/-- DLL_LOCK (R110, R113): the DLL has locked and the alignment is measured. A running region moves to it a step per region
edge, a dark one takes it up at once. -/
def execDllLock (region alignPh alignFine : Nat) (residPs : Int) (s : State) : Host.Outcome State Fault Refusal :=
  s.act fun s => s.iff (s.isRegion region && (s.sec (s.build.sectionOf region)).released) fun s =>
    let s := s.setRgn region { s.rgn region with alignTgt := some (alignPh % 16, alignFine % 128) }
    let s := if s.clk region = 1 then s
      else (s.alignPhNow region).fset F.SB_ROT_ALIGN_FINE region alignFine
    let s := (s.fset F.SB_ROT_RESID_PS region (satS 8 residPs)).fset F.SB_CLK_STATUS_DLL_LOCKED region 1
    s.alignReached region

/-- REGION_PERIOD_CHECK (R123): every 64 tk, over 192 tk without a change of FW or a write-off. -/
def execRegionPeriodCheck (region edges : Nat) (s : State) : Host.Outcome State Fault Refusal :=
  s.act fun s =>
    let k := s.build.sectionOf region
    s.iff (s.isRegion region && s.count % 64 == 0 && s.clk region != 0 && s.secRuns region
        && s.stn.elapsed ≥ (s.sec k).lastChange + 192 && s.stn.elapsed ≥ (s.rgn region).lastWoff + 192) fun s =>
      let win := (s.rgn region).ledWin
      let now : Nat := (win[0]?).getD 0
      let before : Nat := (win[3]?).getD 0
      let delta : Int := (now : Int) - (before : Int)
      let dev64 := ((16 * edges : Nat) + delta) * 64 - (3 * s.fwCur k : Nat)
      let dev := divOpen dev64 64
      let s := s.fset F.SB_CLK_STATUS_PERIOD_DEV region (satS 8 dev)
      if dev64.natAbs > 24 * 64 then s.regionFault region true 1 0x11 [.sgn 32 dev] else s

/-- DLL_LOCK_LOSS (R124). -/
def execDllLockLoss (region cycles : Nat) (s : State) : Host.Outcome State Fault Refusal :=
  s.act fun s => s.iff (s.isRegion region && s.on F.SB_CLK_STATUS_DLL_LOCKED region) fun s =>
    let s := (s.fset F.SB_CLK_STATUS_DLL_LOCKED region 0).fset F.SB_CLK_STATUS_ALIGNED region 0
    s.regionFault region false 2 0x12 [.num 32 cycles]

/-! ### The region reset request (R568, R569) -/

/-- RESET_REQUEST_LOWER (R568): after the restart edge, while neither cause FAULT nor cause SECTION is present. -/
def execResetRequestLower (region : Nat) (s : State) : Host.Outcome State Fault Refusal :=
  s.act fun s =>
    let g := s.rgn region
    s.iff (s.edgeComes region && g.rstReq && g.first == none && g.sinceStart ≥ 1) fun s =>
      s.setRgn region { g with rstReq := false }

/-- INPUT_UNMASK (R569): `sb_rst_done` high at an edge after the lowering. -/
def execInputUnmask (region : Nat) (s : State) : Host.Outcome State Fault Refusal :=
  s.act fun s => s.iff (s.edgeComes region && !(s.rgn region).rstReq && (s.rgn region).masked) fun s =>
    s.setRgn region { s.rgn region with masked := false }

/-- EVENT_PORT_POSTING (R447, R448): one posting at the coming edge; a masked port discards it uncounted (R569). -/
def execEventPortPosting (region cls code payload : Nat) (s : State) : Host.Outcome State Fault Refusal :=
  s.act fun s => s.iff (s.edgeComes region && !(s.rgn region).masked) fun s =>
    let g := s.rgn region
    let s := s.setRgn region { g with mile := { g.mile with posts := g.mile.posts + 1 } }
    if cls % 16 < 8 then s.post region 7 3 [pEnum (cls % 16), pOther (code % 256)]
    else s.postRaw region (cls % 16) (code % 256) payload s.count

/-! ### Tap Table tiles -/

/-- TAP_TILE_LOAD (R129, R272): the tile that RELOAD asked for. On safe settings the taps stay the seed taps (R238). -/
def execTapTileLoad (region : Nat) (s : State) : Host.Outcome State Fault Refusal :=
  s.act fun s => s.iff (s.isRegion region && s.on F.SB_TAP_CTRL_RELOAD region) fun s =>
    let s := s.fset F.SB_TAP_CTRL_RELOAD region 0
    if s.tileOk region then
      let s := s.calDisturbStage region 0
      let s := s.setCalRgn region { s.calRgn region with storeTaps := s.tileTaps region }
      if s.on F.SEC_CTRL_SAFE (s.build.sectionOf region) then s else s.setTaps region (s.tileTaps region)
    else s.tileFailed region

/-- The region safe set in the region's shadow bank, complete now (R237, R240, R263). -/
def State.safeSetBank (s : State) (r : Nat) : Bank :=
  { taps := some (s.seedTaps r), trim := some 0, src := .boot, doneAt := some s.count
    phases := (s.build.jctsRead r).map fun j => (j, 8, 8, (s.xing j).storeEye) }

/-- One region's seed tile at lock: the Tap Table and the live taps take it, and the safe set awaits its commit (R240,
R274). -/
def State.seedLoad (failed : List Nat) (s : State) (r : Nat) : State :=
  let bad := failed.contains r
  let s := s.setCalRgn r { s.calRgn r with uniform := bad }
  let s := s.setCalRgn r { s.calRgn r with storeTaps := s.seedTaps r, bank := some (s.safeSetBank r) }
  let s := (s.writeTile r (s.seedTaps r)).goSafe r
  if bad then s.tileFailed r else s

/-- TAP_TABLE_SEED_LOAD (R274): once, after lock. -/
def execTapTableSeedLoad (failed : List Nat) (s : State) : Host.Outcome State Fault Refusal :=
  s.act fun s => s.iff (s.stn.locked && !s.cal.loaded) fun s =>
    let s := { s with cal := { s.cal with loaded := true } }
    s.each (List.range s.build.nRegions) (State.seedLoad failed)

/-! ### Sensors and counters (R130–R132, R192) -/

/-- THERMAL_READING (R130). -/
def execThermalReading (region : Nat) (temp : Int) (s : State) : Host.Outcome State Fault Refusal :=
  s.act fun s => s.iff (s.isRegion region && s.stn.locked) fun s =>
    let t := satS 16 temp
    let s := s.fset F.SB_TEMP_TEMP region t
    let s := if signed 16 (s.fget F.SB_TEMP_MAX region) < signed 16 t then s.fset F.SB_TEMP_MAX region t else s
    let hot := signed 16 t > (s.fget F.SB_SENSE_CTRL_TEMP_LIMIT region : Int)
    let g := s.rgn region
    let top := match g.mile.maxTemp with
      | some m => max m (signed 16 t)
      | none => signed 16 t
    let s := s.setRgn region { g with
      mile := { g.mile with maxTemp := some top, hot := g.mile.hot + if hot then 1 else 0 } }
    if hot then s.setFlag F.SB_SENSE_CTRL_TEMP_ALARM region else s

/-- A voltage average against the window of a calibration step under way (R247). -/
def State.calVolt (s : State) (r mv : Nat) : State :=
  let c := s.calRgn r
  match c.step with
  | some st =>
    if !st.started then s
    else
      let base := st.volt.getD mv
      if mv < 550 ∨ mv > 800 ∨ ((mv : Int) - base).natAbs > s.fget F.CAL_CFG_V_WIN 0 then s.calDisturb r
      else s.setCalRgn r { c with step := some { st with volt := some base } }
  | none => s

/-- VOLTAGE_SENSE_UPDATE (R130): the average over the last 64 tk, in mV. -/
def execVoltageSenseUpdate (region mv : Nat) (s : State) : Host.Outcome State Fault Refusal :=
  s.act fun s => s.iff (s.isRegion region && s.stn.locked) fun s =>
    let v := satU 10 mv
    let s := s.fset F.SB_VSENSE_MV region v
    let s := s.fset F.SB_VSENSE_MIN_MV region (min v (s.fget F.SB_VSENSE_MIN_MV region))
    let g := s.rgn region
    let s := s.setRgn region { g with mile := { g.mile with lowMv := some (min v (g.mile.lowMv.getD v)) } }
    s.calVolt region v

/-- A write of SB_SENSE_CTRL: CLR_TEMP_MAX and CLR_V_MIN return the extremes to their reset values (R130). -/
def State.senseCtrlWritten (s : State) (r : Nat) (w : Word) : State :=
  let s := if getF w 1 1 = 1 then s.fset F.SB_TEMP_MAX r 0x8000 else s
  if getF w 0 1 = 1 then s.fset F.SB_VSENSE_MIN_MV r 0x3FF else s

/-- ACT_SNAPSHOT (R132, R192): at counts that are multiples of 16,384. -/
def execActSnapshot (region : Nat) (s : State) : Host.Outcome State Fault Refusal :=
  s.act fun s => s.iff (s.isRegion region && s.stn.locked && s.count % 16384 == 0) fun s =>
    let g := s.rgn region
    let q : ActSnap := { edges := g.edges, act := g.act, gated := g.gatedTk, str := g.str, sym := g.sym, cu := g.cu,
                         woff := g.woffPh, denied := g.denied, ledger := g.ledger }
    (s.setRgn region { g with snap := some q }).fset F.SB_ACT_SEQ_NOT_READY region 1

/-- The snapshot's registers. -/
def State.snapRegs (s : State) (r : Nat) (q : ActSnap) : State :=
  let put (s : State) (g : Reg) (v : Nat) : State := s.setReg g r (BitVec.ofNat 32 v)
  let s := put s .SB_EDGES_LO q.edges
  let s := put s .SB_EDGES_HI (q.edges / 2 ^ 32 % 2 ^ 16)
  let s := put s .SB_ACT_LO q.act
  let s := put s .SB_ACT_HI (q.act / 2 ^ 32 % 2 ^ 16)
  let s := put s .SB_GATED_TK q.gated
  let s := put s .SB_SLIP_STR q.str
  let s := put s .SB_SLIP_SYM q.sym
  let s := put s .SB_SLIP_CU q.cu
  let s := put s .SB_SLIP_WOFF q.woff
  (s.fset F.SB_SLIP_SNAP_LEDGER r q.ledger).fset F.SB_SLIP_SNAP_DENIED r q.denied

/-- ACT_SNAPSHOT_DONE (R132): the snapshot moves into its block at one tick edge. -/
def execActSnapshotDone (region : Nat) (s : State) : Host.Outcome State Fault Refusal :=
  s.act fun s =>
    match (s.rgn region).snap with
    | none => s
    | some q =>
      let s := s.snapRegs region q
      let s := s.setRgn region { s.rgn region with snap := none }
      (s.faddWrap F.SB_ACT_SEQ_SEQ region 1).fset F.SB_ACT_SEQ_NOT_READY region 0

end Sys2Proof.Machine
end

