-- ==== Sys2Proof/Machine/Governor.lean ====
section
/-!
DEFINITION. The Governor: the limit, the control tick, step counts, margin, voltage, long Whistles and the load-hint
port (R367–R370, R378, R399–R423, R431). Powers are in mW.
-/

namespace Sys2Proof.Machine

/-! ### The limit (R399–R401) -/

/-- GOV_ENV_STATUS.L follows the envelope in force and the cap (R401). -/
def State.updLimit (s : State) : State :=
  let e := s.fget F.GOV_ENV_STATUS_IN_FORCE 0
  s.fset F.GOV_ENV_STATUS_L 0 (match s.gov.cap with | some c => min e c | none => e)

/-- An envelope comes into force; a change is reported with its source, 0 the register or 1 the port. -/
def State.setEnvelope (s : State) (v source : Nat) : State :=
  if v = s.fget F.GOV_ENV_STATUS_IN_FORCE 0 then s
  else ((s.fset F.GOV_ENV_STATUS_IN_FORCE 0 v).updLimit).post srcGov 3 2 [pPower v, pEnum source]

/-- GOV_ENV.BUDGET has been written (R399). -/
def State.budgetWritten (s : State) : State :=
  { s with gov := { s.gov with budgetAt := some s.stn.elapsed } }.setEnvelope (s.fget F.GOV_ENV_BUDGET 0) 0

/-- A value of the port is accepted; a write of BUDGET at the same edge is the more recent (R399). -/
def State.envAccept (s : State) (b : Nat) : State :=
  let s := { s with gov := { s.gov with port := some b, portRun := true } }
  s.iff (s.gov.budgetAt != some s.stn.elapsed) fun s => s.setEnvelope b 1

/-- ENV_SAMPLE (R399, R400): every 64 tk; a value is accepted at the second of a run of equal samples with `env_valid`
high, once in that run (DEDUCED, log entry 76). -/
def execEnvSample (valid : Bool) (budget : Nat) (s : State) : Host.Outcome State Fault Refusal :=
  s.act fun s => s.iff (s.stn.locked && s.count % 64 == 0) fun s =>
    let b := budget % 2 ^ 16
    let again := valid && s.gov.sample == some b
    let s := { s with gov := { s.gov with sample := if valid then some b else none, portRun := again && s.gov.portRun } }
    s.iff (again && !s.gov.portRun) fun s => s.envAccept b

/-- ENVCAP applies (R378). -/
def State.envcap (s : State) (v : Nat) : State :=
  { s with gov := { s.gov with cap := if v.testBit 16 then some (v % 2 ^ 16) else none } }.updLimit

/-- The priority of a Section (R408). -/
def State.prio (s : State) (k : Nat) : Nat := getF (s.reg .GOV_PRIO (k / 8)) (4 * (k % 8)) 4

/-! ### Long Whistles and the load-hint port (R367–R370, R403, R431) -/

def State.lhRail (s : State) (n : Nat) : LhRail := Store.getD {} s.gov.lh n
def State.setLhRail (s : State) (n : Nat) (v : LhRail) : State :=
  { s with gov := { s.gov with lh := Store.setD {} s.gov.lh n v } }

/-- WIDTH: 0 acts as 1. -/
def State.lhWidth (s : State) : Nat := max 1 (s.fget F.GOV_LH_CFG_WIDTH 0)

/-- The strobe of the code that comes next may rise by the tick `ahead` from here (R431). -/
def State.lhRises (s : State) (l : LhRail) (ahead : Nat) : Bool :=
  !l.stb && l.queue.head?.any (fun x => x.2 ≤ s.count + ahead)
    && l.fell.all (fun f => f + max 8 s.lhWidth ≤ s.stn.elapsed + ahead)

/-- `lh_code` keeps its value until 8 tk before the next rise (R562). -/
def State.lhShow (s : State) (rail : Nat) : State :=
  let l := s.lhRail rail
  match l.queue with
  | (c, _) :: _ => if s.lhRises l 8 then s.setLhRail rail { l with code := c } else s
  | [] => s

/-- The port takes a code for a rail: the earliest tick of its strobe (R431). -/
def State.lhPresent (s : State) (rail code t : Nat) : State :=
  if s.on F.GOV_CTRL_LH_EN 0 && s.build.optLoadhint then
    let adv := min 3200 (s.fget F.GOV_LH_CFG_ADV 0)
    let from_ := if adv = 0 then s.count + 8 else max (t - adv) (s.count + 8)
    let l := s.lhRail rail
    (s.setLhRail rail { l with queue := l.queue ++ [(code, from_)] }).lhShow rail
  else s

/-- LOAD_HINT_STROBE (R431): the previous strobe has been low for WIDTH tk, and the code has stood for 8 tk. -/
def execLoadHintStrobe (rail : Nat) (s : State) : Host.Outcome State Fault Refusal :=
  s.act fun s =>
    let l := s.lhRail rail
    match l.queue with
    | [] => s
    | (c, _) :: q =>
      s.iff (s.lhRises l 0) fun s =>
        s.setLhRail rail { l with code := c, stb := true, rose := s.stn.elapsed, queue := q }

/-- LOAD_HINT_STROBE_END (R431): after WIDTH tk. -/
def execLoadHintStrobeEnd (rail : Nat) (s : State) : Host.Outcome State Fault Refusal :=
  s.act fun s =>
    let l := s.lhRail rail
    s.iff (l.stb && l.rose + s.lhWidth ≤ s.stn.elapsed) fun s =>
      (s.setLhRail rail { l with stb := false, fell := some s.stn.elapsed }).lhShow rail

/-- The port goes low when LH_EN is cleared (R431). -/
def State.lhOff (s : State) : State :=
  s.each (List.range s.build.nRails) fun s n =>
    let l := s.lhRail n
    s.setLhRail n { l with code := 0, stb := false, fell := if l.stb then some s.stn.elapsed else l.fell, queue := [] }

/-- LONG_WHISTLE_DUE (R403): the long Whistles whose tick has come. -/
def execLongWhistleDue (s : State) : Host.Outcome State Fault Refusal :=
  s.act fun s => { s with gov := { s.gov with whistles := s.gov.whistles.filter (fun w => s.count < w.t) } }

/-- The Governor at a warm reset: pending long Whistles, and strobes that have not risen, are discarded (R537). -/
def State.govWarm (s : State) : State :=
  let s := { s with gov := { s.gov with whistles := [] } }
  s.each (List.range s.build.nRails) fun s n => s.setLhRail n { s.lhRail n with queue := [] }

/-! ### Power figures (R402, R407, R421) -/

/-- The reconciled power of a Section over the last control period. -/
def State.secPower (s : State) (k : Nat) : Frac :=
  let e := ((s.build.regionsOf k).map s.estRecent).sum
  Frac.mk' (e * s.fget F.MTR_RAIL_K_K (s.build.railOf k) : Nat) 65536

/-- The reconciled power of a rail. -/
def State.railPower (s : State) (n : Nat) : Frac :=
  if s.build.bareRail n then s.barePower n else Frac.sum ((s.build.sectionsOn n).map s.secPower)

/-- P_now of R402. -/
def State.powerNow (s : State) : Frac :=
  (Frac.sum ((List.range s.build.nRails).map s.railPower)).add (Frac.ofInt (100 * s.fget F.GOV_ENV_RESERVE 0 : Nat))

/-- A long Whistle's power: DELTA × 0.25 A × VCMD of its rail. -/
def State.whistlePower (s : State) (w : Whistle) : Frac :=
  Frac.mk' (w.delta * (s.fget F.GOV_RAIL_STAT_VCMD w.rail : Nat)) 4

/-- The greater of two quotients. -/
def Frac.max (a b : Frac) : Frac := if a.lt b then b else a

/-- The largest announced power over t in (C, C + HORIZON] (R402): at each T of a pending Whistle, and at C + 1. -/
def State.announced (s : State) : Frac :=
  let c := s.count
  let h := 1600 * s.fget F.GOV_CFG_HORIZON 0
  let ws := s.gov.whistles.filter fun w => c < w.t && w.t ≤ c + h
  let upTo (t : Nat) : Frac := Frac.sum ((ws.filter fun w => w.t ≤ t).map s.whistlePower)
  (ws.map (·.t)).foldl (fun m t => m.max (upTo t)) (upTo (c + 1))

/-- P_f of R402: decided changes, reductions negative, are taken into account for two control ticks. -/
def State.powerForecast (s : State) : Frac :=
  (s.powerNow.add s.announced).add (Frac.sum (s.gov.decided.take 2))

/-- A power as a register or a payload shows it, in 0.1 W. -/
def tenths (p : Frac) : Nat := satU 16 (p.mul (Frac.mk' 1 100)).round.toNat

/-- The estimated change of one step of a Section's frequency (R407). -/
def State.stepEstimate (s : State) (k : Nat) : Frac := (s.secPower k).mul (Frac.mk' 4096 (s.fwGov k))

/-- A Section is excluded from the Governor's decisions (R405). -/
def State.govExcluded (s : State) (k : Nat) : Bool :=
  s.secState k != 3 || s.on F.SEC_STATUS_SAFE_ACTIVE k || s.on F.SEC_CTRL_HEADWAY k ||
    (s.build.regionsOf k).all fun r => s.clk r == 2

/-! ### Frequency follows voltage (R417) -/

/-- The word of a Section follows FW_V and FW_FLOOR. -/
def State.fwFollow (s : State) (k : Nat) : State :=
  let now := if s.ramping k then (s.sec k).target else s.fwCur k
  if (s.sec k).released && s.secState k != 4 && s.fwTarget k != now then s.freqChange k else s.updateHeld k

/-- Every Section's word follows, at a control tick and where EN changes (R417, R423). -/
def State.fwFollowAll (s : State) : State := s.each (List.range s.build.nSections) State.fwFollow

/-! ### Voltage (R418–R422) -/

def State.govRail (s : State) (n : Nat) : GovRail := Store.getD {} s.gov.rails n
def State.setGovRail (s : State) (n : Nat) (v : GovRail) : State :=
  { s with gov := { s.gov with rails := Store.setD {} s.gov.rails n v } }

/-- The demand of a Section at a word on its rail. -/
def State.demand (s : State) (rail fw : Nat) : Int :=
  match (List.range 8).find? fun n => fw ≤ s.fget F.GOV_VF_FW_MAX n with
  | some n => s.vfDemand rail n
  | none => s.vfDemand rail 7

/-- The rail target (R418); none for a rail with no Section that counts. -/
def State.railTarget (s : State) (rail : Nat) : Option Nat :=
  let ks := (s.build.sectionsOn rail).filter fun k => s.secState k != 0 && s.secState k != 4
  let safe (k : Nat) : Bool := s.on F.SEC_CTRL_SAFE k || !(s.sec k).readSeen
  match ks.map fun k => s.demand rail (if safe k then fwSafe else s.fwGov k) with
  | [] => none
  | d :: l => some (max (s.fget F.GOV_RAIL_V_VMIN rail : Int) (min (s.fget F.GOV_RAIL_V_VMAX rail) (l.foldl max d))).toNat

/-- The targets seen over the preceding VHOLD, newest first (R420). -/
def seenTargets (hold now t : Nat) (l : List (Nat × Nat)) : List (Nat × Nat) :=
  let l := l.filter fun x => now ≤ x.2 + hold
  match l with
  | (v, _) :: l' => if v = t then (t, now) :: l' else (t, now) :: l
  | [] => [(t, now)]

/-- The voltage step that a rail wants: the new VCMD (R419, R420); an unconfirmed step is sent again. -/
def State.voltWant (s : State) (rail target : Nat) : Option Nat :=
  let v := s.fget F.GOV_RAIL_STAT_VCMD rail
  let top := maxOf ((s.govRail rail).seen.map (·.1))
  if s.fget F.GOV_RAIL_STAT_VCONF rail < v then some v
  else if v < target then some (min target (v + 5))
  else if top < v then some (max top (v - 5))
  else none

/-- The estimated change of a voltage step (R421). -/
def State.voltEstimate (s : State) (rail v' : Nat) : Frac :=
  let v := s.fget F.GOV_RAIL_STAT_VCMD rail
  if v = v' then {}
  else if v = 0 then Frac.ofInt (Config.stepFromZero s.freeCtr)
  else (s.railPower rail).mul (Frac.mk' ((v' * v' : Nat) - (v * v : Nat) : Int) (v * v))

/-- The Governor may command a rail's voltage (R419, R422, R425). -/
def State.voltMay (s : State) (rail : Nat) : Bool :=
  s.pmb.started && s.on F.GOV_CTRL_PMB_EN 0 && !s.on F.GOV_RAIL_STAT_TELEM_FAIL rail && !s.on F.GOV_RAIL_STAT_MODE_ERR rail
    && (s.govRail rail).raising.isNone && (s.govRail rail).decided.isNone && (s.govRail rail).retryAt ≤ s.stn.elapsed
    && !s.pmb.vouts.any (fun x => x.1 == rail)

/-- A rail keeps its VCMD and VCONF while its telemetry fails, its VOUT_MODE is not supported or PMB_EN is 0 (R422, R425). -/
def State.voltKept (s : State) (rail : Nat) : Bool :=
  s.on F.GOV_RAIL_STAT_TELEM_FAIL rail || s.on F.GOV_RAIL_STAT_MODE_ERR rail || !s.on F.GOV_CTRL_PMB_EN 0

/-- A rail's voltage decision and its VOUT_COMMAND that still wait are dropped (R422, R423, R425). -/
def State.voltDrop (s : State) (rail : Nat) : State :=
  let s := { s with pmb := { s.pmb with vouts := s.pmb.vouts.filter (fun x => x.1 != rail) } }
  s.setGovRail rail { s.govRail rail with decided := none }

/-- A VOUT_COMMAND waits for the bus. -/
def State.sendVout (s : State) (rail mv : Nat) : State := { s with pmb := { s.pmb with vouts := s.pmb.vouts ++ [(rail, mv)] } }

/-- A VOUT_COMMAND is sent: one that lowers the voltage changes VCMD, and VCONF with it (R420). -/
def State.voutSent (s : State) (rail mv : Nat) : State :=
  if mv < s.fget F.GOV_RAIL_STAT_VCMD rail then
    (s.fset F.GOV_RAIL_STAT_VCMD rail mv).fset F.GOV_RAIL_STAT_VCONF rail mv
  else s

/-! ### The control tick (R406–R411, R415) -/

/-- The decisions of one control tick: what SLEW has left, actions decided, their estimated changes, the Sections
lowered and raised in frequency with their reasons. -/
structure Plan where
  used   : Frac := {}
  n      : Nat := 0
  change : Frac := {}
  down   : List (Nat × Nat) := []
  up     : List (Nat × Nat) := []
  deriving DecidableEq, Repr

/-- SLEW in mW: 0 acts as 1 W. -/
def State.slew (s : State) : Frac := Frac.ofInt (1000 * max 1 (s.fget F.GOV_CFG_SLEW 0) : Nat)

/-- An action is decided where R409 allows it: within SLEW, or alone. -/
def Plan.take (p : Plan) (slew est : Frac) : Option Plan :=
  let used := p.used.add est.abs
  if used.le slew || p.n == 0 then some { p with used, n := p.n + 1, change := p.change.add est } else none

/-- Sections in the order of a key, equal keys in ascending number. -/
def sortBy (key : Nat → Nat) (l : List Nat) : List Nat :=
  l.foldr (fun k acc => acc.takeWhile (fun x => key x < key k) ++ k :: acc.dropWhile (fun x => key x < key k)) []

/-- A Section may lose a step (R406, R415). -/
def State.lowerable (s : State) (k : Nat) : Bool :=
  !s.govExcluded k && s.fget F.GOV_LIMITS_FW_FLOOR 0 + 4096 ≤ s.fwGov k

/-- Whether a plan moves a Section. -/
def Plan.moves (p : Plan) (k : Nat) : Bool := p.down.any (fun x => x.1 == k) || p.up.any (fun x => x.1 == k)

/-- Raises of DROP_E until a reduction is reached: the plan, and what SLEW leaves undecided (R406, R409). -/
def State.planDown (s : State) (need : Frac) : Frac → List Nat → Plan → Plan × Option Frac
  | _, [], p => (p, none)
  | got, k :: l, p =>
    if need.le got then (p, none)
    else
      let e := s.stepEstimate k
      match p.take s.slew e.neg with
      | some p => s.planDown need (got.add e) l { p with down := p.down ++ [(k, 1)] }
      | none => (p, some (need.sub got))

/-- Lowerings of DROP_E until an increase is reached (R406). -/
def State.planUp (s : State) (need : Frac) : Frac → List Nat → Plan → Plan
  | _, [], p => p
  | got, k :: l, p =>
    if need.le got then p
    else
      let e := s.stepEstimate k
      match p.take s.slew e with
      | some p => s.planUp need (got.add e) l { p with up := p.up ++ [(k, 2)] }
      | none => p

/-- One Section's margin step (R415): a step that may not be made is dropped, one that SLEW defers waits; the count of quiet
windows starts again with a lowering that is made. -/
def State.marginStep (dn low : Bool) (a : State × Plan) (k : Nat) : State × Plan :=
  let (s, p) := a
  let c := s.sec k
  let wants := if dn then c.marginUp else c.marginDn
  let may := if dn then s.lowerable k && s.fget F.GOV_SEC_STAT_DROP_M k < 31
    else low && !s.govExcluded k && s.fget F.GOV_SEC_STAT_DROP_M k != 0
  let gone := s.setSec k (if dn then { c with marginUp := false } else { c with marginDn := false })
  let made := if dn then gone else gone.setSec k { gone.sec k with quietRun := 0 }
  if !wants then (s, p)
  else if !may then (gone, p)
  else if p.moves k then (s, p)
  else
    let e := s.stepEstimate k
    match p.take s.slew (if dn then e.neg else e) with
    | some p => (made, if dn then { p with down := p.down ++ [(k, 3)] } else { p with up := p.up ++ [(k, 4)] })
    | none => (s, p)

/-- One rail's voltage at the control tick (R418–R422). -/
def State.railTick (a : State × Plan) (rail : Nat) : State × Plan :=
  let (s, p) := a
  match s.railTarget rail with
  | none => (s, p)
  | some t =>
    let hold := 16000 * s.fget F.GOV_LIMITS_VHOLD 0
    let s := s.setGovRail rail { s.govRail rail with seen := seenTargets hold s.stn.elapsed t (s.govRail rail).seen }
    if !s.voltMay rail then (s, p)
    else
      match s.voltWant rail t with
      | none => (s, p)
      | some v =>
        match p.take s.slew (s.voltEstimate rail v) with
        | none => (s, p)
        | some p =>
          if v < s.fget F.GOV_RAIL_STAT_VCMD rail then (s.sendVout rail v, p)
          else (s.setGovRail rail { s.govRail rail with decided := some v }, p)

/-- The margin steps of every Section, in the order of R408 with DROP_M as the step count (R415). -/
def marginSteps (dn low : Bool) (a : State × Plan) : State × Plan :=
  let s := a.1
  let m (k : Nat) : Nat := s.fget F.GOV_SEC_STAT_DROP_M k
  let key (k : Nat) : Nat := if dn then s.prio k * 32 + m k else (15 - s.prio k) * 32 + (31 - m k)
  (sortBy key (List.range s.build.nSections)).foldl (State.marginStep dn low) a

/-- The Governor's action for one direction (R411). -/
def State.dropAct (s : State) (up : Bool) (l : List (Nat × Nat)) : State :=
  if l.isEmpty then s
  else s.issueAct { desk := 4, seq := 0, t := s.count + 64, tick := 0, op := .drop up (sortBy (·) (l.map (·.1)) |>.map
    fun k => (k, ((l.find? fun x => x.1 == k).map (·.2)).getD 0)), scope := 3 }

/-- AT_FLOOR, reported as it rises (R410). -/
def State.noteFloor (s : State) (on : Bool) (pf l : Frac) : State :=
  let was := s.on F.GOV_STATUS_AT_FLOOR 0
  let s := s.fsetB F.GOV_STATUS_AT_FLOOR 0 on
  if on && !was then s.post srcGov 3 3 [pPower (tenths pf), pPower (tenths l)] else s

/-- SLEW_LIM, reported as it rises (R409). -/
def State.noteSlew (s : State) (short : Option Frac) : State :=
  let was := s.on F.GOV_STATUS_SLEW_LIM 0
  let s := s.fsetB F.GOV_STATUS_SLEW_LIM 0 short.isSome
  match short with
  | some x => if was then s else s.post srcGov 3 4 [.num 32 (tenths x)]
  | none => s

/-- The decisions of a control tick (R406–R411, R415, R418–R421). -/
def State.govDecide (s : State) (pf l : Frac) : State :=
  let n := List.range s.build.nSections
  let over_ := l.lt pf
  let hyst := l.sub (Frac.ofInt (1000 * s.fget F.GOV_CFG_HYST 0 : Nat))
  let low := pf.lt hyst
  let dropE (k : Nat) : Nat := s.fget F.GOV_SEC_STAT_DROP_E k
  let downs := sortBy (fun k => s.prio k * 32 + dropE k) (n.filter fun k => s.lowerable k && dropE k < 31)
  let (p, short) := if over_ then s.planDown (pf.sub l) {} downs {} else ({}, none)
  let s := s.noteFloor (over_ && downs.isEmpty) pf l
  let (s, p) := (List.range s.build.nRails).foldl State.railTick (marginSteps true low (s, p))
  let (s, p) := marginSteps false low (s, p)
  let ups := sortBy (fun k => (15 - s.prio k) * 32 + (31 - dropE k))
    (n.filter fun k => !s.govExcluded k && dropE k != 0 && !p.moves k)
  let p := if low then s.planUp (hyst.sub pf) {} ups p else p
  let s := s.noteSlew short
  let s := { s with gov := { s.gov with decided := (p.change :: s.gov.decided).take 2 } }
  (s.dropAct false p.down).dropAct true p.up

/-- What a control tick that decides nothing leaves. -/
def State.govIdle (s : State) : State :=
  let s := { s with gov := { s.gov with decided := (({} : Frac) :: s.gov.decided).take 2 } }
  (s.fset F.GOV_STATUS_SLEW_LIM 0 0).fset F.GOV_STATUS_AT_FLOOR 0 0

/-- GOVERNOR_CONTROL_TICK (R402, R406, R423, R499): at counts that are multiples of 1,600. -/
def execGovernorControlTick (mismatch : Bool) (s : State) : Host.Outcome State Fault Refusal :=
  s.act fun s => s.iff (s.stn.locked && s.count % 1600 == 0) fun s =>
    let s := { s with gov := { s.gov with hush := mismatch } }.fwFollowAll
    let pf := s.powerForecast
    let l := Frac.ofInt (100 * s.fget F.GOV_ENV_STATUS_L 0 : Nat)
    let s := (s.fset F.GOV_POWER_P_NOW 0 (tenths s.powerNow)).fset F.GOV_POWER_P_F 0 (tenths pf)
    let s := s.fsetB F.GOV_STATUS_OVER 0 (l.lt pf)
    let s := if l.lt pf then s.setFlag F.GOV_STATUS_OVER_SEEN 0 else s
    let s := if mismatch then (s.compareFault 0).govIdle
      else if s.on F.GOV_CTRL_EN 0 then s.govDecide pf l
      else s.govIdle
    { s with freeCtr := s.freeCtr + 1 }

/-! ### Step counts apply (R412) -/

/-- One Section's step count changes, as a frequency change, and is reported. -/
def State.dropApply (late : Bool) (s : State) (x : Nat × Nat) : State :=
  let (k, reason) := x
  let f := if reason ≤ 2 then F.GOV_SEC_STAT_DROP_E else F.GOV_SEC_STAT_DROP_M
  let v := s.fget f k
  let s := s.fset f k (if reason % 2 = 1 then min 31 (v + 1) else v - 1)
  let s := if s.secState k = 3 then s.freqChange k else s
  s.post srcGov 3 1 [pSection k, pOther (s.fget F.GOV_SEC_STAT_DROP_E k), pOther (s.fget F.GOV_SEC_STAT_DROP_M k),
    pEnum reason, pOther late.toNat]

/-- The Sections of a Governor action. -/
def Act.drops (a : Act) : List (Nat × Nat) :=
  match a.op with
  | .drop _ l => l
  | _ => []

/-- A Governor action reaches one Section Root: nothing applies there where both of its lanes failed (R497). -/
def State.dropAt (lanes : List (Nat × Lane)) (a : Act) (s : State) (x : Nat × Nat) : State :=
  let lane := laneAt lanes (1024 + x.1)
  let s := s.laneCheck a.t (1024 + x.1) a.desk lane
  if lane = .both then s else s.dropApply a.late x

/-- STEP_COUNT_APPLY (R412): the Governor's actions whose tick has come; with EN at 0 every step count is held (R423), and in
a control period whose datapaths disagree the actions wait (R499; DEDUCED, log entry 78).
`lanes`: Section Roots at which lanes of the action network failed (R497). -/
def execStepCountApply (lanes : List (Nat × Lane)) (s : State) : Host.Outcome State Fault Refusal :=
  s.act fun s =>
    let due (a : Act) : Bool := a.desk == 4 && a.tick ≤ s.count && !s.gov.hush
    let l := s.dsp.acts.filter due
    let s := s.setDsp { s.dsp with acts := s.dsp.acts.filter (fun a => !due a) }
    s.iff (s.on F.GOV_CTRL_EN 0) fun s => s.each l fun s a => s.each a.drops (State.dropAt lanes a)

/-! ### Margin windows (R414, R415) -/

/-- MARGIN_WINDOW (R414, R415): at a snapshot tick. -/
def execMarginWindow (sec : Nat) (s : State) : Host.Outcome State Fault Refusal :=
  s.act fun s => s.iff (sec < s.build.nSections && s.stn.locked && s.count % 16384 == 0) fun s =>
    let c := s.sec sec
    let tk := s.fget F.SEC_SYM_TK_COUNT sec
    let grew := (tk + 2 ^ 32 - c.symTkAt) % 2 ^ 32
    let press := 64 * s.fget F.GOV_MARGIN_ACT 0 ≤ grew || c.win17
    let c' := { c with symTkAt := tk, win17 := false }
    if !s.on F.GOV_CTRL_MARGIN_EN 0 || s.govExcluded sec then s.setSec sec { c' with pressRun := 0, quietRun := 0 }
    else if press then
      if max 1 (s.fget F.GOV_MARGIN_WINS 0) ≤ c.pressRun + 1 then
        s.setSec sec { c' with pressRun := 0, quietRun := 0, marginUp := true, marginDn := false }
      else s.setSec sec { c' with pressRun := c.pressRun + 1, quietRun := 0 }
    else if s.fget F.GOV_MARGIN_RETRY 0 ≤ c.quietRun + 1 then
      s.setSec sec { c' with pressRun := 0, quietRun := c.quietRun + 1, marginDn := true, marginUp := false }
    else s.setSec sec { c' with pressRun := 0, quietRun := c.quietRun + 1 }

/-! ### Raise steps (R419) -/

/-- VSETTLE in tk: 0 acts as 1. -/
def State.settleTk (s : State) : Nat := 80000 * max 1 (s.fget F.GOV_CFG_VSETTLE 0)

/-- VOLTAGE_RAISE_STEP (R419): the step that a control tick decided; not in a control period whose datapaths disagree (R499). -/
def execVoltageRaiseStep (rail : Nat) (s : State) : Host.Outcome State Fault Refusal :=
  s.act fun s =>
    match (s.govRail rail).decided with
    | none => s
    | some v => s.iff (!s.gov.hush) fun s =>
      let s := s.setGovRail rail { s.govRail rail with decided := none, raising := some s.stn.elapsed, reading := none }
      ((s.fset F.GOV_RAIL_STAT_VCMD rail v).fset F.GOV_RAIL_STAT_RAISING rail 1).sendVout rail v

/-- A raise step ends. -/
def State.raiseEnds (s : State) (rail retryAt : Nat) : State :=
  (s.setGovRail rail { s.govRail rail with raising := none, reading := none, retryAt }).fset F.GOV_RAIL_STAT_RAISING rail 0

/-- A reading confirms the step, or VSETTLE has passed on a rail without telemetry. -/
def State.raiseOk (s : State) (rail since : Nat) : Bool :=
  if s.on F.GOV_RAIL_CFG_TELEM rail then
    (s.govRail rail).reading.any fun mv => s.fget F.GOV_RAIL_STAT_VCMD rail ≤ mv + s.fget F.GOV_CFG_VTOL 0
  else since + s.settleTk ≤ s.stn.elapsed

/-- VOLTAGE_CONFIRM (R419). -/
def execVoltageConfirm (rail : Nat) (s : State) : Host.Outcome State Fault Refusal :=
  s.act fun s =>
    match (s.govRail rail).raising with
    | none => s
    | some t => s.iff (s.raiseOk rail t && !s.voltKept rail && !s.gov.hush) fun s =>
        (s.raiseEnds rail (s.govRail rail).retryAt).fset F.GOV_RAIL_STAT_VCONF rail (s.fget F.GOV_RAIL_STAT_VCMD rail)

/-- VOLTAGE_CONFIRM_TIMEOUT (R419). -/
def execVoltageConfirmTimeout (rail : Nat) (s : State) : Host.Outcome State Fault Refusal :=
  s.act fun s =>
    match (s.govRail rail).raising with
    | none => s
    | some t => s.iff ((!s.raiseOk rail t || s.voltKept rail) && t + s.settleTk ≤ s.stn.elapsed) fun s =>
        (s.raiseEnds rail (s.stn.elapsed + 1600000)).post srcPmb 6 7
          [pRail rail, pMv (s.fget F.GOV_RAIL_STAT_VCMD rail), pMv (s.fget F.GOV_RAIL_TEL_VOUT rail)]

end Sys2Proof.Machine
end

