-- ==== Sys2Proof/Machine/EventLog.lean ====
section
/-! DEFINITION. The Event Log: transport, commit, overflow, recovery and reads (R452–R465, R498). -/

namespace Sys2Proof.Machine

/-- Where the log's window begins. -/
def logBase : Nat := 0x80000

/-- Entries of the log not yet consumed. -/
def State.unconsumed (s : State) : Nat :=
  ((s.reg .EVT_WIDX 0).toNat + 2 ^ 32 - (s.reg .EVT_RIDX 0).toNat) % 2 ^ 32

/-! ### Transport (R452) -/

/-- The first source in turn, from `turn` on and then from the start, that the test admits. -/
def nextSource (turn : Nat) (p : Source → Bool) (l : Store Source) : Option Nat :=
  match List.find? (fun e => decide (turn ≤ e.1) && p e.2) l with
  | some e => some e.1
  | none => (List.find? (fun e => p e.2) l).map (·.1)

/-- An entry arrives at the log; one whose TICK has been committed is DELAYED (R453), and so is one stamped before a hard
alignment that came since (R458). -/
def State.arrive (s : State) (e : Entry) : State :=
  let e := if e.stale ∨ e.tick ≤ s.log.committed ∧ s.log.committed ≠ 0 then
      { e with tick := s.log.committed + 1, delayed := true, stale := false }
    else e
  { s with log := { s.log with received := s.log.received ++ [e], took := s.log.took + 1 } }

/-- The network takes one entry: class-0 entries before any other, the sources in turn (R452). `lane`: what its checks find
on the entry (R498). -/
def State.takeOne (s : State) (lane : Lane) : State :=
  match nextSource s.log.turn (fun o => !o.c0.isEmpty) s.log.srcs with
  | some k =>
    match (s.source k).c0 with
    | e :: t => { s.setSource k { s.source k with c0 := t } with
                  log := { (s.setSource k { s.source k with c0 := t }).log with turn := k + 1 } }.arrive { e with lane }
    | [] => s
  | none =>
    match nextSource s.log.turn (fun o => !o.gen.isEmpty) s.log.srcs with
    | some k =>
      match (s.source k).gen with
      | e :: t => { s.setSource k { s.source k with gen := t } with
                    log := { (s.setSource k { s.source k with gen := t }).log with turn := k + 1 } }.arrive { e with lane }
      | [] => s
    | none => s

/-! ### Writing (R453, R457, R460–R464) -/

/-- The four words of an entry (R443), with the flags that a read adds. -/
def Entry.words (e : Entry) : List Nat :=
  [e.tick % 2 ^ 32,
   e.tick / 2 ^ 32 % 2 ^ 16 * 2 ^ 16 + e.cls % 16 * 2 ^ 12 + e.src % 2 ^ 11,
   e.code % 256 * 2 ^ 24 + e.mark.toNat * 2 ^ 23 + e.delayed.toNat * 2 ^ 22 + e.held.toNat * 2 ^ 21 + e.count % 2 ^ 16,
   e.payload % 2 ^ 32]

/-- Write the words of an entry at an address. -/
def State.wrWords (s : State) (a : Nat) : List Nat → State
  | [] => s
  | w :: t => (s.wrWord a (BitVec.ofNat 32 w)).wrWords (a + 4) t

/-- EVT_PEND and EVT_CLASS_CNT at the writing of an entry that is no marker (R463, R464). -/
def State.logCount (s : State) (e : Entry) : State :=
  if e.mark then s
  else (s.setBits F.EVT_PEND_CLASS 0 (2 ^ (e.cls % 16))).faddWrap F.EVT_CLASS_CNT_COUNT (e.cls % 16) 1

/-- What the writing of a marker sets: GAP_SEEN, and EVT_SRC_LOST for a source's GAP marker. -/
def State.logMark (s : State) (e : Entry) : State :=
  if e.mark ∧ e.code = 1 then
    let s := s.setFlag F.EVT_STATUS_GAP_SEEN 0
    if e.src = srcMarker then s else s.faddSat F.EVT_SRC_LOST_COUNT 0 e.payload
  else s

/-- HIF_IRQ_SRC.LOG_HIGH is set as EVT_WIDX − EVT_RIDX reaches HIF_IRQ_THR.LOG (R524). -/
def State.logHigh (s : State) : State :=
  if s.fget F.HIF_IRQ_THR_LOG 0 ≠ 0 ∧ s.unconsumed = s.fget F.HIF_IRQ_THR_LOG 0 then s.setFlag F.HIF_IRQ_SRC_LOG_HIGH 0
  else s

/-- Write an entry into the log RAM at EVT_WIDX. -/
def State.logWrite (s : State) (e : Entry) : State :=
  let w := (s.reg .EVT_WIDX 0).toNat
  let s := s.wrWords (logBase + 16 * (w % 4096)) e.words
  let s := s.setReg .EVT_WIDX 0 (BitVec.ofNat 32 (w + 1))
  let s := { s with log := { s.log with wrote := s.log.wrote + 1, wtimes := s.log.wtimes ++ [s.stn.elapsed],
                                        lastHi := some (e.tick / 2 ^ 48) } }
  ((s.logCount e).logMark e).logHigh

/-- Discard an entry that is due while the log is full (R457, R462, R463). -/
def State.logDiscard (s : State) (e : Entry) : State :=
  let s := s.faddSat F.EVT_LOST_COUNT 0 1
  let s := if e.mark then s else s.setBits F.EVT_PEND_CLASS 0 (2 ^ (e.cls % 16))
  let o := match s.log.overflow with
    | some (t, n, c) => (t, n + 1, c + e.count)
    | none => (e.tick, 1, e.count)
  { s with log := { s.log with overflow := some o } }

/-- The log discards what is due: it began to, or it holds 4,095 unconsumed entries (R457). -/
def State.logFull (s : State) : Bool := s.log.overflow.isSome || s.unconsumed ≥ 4095

/-- The EPOCH marker before an entry of another epoch (R460). -/
def epochMarker (tick : Nat) : Entry :=
  { tick, src := srcMarker, cls := 0, code := 3, payload := tick / 2 ^ 48 % 2 ^ 16, mark := true }

/-- Whether an EPOCH marker must precede an entry of this tick. -/
def State.epochDue (s : State) (tick : Nat) : Bool := s.log.lastHi != some (tick / 2 ^ 48)

/-- Write one entry, an EPOCH marker first where one is due, or discard it. -/
def State.logEntry (s : State) (e : Entry) : State :=
  if s.logFull then s.logDiscard e
  else
    let s := if s.epochDue e.tick then s.logWrite (epochMarker e.tick) else s
    if s.logFull then s.logDiscard e else s.logWrite e

/-- The overflow GAP marker, at the first tick edge with at most 3,072 unconsumed entries (R457). -/
def State.logResume (s : State) : State :=
  match s.log.overflow with
  | some (t, n, c) =>
    if s.unconsumed ≤ 3072 then
      { s with log := { s.log with overflow := none } }.logEntry
        { tick := t, src := srcMarker, cls := 0, code := 1, payload := satU 32 c, count := min 65535 n, mark := true }
    else s
  | none => s

/-- Order of writing: TICK, then SRC, then arrival (R453). -/
def Entry.before (a b : Entry) : Bool := a.tick < b.tick || (a.tick == b.tick && a.src < b.src)

/-- The entry to write next among those received, with the others in order of arrival. -/
def pickNext : List Entry → Option (Entry × List Entry)
  | [] => none
  | e :: t =>
    match pickNext t with
    | none => some (e, [])
    | some (x, r) => if x.before e then some (x, e :: r) else some (e, t)

/-- What the event network's checks make of an entry (R498): the entry to write, and whether a lane failed, whether
the entry is replaced. -/
def laneResult (commitTick : Nat) (e : Entry) : Entry × Bool × Bool :=
  match e.lane with
  | .good => (e, false, false)
  | .one =>
    if e.cls = 0 ∧ e.mark = false then (e, true, false)
    else ({ tick := commitTick, src := srcMarker, cls := 0, code := 1, payload := 0, mark := true }, true, true)
  | .both => ({ tick := commitTick, src := srcMarker, cls := 0, code := 1, payload := 0, mark := true }, true, true)

/-- The counts of a failed lane (R498). -/
def State.laneCount (s : State) (failed replaced : Bool) : State :=
  let s := if failed then (s.setFlag F.STN_DEP_STATUS_EVT_LANE 0).faddSat F.STN_DEP_CNT_EVT_CORR 0 1 else s
  if replaced then s.faddSat F.EVT_LOST_COUNT 0 1 else s

/-- Write the received entries up to a tick, at most four in one tick edge (R453); with no tick, all of them (R458). -/
def State.commitLoop (limit : Option Nat) : Nat → State → State
  | 0, s => s
  | n + 1, s =>
    match pickNext s.log.received with
    | none => s
    | some (e, rest) =>
      if limit.any (fun l => l < e.tick) then s
      else if limit.isSome && s.log.wrote ≥ 4 && !s.logFull then s
      else
        let (e', failed, replaced) := laneResult (limit.getD (s.count - 1)) e
        if limit.isSome && !s.logFull && s.epochDue e'.tick && s.log.wrote ≥ 3 then s.logWrite (epochMarker e'.tick)
        else
          let s := { s with log := { s.log with received := rest } }
          State.commitLoop limit n ((s.laneCount failed replaced).logEntry e')

/-- The commit at the present tick edge: every tick up to 448 before it (R453). -/
def State.commitNow (s : State) : State :=
  if s.count < 448 then s
  else
    let s := s.logResume
    let s := s.commitLoop (some (s.count - 448)) (s.log.received.length + 1)
    { s with log := { s.log with committed := max s.log.committed (s.count - 448) } }

/-- The recovery of a cause at the present tick edge X: everything received, then the entries that the cause writes
ahead of its marker, then the marker stamped X − 1 (R458). -/
def State.recoverNow (s : State) (cause : Nat) (first : List Entry := []) : State :=
  let s := s.commitLoop none (s.log.received.length + 1)
  let s := s.each first State.logEntry
  let s := s.logEntry
    { tick := s.count - 1, src := srcMarker, cls := 0, code := 2, payload := cause, mark := true }
  { s with log := { s.log with committed := s.count - 1 } }

/-- A recovery: at once where the log is ready, and kept until it is where not; what it writes has then waited (R455). -/
def State.recover (s : State) (cause : Nat) (first : List Entry := []) : State :=
  if s.logReady then s.recoverNow cause first
  else { s with log := { s.log with
      recover := s.log.recover ++ [(cause, first.map (fun e => { e with held := true }))] } }

/-- The recoveries kept while the log was not ready. -/
def State.recoverKept (s : State) : State :=
  ({ s with log := { s.log with recover := [] } }).each s.log.recover (fun s c => s.recoverNow c.1 c.2)

/-- What waits at its source when a hard alignment comes was stamped before it (R83, R458). -/
def State.staleSources (s : State) : State :=
  let old (l : List Entry) : List Entry := l.map (fun e => { e with stale := true })
  { s with log := { s.log with
      srcs := s.log.srcs.map (fun (k, o) => (k, { o with c0 := old o.c0, gen := old o.gen, gapStale := o.gap.isSome })) } }

/-- Entries that wait while the log stops are HELD (R455). -/
def holdAll (l : List Entry) : List Entry := l.map (fun e => { e with held := true })

/-- EVT_CTRL.EN went from 1 to 0. -/
def State.logStop (s : State) : State :=
  { s with log := { s.log with
      srcs := s.log.srcs.map (fun (k, o) => (k, { o with c0 := holdAll o.c0, gen := holdAll o.gen }))
      received := holdAll s.log.received } }

/-! ### Writes of the log's registers -/

/-- The ring's configuration is taken at a change to SPILL mode (R466, R467). -/
def State.spillStart (s : State) : State :=
  let a (lo hi : Reg) : Nat := (s.reg lo 0).toNat + (s.reg hi 0).toNat % 256 * 2 ^ 32
  { (s.setReg .EVT_RING_WR 0 0).fset F.EVT_STATUS_RING_FULL 0 0 with
    log := { s.log with
      spill := { s.log.spill with
        active := true
        stopping := false
        base := a .EVT_RING_BASE_LO .EVT_RING_BASE_HI
        con := a .EVT_RING_CON_LO .EVT_RING_CON_HI
        ptr := a .EVT_RING_PTR_LO .EVT_RING_PTR_HI
        log2 := max 8 (min 26 (s.fget F.EVT_SPILL_CFG_LOG2 0))
        conAt := none } } }

/-- A stop of the spill takes effect once no burst is outstanding (R467). -/
def State.spillSettle (s : State) : State :=
  if s.log.spill.stopping && s.log.spill.bursts.isEmpty then
    { s with log := { s.log with spill := { s.log.spill with active := false, stopping := false } } }
  else s

/-- A write of EVT_CTRL has been stored (R455, R458, R466, R467). -/
def State.evtCtrlWritten (s : State) (old : Word) : State :=
  let rec4 := s.on F.EVT_CTRL_RECOVER 0
  let s := s.fset F.EVT_CTRL_RECOVER 0 0
  let wasEn := getF old 0 1 == 1
  let s := if wasEn && !s.on F.EVT_CTRL_EN 0 then s.logStop
    else if !wasEn && s.on F.EVT_CTRL_EN 0 && s.log.up then (s.recoverKept).recoverNow 3 else s
  let was := getF old 1 1 == 1
  let s := if !was && s.on F.EVT_CTRL_MODE 0 then
      if s.log.spill.active then { s with log := { s.log with spill := { s.log.spill with stopping := false } } }
      else s.spillStart
    else if was && !s.on F.EVT_CTRL_MODE 0 then
      { s with log := { s.log with spill := { s.log.spill with stopping := true } } }.spillSettle
    else s
  if rec4 then s.recover 4 else s

/-- A write of EVT_RIDX has been stored: in LOCAL mode it consumes entries; before the present value, beyond EVT_WIDX
or in SPILL mode it is ignored (R461, R487). -/
def State.evtRidxWritten (s : State) (old : Word) : State :=
  let v := (s.reg .EVT_RIDX 0).toNat
  let d := (v + 2 ^ 32 - old.toNat) % 2 ^ 32
  let room := ((s.reg .EVT_WIDX 0).toNat + 2 ^ 32 - old.toNat) % 2 ^ 32
  if s.on F.EVT_CTRL_MODE 0 || s.log.spill.active || d > room then s.setReg .EVT_RIDX 0 old
  else { s with log := { s.log with wtimes := s.log.wtimes.drop d } }

/-! ### Reads (R465, R481) -/

/-- A read of a log entry: counts a corrected error and reports the first uncorrectable one (R465). -/
def State.logRead (s : State) (slot : Nat) : Ecc → State
  | .clean => s
  | .corrected => s.faddSat F.EVT_STATUS_CORR 0 1
  | .uncorrectable =>
    if s.on F.EVT_STATUS_UNCORR_SEEN 0 then s
    else (s.setFlag F.EVT_STATUS_UNCORR_SEEN 0).post srcLog 7 4 [.num 12 slot]

/-- The flags that a read of entry word `n` adds to the copy (R443, R465). -/
def eccFlags (n : Nat) : Ecc → Word
  | .clean => 0
  | .corrected => if n = 2 then 0x100000 else 0
  | .uncorrectable => if n = 2 then 0x80000 else 0

/-! ### The commands -/

def execEventPosting (src cls code payload : Nat) (s : State) : Host.Outcome State Fault Refusal :=
  s.act fun s => s.postRaw src (cls % 16) (code % 256) payload s.count

def execSourceGapMarker (src : Nat) (s : State) : Host.Outcome State Fault Refusal :=
  s.act fun s => s.setSource src ((s.source src).placeGap src (!s.logReady))

/-- EVENT_NETWORK_TAKE (R452): up to four entries at one tick edge, none while the log is not ready (R455). `lanes`: what
the network's checks find on each entry, in order. -/
def execEventNetworkTake (lanes : List Lane) (s : State) : Host.Outcome State Fault Refusal :=
  s.act fun s => s.iff s.logReady fun s =>
    s.each (List.range (4 - s.log.took)) fun s i => s.takeOne (lanes.getD i .good)

/-- LOG_COMMIT (R453). -/
def execLogCommit (s : State) : Host.Outcome State Fault Refusal :=
  s.act fun s => s.iff s.logReady State.commitNow

def execLogOverflowGap (s : State) : Host.Outcome State Fault Refusal :=
  s.act fun s => s.iff s.logReady State.logResume

/-- LOG_ENTRY_READ (R465): word `word` of slot `slot`, as the port returns it. -/
def execLogEntryRead (slot word : Nat) (ecc : Ecc) (s : State) : Host.Outcome State Fault Refusal :=
  s.act fun s =>
    { s.logRead (slot % 4096) ecc with
      apb := { rdata := s.rdWord (logBase + 16 * (slot % 4096) + 4 * (word % 4)) ||| eccFlags (word % 4) ecc } }

/-- JOURNAL_ENTRY_READ (R481): word `word` of slot `slot`; the first uncorrectable error is reported. -/
def execJournalEntryRead (slot word : Nat) (ecc : Ecc) (s : State) : Host.Outcome State Fault Refusal :=
  s.act fun s =>
    let s' := match ecc with
      | .uncorrectable =>
        if s.on F.JNL_STATUS_UNCORR_SEEN 0 then s
        else (s.setFlag F.JNL_STATUS_UNCORR_SEEN 0).post srcLog 7 0x12 [.num 10 (slot % 1024)]
      | _ => s
    { s' with apb := { rdata := s.rdWord (0x90000 + 16 * (slot % 1024) + 4 * (word % 4)) } }

end Sys2Proof.Machine
end

