-- ==== Sys2Proof/Machine/Station.lean ====
section
/-! DEFINITION. Station Clock, Time Spine and alignment across dies (R34–R90), but for the tick edge and lock. -/

namespace Sys2Proof.Machine

/-! ### Power-on reset and acquisition -/

/-- PO_RST_ASSERT (R534): every state, register, RAM index and output takes its reset value. The build is the
instance's; commands on their way to the block are outside it. -/
def execPoRstAssert (s : State) : Host.Outcome State Fault Refusal :=
  .next { State.resetOf s.build with pending := s.pending }

/-- PO_RST_RELEASE (R598): the first acquisition attempt starts. -/
def execPoRstRelease (s : State) : Host.Outcome State Fault Refusal :=
  .next (if s.por then { s with por := false, stn := { s.stn with attempt := true } } else s)

/-- The state of the Station Clock: 0 ACQUIRE, 1 LOCKED, 2 HOLDOVER, 3 REACQUIRE. -/
def State.clkState (s : State) : Nat := s.fget F.STN_CLK_STATUS_STATE 0

/-- STATE with LOCKED, which reads whether it is LOCKED (R90). -/
def State.setClkState (s : State) (n : Nat) : State :=
  (s.fset F.STN_CLK_STATUS_STATE 0 n).fsetB F.STN_CLK_STATUS_LOCKED 0 (n == 1)

/-- REF_SEL asks for detection: 0, and 3 as 0 (R35). -/
def State.refDetects (s : State) : Bool := s.fget F.STN_CLK_CFG_REF_SEL 0 % 3 == 0

/-- The reference selected: 1 100 MHz, 2 156.25 MHz (R35, R45). -/
def State.refSelected (s : State) : Nat :=
  if s.refDetects then s.fget F.STN_CLK_STATUS_REF_DET 0 else s.fget F.STN_CLK_CFG_REF_SEL 0

/-- What a count of edges in 2 µs classifies (R34), as REF_DET codes it. -/
def classifyRef (edges : Nat) : Nat :=
  if edges < 140 ∨ edges > 400 then 3 else if edges < 250 then 1 else 2

/-- REFERENCE_DETECTION (R34): while no detection has classified the reference in this attempt or holdover (R45,
R598). -/
def execReferenceDetection (edges : Nat) (s : State) : Host.Outcome State Fault Refusal :=
  s.act fun s =>
    let due := (!s.stn.locked && s.stn.attempt) || (s.stn.locked && s.clkState == 2)
    s.iff (s.refDetects && due && !s.stn.classified) fun s =>
      let c := classifyRef edges
      let s := s.fset F.STN_CLK_STATUS_REF_DET 0 c
      let s := s.fsetB F.STN_CLK_STATUS_REF_PRESENT 0 (c != 3)
      s.setStn { s.stn with classified := c != 3 }

/-- A fresh acquisition attempt (R36, R40, R598). -/
def State.newAttempt (s : State) : State := s.setStn { s.stn with attempt := true, classified := false }

/-- LOCK_FAIL (R40): an attempt ends without lock. -/
def execLockFail (s : State) : Host.Outcome State Fault Refusal :=
  s.act fun s => s.iff (!s.stn.locked && s.stn.attempt) fun s => (s.fset F.STN_CLK_STATUS_LOCK_FAIL 0 1).newAttempt

/-! ### Holdover and reacquisition -/

/-- Holdover is entered (R44). A fall back from REACQUIRE goes on with the span of R46. In HOLDOVER nothing is entered, and
the reference is to be qualified and, at REF_SEL 0, classified afresh (R45; DESIGN CHOICE, log entry 61). -/
def State.enterHoldover (s : State) (cause : Nat) : State :=
  if s.clkState = 1 ∨ s.clkState = 3 then
    let span := if s.clkState = 3 then s.stn.holdTk else 0
    let s := s.setClkState 2
    let s := s.setFlag F.STN_CLK_STATUS_LOSS_SEEN 0
    let s := s.setStn { s.stn with holdTk := span, classified := false, qualified := false }
    s.post srcStation 0 1 [pEnum cause]
  else s.setStn { s.stn with classified := false, qualified := false }

/-- LOSS_OF_REFERENCE (R41); in HOLDOVER it ends only what was qualified. -/
def execLossOfReference (cause : LossCause) (s : State) : Host.Outcome State Fault Refusal :=
  s.act fun s => s.iff s.stn.locked fun s =>
    (s.fset F.STN_CLK_STATUS_REF_PRESENT 0 0).enterHoldover (match cause with | .missingEdge => 0 | .phaseError => 1)

/-- Reacquisition starts (R45). -/
def State.reacquire (s : State) : State :=
  (s.setClkState 3).setStn { s.stn with reacqTk := 0, qualified := false }

/-- A write of STN_CLK_CFG has been stored: a changed REF_SEL (R36), a changed HOLD_FORCE (R90), whose clearing starts
reacquisition where the reference is qualified (R45). In REACQUIRE a changed REF_SEL falls back to holdover with cause 2;
in HOLDOVER it asks for the new setting's qualification alone (DESIGN CHOICE, log entry 61). -/
def State.clkCfgWritten (s : State) (old : Word) : State :=
  let s :=
    if getF old 0 2 ≠ s.fget F.STN_CLK_CFG_REF_SEL 0 then
      if s.stn.locked then s.enterHoldover 2 else if s.stn.attempt then s.newAttempt else s
    else s
  if getF old 2 1 = 0 ∧ s.on F.STN_CLK_CFG_HOLD_FORCE 0 then
    if s.stn.locked then s.enterHoldover 3 else s
  else if getF old 2 1 = 1 ∧ !s.on F.STN_CLK_CFG_HOLD_FORCE 0 ∧ s.clkState = 2 ∧ s.stn.qualified then
    s.reacquire
  else s

/-- REFERENCE_QUALIFIED (R45): 2,048 good periods at the frequency that is set or freshly classified. HOLD_FORCE keeps
holdover until it clears (R90). -/
def execReferenceQualified (s : State) : Host.Outcome State Fault Refusal :=
  s.act fun s => s.iff (s.clkState == 2 && (!s.refDetects || s.stn.classified)) fun s =>
    let s := s.fset F.STN_CLK_STATUS_REF_PRESENT 0 1
    if s.on F.STN_CLK_CFG_HOLD_FORCE 0 then s.setStn { s.stn with qualified := true } else s.reacquire

/-- The phase offset of R46 in tk: ticks counted less periods counted times the feedback ratio, 16 or 256/25. -/
def State.holdOffset (s : State) (refPeriods : Nat) : Int :=
  if s.refSelected = 2 then divOpen ((s.stn.holdTk * 25 : Nat) - (refPeriods * 256 : Nat) : Int) 25
  else (s.stn.holdTk : Int) - (refPeriods * 16 : Nat)

/-- LOCK_RESTORED (R46). A span that is no whole number of 1,024 tk is rounded as `Config.roundsUp` leaves open. -/
def execLockRestored (refPeriods : Nat) (s : State) : Host.Outcome State Fault Refusal :=
  s.act fun s => s.iff (s.clkState == 3) fun s =>
    let s := s.fset F.STN_HOLD_OFFSET_OFFSET 0 (satS 32 (s.holdOffset refPeriods))
    let s := s.fset F.STN_HOLD_TIME_SPAN 0 (satU 32 (divOpen s.stn.holdTk 1024).toNat)
    let s := s.fset F.STN_LOCK_TIME_TK 0 (satU 20 s.stn.reacqTk)
    (s.setClkState 1).post srcStation 0 2 [.num 32 (s.fget F.STN_HOLD_OFFSET_OFFSET 0)]

/-! ### Tick capture (R55, R56) -/

/-- A write of STN_TCAP_CTRL: a request while one is pending merges into it (R56). -/
def State.tcapWritten (s : State) (w : Word) : State :=
  if getF w 0 1 = 1 then (s.fset F.STN_TCAP_SEQ_NOT_READY 0 1).setStn { s.stn with tcapPend := true } else s

/-- TCAP_LATCH (R55). -/
def execTcapLatch (s : State) : Host.Outcome State Fault Refusal :=
  s.act fun s => s.iff (s.stn.locked && s.stn.tcapPend) fun s =>
    let s := s.setReg .STN_TCAP_LO 0 (BitVec.ofNat 32 s.count)
    let s := s.setReg .STN_TCAP_HI 0 (BitVec.ofNat 32 (s.count / 2 ^ 32))
    let s := s.faddWrap F.STN_TCAP_SEQ_SEQ 0 1
    let s := s.fset F.STN_TCAP_SEQ_NOT_READY 0 0
    (s.setFlag F.HIF_IRQ_SRC_TCAP_DONE 0).setStn { s.stn with tcapPend := false }

/-! ### The Time Spine -/

/-- Two measurements agree within three fine steps (R59). -/
def leafAgrees (m : Int × Int) : Bool := (m.1 - m.2).natAbs ≤ 3

/-- Whether a leaf passes in its first attempt and three retries (R59). -/
def leafPasses (attempts : List (Int × Int)) : Bool := (attempts.take 4).any leafAgrees

/-- The Station tap's number among the leaves: the one after the last region. -/
def State.tapLeaf (s : State) : Nat := s.build.nRegions

/-- One leaf's calibration result (R59, R60). The Station tap has no region to mark or to name (DESIGN CHOICE, log
entry 63). -/
def State.leafResult (s : State) (m : LeafMeas) : State :=
  if leafPasses m.attempts then
    if m.region = s.tapLeaf then s.setStn { s.stn with tapFine := m.fine % 512, tapResidual := m.residual }
    else
      let s := s.setRgn m.region
        { s.rgn m.region with residual := m.residual, loaded := true, localErr := 0, mismatch := false }
      s.fset F.SB_SPINE_FINE m.region m.fine
  else
    let last := ((m.attempts.take 4).getLast?).getD (0, 0)
    let s := s.fset F.STN_SPINE_STATUS_CAL_FAIL 0 1
    if m.region = s.tapLeaf then s
    else (s.fset F.SB_SPINE_FAILED m.region 1).post srcStation 1 2 [pRegion m.region, .sgn 8 (last.2 - last.1)]

/-- Every leaf is measured: the regions' in ascending number, then the Station tap's. -/
def State.allMeasured (s : State) (leaves : List LeafMeas) : Bool :=
  leaves.map (·.region) == List.range (s.build.nRegions + 1) && leaves.all (fun m => !m.attempts.isEmpty)

/-- SPINE_CALIBRATION (R59): at a `spine_f` boundary with every leaf measured, the passing local counters are loaded; the
release hold of R82 is decided at this edge. -/
def execSpineCalibration (leaves : List LeafMeas) (s : State) : Host.Outcome State Fault Refusal :=
  s.act fun s => s.iff (s.stn.locked && !s.on F.STN_SPINE_STATUS_CAL_DONE 0 && s.count % 64 == 0
      && s.allMeasured leaves) fun s =>
    let s := s.each leaves State.leafResult
    let s := s.fset F.STN_SPINE_STATUS_CAL_DONE 0 1
    let hold := s.build.optSync && s.fget F.STN_SYNC_CTRL_ROLE 0 == 2 && !s.on F.STN_SYNC_STATUS_HARD_DONE 0
    let s := s.setStn { s.stn with spineEnd := some s.stn.elapsed, trackAt := s.stn.elapsed, relHold := hold }
    if s.fget F.CAL_STATUS_PHASE 0 < 2 then s.fset F.CAL_STATUS_PHASE 0 2 else s

/-- The next leaf from a position that tracking does not skip, and how many positions that passes (R62). -/
def nextLeaf (skip : Nat → Bool) (n : Nat) : Nat → Nat → Option (Nat × Nat)
  | 0, _ => none
  | f + 1, i => if skip (i % n) then (nextLeaf skip n f (i + 1)).map (fun p => (p.1, p.2 + 1)) else some (i % n, 1)

/-- A fine delay moved by at most one step toward a wanted move (R62). -/
def fineStep (fine : Nat) (delta : Int) : Nat :=
  if delta > 0 then min 511 (fine + 1) else if delta < 0 then fine - 1 else fine

/-- A leaf that tracking skips: a region's whose SB_SPINE_OVR.EN is 1 (R62). -/
def State.leafSkipped (s : State) (l : Nat) : Bool := l < s.build.nRegions && s.on F.SB_SPINE_OVR_EN l

/-- One leaf's new measurement: its residual, and its fine delay moved by at most one step (R62). -/
def State.leafMoves (s : State) (l : Nat) (delta : Int) (residual : Nat) : State :=
  if l = s.tapLeaf then s.setStn { s.stn with tapFine := fineStep s.stn.tapFine delta, tapResidual := residual }
  else (s.setRgn l { s.rgn l with residual }).fset F.SB_SPINE_FINE l (fineStep (s.fget F.SB_SPINE_FINE l) delta)

/-- A measurement may end: 1,024 tk after the last in tracking; in a RECAL round without gaps, 96 tk for each pair (R59,
R62, R63). -/
def State.trackDue (s : State) (recal : Bool) (pairs : Nat) : Bool :=
  s.stn.trackAt + (if recal then 96 * pairs else 1024) ≤ s.stn.elapsed

/-- SPINE_TRACK_MEASURE (R62, R63): one leaf. In a RECAL round a leaf whose pairs never agree keeps its delay, and the
round ends with the last leaf that is not skipped. -/
def execSpineTrackMeasure (attempts : List (Int × Int)) (delta : Int) (residual : Nat) (s : State) :
    Host.Outcome State Fault Refusal :=
  s.act fun s =>
    let recal := s.on F.STN_SPINE_CTRL_RECAL 0
    let n := s.build.nRegions + 1
    s.iff (s.on F.STN_SPINE_STATUS_CAL_DONE 0 && (recal || s.on F.STN_SPINE_CTRL_TRACK_EN 0)
        && s.trackDue recal attempts.length) fun s =>
      match nextLeaf s.leafSkipped n n s.stn.trackIdx with
      | none => s.fset F.STN_SPINE_CTRL_RECAL 0 0
      | some (l, passed) =>
        let s := if !recal || leafPasses attempts then s.leafMoves l delta residual else s
        let left := s.stn.recalLeft - passed
        let ends := (List.range left).all (fun i => s.leafSkipped ((l + 1 + i) % n))
        let s := s.setStn { s.stn with
          trackIdx := (l + 1) % n, trackAt := s.stn.elapsed, recalLeft := if ends then 0 else left }
        if recal && ends then s.fset F.STN_SPINE_CTRL_RECAL 0 0 else s

/-- A write of STN_SPINE_CTRL has been stored: RECAL starts a fresh round, or merges into the one that runs (R63,
R526). -/
def State.spineCtrlWritten (s : State) (old : Word) : State :=
  if s.on F.STN_SPINE_CTRL_RECAL 0 && getF old 0 1 == 0 then
    s.setStn { s.stn with recalLeft := s.build.nRegions + 1, trackAt := s.stn.elapsed }
  else s

/-- A write of SB_SPINE_OVR has been stored: EN uses OVR.FINE. Once EN is cleared the leaf goes on from the delay in use
(DESIGN CHOICE, log entry 64). -/
def State.spineOvrWritten (s : State) (r : Nat) : State :=
  if s.on F.SB_SPINE_OVR_EN r then s.fset F.SB_SPINE_FINE r (s.fget F.SB_SPINE_OVR_FINE r) else s

/-- The local count of a Signal Box. -/
def State.localCount (s : State) (r : Nat) : BitVec 64 := BitVec.ofNat 64 s.count + (s.rgn r).localOff r

/-- A faulty local count is found, to be reloaded at a `spine_f` boundary (R64, R65, R67). -/
def State.spineFault (s : State) (r : Nat) (count : BitVec 64) : State :=
  s.setRgn r { s.rgn r with mismatch := true, loaded := true, localErr := count - BitVec.ofNat 64 s.count }

/-- SPINE_PARITY_MISMATCH (R64): the parity of the local count differs from `spine_p`. -/
def execSpineParityMismatch (region : Nat) (count : BitVec 64) (s : State) : Host.Outcome State Fault Refusal :=
  s.act fun s => s.iff (s.on F.STN_SPINE_STATUS_CAL_DONE 0 && region < s.build.nRegions && !(s.rgn region).mismatch)
    fun s => (s.spineFault region count).setFlag F.STN_SPINE_STATUS_MISMATCH_SEEN 0

/-- SPINE_FRAME_CHECK (R67): at a `spine_f` boundary. -/
def execSpineFrameCheck (region : Nat) (count : BitVec 64) (s : State) : Host.Outcome State Fault Refusal :=
  s.act fun s => s.iff (s.on F.STN_SPINE_STATUS_CAL_DONE 0 && region < s.build.nRegions && s.count % 64 == 0
      && !(s.rgn region).mismatch && count != BitVec.ofNat 64 s.count)
    fun s => s.spineFault region count

/-- SPINE_RELOAD (R65): at a `spine_f` boundary after a mismatch. -/
def execSpineReload (region : Nat) (s : State) : Host.Outcome State Fault Refusal :=
  s.act fun s => s.iff ((s.rgn region).mismatch && s.count % 64 == 0) fun s =>
    let before := s.localCount region
    let s := s.setRgn region { s.rgn region with mismatch := false, loaded := true, localErr := 0 }
    let s := s.faddSat F.SB_SPINE_RESYNC region 1
    s.post region 1 1 [.num 32 (before.toNat % 2 ^ 32)]

/-! ### Alignment across dies -/

/-- One bit into the CRC-8 of R74 (x⁸ + x² + x + 1). -/
def crc8Step (c : Nat) (bit : Bool) : Nat :=
  let fb := c.testBit 7 != bit
  (c * 2 % 256) ^^^ (if fb then 7 else 0)

/-- The CRC-8 of a frame's 48 bits, most significant first, initial value 0 (R74). -/
def crc8 (bits : BitVec 48) : Nat :=
  (List.range 48).foldl (fun c i => crc8Step c (bits.toNat.testBit (47 - i))) 0

/-- The level of `sync_out` at offset `k` of the frame of count `n` (R74). The CRC's cells go most significant bit first,
as those of N do (DESIGN CHOICE, log entry 65). -/
def syncLevel (n k : Nat) : Bool :=
  if k < 64 then true
  else if k < 96 || k ≥ 1888 then false
  else
    let cell := (k - 96) / 32
    let bits := BitVec.ofNat 48 (n / 2 ^ 16)
    let bit := if cell < 48 then bits.toNat.testBit (47 - cell) else (crc8 bits).testBit (55 - cell)
    (k - 96) % 32 < (if bit then 24 else 8)

/-- A leader drives its frame at this tick edge. -/
def State.syncDrive (s : State) : State :=
  match s.stn.frameN with
  | some n => s.setStn { s.stn with syncOut := syncLevel n (s.count - n) }
  | none => s

/-- SYNC_FRAME_SEND (R74). -/
def execSyncFrameSend (s : State) : Host.Outcome State Fault Refusal :=
  s.act fun s => s.iff (s.build.optSync && s.stn.locked && s.fget F.STN_SYNC_CTRL_ROLE 0 == 1 && s.count % 65536 == 0)
    fun s =>
      let meas := if s.on F.STN_SYNC_CTRL_MEASURE 0 then some s.count else s.stn.measN
      (s.setStn { s.stn with frameN := some s.count, measN := meas }).syncDrive

/-! #### Reception (R73–R75) -/

/-- The sample that leaves the two-stage synchroniser, 2 tk after it was made, and the one before it. -/
def SyncRx.now (x : SyncRx) : Bool := (x.pipe[4]?).getD false
def SyncRx.prev (x : SyncRx) : Bool := (x.pipe[5]?).getD false

/-- The receiver takes the sample that the synchroniser gives, at own count `h` in 0.5 tk: a rising edge begins a marker,
recognised after 48 tk high; a cell of 32 tk is 1 when it was high for at least 16 tk (R75). -/
def SyncRx.take (x : SyncRx) (h : Nat) : SyncRx :=
  match x.rise with
  | none => if x.now && !x.prev then { x with rise := some h, at_ := 0, high := 1, marker := false, bits := 0 } else x
  | some r =>
    let k := x.at_ + 1
    let x := { x with at_ := k }
    if !x.marker then
      if x.now then { x with high := x.high + 1, marker := x.high + 1 ≥ 96 } else { x with rise := none }
    else if k < 192 then x
    else
      let high := (if k % 64 = 0 then 0 else x.high) + x.now.toNat
      if k % 64 ≠ 63 then { x with high }
      else
        let bits := x.bits * 2 + (if high ≥ 32 then 1 else 0)
        if k < 3775 then { x with high, bits } else { x with rise := none, bits, frame := some (bits, r) }

/-- One sample of `sync_in` at own count `h` in 0.5 tk. -/
def SyncRx.sample (x : SyncRx) (h : Nat) (level : Bool) : SyncRx :=
  SyncRx.take { x with pipe := level :: x.pipe.take 6 } h

/-- The two samples of a tick edge of count `n`: at the falling edge before it, and at the edge (R73). -/
def SyncRx.edge (x : SyncRx) (n : Nat) (mid level : Bool) : SyncRx := (x.sample (2 * n - 1) mid).sample (2 * n) level

/-- The alignment error in half ticks (R80): e = (N + STN_SYNC_DLY + 2 tk) − c_det. -/
def syncError (n dly cdet : Nat) : Int :=
  signed 65 ((((2 * n + dly + 4 : Nat) : Int) - (cdet : Int)) % (2 ^ 65 : Int)).toNat

/-- e in half ticks rounded to the nearest even number of ticks, midway toward zero (R81). -/
def evenOffset (e : Int) : Int :=
  let m := (e.natAbs + 1) / 4
  if e < 0 then -(2 * (m : Int)) else 2 * (m : Int)

/-- The reports of R87, with STN_SYNC_ERR as it reads (R89). -/
def State.syncReport (s : State) (e : Int) : State :=
  let err := PItem.num 32 (s.reg .STN_SYNC_ERR 0).toNat
  if e.natAbs > 4 then (s.setStn { s.stn with above2 := true }).post srcStation 1 5 [err]
  else if s.stn.above2 then (s.setStn { s.stn with above2 := false }).post srcStation 1 6 [err]
  else s

/-- Slewing starts and stops by the error of a frame, and goes toward zero error (R86). -/
def State.syncSlew (s : State) (e : Int) : State :=
  if s.on F.STN_SYNC_CTRL_AUTO_SLEW 0 && (s.stn.relCount > 0 || s.on F.STN_SYNC_STATUS_HARD_DONE 0) then
    let s := s.setStn { s.stn with slewDir := e.sign }
    if e.natAbs ≥ 2 then s.fset F.STN_SYNC_STATUS_SLEWING 0 1
    else if e.natAbs ≤ 1 then s.fset F.STN_SYNC_STATUS_SLEWING 0 0
    else s
  else s

/-- A valid frame measured the error `e` (R80, R81, R86, R87). -/
def State.syncValid (s : State) (e : Int) : State :=
  let s := (s.fset F.STN_SYNC_STATUS_FRAME_OK 0 1).fset F.STN_SYNC_STATUS_LOST 0 0
  let s := s.setStn { s.stn with syncLast := s.stn.elapsed }
  let s := s.setReg .STN_SYNC_ERR 0 (BitVec.ofInt 32 e)
  let s := s.fsetB F.STN_SYNC_STATUS_ALIGNED 0 (e.natAbs ≤ 4)
  let s := (s.syncReport e).syncSlew e
  if s.stn.relCount = 0 ∧ !s.on F.STN_SYNC_STATUS_HARD_DONE 0 ∧ s.stn.hardPend = none then
    s.setStn { s.stn with hardPend := some (evenOffset e) }
  else s

/-- SYNC_FRAME_RECEIVE (R76, R80): the frame that the receiver has decoded. -/
def execSyncFrameReceive (s : State) : Host.Outcome State Fault Refusal :=
  s.act fun s => s.iff (s.build.optSync && s.stn.locked && s.fget F.STN_SYNC_CTRL_ROLE 0 == 2) fun s =>
    match s.stn.syncRx.frame with
    | none => s
    | some (cells, cdet) =>
      let s := s.setStn { s.stn with syncRx := { s.stn.syncRx with frame := none } }
      let n := cells / 256 % 2 ^ 48
      if cells % 256 = crc8 (BitVec.ofNat 48 n) then s.syncValid (syncError (n * 65536) (s.fget F.STN_SYNC_DLY_DELAY 0) cdet)
      else (s.setFlag F.STN_SYNC_STATUS_CRC_ERR_SEEN 0).fset F.STN_SYNC_STATUS_FRAME_OK 0 0

/-- SYNC_LOST (R76): three frame periods without a valid frame. -/
def execSyncLost (s : State) : Host.Outcome State Fault Refusal :=
  s.act fun s => s.iff (s.build.optSync && s.stn.locked && s.fget F.STN_SYNC_CTRL_ROLE 0 == 2
      && s.stn.elapsed - s.stn.syncLast ≥ 196608 && !s.on F.STN_SYNC_STATUS_LOST 0)
    fun s => (s.fset F.STN_SYNC_STATUS_LOST 0 1).post srcStation 1 4 [pOther ((s.stn.elapsed - s.stn.syncLast) / 65536)]

/-- Every Signal Box reloads its local count. -/
def State.reloadAll (s : State) : State :=
  s.each (List.range s.build.nRegions) fun s r => s.setRgn r { s.rgn r with mismatch := false, loaded := true, localErr := 0 }

/-- The entry of a hard alignment, which the recovery of cause 2 writes ahead of its marker (R458). -/
def hardEntry (tick : Nat) (e : Int) : Entry :=
  { tick, src := srcStation, cls := 1, code := 7, payload := payload [.sgn 32 e] }

/-- HARD_ALIGNMENT (R81): at a `spine_f` boundary, while no Section has been released. One that a frame has triggered takes
place whatever ROLE reads at the boundary (DESIGN CHOICE, log entry 66). -/
def execHardAlignment (s : State) : Host.Outcome State Fault Refusal :=
  s.act fun s =>
    match s.stn.hardPend with
    | none => s
    | some e => s.iff (s.count % 64 == 0 && s.stn.relCount == 0) fun s =>
      let d := BitVec.ofInt 64 e
      let s := s.setStn { s.stn with cntA := s.stn.cntA + d, cntB := s.stn.cntB + d, cntC := s.stn.cntC + d,
                                     hardPend := none, relHold := false }
      let s := s.reloadAll
      let s := s.fset F.STN_SYNC_STATUS_HARD_DONE 0 1
      s.staleSources.recover 2 [hardEntry s.count e]

/-- SYNC_HOLD_TIMEOUT (R82). -/
def execSyncHoldTimeout (s : State) : Host.Outcome State Fault Refusal :=
  s.act fun s => s.iff (s.stn.relHold && s.stn.spineEnd.any (fun t => s.stn.elapsed - t ≥ 262144))
    fun s => (s.setStn { s.stn with relHold := false }).post srcStation 1 8 [.num 32 0]

/-- A write of STN_SYNC_CTRL has been stored: a change of ROLE (R77, R82), MEASURE (R78), AUTO_SLEW (R86). A new follower
awaits frames from this edge; LOST, ALIGNED and FRAME_OK keep their values when ROLE changes; a die that is no leader
keeps MEASURE pending (DESIGN CHOICE, log entry 66). -/
def State.syncCtrlWritten (s : State) (old : Word) : State :=
  let role := s.fget F.STN_SYNC_CTRL_ROLE 0
  let s :=
    if getF old 0 2 ≠ role then
      let t := s.stn
      s.setStn { t with
        relHold := t.relHold && role == 2
        syncLast := if role = 2 then t.elapsed else t.syncLast
        syncRx := { pipe := t.syncRx.pipe }
        frameN := none
        measN := none
        syncOut := false }
    else s
  let s := if s.on F.STN_SYNC_CTRL_MEASURE 0 then s.fset F.STN_SYNC_RSEQ_NOT_READY 0 1 else s
  if s.on F.STN_SYNC_CTRL_AUTO_SLEW 0 && role == 2 then s else s.fset F.STN_SYNC_STATUS_SLEWING 0 0

/-- The round trip of the frame of count `n`, as the receiver stands at the present count (R78): the interval to the
returned marker's rising edge; 0xFFFF once 2,048 tk have passed without one; none while either may come. -/
def SyncRx.roundTrip (x : SyncRx) (n count : Nat) : Option Nat :=
  match x.rise with
  | some r =>
    if 2 * n ≤ r && r ≤ 2 * n + 4096 then (if x.marker then some (r - 2 * n) else none)
    else if n + 2048 ≤ count then some 0xFFFF else none
  | none => if n + 2048 ≤ count then some 0xFFFF else none

/-- SYNC_RTT_DONE (R78). -/
def execSyncRttDone (s : State) : Host.Outcome State Fault Refusal :=
  s.act fun s => s.iff (s.build.optSync && s.fget F.STN_SYNC_CTRL_ROLE 0 == 1) fun s =>
    match s.stn.measN.bind (fun n => s.stn.syncRx.roundTrip n s.count) with
    | none => s
    | some rt =>
      let s := (s.setStn { s.stn with measN := none }).fset F.STN_SYNC_RTT_RT 0 rt
      let s := s.faddWrap F.STN_SYNC_RSEQ_SEQ 0 1
      let s := (s.fset F.STN_SYNC_RSEQ_NOT_READY 0 0).fset F.STN_SYNC_CTRL_MEASURE 0 0
      s.setFlag F.HIF_IRQ_SRC_SYNC_DONE 0

/-- SYNC_ECHO (R77): `sync_out` takes the level that `sync_in` had at the tick edge 3 tk before this one. -/
def execSyncEcho (s : State) : Host.Outcome State Fault Refusal :=
  s.act fun s => s.iff (s.build.optSync && s.fget F.STN_SYNC_CTRL_ROLE 0 == 3)
    fun s => s.setStn { s.stn with syncOut := (s.stn.syncRx.pipe[6]?).getD false }

end Sys2Proof.Machine
end

