-- ==== Sys2Proof/Machine/Token.lean ====
section
/-!
DEFINITION. Token crossings and the reset of any crossing's side (R213–R227, R602, R603).
-/

namespace Sys2Proof.Machine

/-! ### Transfers (R214–R218) -/

/-- The Token crossing of an index. -/
def Build.token (b : Build) (t : Nat) : Option TokBuild := b.tokens[t]?

/-- A transfer launches with a count or word (R217). -/
def State.tokLaunch (s : State) (t : Nat) (b : TokBuild) (v : Nat) : State :=
  s.setTok t { s.tok t with out := some v, arr := some v, req := true, reqAt := (s.rgn b.dst).edges, seenAt := none }

/-- The source's work at an edge in PULSE mode (R217). -/
def State.tokSource (s : State) (t : Nat) (b : TokBuild) (pulse : Bool) : State :=
  let k := s.tok t
  let p := if pulse then min 65535 (k.p + 1) else k.p
  if k.out.isNone ∧ p > 0 then (s.setTok t { k with p := 0 }).tokLaunch t b p else s.setTok t { k with p }

/-- A source's half runs, at an edge of its region. -/
def State.tokSrc (s : State) (t : Nat) (b : TokBuild) : Bool := s.atEdge b.src && (s.tok t).sRun && !(s.tok t).chan.wRst

/-- A destination's half runs, at an edge of its region. -/
def State.tokDst (s : State) (t : Nat) (b : TokBuild) : Bool := s.atEdge b.dst && (s.tok t).dRun && !(s.tok t).chan.rRst

/-- The destination may see the request's level: two of its edges have passed since it changed (R214). -/
def State.reqSeen (s : State) (t : Nat) (b : TokBuild) : Bool := seenBy false (s.tok t).reqAt (s.rgn b.dst).edges

/-- The source may see the acknowledge's level (R214). -/
def State.ackSeen (s : State) (t : Nat) (b : TokBuild) : Bool := seenBy false (s.tok t).ackAt (s.rgn b.src).edges

/-- The edges that each side's region has delivered. -/
def State.tokEdges (s : State) (b : TokBuild) : Side → Nat
  | .writer => (s.rgn b.src).edges
  | .reader => (s.rgn b.dst).edges

/-- The region of a side. -/
def TokBuild.side (b : TokBuild) : Side → Nat
  | .writer => b.src
  | .reader => b.dst

/-- The destination has a transfer to see at this edge: seen before, or seen now at an edge before its flush edge (R214,
R225). -/
def State.tokComes (s : State) (t : Nat) (b : TokBuild) : Bool :=
  (s.tok t).arr.isSome && s.tokDst t b &&
    ((s.tok t).seenAt.isSome || (s.reqSeen t b && !(s.tok t).chan.mustFlush .reader (s.tokEdges b)))

/-- Run an effect of a Token crossing of the instance, when it is due. -/
def State.onTok (s : State) (t : Nat) (due : TokBuild → Bool) (f : TokBuild → State) : State :=
  match s.build.token t with
  | some b => if due b then f b else s
  | none => s

/-- TOKEN_PULSE (R217): `ts_pulse` high at a source edge. -/
def execTokenPulse (t : Nat) (s : State) : Host.Outcome State Fault Refusal :=
  s.act fun s => s.onTok t (fun b => !b.word && s.tokSrc t b) fun b => s.tokSource t b true

/-- TOKEN_WORD_OFFER (R216): valid and ready both high; `ts_ready` is high while no transfer is outstanding. -/
def execTokenWordOffer (t data : Nat) (s : State) : Host.Outcome State Fault Refusal :=
  s.act fun s => s.onTok t (fun b => b.word && s.tokSrc t b && (s.tok t).out.isNone)
    fun b => s.tokLaunch t b (data % 2 ^ b.width)

/-- The destination sees the request rise at this edge, where it has not before. -/
def State.tokSees (s : State) (t : Nat) (b : TokBuild) : State :=
  let k := s.tok t
  s.setTok t { k with seenAt := some (k.seenAt.getD (s.rgn b.dst).edges) }

/-- The transfer is delivered and the acknowledge rises. -/
def State.tokAck (s : State) (t : Nat) (b : TokBuild) (v : Nat) : State :=
  s.setTok t { s.tok t with arr := none, ack := true, ackAt := (s.rgn b.src).edges, last := v, tdValid := false }

/-- TOKEN_DELIVER (R215, R218). -/
def execTokenDeliver (t : Nat) (s : State) : Host.Outcome State Fault Refusal :=
  s.act fun s => s.onTok t (fun b => !b.word && s.tokComes t b) fun b =>
    let n := ((s.tok t).arr).getD 0
    let s := (s.tokSees t b).tokAck t b n
    if n = 65535 then (s.faddSat F.JCT_TOK_CNT_SAT 0 1).post b.dst 4 6 [.num 32 t] else s

/-- TOKEN_WORD_DELIVER (R216): the word is presented, and acknowledged at the edge at which it is taken. -/
def execTokenWordDeliver (t : Nat) (taken : Bool) (s : State) : Host.Outcome State Fault Refusal :=
  s.act fun s => s.onTok t (fun b => b.word && s.tokComes t b) fun b =>
    let w := ((s.tok t).arr).getD 0
    let s := s.tokSees t b
    if taken then s.tokAck t b w else s.setTok t { s.tok t with tdValid := true, last := w }

/-- ACKNOWLEDGE_RISE_SEEN (R214): the source lowers its request. -/
def execAcknowledgeRiseSeen (t : Nat) (s : State) : Host.Outcome State Fault Refusal :=
  s.act fun s => s.onTok t (fun b => s.tokSrc t b && (s.tok t).req && (s.tok t).ack && s.ackSeen t b)
    fun b => s.setTok t { s.tok t with req := false, reqAt := (s.rgn b.dst).edges }

/-- REQUEST_FALL_SEEN (R214): the destination lowers its acknowledge. -/
def execRequestFallSeen (t : Nat) (s : State) : Host.Outcome State Fault Refusal :=
  s.act fun s => s.onTok t (fun b => s.tokDst t b && !(s.tok t).req && (s.tok t).ack && s.reqSeen t b)
    fun b => s.setTok t { s.tok t with ack := false, ackAt := (s.rgn b.src).edges }

/-- TOKEN_ACKNOWLEDGE (R214, R217): the source sees the acknowledge fall and may launch at that edge. -/
def execTokenAcknowledge (t : Nat) (pulse : Bool) (s : State) : Host.Outcome State Fault Refusal :=
  s.act fun s => s.onTok t
    (fun b => s.tokSrc t b && (s.tok t).out.isSome && !(s.tok t).req && !(s.tok t).ack && s.ackSeen t b) fun b =>
      let s := s.setTok t { s.tok t with out := none }
      if b.word then s else s.tokSource t b pulse

/-! ### Resets of a Token crossing (R220–R225, R603) -/

/-- What a flush discards of the transfer not delivered: its count, or one word. -/
def Tok.undelivered (k : Tok) (b : TokBuild) : Nat :=
  match k.arr with
  | some v => if b.word then 1 else v
  | none => 0

/-- The half of a side is empty, its outputs low (R220). -/
def Tok.clearHalf (k : Tok) : Side → Tok
  | .writer => { k with sRun := false, p := 0, out := none, req := false }
  | .reader => { k with dRun := false, tdValid := false, ack := false }

/-- The record of a flush (R603). -/
def State.tokRecord (s : State) (t : Nat) (b : TokBuild) : State :=
  let k := s.tok t
  match k.chan.flush with
  | none => s
  | some f =>
    if f.recorded || !f.passed then s
    else
      let s := s.setTok t { k with chan := { k.chan with flush := some { f with recorded := true } } }
      (s.faddSat F.JCT_TOK_CNT_FLUSHES 0 1).post b.dst 4 5 [pOther t, pOther f.n, pEnum f.cause]

/-- The reset input of a side is asserted: its half is cleared. What the source cleared counts at once; the transfer that
the destination may still see counts once neither side can deliver it (R220, R223–R225). -/
def State.tokReset (s : State) (t : Nat) (b : TokBuild) (side : Side) : State :=
  let k := s.tok t
  let both := k.chan.rst (otherSide side)
  let n := (if both then k.undelivered b else 0) + (if side = .writer then k.p else 0)
  s.setTok t { k.clearHalf side with chan := k.chan.assert side (s.tokEdges b) n, arr := if both then none else k.arr }

/-- The flush edge of a side of a Token crossing: not one at which the destination has first seen a request (R221,
R225). -/
def State.tokFlush (s : State) (t : Nat) (b : TokBuild) (side : Side) : State :=
  let k := s.tok t
  let sawNow := side == .reader && k.seenAt == some (s.rgn b.dst).edges
  if !(k.chan.flushes side (s.tokEdges b) && s.atEdge (b.side side)) || sawNow then s
  else
    let n := k.undelivered b + (if side = .writer then k.p else 0)
    (s.setTok t { k.clearHalf side with chan := k.chan.flushEdge side (s.tokEdges b) n, arr := none }).tokRecord t b

/-- The step of the handshake with which a side's half runs (R222). -/
def State.tokHandshake (s : State) (t : Nat) (b : TokBuild) (side : Side) : State :=
  let k := s.tok t
  match k.chan.ends side (s.tokEdges b) with
  | none => s
  | some chan =>
    if !s.atEdge (b.side side) then s
    else s.setTok t (match side with
      | .writer => { k with chan, sRun := true, p := 0 }
      | .reader => { k with chan, dRun := true })

/-- An edge of a region, in the control channels of its Token crossings; `late`: those whose synchronisers take their third
edge at this one. -/
def State.toksEdge (s : State) (r : Nat) (late : List XId) : State :=
  s.each (List.range s.build.tokens.length) fun s t =>
    match s.build.token t with
    | none => s
    | some b =>
      let step (side : Side) (s : State) : State :=
        s.setTok t { s.tok t with chan := (s.tok t).chan.edge side (s.tokEdges b) (late.contains (.tok t)) }
      let s := if b.src = r then step .writer s else s
      if b.dst = r then step .reader s else s

/-! ### The commands of any crossing's side -/

/-- CROSSING_RESET_ASSERT (R220). -/
def execCrossingResetAssert (x : XId) (side : Side) (s : State) : Host.Outcome State Fault Refusal :=
  s.act fun s =>
    match x with
    | .tok t => s.onTok t (fun _ => !(s.tok t).chan.rst side) fun b => s.tokReset t b side
    | x => match s.build.cell x with
      | none => s
      | some c => s.xResetAssert c side

/-- CROSSING_FLUSH (R221). -/
def execCrossingFlush (x : XId) (side : Side) (s : State) : Host.Outcome State Fault Refusal :=
  s.act fun s =>
    match x with
    | .tok t => s.onTok t (fun _ => true) fun b => s.tokFlush t b side
    | x => match s.build.cell x with
      | none => s
      | some c => s.xFlush c side

/-- CROSSING_RESET_DEASSERT (R220, R222). -/
def execCrossingResetDeassert (x : XId) (side : Side) (s : State) : Host.Outcome State Fault Refusal :=
  s.act fun s =>
    match x with
    | .tok t => s.onTok t (fun b => s.atEdge (b.side side)) fun b =>
        s.setTok t { s.tok t with chan := (s.tok t).chan.deassert side (s.tokEdges b) }
    | x => match s.build.cell x with
      | none => s
      | some c => s.iff (s.atEdge (c.side side)) fun s => s.xResetDeassert c side

end Sys2Proof.Machine
end

