-- ==== Sys2Proof/Machine/Stretch.lean ====
section
/-!
DEFINITION. The region edge: the ledger, the stretch placed on it, the Track Circuits' vote, the playback, the stretch bus,
the activity inputs; Track Circuit tests, Whistles and the refit (Track Circuits, Whistles and Stretching; Sections and
the Slip Ledger; R494–R496).
-/

namespace Sys2Proof.Machine

/-! ### Settings as they act -/

/-- SB_TC_THR.ALARM. -/
def State.tcAlarm (s : State) (r : Nat) : Nat := s.fget F.SB_TC_THR_ALARM r
/-- RESTORE as it acts (R143). -/
def State.tcRestore (s : State) (r : Nat) : Nat := max (s.fget F.SB_TC_THR_RESTORE r) (s.tcAlarm r + 1)
/-- RESTORE_RC as it acts (R143). -/
def State.tcRestoreRc (s : State) (r : Nat) : Nat := max 1 (s.fget F.SB_TC_THR_RESTORE_RC r)
/-- MAX as it acts (R139). -/
def State.stretchMax (s : State) (r : Nat) : Nat := min 16 (s.fget F.SB_STRETCH_MAX r)
/-- TRIG as it acts (R183). -/
def State.symTrig (s : State) (k : Nat) : Nat := max 16 (min 95 (s.fget F.SEC_SYM_CFG_TRIG k))
/-- RELEASE as it acts (R183). -/
def State.symRelease (s : State) (k : Nat) : Nat := min (s.fget F.SEC_SYM_CFG_RELEASE k) (s.symTrig k - 1)
/-- A Track Circuit in service. -/
def State.tcIn (s : State) (r i : Nat) : Bool := !(s.fget F.SB_TC_STATUS_EXCL r).testBit i
/-- Some Track Circuit of the region is in service (R152). -/
def State.tcAny (s : State) (r : Nat) : Bool := s.fget F.SB_TC_STATUS_EXCL r != 255

/-! ### The ledger's copies (R176) -/

/-- Each copy takes the majority; a copy that differed is counted. -/
def State.ledgerVote (s : State) (r : Nat) (inp : EdgeIn) : State :=
  let g := s.rgn r
  let a := g.ledA ^^^ inp.upA
  let b := g.ledB ^^^ inp.upB
  let c := g.ledC ^^^ inp.upC
  let m := maj3 a b c
  let n := ([a, b, c].filter (· != m)).length
  let s := (s.setRgn r (g.setLedger m)).iff (n != 0) fun s => s.faddSat F.SB_SLIP_CORR r n
  if a ≠ b ∧ b ≠ c ∧ a ≠ c then s.post r 0 0x18 [pOther m, pOther a, pOther b, pOther c] else s

def execWriteOff (region : Nat) (s : State) : Host.Outcome State Fault Refusal :=
  s.act fun s => s.iff (s.edgeComes region) fun s => s.takeWriteOff region

/-- The tick edge whose count `sb_time` shows in the cycle after an edge at `t` (R68): the latest at or before `t`, or the
one before it where that lies less than 1.05 tk before `t`. -/
def TickTime.shown (t : TickTime) (free : Bool) : Nat :=
  let whole := t.num / (t.den : Int)
  let frac := (t.num % (t.den : Int)).toNat
  (if frac * 20 < t.den && free then whole - 1 else whole).toNat

/-- `sb_time` at the coming edge, from the edge before it (R68–R70): invalid for eight edges after a start, and never
lowered (DESIGN CHOICE, log entry 67). -/
def State.sbTimeNext (s : State) (r : Nat) : Rgn :=
  let g := s.rgn r
  if g.sinceStart < 8 then { g with sinceStart := g.sinceStart + 1 }
  else
    let t := (BitVec.ofNat 64 (g.tLast.shown (Config.sbTimeEarlier r g.edges)) + g.localOff r).toNat
    { g with sbTime := max g.sbTime t, sbTimeVld := true, sinceStart := g.sinceStart + 1 }

/-- The edge is delivered: the ledger, the position and the counters of R175, R179, R131 follow. -/
def State.deliver (s : State) (r : Nat) (p : Placed) (act : Nat) : State :=
  let k := s.build.sectionOf r
  let g := s.sbTimeNext r
  let l := g.ledger + p.s - p.c
  let pos := match g.first with
    | some q => q
    | none => g.pos + 16 + p.s - p.c
  let cuSince := if p.c = 1 then some 0 else g.cuSince.map (· + 1)
  let m := g.mile
  let g := g.setLedger l
  let s := s.setRgn r { g with
    pos, first := none, duePrev := p.due, tLast := s.timeOf k pos, cuSince
    str := g.str + p.s, sym := g.sym + (p.s - p.own), cu := g.cu + p.c, denied := g.denied + p.denied
    edges := (g.edges + 1) % 2 ^ 48, act := (g.act + act) % 2 ^ 48, lastAct := act
    moved := p.s != 0 || p.c != 0 || p.sym != 0
    grant := if g.grant = 0 then 0 else g.grant + 1
    ackLeft := g.ackLeft - 1
    ackOut := g.ackOut && g.ackLeft > 1
    grantOut := g.grantOut && g.ackLeft > 1
    mile := { m with maxLedger := max m.maxLedger l, edges := m.edges + 1, act := m.act + act, str := m.str + p.s,
                     sym := m.sym + (p.s - p.own), cu := m.cu + p.c, denied := m.denied + p.denied } }
  s.fset F.SB_SLIP_MAX_MAX r (max l (s.fget F.SB_SLIP_MAX_MAX r))

/-! ### The vote (R135–R137, R599) -/

/-- A reading from its raw reading and trim, clamped (R135). -/
def trimmed (raw trim : Nat) : Nat := (max 0 (min 31 ((raw : Int) + signed 4 trim))).toNat

/-- The Track Circuit under test. -/
def Rgn.testing (g : Rgn) : Option Nat := g.tcTest.map (·.tc)

/-- The readings of an edge: a Track Circuit under test keeps its last (R147). -/
def State.readTcs (s : State) (r : Nat) (inp : EdgeIn) : List Nat :=
  let trim := s.reg .SB_TC_TRIM r
  (List.range 8).map fun i =>
    if (s.rgn r).testing = some i then ((s.rgn r).readings[i]?).getD 0
    else trimmed ((inp.raw[i]?).getD 0) (getF trim (4 * i) 4)

/-- The lowest reading among Track Circuits in service, with its number; none where none is in service. -/
def lowestOf (ok : Nat → Bool) : Nat → List Nat → Option (Nat × Nat)
  | _, [] => none
  | i, x :: t =>
    match lowestOf ok (i + 1) t with
    | none => if ok i then some (x, i) else none
    | some (y, j) => if ok i && x ≤ y then some (x, i) else some (y, j)

/-- The vote reading and its Track Circuit (R137). -/
def State.vote (s : State) (r : Nat) (rd : List Nat) : Option (Nat × Nat) := lowestOf (s.tcIn r) 0 rd

/-- The vote alarms (R137, R599). -/
def State.voteAlarms (s : State) (r : Nat) (v : Option (Nat × Nat)) : Bool := v.any fun x => x.1 ≤ s.tcAlarm r

/-- The run of a lone alarm: after 256 edges its Track Circuit waits for an out-of-turn test, and the count starts again
(R148; DESIGN CHOICE, log entry 72). -/
def State.loneAlarm (s : State) (r : Nat) (rd : List Nat) : State :=
  let g := s.rgn r
  let low := (List.range 8).filter fun i => s.tcIn r i && (rd[i]?).getD 0 ≤ s.tcAlarm r
  match low with
  | [i] =>
    let run := if g.loneTc = i then g.loneRun + 1 else 1
    if run ≥ 256 ∧ s.on F.SB_TC_CTRL_SELFTEST_EN r then s.setRgn r { g with loneTc := i, loneRun := 0, tcTurn := some i }
    else s.setRgn r { g with loneTc := i, loneRun := run }
  | _ => s.setRgn r { g with loneRun := 0 }

/-- Readings and vote of the edge enter the registers (R137, R168, R173). -/
def State.sense (s : State) (r : Nat) (rd : List Nat) (v : Option (Nat × Nat)) : State :=
  let k := s.build.sectionOf r
  let alarm := s.voteAlarms r v
  let g := s.rgn r
  let lowVote := match v with
    | some x => some (min x.1 (g.mile.lowVote.getD x.1))
    | none => g.mile.lowVote
  let quiet := g.hwQuiet
  let hw := s.headway k
  let s := s.setRgn r { g with
    readings := rd
    hwQuiet := if quiet ≥ 64 then (if hw && alarm then 0 else 64) else if alarm then 0 else quiet + 1
    mile := { g.mile with lowVote, alarms := g.mile.alarms + alarm.toNat } }
  let s := s.loneAlarm r rd
  let s := match v with
    | some (x, i) =>
      if x < s.fget F.SB_TC_MIN_LOW r then (s.fset F.SB_TC_MIN_LOW r x).fset F.SB_TC_MIN_LOW_TC r i else s
    | none => s
  let s := if alarm then s.faddWrap F.SB_TC_ALARMS_COUNT r 1 else s
  if hw && alarm then
    let s := s.setFlagEdge r F.SB_TC_STATUS_HW_ALARM r
    if quiet ≥ 64 then s.post r 0 0x16 [pOther ((v.map (·.1)).getD 0), .fw (s.fwCur k)] else s
  else s

/-- A denied stretch (R179). -/
def State.boundHit (s : State) (r denied : Nat) (v : Option (Nat × Nat)) : State :=
  let k := s.build.sectionOf r
  let g := s.rgn r
  if denied > 0 ∧ g.boundArmed then
    let s := s.setRgn r { g with boundArmed := false }
    let s := s.setSec k { s.sec k with win17 := true }
    (s.setFlagEdge r F.SB_SLIP_BOUND_HIT r).post r 0 0x17 [pOther denied, pOther ((v.map (·.1)).getD 0)]
  else if g.ledger < s.symRelease k then s.setRgn r { g with boundArmed := true }
  else s

/-! ### The playback (R154–R162) -/

/-- The whole ph of each window, the remainder carried (R154). -/
def playWindows (intensity : Nat) : Nat → List Nat → List Nat
  | _, [] => []
  | acc, w :: t =>
    let a := acc + w * intensity
    a / 60 :: playWindows intensity (a % 60) t

/-- The stretch of the `i`th edge after the strobe, from 1 (R154). -/
def Play.stretchAt (p : Play) (i : Nat) : Nat :=
  if i = 0 ∨ i > 64 then 0
  else
    let win := ((playWindows p.intensity 0 p.entries)[(i - 1) / 4]?).getD 0
    win / 4 + (if (i - 1) % 4 < win % 4 then 1 else 0)

/-- A window's alarm and lowest vote reading take in this edge. -/
def Play.note (p : Play) (alarm : Bool) (v : Option (Nat × Nat)) : Play :=
  let k := (p.j - 1) / 4
  { p with
    alarmed := if alarm then p.alarmed ||| 2 ^ k else p.alarmed
    lows := match v with
      | some x => p.lows.set k (min x.1 ((p.lows[k]?).getD 32))
      | none => p.lows }

/-- The playback at this edge: its window takes in the vote, and at edge e + 64 it ends (R160, R162, R599). -/
def State.playEdge (s : State) (r : Nat) (alarm : Bool) (v : Option (Nat × Nat)) : State :=
  let g := s.rgn r
  match g.play with
  | none => s
  | some p =>
    let q := if p.j = 0 then p else p.note alarm v
    if p.j < 64 then s.setRgn r { g with play := some { q with j := p.j + 1 } }
    else if p.intensity ≥ s.fget F.SB_PROFILE_CFG_MIN_I r ∧ s.on F.SB_STRETCH_REFIT_EN r ∧ s.tcAny r then
      s.setRgn r { g with play := none, refit := some q }
    else (s.setRgn r { g with play := none }).faddWrap F.SB_PROFILE_SEQ_SKIPPED r 1

/-! ### What the edge decides for the next (R138–R143, R183–R185) -/

/-- The reactive stretch (R138). -/
def State.reactive (s : State) (r : Nat) (v : Option (Nat × Nat)) : Nat :=
  if s.voteAlarms r v && s.on F.SB_STRETCH_TC_EN r then
    min 16 ((s.tcAlarm r - (v.map (·.1)).getD 0 + 1) * max 1 (s.fget F.SB_STRETCH_GAIN r))
  else 0

/-- The own stretch of the next edge (R139); none in fixed-headway mode (R167). -/
def State.ownNext (s : State) (r : Nat) (v : Option (Nat × Nat)) : Nat :=
  let p := match (s.rgn r).play with
    | some p => p.stretchAt p.j
    | none => 0
  if s.headway (s.build.sectionOf r) then 0 else min (s.stretchMax r) (p + s.reactive r v)

/-- Restored margin (R141, R142). -/
def State.restore (s : State) (r : Nat) (v : Option (Nat × Nat)) : State :=
  let g := s.rgn r
  let run := if v.any (fun x => x.1 ≥ s.tcRestore r) then g.restRun + 1 else 0
  let s := s.setRgn r { g with restRun := run, cuSince := if s.voteAlarms r v then none else g.cuSince }
  s.fsetB F.SB_SLIP_RESTORED r (run ≥ s.tcRestoreRc r && g.play.isNone && g.ledger > 0)

/-- The region's request follows its ledger (R183, R167, R496). -/
def State.requestEdge (s : State) (r : Nat) : State :=
  let k := s.build.sectionOf r
  let l := (s.rgn r).ledger
  let may := s.on F.SEC_SYM_CFG_EN k && !s.headway k && !(s.rgn r).offBus
  if s.on F.SB_SLIP_REQ r then s.setRequest r (may && !(s.rgn r).symEnd && l ≥ s.symRelease k)
  else s.setRequest r (may && l ≥ s.symTrig k)

/-- A requesting region publishes its next own stretch (R185). -/
def State.publish (s : State) (r own : Nat) : State :=
  let k := s.build.sectionOf r
  if s.on F.SB_SLIP_REQ r then
    let c := s.sec k
    let m := (s.rgn r).pos / 16 + 1
    let bus := c.bus.filter (fun e => m ≤ e.1 + 64)
    s.setSec k { c with bus := Store.setD 0 bus m (max own (Store.getD 0 bus m)) }
  else s

/-- The edge decides restored margin, the request and the next own stretch. -/
def State.decideNext (s : State) (r : Nat) (v : Option (Nat × Nat)) : State :=
  let own := s.ownNext r v
  let s := (s.restore r v).requestEdge r
  let s := s.setRgn r { s.rgn r with own }
  s.publish r own

/-- Bad parity on the stretch bus (R496). -/
def State.busParity (s : State) (r : Nat) (bad : Bool) (edges : Nat) : State :=
  let g := s.rgn r
  if !bad then s.setRgn r { g with busRun := 0 }
  else if g.busRun + edges ≥ 64 ∧ !g.offBus then
    let s := s.setRgn r { g with busRun := 64, offBus := true }
    ((s.setRequest r false).setFlagEdge r F.STN_DEP_STATUS_BUS_PARITY 0).post r 0 0x1B [pSection (s.build.sectionOf r)]
  else s.setRgn r { g with busRun := min 64 (g.busRun + edges) }

/-! ### Activity inputs, spindles, walks -/

/-- One idle violation (R159). -/
def State.idleViolation (s : State) (r : Nat) : State :=
  let g := s.rgn r
  let s := s.setRgn r { g with mile := { g.mile with viols := g.mile.viols + 1 } }
  ((s.setFlagEdge r F.SB_WHISTLE_IDLE_VIOL r).faddSat F.SB_WHISTLE_VIOLS r 1).calDisturb r

/-- `sb_act` and `sb_idle` at the edge (R159, R247, R249). -/
def State.activity (s : State) (r act : Nat) (idle : Bool) : State :=
  let g := s.rgn r
  let fell := if idle then 0 else min 24 (g.idleFell + 1)
  let strobed := g.strobed
  let s := s.setRgn r { g with idleFell := fell, idleRun := if idle then g.idleRun + 1 else 0, strobed := false }
  let s := s.fsetB F.SB_WHISTLE_IDLE r idle
  let s := if act > 1 ∧ (idle ∨ fell < 24) then s.idleViolation r else s
  let s := if strobed && idle then s.idleViolation r else s
  if act > 1 then (s.calDisturb r).calDisturbReaders r else s

/-- A leaf spindle that misses or adds an edge twice running (R495). -/
def State.spindleEdge (s : State) (r : Nat) (bad : Option Nat) : State :=
  let was := (s.rgn r).spindleBad
  let s := s.setRgn r { s.rgn r with spindleBad := bad }
  match bad with
  | some n =>
    if was = some n then (s.setFlagEdge r F.STN_DEP_STATUS_SPINDLE 0).regionFault r (s.edgeOnTick r) 1 0x1A [.num 32 n] else s
  | none => s

/-- One tap's walk of at most 4 steps (R128). -/
def walkTap (t tgt : Nat) : Nat := if t ≤ tgt then min (t + 4) tgt else max (t - 4) tgt

/-- The taps walk (R128). -/
def State.walkTaps (s : State) (r : Nat) : State :=
  let g := s.rgn r
  let taps := List.zipWith walkTap g.taps g.tapTgt
  if g.taps = g.tapTgt then s else (s.setRgn r { g with taps }).fsetB F.SB_TAP_CTRL_WALKING r (taps != g.tapTgt)

/-! ### Track Circuit tests (R145–R152, R600) -/

/-- A Track Circuit leaves service: `byp` where the bypass reading failed (R149, R152). -/
def State.tcExclude (s : State) (r tc : Nat) (byp : Bool) : State :=
  if !s.tcIn r tc then s
  else
    let g := s.rgn r
    let turn := if g.tcTurn = some tc then none else g.tcTurn
    let s := s.setRgn r { g with mile := { g.mile with excl := g.mile.excl + 1 }, tcTurn := turn }
    let s := s.fset F.SB_TC_STATUS_EXCL r (s.fget F.SB_TC_STATUS_EXCL r ||| 2 ^ tc)
    let s := s.setBitsEdge r (if byp then F.SB_TC_STATUS_ALARM_FAIL else F.SB_TC_STATUS_QUIET_FAIL) r (2 ^ tc)
    let s := s.post r 0 0x14 [.num 3 tc, pOther (if byp then 1 else 2)]
    if s.tcAny r then s
    else
      let s := (s.fset F.SB_TC_STATUS_NONE r 1).fset F.SB_TC_MIN_VOTE r 0
      (s.fset F.SB_SLIP_RESTORED r 0).post r 0 0x15 [.num 32 0]

/-- A Track Circuit returns to service (R150). -/
def State.tcReturn (s : State) (r tc : Nat) : State :=
  if s.tcIn r tc then s
  else (s.fset F.SB_TC_STATUS_EXCL r (s.fget F.SB_TC_STATUS_EXCL r ^^^ 2 ^ tc)).fset F.SB_TC_STATUS_NONE r 0

/-- A test ends: READMIT's bit clears; a failed one excludes, a passed READMIT returns to service (R149, R150). -/
def State.tcEnds (s : State) (r : Nat) (t : TcRun) (pass byp : Bool) : State :=
  let s := s.setRgn r { s.rgn r with tcTest := none }
  match t.ask with
  | .readmit =>
    let s := s.fset F.SB_TC_CTRL_READMIT r (s.fget F.SB_TC_CTRL_READMIT r &&& (255 - 2 ^ t.tc))
    if pass then s.tcReturn r t.tc else s.tcExclude r t.tc byp
  | _ => if pass then s else s.tcExclude r t.tc byp

/-- The test under way takes an edge: bypass at the first and block at the second of an attempt, one repeat (R146). -/
def State.tcTestEdge (s : State) (r : Nat) (raw : List Nat) : State :=
  match (s.rgn r).tcTest with
  | none => s
  | some t =>
    let x := (raw[t.tc]?).getD 0
    if t.edges % 2 = 0 then s.setRgn r { s.rgn r with tcTest := some { t with edges := t.edges + 1, bypass := x } }
    else
      let byp := t.bypass < 30
      let pass := !byp && x ≤ 1
      if pass || t.edges ≥ 3 then s.tcEnds r t pass byp
      else s.setRgn r { s.rgn r with tcTest := some { t with edges := t.edges + 1 } }

/-- The due tick of the last scheduled test of a Track Circuit (R145). -/
def tcDue (count tc : Nat) : Nat :=
  if count < 200000 * tc then 0 else (count - 200000 * tc) / 1600000 * 1600000 + 200000 * tc

/-- A TRIM step under way measures every Track Circuit of the region and holds them (R151, R259). -/
def State.tcHeld (s : State) (r : Nat) : Bool := (s.calRgn r).step.any (fun st => st.stage == 1 && st.started)

/-- A scheduled test of a Track Circuit falls due at the coming edge (R145). -/
def State.tcFalls (s : State) (r i : Nat) : Bool := ((s.rgn r).tcServed[i]?).getD 0 < tcDue s.count i

/-- The edge sees what has fallen due: with SELFTEST_EN at 1 a test that was not started at this edge waits, unless a
calibration step holds the Track Circuit (R145, R151, R600). -/
def State.tcSchedule (s : State) (r : Nat) : State :=
  let g := s.rgn r
  let now := (List.range 8).filter (s.tcFalls r)
  let wait := if s.on F.SB_TC_CTRL_SELFTEST_EN r && !s.tcHeld r then now.foldl (fun w i => w ||| 2 ^ i) g.tcWait else g.tcWait
  if now = [] then s
  else s.setRgn r { g with tcWait := wait, tcServed := (List.range 8).map (tcDue s.count) }

/-- A Track Circuit's scheduled test is to be made: it waits, or falls due at the coming edge while SELFTEST_EN is 1. -/
def State.tcReady (s : State) (r i : Nat) : Bool :=
  (s.rgn r).tcWait.testBit i || (s.on F.SB_TC_CTRL_SELFTEST_EN r && s.tcFalls r i)

/-- A test starts at the coming edge. -/
def State.tcStart (s : State) (r tc : Nat) (ask : TcAsk) : State :=
  s.setRgn r { s.rgn r with tcTest := some { ask, tc } }

/-- A test may start: the coming edge is delivered and no other test of the region runs (R600). -/
def State.tcFree (s : State) (r : Nat) : Bool := s.edgeComes r && (s.rgn r).tcTest.isNone

/-- TC_OUT_OF_TURN_TEST (R148, R600): before every other waiting test. -/
def execTcOutOfTurnTest (region : Nat) (s : State) : Host.Outcome State Fault Refusal :=
  s.act fun s =>
    match (s.rgn region).tcTurn with
    | none => s
    | some tc => s.iff (s.tcFree region) fun s =>
      (s.setRgn region { s.rgn region with tcTurn := none }).tcStart region tc .outOfTurn

/-- TC_READMIT (R150, R600): after an out-of-turn test and before the scheduled ones. -/
def execTcReadmit (region tc : Nat) (s : State) : Host.Outcome State Fault Refusal :=
  s.act fun s => s.iff (tc < 8 && (s.fget F.SB_TC_CTRL_READMIT region).testBit tc && s.tcFree region
      && (s.rgn region).tcTurn.isNone) fun s => s.tcStart region tc .readmit

/-- TC_SELFTEST (R145, R151, R600): a scheduled test, once no other test waits before it; skipped where a calibration step
holds its Track Circuit. -/
def execTcSelftest (region tc : Nat) (s : State) : Host.Outcome State Fault Refusal :=
  s.act fun s => s.iff (tc < 8 && s.tcReady region tc && s.tcFree region && (s.rgn region).tcTurn.isNone
      && s.fget F.SB_TC_CTRL_READMIT region == 0 && (List.range tc).all (fun i => !s.tcReady region i)) fun s =>
    let g := s.rgn region
    let s := s.setRgn region { g with tcWait := g.tcWait &&& (255 - 2 ^ tc), tcServed := g.tcServed.set tc (tcDue s.count tc) }
    if s.tcHeld region then s else s.tcStart region tc .scheduled

/-! ### REGION_EDGE -/

/-- One region edge. -/
def State.regionEdge (s : State) (r : Nat) (inp : EdgeIn) : State :=
  let masked := (s.rgn r).masked
  let act := if masked then 0 else inp.act
  let idle := !masked && inp.idle
  let s := ((s.takeWriteOff r).ledgerVote r inp).tcSchedule r
  let before := (s.rgn r).duePrev
  let p := s.placeEdge r inp.busBad
  let s := s.deliver r p act
  let s := s.setRgn r { s.rgn r with reqHigh := inp.gateReq }
  let rd := s.readTcs r inp
  let v := s.vote r rd
  let alarm := s.voteAlarms r v
  let s := (s.sense r rd v).boundHit r p.denied v
  let s := (s.playEdge r alarm v).busParity r inp.busBad (p.due - before)
  let s := (s.decideNext r v).activity r act idle
  let s := ((s.spindleEdge r inp.spindle).walkTaps r).alignWalk r
  (((s.tcTestEdge r inp.raw).cellsEdge r inp.late).toksEdge r inp.late).calEdge r

/-- REGION_EDGE (R22, R175): the next edge of a running region, in the tick in which it falls. -/
def execRegionEdge (region : Nat) (inp : EdgeIn) (s : State) : Host.Outcome State Fault Refusal :=
  s.act fun s => s.iff (s.edgeComes region inp.busBad) fun s => s.regionEdge region inp

/-- TC_READ_REFRESH (R173). -/
def execTcReadRefresh (region : Nat) (s : State) : Host.Outcome State Fault Refusal :=
  s.act fun s => s.iff (s.isRegion region && s.stn.locked && s.count % 64 == 0) fun s =>
    let rd := (s.rgn region).readings
    let four (i : Nat) : Word := BitVec.ofNat 32 (leNat ((rd.drop i).take 4))
    let s := (s.setReg .SB_TC_READ_A region (four 0)).setReg .SB_TC_READ_B region (four 4)
    s.fset F.SB_TC_MIN_VOTE region (((s.vote region rd).map (·.1)).getD 0)

/-! ### Whistles and the refit -/

/-- The 16 entries as a playback latches them: the upper 8 bits of the weights. -/
def Rgn.entries (g : Rgn) : List Nat := g.weights.map (fun w => w / 16 % 256)

/-- WHISTLE_STROBE (R154, R155): `sb_whistle_stb` high at the coming edge. -/
def execWhistleStrobe (region intensity : Nat) (s : State) : Host.Outcome State Fault Refusal :=
  s.act fun s => s.iff (s.edgeComes region && !(s.rgn region).masked && !s.headway (s.build.sectionOf region)) fun s =>
    let i := intensity % 16
    let own := (s.rgn region).own
    let s := s.endPlay region
    let g := s.rgn region
    let s := s.setRgn region { g with own, strobed := true, mile := { g.mile with strobes := g.mile.strobes + 1 } }
    let s := (s.faddWrap F.SB_WHISTLE_STROBES region 1).fset F.SB_WHISTLE_LAST_I region i
    if i > 0 && s.on F.SB_STRETCH_PROFILE_EN region then
      let g := s.rgn region
      s.setRgn region { g with play := some { entries := g.entries, intensity := i } }
    else s

/-- One weight's update (R161). -/
def State.refitWeight (s : State) (r mu : Nat) (p : Play) (k w : Nat) : Nat :=
  if p.written.contains k then w
  else if p.alarmed.testBit k then min 4095 (w + mu)
  else if (p.lows[k]?).getD 32 ≥ s.tcAlarm r + s.fget F.SB_PROFILE_CFG_HI_BAND r then w - mu
  else w

/-- The refit step in use (R257). -/
def State.refitMu (s : State) (r : Nat) : Nat :=
  if s.fget F.SB_CAL_STAT_PROFILE r = 1 then s.fget F.CAL_LEARN_MU 0 else s.fget F.SB_PROFILE_CFG_MU r

/-- A learning update is made (R257). -/
def State.learned (s : State) (r : Nat) : State :=
  let c := s.calRgn r
  if s.fget F.SB_CAL_STAT_PROFILE r = 1 then
    let s := s.setCalRgn r { c with learn := c.learn - 1 }
    if c.learn ≤ 1 then s.fset F.SB_CAL_STAT_PROFILE r 2 else s
  else s

/-- PROFILE_REFIT (R161): at edge e + 65 of a qualifying playback. -/
def execProfileRefit (region : Nat) (s : State) : Host.Outcome State Fault Refusal :=
  s.act fun s =>
    let g := s.rgn region
    match g.refit with
    | none => s
    | some p => s.iff (s.edgeComes region) fun s =>
      let weights := List.zipWith (s.refitWeight region (s.refitMu region) p) (List.range 16) g.weights
      let s := s.setRgn region { g with refit := none, weights }
      (s.faddWrap F.SB_PROFILE_SEQ_SEQ region 1).learned region

/-- A write of SB_PROFILE register `n` has been stored: each byte written sets its weight (R163). -/
def State.profileWritten (s : State) (r n data strb : Nat) : State :=
  let ks := ((List.range 4).filter (fun b => strb.testBit b)).map fun b => (4 * n + b, data / 2 ^ (8 * b) % 256)
  let g := s.rgn r
  let mark (p : Play) : Play := { p with written := p.written ++ ks.map (·.1) }
  s.setRgn r { g with
    weights := ks.foldl (fun w e => w.set e.1 (16 * e.2)) g.weights
    play := g.play.map mark
    refit := g.refit.map mark }

end Sys2Proof.Machine
end

