-- ==== Sys2Proof/Machine/Operands.lean ====
section
/-!
DEFINITION. The operand of a register access: the address space (R543–R546), which unit is ready (R539), and what a
register reads, with the fields that show other state (R540, R548, R551).
-/

namespace Sys2Proof.Machine

/-! ### The address space (R543, R544) -/

/-- What an address names. -/
inductive Place where
  | unmapped
  /-- A reserved offset of a mapped range, a read-only window's word among them (R11, R544, R545). -/
  | hole
  | reg (r : Reg) (u : Nat)
  /-- A word of a resident tile. -/
  | tile (a : Nat)
  /-- A word of the Tap Table. -/
  | tap (a : Nat)
  /-- A word of a frame, of the Event Log window or of the Journal window. -/
  | frame (a : Nat)
  | slot (a : Nat)
  deriving DecidableEq, Repr

/-- Whether a register of a class lies at an offset, and which of its instances. -/
def RegInfo.at (i : RegInfo) (c : RegClass) (off : Nat) : Option Nat :=
  if i.cls ≠ c ∨ off < i.base then none
  else if i.count = 1 then (if off = i.base then some 0 else none)
  else if (off - i.base) % i.stride = 0 ∧ (off - i.base) / i.stride < i.count then some ((off - i.base) / i.stride)
  else none

/-- The first register of a list at an offset of a class. -/
def findReg (c : RegClass) (off : Nat) : List Reg → Option (Reg × Nat)
  | [] => none
  | r :: t =>
    match r.info.at c off with
    | some i => some (r, i)
    | none => findReg c off t

/-- The register at an offset of unit `unit`, or a reserved offset; `count` instances make up a unit's block. -/
def regPlace (c : RegClass) (unit off : Nat) : Place :=
  match findReg c off Reg.all with
  | some (r, i) => .reg r (unit * r.info.count + i)
  | none => .hole

/-- What a word address names in an instance. -/
def Build.place (b : Build) (a : Nat) : Place :=
  if a < 0x1100 then regPlace .abs 0 a
  else if a < 0x1500 then (if (a - 0x1100) / 0x40 < b.nRails then regPlace .rail ((a - 0x1100) / 0x40) (a % 0x40) else .hole)
  else if 0x1840 ≤ a ∧ a < 0x1880 then (if (a - 0x1840) / 4 < b.nRails then regPlace .abs 0 a else .hole)
  else if a < 0x2000 then regPlace .abs 0 a
  else if a < 0x4000 then (if (a - 0x2000) / 0x80 < b.nSections then regPlace .sec ((a - 0x2000) / 0x80) (a % 0x80) else .hole)
  else if a < 0x4100 then regPlace .abs 0 a
  else if a < 0x4200 then regPlace .desk ((a - 0x4100) / 0x40) (a % 0x40)
  else if a < 0x6000 then .hole
  else if a < 0x7000 then regPlace .win ((a - 0x6000) / 0x400) (a % 0x400)
  else if a < 0x8000 then .hole
  else if a < 0x10000 then .unmapped
  else if a < 0x18000 then .tile a
  else if a < 0x20000 then .frame a
  else if a < 0x40000 then (if (a - 0x20000) / 0x80 < b.nRegions then .tap a else .hole)
  else if a < 0x80000 then (if (a - 0x40000) / 0x100 < b.nRegions then regPlace .sb ((a - 0x40000) / 0x100) (a % 0x100) else .hole)
  else if a < 0x94000 then .slot a
  else if a < 0xA0000 then .unmapped
  else if a < 0xC0000 then (if b.optMileage then regPlace .abs 0 a else .hole)
  else if a < 0xC3000 then (if (a - 0xC0000) / 8 < b.junctions.length then regPlace .jct ((a - 0xC0000) / 8) (a % 8) else .hole)
  else if a < 0xC3F00 then (if (a - 0xC3000) / 16 < b.interchanges.length then regPlace .ich ((a - 0xC3000) / 16) (a % 16) else .hole)
  else if a < 0xC4000 then regPlace .abs 0 a
  else .unmapped

/-- The word address of a byte address: PADDR[19:2] (R512). -/
def wordAddr (a : Nat) : Nat := a % 2 ^ 20 / 4 * 4

/-- An address lies in no unmapped range (R543). -/
def mapped (a : Nat) : Bool :=
  let a := wordAddr a
  !((0x8000 ≤ a && a < 0x10000) || (0x94000 ≤ a && a < 0xA0000) || 0xC4000 ≤ a)

/-- A register that the Meter aggregator in the Station holds at a Signal Box offset (R520). -/
def meterWord (a : Nat) : Bool := 0x40000 ≤ a && a < 0x80000 && 0xC0 ≤ a % 0x100 && a % 0x100 < 0xD4

/-- The Station's ranges and registers (R513, R520). -/
def isStation (a : Nat) : Bool :=
  let a := wordAddr a
  a < 0x2000 || (0x4000 ≤ a && a < 0x40000) || (0x80000 ≤ a && a < 0xC0000) || meterWord a

/-! ### Readiness (R539) -/

/-- The unit that holds a register is ready. -/
def State.regReady (s : State) (r : Reg) (u : Nat) : Bool :=
  match r.info.cls with
  | .sec => (s.sec u).everReleased
  | .sb =>
    if 0xC0 ≤ r.info.base ∧ r.info.base < 0xD4 then s.stn.locked else (s.sec (s.build.sectionOf u)).everReleased
  | .jct => s.fget F.JCT_STAT_STATE u != 0
  | .ich => s.fget F.ICH_STAT_STATE u != 0
  | .abs =>
    if r.info.base = 0 ∨ (0x100 ≤ r.info.base ∧ r.info.base < 0x10C) ∨ (0xA00 ≤ r.info.base ∧ r.info.base < 0xB00) ∨
        0xC0000 ≤ r.info.base then true
    else if 0x800 ≤ r.info.base ∧ r.info.base < 0x900 then s.log.up
    else s.stn.locked
  | _ => s.stn.locked

/-- What an address names is ready. -/
def State.placeReady (s : State) : Place → Bool
  | .reg r u => s.regReady r u
  | .tile _ | .tap _ => s.stn.locked
  | _ => true

/-! ### What a register reads -/

/-- How many of a list of units meet a test. -/
def countOf (l : List Nat) (p : Nat → Bool) : Nat := (l.filter p).length

/-- The region with the largest residual, the lowest of equals, and that residual. -/
def State.worstLeaf (s : State) : Nat × Nat :=
  (List.range s.build.nRegions).foldl (fun (w : Nat × Nat) r => if (s.rgn r).residual > w.2 then (r, (s.rgn r).residual) else w)
    (0, 0)

/-- Four weights as an SB_PROFILE register shows them: their upper 8 bits (R163). -/
def profileWord (w : List Nat) (n : Nat) : Word :=
  BitVec.ofNat 32 (leNat ((List.range 4).map fun b => (w[4 * n + b]?).getD 0 / 16))

/-- What is left of a calibration slot, in units of 16 tk, rounded up (R372). -/
def State.slotLeft (s : State) (k : Nat) : Nat :=
  if s.on F.SEC_SLOT_ACTIVE k then ((s.sec k).slotEnd - s.count + 15) / 16 else 0

/-- The data-memory word that DSP_DMEM_ADDR names. -/
def State.dmemWord (s : State) : Word := s.rdWord (dmemBase + 4 * s.fget F.DSP_DMEM_ADDR_WORD 0)

/-- Bits 32n to 32n + 31 of a set of unit numbers. -/
def bitsOf (n : Nat) (p : Nat → Bool) : Nat :=
  (List.range 32).foldl (fun a i => if p (32 * n + i) then a + 2 ^ i else a) 0

/-- Whether any unit below `n` meets a test. -/
def anyOf (n : Nat) (p : Nat → Bool) : Bool := (List.range n).any p

/-- A region with a FLAGGED stage (CAL_STATUS.FLAGGED). -/
def State.regFlagged (s : State) (r : Nat) : Bool :=
  s.fget F.SB_CAL_STAT_DESKEW r == 3 || s.fget F.SB_CAL_STAT_TRIM r == 3 || s.fget F.SB_CAL_STAT_EYE r == 3

/-- STN_SUMMARY (R547, R548). -/
def State.summary (s : State) : Nat :=
  let b := s.build
  let bits : List Bool :=
    [anyOf 4 (fun d => s.on F.DSP_DESK_STATUS_LATE d), s.reg .STN_DEP_STATUS 0 != 0, s.on F.EVT_STATUS_GAP_SEEN 0,
     anyOf b.nRails (fun n => s.on F.GOV_RAIL_STAT_TELEM_FAIL n || s.on F.GOV_RAIL_STAT_MODE_ERR n || s.on F.GOV_RAIL_STAT_ALERT_STUCK n),
     s.on F.GOV_STATUS_AT_FLOOR 0, s.on F.GOV_STATUS_OVER 0,
     anyOf b.junctions.length (fun j => s.on F.JCT_STAT_PARITY j || s.on F.JCT_STAT_FLUSH j) ||
       anyOf b.interchanges.length (fun i => s.on F.ICH_STAT_PARITY i || s.on F.ICH_STAT_FLUSH i),
     anyOf b.nRegions s.regFlagged, anyOf b.nRegions (fun r => s.on F.SB_TC_STATUS_NONE r),
     anyOf b.nRegions (fun r => s.fget F.SB_TC_STATUS_EXCL r != 0), s.clkState ≥ 2,
     s.deskState 1 == 4 || s.deskState 2 == 4 || s.deskState 3 == 4, s.deskState 0 == 4,
     anyOf b.nRegions (fun r => s.on F.SB_GATE_FAULT r), anyOf b.nSections (fun k => s.on F.SEC_STATUS_SAFE_ACTIVE k),
     anyOf b.nSections (fun k => s.secState k == 4)]
  bits.foldr (fun x a => a * 2 + x.toNat) 0 * 2 ^ 16

/-- HIF_BOOT (R542). -/
def State.bootWord (s : State) : Nat :=
  s.allReady.toNat * 2 ^ 26 + s.pmb.started.toNat * 2 ^ 25 + s.logReady.toNat * 2 ^ 24 + (s.on F.DSP_STATUS_READY 0).toNat * 2 ^ 23
    + (s.on F.STN_SPINE_STATUS_CAL_DONE 0).toNat * 2 ^ 22 + s.stn.locked.toNat * 2 ^ 21
    + countOf (List.range s.build.nSections) (fun k => s.secState k == 3) * 2 ^ 14 + s.stn.relCount * 2 ^ 7

/-- The interrupt outputs (R522, R523). -/
def State.irq (s : State) : Nat :=
  let src := s.fget F.EVT_PEND_CLASS 0
  let hif := (s.reg .HIF_IRQ_SRC 0).toNat
  let level (n : Nat) : Bool :=
    (s.fget F.HIF_IRQ_EN_EN 0).testBit (n - 1) &&
      ((List.range 16).any (fun i => hif.testBit i && getF (s.reg .HIF_IRQ_ROUTE 0) (2 * i) 2 == n) ||
       (List.range 16).any (fun c => c != 0 && src.testBit c && getF (s.reg .HIF_IRQ_EVT_ROUTE 0) (2 * c) 2 == n))
  (src.testBit 0 || s.on F.STN_CLK_STATUS_LOCK_FAIL 0).toNat + 2 * (level 1).toNat + 4 * (level 2).toNat + 8 * (level 3).toNat

/-- Read bursts outstanding: page fills, the resident load and an image restore (R529). -/
def State.rdOut (s : State) : Nat :=
  if !s.dsp.fills.isEmpty || s.on F.DSP_STATUS_LOADING 0 || s.cal.restore.isSome then
    Config.burstsOut s.stn.elapsed false % (axLimit (s.fget F.HIF_AXI_CFG_MAX_RD 0) + 1)
  else 0

/-- Write bursts outstanding: the spill's, and an image save's. -/
def State.wrOut (s : State) : Nat :=
  let n := s.log.spill.bursts.length
  let cap := axLimit (s.fget F.HIF_AXI_CFG_MAX_WR 0)
  if s.cal.save.isSome then n + Config.burstsOut s.stn.elapsed true % (cap - n + 1) else n

/-- The bits of a register's word that the instance has: GOV_PRIO's fields of Sections that it lacks are reserved, and read
0 (R11, R544). -/
def Build.presentBits (b : Build) (r : Reg) (u : Nat) (w : Word) : Word :=
  match r with
  | .GOV_PRIO =>
    BitVec.ofNat 32 ((List.range 8).foldl (fun a i => if 8 * u + i < b.nSections then a + getF w (4 * i) 4 * 16 ^ i else a) 0)
  | _ => w

/-- The value of a register with the fields that show other state. Of the tick edges that R52 allows a read of the count to
show, it shows the present one (DESIGN CHOICE, log entry 62). -/
def State.readReg (s : State) (r : Reg) (u : Nat) : Word :=
  let w := s.reg r u
  let num (n : Nat) : Word := BitVec.ofNat 32 n
  let or (n : Nat) : Word := w ||| num n
  match r with
  | .STN_TICK_LO => num s.count
  | .STN_TICK_HI => num (s.count / 2 ^ 32)
  | .STN_SUMMARY => num s.summary
  | .STN_SEC_FAULT_LO => num (bitsOf 0 fun k => k < s.build.nSections && s.secState k == 4)
  | .STN_SEC_FAULT_HI => num (bitsOf 1 fun k => k < s.build.nSections && s.secState k == 4)
  | .STN_SEC_SAFE_LO => num (bitsOf 0 fun k => k < s.build.nSections && s.on F.SEC_STATUS_SAFE_ACTIVE k)
  | .STN_SEC_SAFE_HI => num (bitsOf 1 fun k => k < s.build.nSections && s.on F.SEC_STATUS_SAFE_ACTIVE k)
  | .STN_RFAULT => num (bitsOf u fun q => q < s.build.nRegions && s.on F.SB_GATE_FAULT q)
  | .STN_SPINE_STATUS => or (s.worstLeaf.2 % 256 * 2 ^ 16 + s.worstLeaf.1 % 1024)
  | .CAL_STATUS =>
    or (countOf (List.range s.build.nRegions) (fun q => s.fget F.SB_CAL_STAT_PENDING q != 0) * 2 ^ 11
      + countOf (List.range s.build.nRegions) s.regFlagged)
  | .EVT_STATUS => or (s.logReady.toNat * 2 ^ 31 + s.log.overflow.isSome.toNat * 2 ^ 30)
  | .HIF_BOOT => num s.bootWord
  | .HIF_IRQ_EN => or (s.irq * 2 ^ 16)
  | .HIF_AXI_STATUS =>
    or ((decide (s.rdOut + s.wrOut ≠ 0)).toNat * 2 ^ 29 + s.rdOut * 2 ^ 8 + s.wrOut)
  | .SEC_STATUS => or (countOf (s.build.regionsOf u) fun q => s.clk q == 2)
  | .SEC_SYM_STATUS => or (Store.getD 0 (s.sec u).bus ((s.sec u).acc / 65536) % 32 * 2 ^ 16)
  | .SEC_SLOT_LEFT => num (s.slotLeft u)
  | .GOV_SEC_STAT => putF (putF w 31 1 (s.govExcluded u).toNat) 10 18 (s.fwGov u)
  | .GOV_STATUS =>
    or ((anyOf s.build.nSections (fun k => s.on F.GOV_SEC_STAT_HELD_V k)).toNat * 2 ^ 28 + s.gov.whistles.length * 2 ^ 16)
  | .GOV_PRIO => s.build.presentBits .GOV_PRIO u w
  | .SB_CLK_STATUS => or ((s.fget F.SB_ROT_ALIGN_PH u + (s.rgn u).ledger) % 16 * 2 ^ 20)
  | .SB_SLIP => or (s.rgn u).ledger
  | .SB_TAP_CTRL => or ((decide ((s.rgn u).taps ≠ (s.rgn u).tapTgt)).toNat * 2 ^ 30)
  | .SB_WHISTLE => or ((s.rgn u).play.isSome.toNat * 2 ^ 29)
  | .SB_PROFILE0 => profileWord (s.rgn u).weights 0
  | .SB_PROFILE1 => profileWord (s.rgn u).weights 1
  | .SB_PROFILE2 => profileWord (s.rgn u).weights 2
  | .SB_PROFILE3 => profileWord (s.rgn u).weights 3
  | .SB_EVT_STAT =>
    let o := s.source u
    num (o.gap.isSome.toNat * 2 ^ 31 + o.c0.length % 4 * 2 ^ 24 + o.gen.length % 8 * 2 ^ 20 + o.lost)
  | .JCT_SUMMARY =>
    let nj := s.build.junctions.length
    let ni := s.build.interchanges.length
    num ((anyOf nj (fun j => s.on F.JCT_STAT_PARITY j) || anyOf ni (fun i => s.on F.ICH_STAT_PARITY i)).toNat * 2 ^ 31
      + (anyOf nj (fun j => s.on F.JCT_STAT_FLUSH j) || anyOf ni (fun i => s.on F.ICH_STAT_FLUSH i)).toNat * 2 ^ 30
      + (anyOf nj (fun j => s.on F.JCT_STAT_HELD j) || anyOf ni (fun i => s.on F.ICH_STAT_HELD i)).toNat * 2 ^ 29)
  | .DSP_DMEM_DATA => s.dmemWord
  | .DSP_DESK_STATUS => putF (putF w 29 3 (s.deskShows u)) 0 7 (s.pendingOf u)
  | _ => w

/-- A register of a unit that is not ready: the shadow value of each RW field written, and the reset value of every
other field (R540). -/
def State.shadowWord (s : State) (reset rw : Word) (a : Nat) : Word :=
  (s.shadow.filter (fun x => x.key == a)).foldl
    (fun w x => (w &&& ~~~ (rw &&& BitVec.ofNat 32 x.strb)) ||| (BitVec.ofNat 32 x.val &&& rw &&& BitVec.ofNat 32 x.strb)) reset

/-- What a word address reads (R10, R11, R540, R546); a log or Journal slot as it is stored. -/
def State.readWord (s : State) (a : Nat) : Word :=
  let a := wordAddr a
  let p := s.build.place a
  match p with
  | .unmapped | .hole => 0
  | .reg r u => if s.regReady r u then s.readReg r u else s.build.presentBits r u (s.shadowWord (s.build.resetWord r u) r.info.rw a)
  | .tile a => if s.stn.locked then s.rdWord a else s.shadowWord (s.rdWord a) (BitVec.allOnes 32) a
  | .tap a => if s.stn.locked then s.rdWord a else s.shadowWord 0 (BitVec.allOnes 32) a
  | .frame a => if s.on F.DSP_FRAME_VALID ((a - 0x18000) / 0x1000) then s.rdWord a else 0
  | .slot a => s.rdWord a

end Sys2Proof.Machine
end

