-- ==== Sys2Proof/Machine/Clopor.lean ====
section
/-!
DEFINITION. What a Clopor instruction does in its issue cycle (R337–R387), shared by the rows of the instructions and by
DISPATCH_CYCLE, and how a Desk issues it (R290–R292, R331).
-/

namespace Sys2Proof.Machine

/-- The outcome of an instruction in its issue cycle. -/
inductive Issue where
  /-- It takes effect: the next PC (none: the word that follows) and the issue cost. -/
  | done (s : State) (pc : Option Nat) (cost : Nat)
  /-- It faults with a cause; `dmem` when a read found an uncorrectable error (R316). -/
  | fault (cause : Nat) (dmem : Bool)
  /-- It waits before issue (R326, R369). -/
  | retry (w : Wait)
  deriving DecidableEq, Repr

/-- The usual outcome: the PC goes on and the cost is 2 tk. -/
def Issue.ok (s : State) : Issue := .done s none 2
def Issue.illegal : Issue := .fault 1 false
def Issue.operand : Issue := .fault 10 false
def Issue.dmem : Issue := .fault 6 false

/-! ### Control flow (R341–R343) -/

/-- A 32-bit word as a signed number. -/
def sg (v : Nat) : Int := signed 32 v

/-- A condition code (R341). -/
def cond (c a b : Nat) : Bool :=
  match c with
  | 0 => true
  | 1 => a == b
  | 2 => a != b
  | 3 => sg a < sg b
  | 4 => sg b ≤ sg a
  | 5 => a < b
  | 6 => b ≤ a
  | 7 => a == 0
  | _ => a != 0

/-- The register fields that a condition leaves unused are zero. -/
def condFields (c a b : Nat) : Bool := c < 9 && (c != 0 || (a == 0 && b == 0)) && (c < 7 || b == 0)

/-- A branch target has 21 bits and is no word 127 (R305, R333). -/
def targetOk (t : Nat) : Bool := t < 2 ^ 21 && !lastWord t

def State.doBr (s : State) (d c a b target : Nat) : Issue :=
  if !condFields c (a % 32) (b % 32) || !targetOk target then .illegal
  else if cond c (s.g d a) (s.g d b) then .done s (some target) 4 else .ok s

def State.doCall (s : State) (d target : Nat) : Issue :=
  if !targetOk target then .illegal
  else if s.depth d = 8 then .fault 5 false
  else
    let s' := s.fset F.DSP_STACK_RET (d * 8 + s.depth d) (nextPc (s.pc d))
    .done (s'.fset F.DSP_DESK_STATUS_DEPTH d (s.depth d + 1)) (some target) 4

def State.doRet (s : State) (d : Nat) : Issue :=
  if s.depth d = 0 then .fault 5 false
  else
    let t := s.fget F.DSP_STACK_RET (d * 8 + (s.depth d - 1))
    if lastWord t then .illegal else .done (s.fset F.DSP_DESK_STATUS_DEPTH d (s.depth d - 1)) (some t) 4

def State.doJr (s : State) (d a imm : Nat) : Issue :=
  let t := (s.g d a + imm) % 2 ^ 21
  if lastWord t then .illegal else .done s (some t) 4

/-- HALT stops its Desk once its cost has run, as a STOP would (R296, R343). -/
def State.doHalt (s : State) (d : Nat) : Issue := .ok (s.setDesk d { s.desk d with halting := true })

/-! ### Arithmetic (R344, R345) -/

/-- The result of an operation of R344. -/
def aluOp (fn a b : Nat) : Nat :=
  match fn with
  | 0 => (a + b) % 2 ^ 32
  | 1 => (a + 2 ^ 32 - b) % 2 ^ 32
  | 2 => a &&& b
  | 3 => a ||| b
  | 4 => a ^^^ b
  | 5 => (a <<< (b % 32)) % 2 ^ 32
  | 6 => a >>> (b % 32)
  | 7 => twos 32 (sg a / (2 ^ (b % 32) : Int))
  | 8 => a * b % 2 ^ 32
  | 9 => a * b / 2 ^ 32
  | 10 => min (a + b) (2 ^ 32 - 1)
  | 11 => a - b
  | 12 => if sg a ≤ sg b then a else b
  | 13 => if sg a ≤ sg b then b else a
  | 14 => min a b
  | 15 => max a b
  | 16 => a / b
  | _ => a % b

/-- The issue cost of an operation. -/
def aluCost (fn : Nat) : Nat := if fn = 8 ∨ fn = 9 then 4 else if 16 ≤ fn then 20 else 2

def State.aluInto (s : State) (d fn rd a b : Nat) : Issue :=
  if 18 ≤ fn then .illegal
  else if 16 ≤ fn ∧ b = 0 then .operand
  else .done (s.setG d rd (aluOp fn a b)) none (aluCost fn)

def State.doAlu (s : State) (d fn rd ra rb : Nat) : Issue := s.aluInto d fn rd (s.g d ra) (s.g d rb)

def State.doAlui (s : State) (d fn rd ra imm : Nat) : Issue :=
  if 5 ≤ fn ∧ fn ≤ 7 ∧ 32 ≤ imm % 2 ^ 32 then .operand else s.aluInto d fn rd (s.g d ra) (imm % 2 ^ 32)

def State.doMovi (s : State) (d rd imm : Nat) : Issue := .ok (s.setG d rd imm)

def State.doCmp (s : State) (d fn rd ra rb : Nat) : Issue :=
  if 9 ≤ fn ∨ (7 ≤ fn ∧ rb % 32 ≠ 0) ∨ (fn = 0 ∧ (ra % 32 ≠ 0 ∨ rb % 32 ≠ 0)) then .illegal
  else .ok (s.setG d rd (cond fn (s.g d ra) (s.g d rb)).toNat)

def State.doCmpi (s : State) (d fn rd ra imm : Nat) : Issue :=
  if 9 ≤ fn ∨ (7 ≤ fn ∧ imm % 2 ^ 32 ≠ 0) ∨ (fn = 0 ∧ (ra % 32 ≠ 0 ∨ imm % 2 ^ 32 ≠ 0)) then .illegal
  else .ok (s.setG d rd (cond fn (s.g d ra) (imm % 2 ^ 32)).toNat)

/-! ### Data memory (R316, R346, R347) -/

/-- The byte address of an access. -/
def State.dmemAddr (s : State) (d ra imm : Nat) : Nat := (s.g d ra + imm) % 2 ^ 32

/-- A word of the data memory lies at a byte address. -/
def dmemOk (a : Nat) : Bool := a % 4 == 0 && a < 0x4000

def State.dmemRead (s : State) (a : Nat) : Nat := (s.rdWord (dmemBase + a)).toNat
def State.dmemWrite (s : State) (a v : Nat) : State := s.wrWord (dmemBase + a) (BitVec.ofNat 32 v)

def State.doLd (s : State) (d rd ra imm : Nat) (ecc : Ecc) : Issue :=
  let a := s.dmemAddr d ra imm
  if !dmemOk a then .dmem
  else if ecc = .uncorrectable then .fault 6 true
  else .done (s.setG d rd (s.dmemRead a)) none 4

def State.doSt (s : State) (d rd ra imm : Nat) : Issue :=
  let a := s.dmemAddr d ra imm
  if dmemOk a then .ok (s.dmemWrite a (s.g d rd)) else .dmem

def State.doLdt (s : State) (d td ra imm : Nat) (ecc : Ecc) : Issue :=
  let a := s.dmemAddr d ra imm
  if 4 ≤ td then .illegal
  else if !dmemOk a || !dmemOk (a + 4) then .dmem
  else if ecc = .uncorrectable then .fault 6 true
  else .done (s.setT d td (s.dmemRead (a + 4) * 2 ^ 32 + s.dmemRead a)) none 6

def State.doStt (s : State) (d td ra imm : Nat) : Issue :=
  let a := s.dmemAddr d ra imm
  if 4 ≤ td then .illegal
  else if !dmemOk a || !dmemOk (a + 4) then .dmem
  else .done ((s.dmemWrite a (s.t d td)).dmemWrite (a + 4) (s.t d td / 2 ^ 32)) none 4

/-! ### Time (R348, R349) -/

/-- A tick moved by a signed offset, modulo 2⁶⁴. -/
def tickAdd (t : Nat) (o : Int) : Nat := twos 64 ((t : Int) + o)

def State.doRdt (s : State) (d td : Nat) : Issue := .ok (s.setT d td s.count)
def State.doTaddi (s : State) (d td ta imm : Nat) : Issue := .ok (s.setT d td (tickAdd (s.t d ta) (sg imm)))
def State.doTaddg (s : State) (d td ta ra imm : Nat) : Issue :=
  .ok (s.setT d td (tickAdd (s.t d ta) (sg (s.g d ra) + sg imm)))
def State.doTdiff (s : State) (d ra td ta : Nat) : Issue :=
  .ok (s.setG d ra (satS 32 (signed 64 (s.t d td + 2 ^ 64 - s.t d ta))))
def State.doTlo (s : State) (d ra ta : Nat) : Issue := .ok (s.setG d ra (s.t d ta))
def State.doThi (s : State) (d ra ta : Nat) : Issue := .ok (s.setG d ra (s.t d ta / 2 ^ 32))
def State.doTsetlo (s : State) (d td ra : Nat) : Issue := .ok (s.setT d td (s.t d td / 2 ^ 32 * 2 ^ 32 + s.g d ra))
def State.doTsethi (s : State) (d td ra : Nat) : Issue := .ok (s.setT d td (s.g d ra * 2 ^ 32 + s.t d td % 2 ^ 32))

def State.doWait (s : State) (d ta imm : Nat) : Issue :=
  let w := tickAdd (s.t d ta) (sg imm)
  if w ≤ s.count + 2 then .ok s else .ok ((s.setDesk d { s.desk d with wait := .tick w }).setDeskState d 2)

/-! ### Operands that name units (R333, R351–R358) -/

/-- The reserved bits of a format-S word are zero (R333, R353). -/
def sformLegal (f : SForm) : Bool :=
  (f.stamp || (f.ts == 0 && f.offs == 0)) && f.addr % 4 == 0 &&
    (match f.scope with
     | 0 => f.index == 0
     | 1 => f.index < 64 && f.addr < 0x100
     | 2 => f.index == 0 && f.addr < 0x100
     | _ => f.addr < 0x80)

/-- SCOPE, INDEX and ADDR are reserved (R357). -/
def sformBare (f : SForm) : Bool :=
  (f.stamp || (f.ts == 0 && f.offs == 0)) && f.scope == 0 && f.index == 0 && f.addr == 0

/-- The Sections of a list in data memory (R351). -/
def State.listSecs (s : State) (index : Nat) : List Nat :=
  let lo := s.dmemRead (8 * index)
  let hi := s.dmemRead (8 * index + 4)
  (List.range 64).filter fun k => if k < 32 then lo.testBit k else hi.testBit (k - 32)

/-- The Sections that an instruction names, or its fault (R316, R352, R353). -/
def State.namedSecs (s : State) (f : SForm) (go : List Nat → Issue) : Issue :=
  match f.scope with
  | 0 => go []
  | 1 => if f.index < s.build.nSections then go [f.index] else .operand
  | 2 => go []
  | _ =>
    let l := s.listSecs f.index
    if f.ecc = .uncorrectable then .fault 6 true
    else if l.isEmpty || l.any (fun k => s.build.nSections ≤ k) then .operand
    else go l

/-- ADDR names a fixed register in the form of its scope (R355): in a Signal Box or a Section Root. -/
def sformFixed (f : SForm) (sb : Bool) (off : Nat) : Bool :=
  match f.scope with
  | 0 =>
    if sb then 0x40000 ≤ f.addr && f.addr < 0x80000 && f.addr % 0x100 == off
    else 0x2000 ≤ f.addr && f.addr < 0x4000 && f.addr % 0x80 == off
  | _ => f.addr == off

/-- The scopes of the fixed-register opcodes. -/
def secScopes : List Nat := [0, 3]
def sbScopes : List Nat := [0, 1, 2]
def wideScopes : List Nat := [1, 2]

/-- T of a stamped instruction. -/
def State.stampT (s : State) (d : Nat) (f : SForm) : Nat := (s.t d f.ts + f.offs) % 2 ^ 64

/-- The action of an instruction, without its tick. -/
def sformAct (f : SForm) (d : Nat) (secs : List Nat) (op : ActOp) (t : Nat) : Act :=
  { desk := d, seq := 0, t, tick := 0, op, scope := f.scope, addr := f.addr, secs }

/-- A write to units or a Station action is issued: stamped, or immediate (R326, R328, R357). -/
def State.sIssue (s : State) (d : Nat) (f : SForm) (station : Bool) (secs : List Nat) (op : ActOp) : Issue :=
  if !f.stamp && station then .ok (s.issueNow (sformAct f d secs op 0))
  else if 64 ≤ s.pendingOf d then .retry .entry
  else .ok (s.issueAct (sformAct f d secs op (if f.stamp then s.stampT d f else s.count + 32)))

/-- A fixed-register opcode (R355, R356). -/
def State.fixedOp (s : State) (d : Nat) (f : SForm) (sb : Bool) (off : Nat) (scopes : List Nat) (op : ActOp) : Issue :=
  if !sformLegal f then .illegal
  else if !scopes.contains f.scope || !sformFixed f sb off then .operand
  else s.namedSecs f fun secs => s.sIssue d f false secs op

/-- The field write of a fixed-register opcode: NEW holds the fields at their positions (R475). -/
def fieldOp (val mask : Nat) : ActOp := .write (val % 2 ^ 32 &&& mask) mask true (val % 2 ^ 32 &&& mask)

/-! ### Clock control, Whistles, slots (R359–R371) -/

def State.doFreq (s : State) (d v : Nat) (f : SForm) : Issue :=
  s.fixedOp d f false 0x04 secScopes (fieldOp (s.g d v) 0x3FFFF)
def State.doFreqhw (s : State) (d v : Nat) (f : SForm) : Issue :=
  s.fixedOp d f false 0x20 secScopes (fieldOp (s.g d v) 0x3FFFF)
def State.doHeadway (s : State) (d v : Nat) (f : SForm) : Issue :=
  s.fixedOp d f false 0x0C secScopes (fieldOp (s.g d v * 2) 2)

def State.doStrpol (s : State) (d v : Nat) (f : SForm) : Issue :=
  let mask := s.g d v / 2 ^ 16
  if sformLegal f && mask &&& 0x18E0 != 0 then .operand
  else s.fixedOp d f true 0x44 sbScopes
    (.write (s.g d v % 2 ^ 16) mask true (mask * 2 ^ 16 + (s.g d v % 2 ^ 16 &&& mask)))

/-- FORCE, and WAKE when asked for (R365). -/
def gateOp (force wake : Bool) : ActOp :=
  fieldOp (force.toNat * 2 ^ 25 + wake.toNat * 2 ^ 24) (2 ^ 25 + wake.toNat * 2 ^ 24)

def State.doGate (s : State) (d v : Nat) (f : SForm) : Issue :=
  s.fixedOp d f true 0x0C sbScopes (gateOp ((s.g d v).testBit 0) ((s.g d v).testBit 1))
def State.doFreeze (s : State) (d v : Nat) (f : SForm) : Issue :=
  if v ≠ 0 then .illegal else s.fixedOp d f true 0x0C wideScopes (gateOp true false)
def State.doThaw (s : State) (d v : Nat) (f : SForm) : Issue :=
  if v ≠ 0 then .illegal else s.fixedOp d f true 0x0C wideScopes (gateOp false false)
def State.doWoff (s : State) (d v : Nat) (f : SForm) : Issue :=
  if v ≠ 0 then .illegal else s.fixedOp d f false 0x04 secScopes .woff
def State.doCslot (s : State) (d v : Nat) (f : SForm) : Issue :=
  s.fixedOp d f false 0x38 secScopes (fieldOp (s.g d v) 0xFFFFF)

/-- A long Whistle reaches the Governor (R367, R368, R377). -/
def State.whistle (s : State) (d v t : Nat) : State :=
  let rail := v % 16
  let lead : Int := (t : Int) - (s.count : Int)
  let w : Whistle := { rail, delta := signed 16 (v / 2 ^ 16), t }
  let s := { s with gov := { s.gov with whistles := s.gov.whistles ++ [w] } }
  let s := s.faddWrap F.DSP_DESK_WHISTLE_ISSUED d 1
  if 3200 ≤ lead then s.lhPresent rail (v / 16 % 16) t
  else (s.faddSat F.DSP_DESK_WHISTLE_SHORT d 1).post (srcDesk d) 5 5
    [.num 2 d, pRail rail, .sgn 26 (max (-32768) (min lead 32767))]

def State.doLwh (s : State) (d v : Nat) (f : SForm) : Issue :=
  let w := s.g d v
  if !sformBare f then .illegal
  else if !f.stamp || w / 256 % 256 != 0 || s.build.nRails ≤ w % 16 then .operand
  else if 32 ≤ s.gov.whistles.length then .retry .whistle
  else .ok (s.whistle d w (s.stampT d f))

/-! ### Metering marks, events, envelope, priority (R374–R379) -/

def State.doStep (s : State) (d v : Nat) (f : SForm) : Issue :=
  if !sformBare f then .illegal else s.sIssue d f true [] (.step (s.g d v))
def State.doPhase (s : State) (d v : Nat) (f : SForm) : Issue :=
  if !sformBare f then .illegal
  else if 256 ≤ s.g d v then .operand
  else s.sIssue d f true [] (.phase (s.g d v))
def State.doEnvcap (s : State) (d v : Nat) (f : SForm) : Issue :=
  if !sformBare f then .illegal
  else if 2 ^ 17 ≤ s.g d v then .operand
  else s.sIssue d f true [] (.envcap (s.g d v))

def State.doPost (s : State) (d fn ra imm : Nat) : Issue :=
  if 256 ≤ fn then .illegal
  else if fn < 0x80 then .operand
  else .done (s.postRaw (srcDesk d) 5 fn ((s.g d ra + imm) % 2 ^ 32) s.count) none 4

def State.doPrio (s : State) (d ra imm : Nat) : Issue :=
  if s.build.nSections ≤ imm % 2 ^ 32 || 64 ≤ imm % 2 ^ 32 || 16 ≤ s.g d ra then .operand
  else .ok (s.issueNow { desk := d, seq := 0, t := 0, tick := 0, op := ActOp.prio (imm % 2 ^ 32) (s.g d ra) : Act })

/-! ### Register access (R380–R382) -/

def State.doWr (s : State) (d v : Nat) (f : SForm) : Issue :=
  let a := f.addr
  let op : ActOp := .write (s.g d v) (2 ^ 32 - 1) false (s.g d v)
  if !sformLegal f then .illegal
  else if f.scope = 0 then
    if (0x6000 ≤ a && a < 0x7000) || (0x10000 ≤ a && a < 0x20000) then .operand
    else if !mapped a then .fault 8 false
    else s.sIssue d f (isStation a) [] op
  else s.namedSecs f fun secs => s.sIssue d f false secs op

def State.doRd (s : State) (d rd ra imm : Nat) : Issue :=
  let a := (s.g d ra + imm) % 2 ^ 20
  if a % 4 ≠ 0 then .operand
  else if !mapped a then .fault 8 false
  else if isStation a then .ok (s.setG d rd (s.readWord a).toNat)
  else .ok ((s.setDesk d { s.desk d with wait := .read a (rd % 32) s.stn.elapsed }).setDeskState d 2)

/-! ### Paging hints (R383–R386) -/

/-- The page that a hint names. -/
def State.hintPage (s : State) (d ra imm : Nat) : Nat := (s.g d ra + imm) % 2 ^ 32

/-- A page within its range (R383). -/
def State.hint (s : State) (d ra imm : Nat) (f : Nat → State) : Issue :=
  let p := s.hintPage d ra imm
  if p < 8 || s.imgPages ≤ p then .operand else .ok (f p)

/-- The frame that holds or is filling a page. -/
def State.frameWith (s : State) (p : Nat) : Option Nat :=
  match s.frameOf p with
  | some f => some f
  | none => (s.fillOf p).map (·.frame)

/-- PIN of the frame that holds or is filling a page. -/
def State.pinFrame (s : State) (p : Nat) : State :=
  match s.frameWith p with
  | some f => s.fset F.DSP_FRAME_PIN f 1
  | none => s

def State.doPref (s : State) (d ra imm : Nat) : Issue := s.hint d ra imm s.fillStart
def State.doPin (s : State) (d ra imm : Nat) : Issue := s.hint d ra imm fun p => (s.fillStart p).pinFrame p
def State.doUnpin (s : State) (d ra imm : Nat) : Issue := s.hint d ra imm fun p =>
  match s.frameOf p with
  | some f => s.fset F.DSP_FRAME_PIN f 0
  | none => s

/-! ### Semaphores (R318–R320) -/

/-- A Desk owns a semaphore that is not on its way to another. -/
def State.semMine (s : State) (d i : Nat) : Bool := s.semOwned d i && !s.dsp.passes.any (fun p => p.1 == i)

/-- A semaphore within its range. -/
def semArg (imm : Nat) (f : Nat → Issue) : Issue := if 16 ≤ imm % 2 ^ 32 then .operand else f (imm % 2 ^ 32)

def State.doAcq (s : State) (d imm : Nat) : Issue := semArg imm fun i =>
  if s.semMine d i then .fault 7 false
  else if !s.semHeld i then .ok (s.semTake d i)
  else .ok ((s.setDesk d { s.desk d with wait := .sem i }).setDeskState d 2)
def State.doRel (s : State) (d imm : Nat) : Issue := semArg imm fun i =>
  if s.semMine d i then .ok (s.semRelease i) else .fault 7 false
def State.doTry (s : State) (d rd imm : Nat) : Issue := semArg imm fun i =>
  if s.semMine d i then .fault 7 false
  else if !s.semHeld i then .ok ((s.semTake d i).setG d rd 1)
  else .ok (s.setG d rd 0)

/-! ### Issue (R290–R292, R331) -/

/-- A Desk issues an instruction in the present cycle. -/
def State.issue (s : State) (d : Nat) (f : State → Issue) : State :=
  let pc := s.pc d
  match f s with
  | .done s' next cost =>
    let k := s'.desk d
    let s' := s'.setDesk d { k with pcWait := pc, readyAt := s.stn.elapsed + cost, stepDone := k.stepping }
    (s'.setPc d (next.getD (nextPc pc))).faddWrap F.DSP_DESK_ISSUED_COUNT d 1
  | .fault cause dmem =>
    let s := if dmem then s.setFlag F.DSP_STATUS_DMEM_ERR 0 else s
    s.deskFault d cause
  | .retry w => (s.setDesk d { s.desk d with wait := w }).setDeskState d 2

/-- A frame has been fetched from (R312). -/
def State.fetched (s : State) (d : Nat) : State :=
  let pc := s.pc d
  if pc < 0x1000 then s
  else
    match s.frameOf (pc / 512) with
    | some f =>
      (s.setDsp { s.dsp with recent := f :: s.dsp.recent.filter (· != f) }).fset F.DSP_FRAME_LAST_DESK f d
    | none => s

/-- The present cycle has served a Desk. -/
def State.cycleTaken (s : State) : State := s.setDsp { s.dsp with cycle := some s.stn.elapsed }

/-- A row of an instruction: the Desk issues it in the present Dispatcher cycle, if that cycle is its own (R291). -/
def State.issueRow (s : State) (d : Nat) (f : State → Issue) : State :=
  s.iff s.cycleOpen fun s₀ =>
    let s := s₀.cycleBegin
    if s.issuer = some d then (s.cycleTaken.fetched d).issue d f else s₀

/-! ### The rows -/

/-- BR (R341, R342). -/
def execBr (desk cond a b target : Nat) (s : State) : Host.Outcome State Fault Refusal :=
  s.act fun s => s.issueRow desk fun s => s.doBr desk cond a b target
/-- CALL (R341, R342). -/
def execCall (desk target : Nat) (s : State) : Host.Outcome State Fault Refusal :=
  s.act fun s => s.issueRow desk fun s => s.doCall desk target
/-- RET (R341, R342). -/
def execRet (desk : Nat) (s : State) : Host.Outcome State Fault Refusal :=
  s.act fun s => s.issueRow desk fun s => s.doRet desk
/-- JR (R342). -/
def execJr (desk a imm : Nat) (s : State) : Host.Outcome State Fault Refusal :=
  s.act fun s => s.issueRow desk fun s => s.doJr desk a imm
/-- HALT (R343). -/
def execHalt (desk : Nat) (s : State) : Host.Outcome State Fault Refusal :=
  s.act fun s => s.issueRow desk fun s => s.doHalt desk
/-- NOP (R340). -/
def execNop (desk : Nat) (s : State) : Host.Outcome State Fault Refusal :=
  s.act fun s => s.issueRow desk fun s => .ok s
/-- ALU (R344). -/
def execAlu (desk fn rd ra rb : Nat) (s : State) : Host.Outcome State Fault Refusal :=
  s.act fun s => s.issueRow desk fun s => s.doAlu desk fn rd ra rb
/-- ALUI (R344). -/
def execAlui (desk fn rd ra imm : Nat) (s : State) : Host.Outcome State Fault Refusal :=
  s.act fun s => s.issueRow desk fun s => s.doAlui desk fn rd ra imm
/-- MOVI (R340). -/
def execMovi (desk rd imm : Nat) (s : State) : Host.Outcome State Fault Refusal :=
  s.act fun s => s.issueRow desk fun s => s.doMovi desk rd imm
/-- CMP (R345). -/
def execCmp (desk fn rd ra rb : Nat) (s : State) : Host.Outcome State Fault Refusal :=
  s.act fun s => s.issueRow desk fun s => s.doCmp desk fn rd ra rb
/-- CMPI (R345). -/
def execCmpi (desk fn rd ra imm : Nat) (s : State) : Host.Outcome State Fault Refusal :=
  s.act fun s => s.issueRow desk fun s => s.doCmpi desk fn rd ra imm
/-- LD (R346). -/
def execLd (desk rd ra imm : Nat) (ecc : Ecc) (s : State) : Host.Outcome State Fault Refusal :=
  s.act fun s => s.issueRow desk fun s => s.doLd desk rd ra imm ecc
/-- ST (R346). -/
def execSt (desk rd ra imm : Nat) (s : State) : Host.Outcome State Fault Refusal :=
  s.act fun s => s.issueRow desk fun s => s.doSt desk rd ra imm
/-- LDT (R346, R347). -/
def execLdt (desk td ra imm : Nat) (ecc : Ecc) (s : State) : Host.Outcome State Fault Refusal :=
  s.act fun s => s.issueRow desk fun s => s.doLdt desk td ra imm ecc
/-- STT (R346, R347). -/
def execStt (desk td ra imm : Nat) (s : State) : Host.Outcome State Fault Refusal :=
  s.act fun s => s.issueRow desk fun s => s.doStt desk td ra imm
/-- RDT (R348). -/
def execRdt (desk td : Nat) (s : State) : Host.Outcome State Fault Refusal :=
  s.act fun s => s.issueRow desk fun s => s.doRdt desk td
/-- TADDI (R348). -/
def execTaddi (desk td ta imm : Nat) (s : State) : Host.Outcome State Fault Refusal :=
  s.act fun s => s.issueRow desk fun s => s.doTaddi desk td ta imm
/-- TADDG (R348). -/
def execTaddg (desk td ta ra imm : Nat) (s : State) : Host.Outcome State Fault Refusal :=
  s.act fun s => s.issueRow desk fun s => s.doTaddg desk td ta ra imm
/-- TDIFF (R348). -/
def execTdiff (desk ra td ta : Nat) (s : State) : Host.Outcome State Fault Refusal :=
  s.act fun s => s.issueRow desk fun s => s.doTdiff desk ra td ta
/-- TLO (R348). -/
def execTlo (desk ra ta : Nat) (s : State) : Host.Outcome State Fault Refusal :=
  s.act fun s => s.issueRow desk fun s => s.doTlo desk ra ta
/-- THI (R348). -/
def execThi (desk ra ta : Nat) (s : State) : Host.Outcome State Fault Refusal :=
  s.act fun s => s.issueRow desk fun s => s.doThi desk ra ta
/-- TSETLO (R348). -/
def execTsetlo (desk td ra : Nat) (s : State) : Host.Outcome State Fault Refusal :=
  s.act fun s => s.issueRow desk fun s => s.doTsetlo desk td ra
/-- TSETHI (R348). -/
def execTsethi (desk td ra : Nat) (s : State) : Host.Outcome State Fault Refusal :=
  s.act fun s => s.issueRow desk fun s => s.doTsethi desk td ra
/-- WAIT (R349). -/
def execWait (desk ta imm : Nat) (s : State) : Host.Outcome State Fault Refusal :=
  s.act fun s => s.issueRow desk fun s => s.doWait desk ta imm
/-- FREQ (R360). -/
def execFreq (desk v : Nat) (sf : SForm) (s : State) : Host.Outcome State Fault Refusal :=
  s.act fun s => s.issueRow desk fun s => s.doFreq desk v sf
/-- FREQHW (R360). -/
def execFreqhw (desk v : Nat) (sf : SForm) (s : State) : Host.Outcome State Fault Refusal :=
  s.act fun s => s.issueRow desk fun s => s.doFreqhw desk v sf
/-- HEADWAY (R362). -/
def execHeadway (desk v : Nat) (sf : SForm) (s : State) : Host.Outcome State Fault Refusal :=
  s.act fun s => s.issueRow desk fun s => s.doHeadway desk v sf
/-- STRPOL (R359). -/
def execStrpol (desk v : Nat) (sf : SForm) (s : State) : Host.Outcome State Fault Refusal :=
  s.act fun s => s.issueRow desk fun s => s.doStrpol desk v sf
/-- GATE (R365). -/
def execGate (desk v : Nat) (sf : SForm) (s : State) : Host.Outcome State Fault Refusal :=
  s.act fun s => s.issueRow desk fun s => s.doGate desk v sf
/-- FREEZE (R364). -/
def execFreeze (desk v : Nat) (sf : SForm) (s : State) : Host.Outcome State Fault Refusal :=
  s.act fun s => s.issueRow desk fun s => s.doFreeze desk v sf
/-- THAW (R356). -/
def execThaw (desk v : Nat) (sf : SForm) (s : State) : Host.Outcome State Fault Refusal :=
  s.act fun s => s.issueRow desk fun s => s.doThaw desk v sf
/-- WOFF (R363). -/
def execWoff (desk v : Nat) (sf : SForm) (s : State) : Host.Outcome State Fault Refusal :=
  s.act fun s => s.issueRow desk fun s => s.doWoff desk v sf
/-- CSLOT (R371). -/
def execCslot (desk v : Nat) (sf : SForm) (s : State) : Host.Outcome State Fault Refusal :=
  s.act fun s => s.issueRow desk fun s => s.doCslot desk v sf
/-- LWH (R366–R369). -/
def execLwh (desk v : Nat) (sf : SForm) (s : State) : Host.Outcome State Fault Refusal :=
  s.act fun s => s.issueRow desk fun s => s.doLwh desk v sf
/-- STEP (R374). -/
def execStep (desk v : Nat) (sf : SForm) (s : State) : Host.Outcome State Fault Refusal :=
  s.act fun s => s.issueRow desk fun s => s.doStep desk v sf
/-- PHASE (R375). -/
def execPhase (desk v : Nat) (sf : SForm) (s : State) : Host.Outcome State Fault Refusal :=
  s.act fun s => s.issueRow desk fun s => s.doPhase desk v sf
/-- POST (R376). -/
def execPost (desk fn ra imm : Nat) (s : State) : Host.Outcome State Fault Refusal :=
  s.act fun s => s.issueRow desk fun s => s.doPost desk fn ra imm
/-- ENVCAP (R378). -/
def execEnvcap (desk v : Nat) (sf : SForm) (s : State) : Host.Outcome State Fault Refusal :=
  s.act fun s => s.issueRow desk fun s => s.doEnvcap desk v sf
/-- PRIO (R379). -/
def execPrio (desk ra imm : Nat) (s : State) : Host.Outcome State Fault Refusal :=
  s.act fun s => s.issueRow desk fun s => s.doPrio desk ra imm
/-- WR (R380, R381). -/
def execWr (desk v : Nat) (sf : SForm) (s : State) : Host.Outcome State Fault Refusal :=
  s.act fun s => s.issueRow desk fun s => s.doWr desk v sf
/-- RD (R382). -/
def execRd (desk rd ra imm : Nat) (s : State) : Host.Outcome State Fault Refusal :=
  s.act fun s => s.issueRow desk fun s => s.doRd desk rd ra imm
/-- PREF (R384). -/
def execPref (desk ra imm : Nat) (s : State) : Host.Outcome State Fault Refusal :=
  s.act fun s => s.issueRow desk fun s => s.doPref desk ra imm
/-- PIN (R385). -/
def execPin (desk ra imm : Nat) (s : State) : Host.Outcome State Fault Refusal :=
  s.act fun s => s.issueRow desk fun s => s.doPin desk ra imm
/-- UNPIN (R385). -/
def execUnpin (desk ra imm : Nat) (s : State) : Host.Outcome State Fault Refusal :=
  s.act fun s => s.issueRow desk fun s => s.doUnpin desk ra imm
/-- ACQ (R318). -/
def execAcq (desk imm : Nat) (s : State) : Host.Outcome State Fault Refusal :=
  s.act fun s => s.issueRow desk fun s => s.doAcq desk imm
/-- REL (R319). -/
def execRel (desk imm : Nat) (s : State) : Host.Outcome State Fault Refusal :=
  s.act fun s => s.issueRow desk fun s => s.doRel desk imm
/-- TRY (R318). -/
def execTry (desk rd imm : Nat) (s : State) : Host.Outcome State Fault Refusal :=
  s.act fun s => s.issueRow desk fun s => s.doTry desk rd imm

/-- RD_RETURN (R329, R382): within 48 tk of the issue the value at this tick edge reaches the Desk, which is ready at the
next cycle. -/
def execRdReturn (desk : Nat) (s : State) : Host.Outcome State Fault Refusal :=
  s.act fun s =>
    match (s.desk desk).wait with
    | .read a rd t => s.iff (s.deskState desk == 2 && s.stn.elapsed ≤ t + 48) fun s =>
        let s' := s.setG desk rd (s.readWord a).toNat
        (s'.setDesk desk { s'.desk desk with wait := .none }).setDeskState desk 1
    | _ => s

end Sys2Proof.Machine
end

