-- ==== Sys2Proof/Machine/Calib.lean ====
section
/-!
DEFINITION. Power-up calibration and refinement: steps, results, flags, commits (R240–R269, R285, R286).
-/

namespace Sys2Proof.Machine

/-! ### Measurements -/

/-- Two measurements agree within a tolerance, value by value (R245). -/
def agree (tol : Nat) (a b : List Int) : Bool :=
  a.length == b.length && (a.zip b).all fun p => (p.1 - p.2).natAbs ≤ tol

/-- The mean of two values, rounded down (R245). -/
def meanOf (a b : List Int) : List Int := List.zipWith (fun x y => (x + y) / 2) a b

/-- The greatest of integers, 0 for none. -/
def maxInt : List Int → Int
  | [] => 0
  | x :: t => t.foldl max x

/-- The taps of DESKEW, from arrival offsets and taps in force, both exact in 0.5 ps (R258): halves round up. -/
def deskewTaps (offs : List Int) (taps : List Nat) : List Int :=
  let base := List.zipWith (fun a (t : Nat) => a - 5 * (t : Int)) offs taps
  let target := maxInt base + 40
  base.map fun x => (2 * (target - x) + 5) / 10

/-- o_i in steps of 1/32 rc at a frequency word: rc is 625 × 65,536 / FW ps (R259). -/
def trimK (o : Int) (fw : Nat) : Int := (2 * o * (fw : Int) + 1280000) / 2560000

/-- The lower median of a list. -/
def lowerMedian (l : List Int) : Int :=
  let at' (x : Int) : Nat := (l.filter (fun y => y < x)).length
  let upTo (x : Int) : Nat := (l.filter (fun y => y ≤ x)).length
  let mid := (l.length - 1) / 2
  ((l.filter fun x => at' x ≤ mid && mid < upTo x).head?).getD 0

/-- The offsets k_i of a region at the FW in force. -/
def State.trimKs (s : State) (r : Nat) : List Int :=
  (List.range 8).map fun i => trimK (s.build.seedOffsetOf r i) (s.fwCur (s.build.sectionOf r))

/-- The median m and the trims of one reading (R259). -/
def trimsOf (ks q : List Int) : Int × List Int :=
  let m := lowerMedian (List.zipWith (· - ·) q ks)
  (m, List.zipWith (fun x k => m + k - x) q ks)

/-- Trims packed as SB_TC_TRIM. -/
def packTrims (t : List Int) : Nat :=
  ((List.range 8).map fun i => twos 4 ((t[i]?).getD 0) * 2 ^ (4 * i)).foldl (· + ·) 0

/-- The longest run of PHASE values from `i` without a differing sample: its length and start (R261). -/
def eyeRuns (mask : Nat) : Nat → Nat → Nat → Nat × Nat → Nat × Nat
  | 0, _, _, best => best
  | f + 1, i, run, best =>
    if mask.testBit i then eyeRuns mask f (i + 1) 0 best
    else
      let run := run + 1
      eyeRuns mask f (i + 1) run (if run > best.1 then (run, i + 1 - run) else best)

/-- The eye of a path and its centre, the lower middle of the run (R261). -/
def eyeOf (mask : Int) : Nat × Nat :=
  let e := eyeRuns mask.toNat 16 0 0 (0, 0)
  (e.1, e.2 + (e.1 - 1) / 2)

/-- Eyes and centres of the two paths of each Junction of a measurement. -/
def eyesOf (masks : List Int) : List (Nat × Nat) := masks.map eyeOf

/-! ### What the sequencer holds -/

/-- Change a region's sequencer record. -/
def State.modCal (s : State) (r : Nat) (f : CalRgn → CalRgn) : State := s.setCalRgn r (f (s.calRgn r))

/-- A region's shadow bank, empty where nothing fills it. -/
def State.bankOf (s : State) (r : Nat) : Bank := ((s.calRgn r).bank).getD {}

/-- Fill a region's shadow bank; it is complete now (R263). -/
def State.fillBank (s : State) (r : Nat) (src : BankSrc) (f : Bank → Bank) : State :=
  s.modCal r fun c => { c with bank := some { f (s.bankOf r) with src, doneAt := some s.count } }

/-- Nothing of a stage is in progress any more. -/
def CalRgn.fresh (c : CalRgn) : CalRgn :=
  { c with step := none, cur := none, item := 0, means := [], tries := 0, stageTries := 0, verify := false }

/-- The REDO bit of a stage. -/
def redoFld : Nat → Fld
  | 0 => F.SB_CAL_CTRL_REDO_DESKEW
  | 1 => F.SB_CAL_CTRL_REDO_TRIM
  | _ => F.SB_CAL_CTRL_REDO_EYE

/-- Every stage of a region is finished (R254). -/
def State.calRegionDone (s : State) (r : Nat) : Bool :=
  !s.calWaits r && (List.range 3).all fun st => s.fget (stageFld st) r != 0

/-- PHASE reaches REFINED once every region is done (R254, R255). -/
def State.checkRefined (s : State) : State :=
  let ph := s.fget F.CAL_STATUS_PHASE 0
  if (ph = 3 ∨ ph = 4) ∧ (List.range s.build.nRegions).all s.calRegionDone then
    let ms := (s.stn.elapsed - s.cal.readyAt) / 1600000
    let s := (s.fset F.CAL_STATUS_PHASE 0 5).fset F.CAL_TIME_REFINE_MS 0 (satU 16 ms)
    let s := (s.fset F.CAL_CTRL_FORCE 0 0).setFlag F.HIF_IRQ_SRC_REFINED 0
    s.post srcCal 2 8 [.num 32 (s.fget F.CAL_TIME_REFINE_MS 0)]
  else s

/-- Learning starts when DESKEW and TRIM are DONE or RESTORED (R257). -/
def State.checkLearning (s : State) (r : Nat) : State :=
  let ok (st : Nat) : Bool := s.fget (stageFld st) r == 1 || s.fget (stageFld st) r == 2
  if s.fget F.SB_CAL_STAT_PROFILE r = 0 ∧ ok 0 ∧ ok 1 then
    let n := s.fget F.CAL_LEARN_COUNT 0
    (s.modCal r fun c => { c with learn := n }).fset F.SB_CAL_STAT_PROFILE r (if n = 0 then 2 else 1)
  else s

/-- A region with no work left gives up its lane. -/
def State.laneRelease (s : State) (r : Nat) : State :=
  if s.calWaits r then s
  else { s with cal := { s.cal with lanes := s.cal.lanes.filter (· != r), queue := s.cal.queue.filter (· != r) } }

/-- A stage ends, DONE or FLAGGED: its pending, REDO and spot-check bits clear. -/
def State.stageEnds (s : State) (r st state : Nat) : State :=
  let s := s.fset (stageFld st) r state
  let s := s.fset F.SB_CAL_STAT_PENDING r (s.fget F.SB_CAL_STAT_PENDING r &&& (7 - 2 ^ st))
  let s := s.fset (redoFld st) r 0
  let s := s.modCal r fun c => { c.fresh with spots := c.spots &&& (7 - 2 ^ st) }
  (((s.checkLearning r).laneRelease r).checkRefined)

/-- A stage completes and passes (R248: its DIST bit clears). -/
def State.stageDone (s : State) (r st : Nat) : State := (s.fset (distFld st) r 0).stageEnds r st 1

/-- The safe values of a stage enter the shadow bank, to be committed (R246). -/
def State.safeBank (s : State) (r st : Nat) : State :=
  s.fillBank r (.safe st) fun b =>
    match st with
    | 0 => { b with taps := some (s.seedTaps r) }
    | 1 => { b with trim := some 0 }
    | _ => { b with phases := (s.build.jctsRead r).map fun j => (j, 8, 8, (s.xing j).storeEye) }

/-- A stage is FLAGGED (R246). -/
def State.flagStage (s : State) (r st : Nat) (v1 v2 : Int) : State :=
  let s := ((s.safeBank r st).setFlag F.SB_CAL_STAT_FLAG r).setFlag F.CAL_STATUS_FLAG_SEEN 0
  let s := s.post srcCal 2 1 [pRegion r, .num 2 st, .sgn 8 v1, .sgn 12 v2]
  s.stageEnds r st 3

/-- A failed EYE names its Junction and the narrower eye (R262): it is FLAGGED with both phases at 8. -/
def State.eyeEvent (s : State) (st j eye : Nat) : State :=
  if st = 2 then s.post srcCal 2 9 [.num 11 j, pOther eye] else s

/-- A step fails: it is retried, and the fourth failure flags the stage (R246). -/
def State.stepFails (s : State) (r st : Nat) (v1 v2 : Int) (j eye : Nat) : State :=
  let c := s.calRgn r
  if c.tries ≥ 3 then (s.flagStage r st v1 v2).eyeEvent st j eye
  else (s.setCalRgn r { c with tries := c.tries + 1, step := c.step.map fun x => { x with started := false, volt := none, left := 0 } }).faddSat
    F.SB_CAL_CNT_RETRIES r 1

/-- A whole stage fails after its commit, or its shadow fails its check: it runs again (R246, R258, R264). -/
def State.stageFails (s : State) (r st : Nat) (v1 v2 : Int) : State :=
  let c := s.calRgn r
  if c.stageTries ≥ 3 then s.flagStage r st v1 v2
  else (s.setCalRgn r { c with stageTries := c.stageTries + 1, item := 0, means := [], tries := 0, verify := false
                               step := none }).faddSat F.SB_CAL_CNT_RETRIES r 1

/-! ### The stages (R258–R262) -/

/-- All 30 groups have passed: the taps are computed (R258). -/
def State.deskewResult (s : State) (r : Nat) (offs : List Int) : State :=
  let taps := deskewTaps offs (s.rgn r).taps
  match (List.range 120).find? fun i => (taps[i]?).getD 0 > 127 with
  | some i =>
    let t := (taps[i]?).getD 0
    (s.post srcCal 2 2 [pRegion r, pOther i, .sgn 14 t]).flagStage r 0 t t
  | none =>
    (s.fillBank r (.stage 0) fun b => { b with taps := some (taps.map Int.toNat) }).modCal r fun c => { c with step := none }

/-- A DESKEW group step (R245, R258). -/
def State.deskewStep (s : State) (r : Nat) (m : CalMeas) : State :=
  let ok := m.a.length == 4 && agree 5 m.a m.b
  if !ok then s.stepFails r 0 ((m.a.getLast?).getD 0) ((m.b.getLast?).getD 0) 0 0
  else
    let s := s.modCal r fun c => { c with means := c.means ++ meanOf m.a m.b, item := c.item + 1, tries := 0, step := none }
    if (s.calRgn r).item ≥ 30 then s.deskewResult r (s.calRgn r).means else s

/-- The verifying measurement of DESKEW: the spread of the endpoints in ps (R258). -/
def State.deskewVerify (s : State) (r limit : Nat) (m : CalMeas) : State :=
  let spread := ((m.verify.head?).getD 255).toNat
  let s := s.fset F.SB_CAL_QUAL_SKEW_PS r (satU 8 spread)
  if spread ≤ limit then s.stageDone r 0 else s.stageFails r 0 spread spread

/-- The trims of a TRIM step that passes (R259). -/
def State.trimResult (s : State) (r : Nat) (m : CalMeas) : Option (Int × List Int) :=
  let ks := s.trimKs r
  let x := trimsOf ks m.a
  let y := trimsOf ks m.b
  let t := meanOf x.2 y.2
  if m.a.length = 8 ∧ agree 1 x.2 y.2 ∧ t.all (fun v => -8 ≤ v && v ≤ 7) then some ((x.1 + y.1) / 2, t) else none

/-- A TRIM step (R259). -/
def State.trimStep (s : State) (r : Nat) (m : CalMeas) : State :=
  match s.trimResult r m with
  | none => s.stepFails r 1 ((m.a.getLast?).getD 0) ((m.b.getLast?).getD 0) 0 0
  | some (mid, t) =>
    let s := s.fset F.SB_CAL_FW_FW_TRIM r (s.fwCur (s.build.sectionOf r))
    let s := s.fillBank r (.stage 1) fun b => { b with trim := some (packTrims t) }
    s.modCal r fun c => { c with trimMid := mid, tries := 0, step := none }

/-- TC_ERR of a verifying reading (R259). -/
def tcErr (q trims ks : List Int) (mid : Int) : Nat :=
  maxOf ((List.range 8).map fun i => ((q[i]?).getD 0 + (trims[i]?).getD 0 - (ks[i]?).getD 0 - mid).natAbs)

/-- Trims of a packed word. -/
def unpackTrims (w : Nat) : List Int := (List.range 8).map fun i => signed 4 (w / 2 ^ (4 * i))

/-- The verifying reading of TRIM (R259). -/
def State.trimVerify (s : State) (r : Nat) (m : CalMeas) : State :=
  let e := tcErr m.verify (unpackTrims (s.calRgn r).storeTrim) (s.trimKs r) (s.calRgn r).trimMid
  let s := s.fset F.SB_CAL_QUAL_TC_ERR r (satU 3 e)
  if e ≤ 1 then s.stageDone r 1 else s.stageFails r 1 e e

/-- The result of an EYE step: PHASE_WP, PHASE_RP, the narrower eye, and whether the centres agree (R261). -/
def eyeResult (m : CalMeas) : Nat × Nat × Nat × Bool :=
  let a := eyesOf m.a
  let b := eyesOf m.b
  let c (l : List (Nat × Nat)) (i : Nat) : Nat := ((l[i]?).map (·.2)).getD 0
  let w (l : List (Nat × Nat)) (i : Nat) : Nat := ((l[i]?).map (·.1)).getD 0
  let near (i : Nat) : Bool := ((c a i : Int) - c b i).natAbs ≤ 1
  ((c a 0 + c b 0) / 2, (c a 1 + c b 1) / 2, min ((w a 0 + w b 0) / 2) ((w a 1 + w b 1) / 2), near 0 && near 1)

/-- An EYE step of the Junction that is next (R261, R262). -/
def State.eyeStep (s : State) (r : Nat) (m : CalMeas) : State :=
  let js := s.build.jctsRead r
  let c := s.calRgn r
  match js[c.item]? with
  | none => s
  | some j =>
    let (wp, rp, eye, near) := eyeResult m
    if !near || eye < s.fget F.CAL_CFG_EYE_MIN 0 then s.stepFails r 2 wp rp j eye
    else
      let b := s.bankOf r
      let phases := b.phases.filter (fun p => p.1 != j) ++ [(j, wp, rp, eye)]
      let last := c.item + 1 ≥ js.length
      let b := { b with phases, src := .stage 2, doneAt := if last then some s.count else none }
      s.setCalRgn r { c with bank := some b, item := c.item + 1, tries := 0, step := none }

/-- CAL_STEP_DONE (R245, R246): a step of refinement, or the verifying measurement of its stage. -/
def execCalStepDone (region : Nat) (meas : CalMeas) (s : State) : Host.Outcome State Fault Refusal :=
  s.act fun s =>
    match (s.calRgn region).step with
    | none => s
    | some st => s.iff (st.started && st.left == 0 && !st.spot) fun s =>
      let verify := (s.calRgn region).verify
      match st.stage with
      | 0 => if verify then s.deskewVerify region 6 meas else s.deskewStep region meas
      | 1 => if verify then s.trimVerify region meas else s.trimStep region meas
      | _ => s.eyeStep region meas

/-! ### Lanes, steps, units (R249–R253) -/

/-- Lanes in use (CAL_CTRL.LANES: 0 means 8). -/
def State.calLanes (s : State) : Nat := if s.fget F.CAL_CTRL_LANES 0 = 0 then 8 else s.fget F.CAL_CTRL_LANES 0

/-- The stage a lane serves in a region: the one in progress, else DESKEW, TRIM, EYE, pending or awaiting a spot check
(R251, R285). -/
def State.nextStage (s : State) (r : Nat) : Option Nat :=
  let waits (st : Nat) : Bool := (s.fget F.SB_CAL_STAT_PENDING r).testBit st || (s.calRgn r).spots.testBit st
  match (s.calRgn r).cur with
  | some st => if waits st then some st else (List.range 3).find? waits
  | none => (List.range 3).find? waits

/-- A lane may serve the region: its Section is READY and HOLD does not exclude it. Regions that may not be served are
passed over in the queue (R251, R252; DESIGN CHOICE, log entry 74). -/
def State.calServes (s : State) (r : Nat) : Bool :=
  s.secState (s.build.sectionOf r) == 3 && !s.on F.SB_CAL_CTRL_HOLD r

/-- The free lanes take regions from the head of the queue (R251). A region that may no longer be served leaves its lane
where no step of it is under way. -/
def State.fillLanes (s : State) : State :=
  let keep := s.cal.lanes.filter fun r => s.calServes r || (s.calRgn r).step.isSome
  let out := s.cal.lanes.filter fun r => !keep.contains r
  let queue := s.cal.queue ++ out
  let take := (queue.filter s.calServes).take (s.calLanes - keep.length)
  { s with cal := { s.cal with lanes := keep ++ take, queue := queue.filter fun r => !take.contains r } }

/-- The region is in a lane; where LANES was lowered the lanes taken last stand still (R251; DESIGN CHOICE, log entry
74). -/
def State.inLane (s : State) (r : Nat) : Bool := (s.cal.lanes.take s.calLanes).contains r

/-- The conditions of R252 and R284; none starts during a warm reset (R269). -/
def State.mayStep (s : State) (r : Nat) : Bool :=
  s.calServes r && s.on F.CAL_CTRL_REFINE_EN 0 && s.fget F.CAL_STATUS_PHASE 0 != 6 && !s.stn.warm
    && s.stn.elapsed - (s.sec (s.build.sectionOf r)).lastChange ≥ s.fget F.CAL_CFG_SETTLE 0 * 160000

/-- The next step of a stage starts; EYE of a region that reads no Junction is complete. A stage whose values wait for
their commit starts no step. -/
def State.stepStarts (s : State) (r st : Nat) : State :=
  let spot := !(s.fget F.SB_CAL_STAT_PENDING r).testBit st
  let s := if s.fget F.CAL_STATUS_PHASE 0 = 3 then s.fset F.CAL_STATUS_PHASE 0 4 else s
  if st = 2 ∧ (s.build.jctsRead r).isEmpty then s.stageDone r 2
  else s.modCal r fun c => { c with step := some { stage := st, spot }, cur := some st, gapAt := s.stn.elapsed }

/-- No complete bank of the region waits for its commit. -/
def State.bankFree (s : State) (r : Nat) : Bool := (s.calRgn r).bank.all fun b => b.doneAt.isNone

/-- A lane with no stage to serve gives the region up; else the next step of its stage starts. -/
def State.laneStep (s : State) (r : Nat) : State :=
  match s.nextStage r with
  | none => s.laneRelease r
  | some st => s.stepStarts r st

/-- CAL_STEP_START (R251, R252). -/
def execCalStepStart (region : Nat) (s : State) : Host.Outcome State Fault Refusal :=
  s.act fun s => s.iff (s.isRegion region && s.mayStep region && (s.calRgn region).step.isNone && s.bankFree region) fun s =>
    let s := s.fillLanes
    s.iff (s.inLane region) fun s => s.laneStep region

/-- Within a calibration slot the last edge of a unit comes before the slot's end (R250). -/
def State.unitFits (s : State) (r edges : Nat) : Bool :=
  let k := s.build.sectionOf r
  let t := (s.rgn r).tLast
  let fw := s.fwCur k
  let left := (edges - 1) * 65536 * t.den
  !s.on F.SEC_SLOT_ACTIVE k || t.num * (fw : Int) + (left : Nat) < ((s.sec k).slotEnd * t.den * fw : Nat)

/-- A unit may start in the step under way: of a step not yet begun, or begun anew, only as R252 lets a step start; none
during a warm reset, and none before the unit before it has ended (R250, R269). -/
def State.unitMay (s : State) (r : Nat) (st : CalStep) : Bool :=
  (st.started || s.mayStep r) && !s.stn.warm && s.inLane r && st.left == 0 && st.unitEnd != some (s.rgn r).edges

/-- CAL_UNIT_START (R250, R260): at an edge of the region in a gap; an EYE unit only with the Junctions it measures empty,
which it then holds. -/
def execCalUnitStart (region edges : Nat) (s : State) : Host.Outcome State Fault Refusal :=
  s.act fun s =>
    match (s.calRgn region).step with
    | none => s
    | some st =>
      let js := s.eyeJcts region
      s.iff (s.atEdge region && s.inGap region && !(s.rgn region).masked && s.unitMay region st && 1 ≤ edges && edges ≤ 16
          && s.unitFits region edges && js.all fun j => (s.xing j).entries.isEmpty) fun s =>
        let n := (s.rgn region).edges
        let unitEnd := if edges = 1 then some n else st.unitEnd
        let s := s.modCal region fun c => { c with step := some { st with started := true, left := edges - 1, unitEnd } }
        let s := s.iff (1 < edges) fun s => s.each js fun s j => s.setXing j { s.xing j with eyeUnit := true }
        s.iff (st.stage == 1 && (s.rgn region).moved) fun s => s.calDisturb region

/-- A step is abandoned: its region goes to the end of the queue (R253, R284). -/
def State.abandonStep (s : State) (r : Nat) : State :=
  let s := (s.eyeFree r).modCal r fun c => { c with step := none }
  { s with cal := { s.cal with lanes := s.cal.lanes.filter (· != r), queue := s.cal.queue.filter (· != r) ++ [r] } }

/-- CAL_STEP_ABANDON (R253): no edge in a gap for MAX_PAUSE. -/
def execCalStepAbandon (region : Nat) (s : State) : Host.Outcome State Fault Refusal :=
  s.act fun s =>
    let c := s.calRgn region
    let pause := max 1 (s.fget F.CAL_CFG_MAX_PAUSE 0) * 1600000
    s.iff (c.step.isSome && s.stn.elapsed - c.gapAt ≥ pause) fun s => s.abandonStep region

/-! ### Commits (R263–R268) -/

/-- The values of a bank become the calibration store, and live unless the Section is on safe settings; the region's tile
is written again whatever the bank holds (R238, R263, R272). -/
def State.bankValues (s : State) (r : Nat) (b : Bank) : State :=
  let live := !s.on F.SEC_CTRL_SAFE (s.build.sectionOf r)
  let taps := b.taps.getD (s.storeTaps r)
  let s := (s.modCal r fun c => { c with storeTaps := taps }).writeTile r taps
  let s := if live && b.taps.isSome then s.setTaps r taps else s
  let s := match b.trim with
    | some t =>
      let s := s.modCal r fun c => { c with storeTrim := t }
      if live then s.setReg .SB_TC_TRIM r (BitVec.ofNat 32 t) else s
    | none => s
  let s := match b.weights with
    | some w => if live then s.setRgn r { s.rgn r with weights := w } else s
    | none => s
  s.each b.phases fun s (j, wp, rp, eye) =>
    let s := s.setXing j { s.xing j with storeWp := wp, storeRp := rp, storeEye := eye }
    let s := s.fset F.JCT_STAT_EYE j eye
    if live then s.setPhases j wp rp else s

/-- A commit of a region's bank, journaled as one BLOCK entry (R263, R266, R475). -/
def State.commitBank (s : State) (r : Nat) (b : Bank) : State :=
  let old := s.tileCrc r
  let s := (s.bankValues r b).modCal r fun c => { c with bank := none }
  s.journal wCal 2 false (tileAddr r) old (s.tileCrc r)

/-- The narrowest eye of the Junctions a region reads. -/
def State.eyeMinOf (s : State) (r : Nat) : Nat :=
  match (s.build.jctsRead r).map fun j => s.fget F.JCT_STAT_EYE j with
  | [] => 0
  | x :: t => t.foldl min x

/-! ### Requests (R255, R256) -/

/-- The queue of regions with work, in ascending region number (R251). -/
def State.rebuildQueue (s : State) : State :=
  let q := (List.range s.build.nRegions).filter fun r => s.calWaits r && !s.cal.lanes.contains r
  { s with cal := { s.cal with queue := q } }

/-- What stays of a shadow bank when its region's stages are pending again: not the result of a stage. -/
def Bank.kept (b : Bank) : Bool :=
  match b.src with
  | .stage _ => false
  | _ => true

/-- Every stage of a region becomes pending (R256). -/
def State.pendAll (s : State) (r : Nat) : State :=
  let s := (s.eyeFree r).fset F.SB_CAL_STAT_PENDING r 7
  s.modCal r fun c => { c.fresh with spots := 0, bank := c.bank.filter Bank.kept }

/-- Every stage of every region whose HOLD is 0 becomes pending (R256, R283). -/
def State.restartAll (s : State) : State :=
  let s := s.each (List.range s.build.nRegions) fun s r => if s.on F.SB_CAL_CTRL_HOLD r then s else s.pendAll r
  s.rebuildQueue

/-- PHASE reads REFINING once stages are pending again, but not before READY nor while an image is restored (R256, R284;
DEDUCED, log entry 74). -/
def State.phaseRefining (s : State) : State :=
  let ph := s.fget F.CAL_STATUS_PHASE 0
  if ph = 3 ∨ ph = 5 then s.fset F.CAL_STATUS_PHASE 0 4 else s

/-- A write of CAL_CTRL has been stored: RESTART clears once the stages are marked
(R256). -/
def State.calCtrlWritten (s : State) : State :=
  if s.on F.CAL_CTRL_RESTART 0 then ((s.restartAll).fset F.CAL_CTRL_RESTART 0 0).phaseRefining else s

/-- REDO of a stage (R256): it becomes pending; where it is pending already the write merges (R526). A region that HOLD
excludes is not marked, and its bit clears (DEDUCED, log entry 74). -/
def State.redoStage (s : State) (r st : Nat) : State :=
  if s.on F.SB_CAL_CTRL_HOLD r then s.fset (redoFld st) r 0
  else if (s.fget F.SB_CAL_STAT_PENDING r).testBit st then s
  else
    let s := if (s.calRgn r).cur = some st then (s.eyeFree r).modCal r CalRgn.fresh else s
    (s.markPending r st).phaseRefining

/-- A write of SB_CAL_CTRL has been stored: each REDO bit that rose marks its stage (R256). -/
def State.sbCalCtrlWritten (s : State) (r : Nat) (old : Word) : State :=
  s.each (List.range 3) fun s st => if getF old (st + 1) 1 = 0 ∧ s.on (redoFld st) r then s.redoStage r st else s

/-! ### Section initialisation (R242, R243) -/

/-- The number of an initialisation step in its order. -/
def initNum : InitStep → Nat
  | .entry => 0
  | .trim => 1
  | .deskew => 2
  | .eye => 3

/-- The stages that a step of initialisation is for. -/
def initStages : InitStep → List Nat
  | .entry => [0, 1, 2]
  | .trim => [1]
  | .deskew => [0]
  | .eye => [2]

/-- The values of an attempt whose measurements pass, in the shadow bank (R243); Entry fills none. -/
def State.initResult (s : State) (r : Nat) (step : InitStep) (m : CalMeas) : Option State :=
  match step with
  | .entry => if m.ok then some (s.modCal r fun c => { c with init := c.init + 1, initTries := 0 }) else none
  | .trim =>
    match s.trimResult r m with
    | none => none
    | some (mid, t) =>
      let s := s.fset F.SB_CAL_FW_FW_TRIM r (s.fwCur (s.build.sectionOf r))
      some ((s.fillBank r .init fun _ => { trim := some (packTrims t) }).modCal r fun c => { c with trimMid := mid })
  | .deskew =>
    let taps := deskewTaps (meanOf m.a m.b) (s.rgn r).taps
    if m.a.length = 120 ∧ agree 5 m.a m.b ∧ taps.all (· ≤ 127) then
      some (s.fillBank r .init fun _ => { taps := some (taps.map Int.toNat) })
    else none
  | .eye =>
    let js := s.build.jctsRead r
    let res := (List.range js.length).map fun i =>
      eyeResult { a := (m.a.drop (2 * i)).take 2, b := (m.b.drop (2 * i)).take 2 }
    if res.all (fun x => x.2.2.2 && x.2.2.1 ≥ s.fget F.CAL_CFG_EYE_MIN 0) then
      some (s.fillBank r .init fun _ => { phases := List.zipWith (fun j x => (j, x.1, x.2.1, x.2.2.1)) js res })
    else none

/-- The verifying measurement after the commit of a coarse TRIM or DESKEW: whether it passes, and its quality figure
(R243, R258, R259). -/
def State.initVerified (s : State) (r : Nat) (step : InitStep) (m : CalMeas) : Bool × State :=
  match step with
  | .trim =>
    let e := tcErr m.verify (unpackTrims (s.calRgn r).storeTrim) (s.trimKs r) (s.calRgn r).trimMid
    (e ≤ 1, s.fset F.SB_CAL_QUAL_TC_ERR r (satU 3 e))
  | _ =>
    let spread := ((m.verify.head?).getD 255).toNat
    (spread ≤ 20, s.fset F.SB_CAL_QUAL_SKEW_PS r (satU 8 spread))

/-- A Junction of a coarse EYE that fails for good and whose eye is too narrow is named (R262). -/
def State.initEyeEvents (s : State) (r : Nat) (m : CalMeas) : State :=
  let js := s.build.jctsRead r
  s.each (List.range js.length) fun s i =>
    let eye := (eyeResult { a := (m.a.drop (2 * i)).take 2, b := (m.b.drop (2 * i)).take 2 }).2.2.1
    if eye < s.fget F.CAL_CFG_EYE_MIN 0 then s.eyeEvent 2 ((js[i]?).getD 0) eye else s

/-- An initialisation step fails for good: its stages go to safe values, FLAGGED, and the next step follows; after Entry
none does (R242, R246). -/
def State.initFlag (s : State) (r : Nat) (step : InitStep) (v1 v2 : Int) : State :=
  let s := s.each (initStages step) fun s st =>
    let s := ((s.safeBank r st).setFlag F.SB_CAL_STAT_FLAG r).setFlag F.CAL_STATUS_FLAG_SEEN 0
    let s := s.post srcCal 2 1 [pRegion r, .num 2 st, .sgn 8 v1, .sgn 12 v2]
    s.fset (stageFld st) r 3
  s.modCal r fun c =>
    { c with init := if step = .entry then 4 else initNum step + 1, initTries := 0, initVerify := false }

/-- An attempt fails: the fourth is the last (R242). -/
def State.initFails (s : State) (r : Nat) (step : InitStep) (m : CalMeas) : State :=
  if (s.calRgn r).initTries ≥ 3 then
    let s := s.initFlag r step ((m.a.getLast?).getD 0) ((m.b.getLast?).getD 0)
    if step = .eye then s.initEyeEvents r m else s
  else s.modCal r fun c => { c with initTries := c.initTries + 1, initVerify := false }

/-- A disturbed attempt sets the DIST bit of its stage and counts (R248). -/
def State.initDisturbed (s : State) (r : Nat) (step : InitStep) : State :=
  s.each ((initStages step).getLast?).toList fun s st => (s.fset (distFld st) r 1).faddSat F.SB_CAL_CNT_DISTURBED r 1

/-- The first computed tap above 127 of a coarse DESKEW whose measurements agree (R258). -/
def State.initRange (s : State) (r : Nat) (step : InitStep) (m : CalMeas) : Option (Nat × Int) :=
  let taps := deskewTaps (meanOf m.a m.b) (s.rgn r).taps
  if step = .deskew ∧ m.a.length = 120 ∧ agree 5 m.a m.b then
    ((List.range 120).find? fun i => (taps[i]?).getD 0 > 127).map fun i => (i, (taps[i]?).getD 0)
  else none

/-- One attempt of a step, or its verifying measurement. A tap above 127 fails the stage at once (R242, R243, R258). -/
def State.initAttempt (s : State) (r : Nat) (step : InitStep) (m : CalMeas) : State :=
  if m.disturbed then (s.initDisturbed r step).initFails r step m
  else if (s.calRgn r).initVerify then
    let (pass, s) := s.initVerified r step m
    if pass then s.modCal r fun c => { c with init := c.init + 1, initTries := 0, initVerify := false }
    else s.initFails r step m
  else match s.initRange r step m with
    | some (i, t) => (s.post srcCal 2 2 [pRegion r, pOther i, .sgn 14 t]).initFlag r step t t
    | none => match s.initResult r step m with
      | some s => s
      | none => s.initFails r step m

/-- SECTION_INIT_STEP (R242): an attempt of the step whose turn it is; the values of one that passes await their commit, a
verifying measurement follows it. -/
def execSectionInitStep (region : Nat) (step : InitStep) (meas : CalMeas) (s : State) : Host.Outcome State Fault Refusal :=
  s.act fun s =>
    let c := s.calRgn region
    let aligned := (s.build.jctsRead region).all fun j => s.fget F.JCT_STAT_STATE j != 0
    s.iff (s.isRegion region && s.secRuns region && s.clk region == 1 && c.init == initNum step
        && (step != .eye || aligned) && (s.sec (s.build.sectionOf region)).released && c.bank.isNone && c.step.isNone) fun s =>
      s.initAttempt region step meas

/-! ### CAL_COMMIT (R263, R264) -/

/-- The initialisation step of a number. -/
def initStepOf : Nat → InitStep
  | 0 => .entry
  | 1 => .trim
  | 2 => .deskew
  | _ => .eye

/-- After a commit: a stage in progress is to be verified, or, EYE, has passed (R258, R259, R262); so in Section
initialisation. -/
def State.afterCommit (s : State) (r : Nat) (b : Bank) : State :=
  match b.src with
  | .stage 2 =>
    let s := s.each b.phases fun s p => s.setXing p.1 { s.xing p.1 with eyeState := 1 }
    (s.fset F.SB_CAL_QUAL_EYE_MIN r (s.eyeMinOf r)).stageDone r 2
  | .stage _ => s.modCal r fun c => { c with verify := true }
  | .init =>
    if (s.calRgn r).init = 3 then
      (s.fset F.SB_CAL_QUAL_EYE_MIN r (s.eyeMinOf r)).modCal r fun c => { c with init := 4, initTries := 0 }
    else s.modCal r fun c => { c with initVerify := true }
  | _ => s

/-- A shadow bank fails its CRC: discarded, the live values kept, TILE_ERR set; the stage runs again, or its safe values
fill the bank again (R246, R264). -/
def State.bankBad (s : State) (r : Nat) (b : Bank) : State :=
  let s := (s.modCal r fun c => { c with bank := none }).setFlag F.SB_TAP_CTRL_TILE_ERR r
  match b.src with
  | .stage n =>
    let s := s.stageFails r n 0 0
    if s.isFlagged r n then s.each b.phases fun s p => s.eyeEvent n p.1 p.2.2.2 else s
  | .init => s.initFails r (initStepOf (s.calRgn r).init) {}
  | .image => s
  | _ => s.modCal r fun c => { c with bank := some { b with doneAt := some s.count } }

/-- A complete bank may commit: at a count that is a multiple of 64, at least 32 tk after it was complete (R263). -/
def State.commitEdge (s : State) (doneAt : Option Nat) : Bool := s.count % 64 == 0 && doneAt.any fun t => t + 32 ≤ s.count

/-! ### Spot checks (R285, R286) -/

/-- The spindles of the DESKEW groups that a region's spot check measures (R285). -/
def spotSpindles (r : Nat) : List Nat :=
  [0, 8, 16, 24].flatMap fun d => (List.range 4).map fun i => 4 * ((r + d) % 30) + i

/-- The taps that one measurement of the spot groups gives, from arrival offsets against segment 0, in 0.5 ps, and the taps
in force; halves round up (DEDUCED, log entry 74). -/
def State.spotTaps (s : State) (r : Nat) (offs : List Int) : List Int :=
  List.zipWith (fun (i : Nat) (a : Int) => ((((s.rgn r).taps[i]?).getD 0 : Nat) : Int) + (5 - 2 * a) / 10) (spotSpindles r) offs

/-- The restored taps of the spot groups. -/
def State.spotStored (s : State) (r : Nat) : List Int :=
  (spotSpindles r).map fun i => ((((s.storeTaps r)[i]?).getD 0 : Nat) : Int)

/-- The centres of one EYE measurement of a Junction, its write path and its read path, against its phase record. -/
def State.spotEye (s : State) (j : Nat) (masks : List Int) : Bool :=
  let c (i : Nat) : Int := (((eyesOf masks)[i]?).map (fun e => (e.2 : Int))).getD 0
  (c 0 - (s.xing j).storeWp).natAbs ≤ 1 && (c 1 - (s.xing j).storeRp).natAbs ≤ 1

/-- The spot check passes: its two measurements agree with each other, and each with the restored values (R285). -/
def State.spotPasses (s : State) (r st : Nat) (m : CalMeas) : Bool :=
  match st with
  | 0 => m.a.length == 16 && agree 5 m.a m.b && agree 1 (s.spotTaps r m.a) (s.spotStored r)
      && agree 1 (s.spotTaps r m.b) (s.spotStored r)
  | 1 =>
    let stored := unpackTrims (s.calRgn r).storeTrim
    let trims (q : List Int) : List Int := (trimsOf (s.trimKs r) q).2
    (s.trimResult r m).isSome && agree 1 (trims m.a) stored && agree 1 (trims m.b) stored
  | _ =>
    let js := s.build.jctsRead r
    m.a.length == 2 * js.length && m.b.length == 2 * js.length && (List.range js.length).all fun i =>
      let a := (m.a.drop (2 * i)).take 2
      let b := (m.b.drop (2 * i)).take 2
      let j := (js[i]?).getD 0
      (eyeResult { a, b }).2.2.2 && s.spotEye j a && s.spotEye j b

/-- CAL_SPOT_CHECK (R285, R286). -/
def execCalSpotCheck (region : Nat) (stage : Stage) (meas : CalMeas) (s : State) : Host.Outcome State Fault Refusal :=
  s.act fun s =>
    let st := stageCode stage
    s.iff ((s.calRgn region).step.any (fun x => x.stage == st && x.spot && x.started && x.left == 0)) fun s =>
      if s.spotPasses region st meas then s.stageDone region st
      else
        let s := (s.post srcCal 2 6 [pRegion region, .num 2 st]).faddSat F.SB_CAL_CNT_SPOT_FAIL region 1
        let s := s.modCal region CalRgn.fresh
        let s := { s with cal := { s.cal with lanes := s.cal.lanes.filter (· != region) } }
        s.markPending region st

end Sys2Proof.Machine
end

