-- ==== Sys2Proof/Machine/CalImage.lean ====
section
/-! DEFINITION. The calibration image: its layout, save and restore (R275–R284). -/

namespace Sys2Proof.Machine

/-! ### Layout (R275) -/

/-- Bytes padded with zeros to a length. -/
def padTo (n : Nat) (l : List Nat) : List Nat := l ++ List.replicate (n - l.length) 0

/-- A tile: 252 bytes and their CRC. -/
def imgTile (body : List Nat) : List Nat :=
  let b := padTo 252 body
  b ++ leBytes 4 (crc32c b)

/-- N_XTILES. -/
def Build.xTiles (b : Build) : Nat := (b.junctions.length + 119) / 120

/-- The header tile. -/
def State.imgHeader (s : State) (gen tick : Nat) : List Nat :=
  let b := s.build
  imgTile ([0x54, 0x4C, 0x43, 0x49] ++ leBytes 2 1 ++ leBytes 2 0 ++ leBytes 4 (s.reg .STN_ID 0).toNat ++ leBytes 4 b.sig
    ++ leBytes 8 gen ++ leBytes 2 b.nRegions ++ leBytes 2 b.junctions.length ++ leBytes 2 b.xTiles ++ leBytes 2 0
    ++ leBytes 8 tick)

/-- The 192-bit field of the weights. -/
def packWeights (w : List Nat) : Nat := (w.map (· % 4096)).foldr (fun x acc => x + 4096 * acc) 0

/-- The tile of a region: the calibration store and the live weights. -/
def State.imgRegion (s : State) (gen r : Nat) : List Nat :=
  let states := getF (s.reg .SB_CAL_STAT r) 0 8
  imgTile ([1, states] ++ leBytes 2 r ++ leBytes 4 gen ++ (s.storeTaps r).map (· % 128) ++ leBytes 4 (s.calRgn r).storeTrim
    ++ leBytes 4 (s.fget F.SB_CAL_FW_FW_TRIM r) ++ leBytes 24 (packWeights (s.rgn r).weights)
    ++ [s.fget F.SB_CAL_QUAL_SKEW_PS r, s.fget F.SB_CAL_QUAL_TC_ERR r, s.fget F.SB_CAL_QUAL_EYE_MIN r])

/-- The record of a Junction. -/
def State.imgRecord (s : State) (j : Nat) : List Nat :=
  let x := s.xing j
  let r := ((s.build.junctions[j]?).map (·.reader)).getD 0
  [x.storeWp % 16 * 16 + x.storeRp % 16, x.storeEye % 32 + s.fget F.SB_CAL_STAT_EYE r * 32]

/-- Crossing tile `x`. -/
def State.imgCross (s : State) (gen x : Nat) : List Nat :=
  let recs := (List.range 120).flatMap fun i =>
    if 120 * x + i < s.build.junctions.length then s.imgRecord (120 * x + i) else [0, 0]
  imgTile ([2, 0] ++ leBytes 2 x ++ leBytes 4 gen ++ recs)

/-- The image's tile at a position, the header at 0. -/
def State.imgTileAt (s : State) (gen tick i : Nat) : List Nat :=
  if i = 0 then s.imgHeader gen tick
  else if i ≤ s.build.nRegions then s.imgRegion gen (i - 1)
  else s.imgCross gen (i - 1 - s.build.nRegions)

/-- Tiles of the image. -/
def Build.imgTiles (b : Build) : Nat := 1 + b.nRegions + b.xTiles

/-- The image's address and the GEN and MIN registers. -/
def State.imgAddr (s : State) : Nat := s.fget F.CAL_IMG_ADDR_HI_ADDR 0 * 2 ^ 32 + s.fget F.CAL_IMG_ADDR_LO_ADDR 0 * 256
def State.imgGen (s : State) : Nat := s.fget F.CAL_IMG_GEN_HI_GEN 0 * 2 ^ 32 + s.fget F.CAL_IMG_GEN_LO_GEN 0
def State.imgMin (s : State) : Nat := s.fget F.CAL_IMG_MIN_HI_MIN 0 * 2 ^ 32 + s.fget F.CAL_IMG_MIN_LO_MIN 0

/-! ### Starting (R276, R280, R284) -/

/-- A save starts: commits are held, the address, GEN and tick are taken, and its tiles go out over AXI (R275, R276). -/
def State.saveStart (s : State) : State :=
  let o : ImgOp := { addr := s.imgAddr, gen := s.imgGen, tick := s.count }
  let s := { s with cal := { s.cal with save := some o, saveHeld := false } }
  (s.fset F.CAL_STATUS_SAVING 0 1).fset F.CAL_IMG_SEQ_NOT_READY 0 1

/-- A restore starts: PHASE reads RESTORING, steps under way are abandoned (R284). -/
def State.restoreStart (s : State) : State :=
  let s := { s with cal := { s.cal with restore := some { addr := s.imgAddr, tick := s.count }, restoreHeld := false } }
  let s := (s.fset F.CAL_STATUS_PHASE 0 6).fset F.CAL_IMG_SEQ_NOT_READY 0 1
  s.each s.cal.lanes fun s r => if (s.calRgn r).step.isSome then s.abandonStep r else s

/-! ### The transactions (R276, R281, R527, R531) -/

/-- The transaction of a tile position, or its refusal beyond 2^40, which counts as an error response (R531). -/
def State.imgTxn (s : State) (write : Bool) (addr : Nat) (data : List Nat) : State :=
  if axFits addr 256 then s.axiIssue write axImage addr 16 16 data else s.axiRange axImage

/-- The error that a transaction beyond 2^40 counts as. -/
def imgErr (addr i : Nat) (err : Option Nat) : Option Nat := if axFits addr 256 then err else some (err.getD i)

/-- The next tile of a save: the region tiles, then the crossing tiles; none after an error response (R276, R278). -/
def State.saveIssue (s : State) (o : ImgOp) : State :=
  let i := o.pos + 1
  if o.err.isSome || s.build.imgTiles ≤ i then s
  else
    let a := o.addr + 256 * i
    let s := s.imgTxn true a (s.imgTileAt o.gen o.tick i)
    { s with cal := { s.cal with save := some { o with pos := i, err := imgErr a i o.err } } }

/-- The header of a save, after the responses of all its tiles (R276). -/
def State.saveHeader (s : State) (o : ImgOp) : State :=
  let s := s.imgTxn true o.addr (s.imgTileAt o.gen o.tick 0)
  { s with cal := { s.cal with save := some { o with hdr := true, err := imgErr o.addr 0 o.err } } }

/-- The next read of a restore: the image in position order, twice (R281, R527). -/
def State.restoreIssue (s : State) (o : ImgOp) : State :=
  let n := s.build.imgTiles
  if o.err.isSome || 2 * n ≤ o.pos then s
  else
    let i := o.pos % n
    let a := o.addr + 256 * i
    let s := s.imgTxn false a []
    { s with cal := { s.cal with restore := some { o with pos := o.pos + 1, err := imgErr a i o.err } } }

/-- An error response to an image transaction outstanding (R278, R281, R532, R533): of a restore, at the tile read last. -/
def State.imgError (s : State) : State :=
  let n := s.build.imgTiles
  let mark (o : ImgOp) : ImgOp :=
    if o.pos = 0 ∨ o.loaded.isSome then o else { o with err := some (o.err.getD ((o.pos - 1) % n)) }
  { s with cal := { s.cal with save := s.cal.save.map mark, restore := s.cal.restore.map mark } }

/-- Start what is held and may start: a restore once PHASE has reached READY, one operation at a time; during a warm reset
what is held stays held (R280, R537). -/
def State.imgNext (s : State) : State :=
  if s.cal.save.isSome || s.cal.restore.isSome || s.stn.warm then s
  else if s.cal.saveHeld then s.saveStart
  else if s.cal.restoreHeld && s.fget F.CAL_STATUS_PHASE 0 ≥ 3 then s.restoreStart
  else s

/-- A write of CAL_IMG_CTRL has been stored: a bit that rises asks for its operation; a repeated write merges (R280). -/
def State.imgCtrlWritten (s : State) (old : Word) : State :=
  let s := if getF old 0 1 = 0 ∧ s.on F.CAL_IMG_CTRL_SAVE 0 then { s with cal := { s.cal with saveHeld := true } } else s
  let s := if getF old 1 1 = 0 ∧ s.on F.CAL_IMG_CTRL_RESTORE 0 then
      { s with cal := { s.cal with restoreHeld := true } } else s
  s.imgNext

/-! ### Ending -/

/-- The result registers of a save (1) or restore (2), at one tick edge (R277, R281). -/
def State.imgResult (s : State) (op reason tile gen : Nat) : State :=
  let s := (s.fset F.CAL_IMG_RESULT_OP 0 op).fsetB F.CAL_IMG_RESULT_FAILED 0 (reason != 0)
  let s := (s.fset F.CAL_IMG_RESULT_REASON 0 reason).fset F.CAL_IMG_RESULT_TILE 0 tile
  let s := (s.fset F.CAL_IMG_DONE_LO_GEN 0 gen).fset F.CAL_IMG_DONE_HI_GEN 0 (gen / 2 ^ 32)
  let s := (s.faddWrap F.CAL_IMG_SEQ_SEQ 0 1).fset F.CAL_IMG_SEQ_NOT_READY 0 0
  s.setFlag F.HIF_IRQ_SRC_IMG_DONE 0

/-- The save ends, for a reason that is 0 on success; the commits that it held go on (R276–R278). -/
def State.saveEnds (s : State) (reason gen : Nat) : State :=
  let s := (s.imgResult 1 reason 0 gen).fset F.CAL_STATUS_SAVING 0 0
  let s := s.fset F.CAL_IMG_CTRL_SAVE 0 0
  ({ s with cal := { s.cal with save := none, imgLen := 256 * s.build.imgTiles } }).heldCommits

/-- The save succeeds (R277). -/
def State.saveGood (s : State) (gen : Nat) : State := ((s.saveEnds 0 gen).post srcCal 2 7 [.num 32 (gen % 2 ^ 32)]).imgNext

/-- A response of the save is in: the save fails with an error response, issues its header after its last tile's response,
and succeeds with the header's (R276, R278). -/
def State.saveAnswer (s : State) (o : ImgOp) (ok : Bool) : State :=
  if o.err.isSome || !ok then (s.saveEnds 9 o.gen).imgNext
  else if o.hdr then s.saveGood o.gen
  else s.saveHeader o

/-- CAL_IMG_SAVE_DONE (R276–R278): the responses of every tile are in, or, once the header is issued, the header's; `ok`:
without an error. -/
def execCalImgSaveDone (ok : Bool) (s : State) : Host.Outcome State Fault Refusal :=
  s.act fun s =>
    match s.cal.save with
    | none => s
    | some o => s.iff (o.err.isSome || (o.pos != 0 && !ok) || (o.pos + 1 == s.build.imgTiles && !s.axi.held)) fun s =>
      s.saveAnswer o ok

/-- A little-endian field of a tile. -/
def tileFld (t : List Nat) (lo n : Nat) : Nat := leNat ((t.drop lo).take n)

/-- A tile's CRC holds. -/
def tileCrcOk (t : List Nat) : Bool := t.length == 256 && crc32c (t.take 252) == tileFld t 252 4

/-- KIND and REGION or INDEX of the tile at a position (R281, check 7). -/
def Build.tilePlaced (b : Build) (i : Nat) (t : List Nat) : Bool :=
  if i ≤ b.nRegions then tileFld t 0 1 == 1 && tileFld t 2 2 == i - 1
  else tileFld t 0 1 == 2 && tileFld t 2 2 == i - 1 - b.nRegions

/-- The first position from 1 that fails a check, among the tiles read without an error response. -/
def firstBad (ok : Nat → List Nat → Bool) (err : Option Nat) (tiles : List (List Nat)) (n : Nat) : Option Nat :=
  ((List.range n).drop 1).find? fun i => err != some i && !ok i ((tiles[i]?).getD [])

/-- The first check that fails: its REASON and TILE (R281). -/
def State.imgCheck (s : State) (img : ImageIn) : Option (Nat × Nat) :=
  let b := s.build
  let h := (img.tiles.head?).getD []
  let n := b.imgTiles
  let read := img.error != some 0
  if read && (tileFld h 0 4 != 0x49434C54 || tileFld h 4 2 != 1) then some (1, 0)
  else if read && !tileCrcOk h then some (2, 0)
  else if read && (tileFld h 8 4 != (s.reg .STN_ID 0).toNat || tileFld h 12 4 != b.sig || tileFld h 24 2 != b.nRegions
      || tileFld h 26 2 != b.junctions.length || tileFld h 28 2 != b.xTiles) then some (3, 0)
  else if read && tileFld h 16 8 < s.imgMin then some (4, 0)
  else
    let bad (ok : Nat → List Nat → Bool) := firstBad ok img.error img.tiles n
    match bad (fun _ t => tileCrcOk t) with
    | some i => some (5, i)
    | none => match bad (fun _ t => !read || tileFld t 4 4 == tileFld h 16 4) with
      | some i => some (6, i)
      | none => match bad b.tilePlaced with
        | some i => some (7, i)
        | none => match img.differ with
          | some i => some (8, i)
          | none => img.error.map fun i => (9, i)

/-- The bank of a region from its tile and its Junctions' records: stages saved DONE or RESTORED (R282). -/
def State.imgBank (s : State) (r : Nat) (t : List Nat) (rec : Nat → List Nat) : Bank :=
  let st (lo : Nat) : Nat := tileFld t 1 1 / 2 ^ lo % 4
  let good (n : Nat) : Bool := n == 1 || n == 2
  { taps := if good (st 0) then some (((t.drop 8).take 120).map (· % 128)) else none
    trim := if good (st 2) then some (tileFld t 0x80 4) else none
    weights := if st 6 ≥ 2 then some ((List.range 16).map fun k => tileFld t 0x88 24 / 4096 ^ k % 4096) else none
    phases := if good (st 4) then
        (s.build.jctsRead r).map fun j => (j, tileFld (rec j) 0 1 / 16, tileFld (rec j) 0 1 % 16, tileFld (rec j) 1 1 % 32)
      else []
    src := .image }

/-- One restored stage becomes RESTORED and awaits its spot check; one not restored becomes pending (R282, R285). -/
def State.restoreStage (r : Nat) (t : List Nat) (s : State) (st : Nat) : State :=
  let saved := tileFld t 1 1 / 2 ^ (2 * st) % 4
  let s := s.modCal r CalRgn.fresh
  if saved = 1 ∨ saved = 2 then
    let s := (s.fset (stageFld st) r 2).fset F.SB_CAL_STAT_PENDING r (s.fget F.SB_CAL_STAT_PENDING r &&& (7 - 2 ^ st))
    let s := s.modCal r fun c => { c with spots := c.spots ||| 2 ^ st }
    match st with
    | 0 => s.fset F.SB_CAL_QUAL_SKEW_PS r (tileFld t 0xA0 1)
    | 1 => (s.fset F.SB_CAL_QUAL_TC_ERR r (tileFld t 0xA1 1)).fset F.SB_CAL_FW_FW_TRIM r (tileFld t 0x84 4)
    | _ => s.fset F.SB_CAL_QUAL_EYE_MIN r (tileFld t 0xA2 1)
  else
    let s := s.fset F.SB_CAL_STAT_PENDING r (s.fget F.SB_CAL_STAT_PENDING r ||| 2 ^ st)
    s.modCal r fun c => { c with spots := c.spots &&& (7 - 2 ^ st) }

/-- The record of a Junction in an image. -/
def Build.imgRec (b : Build) (img : ImageIn) (j : Nat) : List Nat :=
  let x := (img.tiles[1 + b.nRegions + j / 120]?).getD []
  (x.drop (8 + 2 * (j % 120))).take 2

/-- The second pass loads a region's shadow bank, complete now; its tile stays with it until the commit (R282). -/
def State.loadBank (img : ImageIn) (s : State) (r : Nat) : State :=
  if s.on F.SB_CAL_CTRL_HOLD r then s
  else
    let b := s.imgBank r ((img.tiles[r + 1]?).getD []) (s.build.imgRec img)
    s.modCal r fun c => { c with bank := some { b with doneAt := some s.count } }

/-- One region restored (R282). A shadow bank that fails its CRC is discarded, and its region's stages run in full (R264;
DEDUCED, log entry 75). -/
def State.restoreRegion (img : ImageIn) (s : State) (r : Nat) : State :=
  match (s.calRgn r).bank with
  | none => s
  | some b =>
    if b.src != .image then s
    else if s.on F.SB_CAL_CTRL_HOLD r then s.modCal r fun c => { c with bank := none }
    else if img.crcBad.contains r then (s.bankBad r b).pendAll r
    else
      let t := (img.tiles[r + 1]?).getD []
      let s := s.commitBank r b
      let s := s.each [0, 1, 2] (State.restoreStage r t)
      if tileFld t 1 1 / 64 % 4 ≥ 2 then (s.fset F.SB_CAL_STAT_PROFILE r 3).modCal r fun c => { c with learn := 0 }
      else s.checkLearning r

/-- The shadow banks of a restore that ends without its commit are dropped. -/
def State.dropImage (s : State) : State :=
  s.each (List.range s.build.nRegions) fun s r =>
    if (s.calRgn r).bank.any fun b => b.src == .image then s.modCal r fun c => { c with bank := none } else s

/-- PHASE after a restore (R254, R284). -/
def State.phaseAfter (s : State) : State :=
  let busy := (List.range s.build.nRegions).any s.calWaits
  let s := s.fset F.CAL_STATUS_PHASE 0 4
  if busy then s else s.checkRefined

/-- The restore ends. -/
def State.restoreEnds (s : State) (reason tile gen : Nat) : State :=
  let s := (s.imgResult 2 reason tile gen).fset F.CAL_IMG_CTRL_RESTORE 0 0
  { s with cal := { s.cal with restore := none } }

/-- The image is refused (R283). -/
def State.imgRefused (s : State) (reason tile gen : Nat) : State :=
  let s := (s.restoreEnds reason tile gen).restartAll
  ((s.phaseAfter).post srcCal 2 4 [pEnum reason, .num 28 tile]).imgNext

/-- The reads that a verdict rests on are made: the header's, the first pass, or both passes (R281). -/
def imgRead (n reason : Nat) (o : ImgOp) : Bool :=
  if o.err.isSome then true
  else if reason ≤ 4 then 1 ≤ o.pos
  else if reason ≤ 7 then n ≤ o.pos
  else if reason = 8 then 2 * n ≤ o.pos
  else 1 ≤ o.pos

/-- Every check has passed: the shadow banks are loaded (R282). -/
def State.imgLoad (s : State) (o : ImgOp) (img : ImageIn) (gen : Nat) : State :=
  let s := s.each (List.range s.build.nRegions) (State.loadBank img)
  { s with cal := { s.cal with restore := some { o with gen, loaded := some s.count } } }

/-- The commit of a restore: every region at one tick edge (R282). -/
def State.imgCommit (s : State) (img : ImageIn) (gen : Nat) : State :=
  let s := s.each (List.range s.build.nRegions) (State.restoreRegion img)
  let s := (s.restoreEnds 0 0 gen).rebuildQueue
  ((s.phaseAfter).post srcCal 2 5 [.num 32 (gen % 2 ^ 32)]).imgNext

/-- The verdict on an image read (R281). -/
def State.imgVerdict (s : State) (o : ImgOp) (img : ImageIn) : State :=
  let n := s.build.imgTiles
  let gen := tileFld ((img.tiles.head?).getD []) 16 8
  let img := { img with error := img.error.orElse fun _ => o.err }
  match s.imgCheck img with
  | some (reason, tile) => s.iff (imgRead n reason o) fun s => s.imgRefused reason tile gen
  | none => s.iff (2 * n ≤ o.pos) fun s => s.imgLoad o img gen

/-- The generation that CAL_IMG_DONE holds. -/
def State.doneGen (s : State) : Nat := s.fget F.CAL_IMG_DONE_HI_GEN 0 * 2 ^ 32 + s.fget F.CAL_IMG_DONE_LO_GEN 0

/-- A warm reset ends the save or the restore in progress; what is held stays held (R269, R280, R537). -/
def State.imgWarm (s : State) : State :=
  let s := if s.cal.save.isSome then s.saveEnds 10 s.doneGen else s
  if s.cal.restore.isSome then ((s.dropImage).restoreEnds 10 0 s.doneGen).phaseAfter else s

/-- A warm reset: steps are aborted, saves and restores end (R269, R537). -/
def State.calWarm (s : State) : State :=
  let s := s.each (List.range s.build.nRegions) fun s r =>
    match (s.calRgn r).step with
    | some st => (s.eyeFree r).modCal r fun c => { c with step := some { st with started := false, volt := none, left := 0 } }
    | none => s
  s.imgWarm

end Sys2Proof.Machine
end

