-- ==== Sys2Proof/Machine/Mileage.lean ====
section
/-! DEFINITION. The Mileage store: the window's end and the snapshots (R482–R486). -/

namespace Sys2Proof.Machine

/-- The bin of the window's highest Slip Ledger (R482, histogram 0). -/
def binLedger (l : Nat) : Nat :=
  if l ≤ 80 then (l + 7) / 8 else if l ≤ 92 then 11 + (l - 81) / 4 else if l ≤ 95 then 14 else 15

/-- The bin of the lowest voltage average, in mV (histogram 2). -/
def binVolt (mv : Nat) : Nat := if mv < 540 then 0 else min 15 ((mv - 520) / 20)

/-- The bin of the highest thermal reading, in 0.25 °C (histogram 3). -/
def binTemp (t : Int) : Nat := if t < 0 then 0 else min 15 (t.toNat / 32 + 1)

/-- The bin of the stretch placed, in ph (histogram 4): the number of powers of 4 that it reaches. -/
def binStretch (n : Nat) : Nat := ((List.range 15).filter (fun i => 4 ^ i ≤ n)).length

/-- The bin of the frequency word in force (histogram 7). -/
def binFw (fw : Nat) : Nat := min 15 ((fw - 12288) / 8192)

/-- Add one to a bin, which saturates; its first saturation sets MIL_SAT's bit and is reported (R486). -/
def State.milBin (s : State) (r : Nat) (hb : Nat × Nat) : State :=
  let m := s.mile r
  let i := 16 * hb.1 + hb.2
  let v := Store.getD 0 m.bins i
  if v + 1 < 2 ^ 32 - 1 then s.setMile r { m with bins := Store.setD 0 m.bins i (v + 1) }
  else if v + 1 = 2 ^ 32 - 1 then
    (s.setMile r { m with bins := Store.setD 0 m.bins i (v + 1), satH := m.satH ||| 2 ^ hb.1 }).post srcLog 7 0x20
      [pRegion r, pEnum 0, pOther i]
  else s

/-- Add a window's total to a counter in its unit, carrying what is below one unit (R483, R486). -/
def State.milCount (s : State) (r : Nat) (cu : Nat × Nat × Nat) : State :=
  let (c, unit, total) := cu
  let m := s.mile r
  let t := Store.getD 0 m.carry c + total
  let v := Store.getD 0 m.cnts c
  let v' := min (2 ^ 48 - 1) (v + t / unit)
  let m' := { m with cnts := Store.setD 0 m.cnts c v', carry := Store.setD 0 m.carry c (t % unit) }
  if v < 2 ^ 48 - 1 ∧ v' = 2 ^ 48 - 1 then
    (s.setMile r { m' with satC := m.satC ||| 2 ^ c }).post srcLog 7 0x20 [pRegion r, pEnum 1, pOther c]
  else s.setMile r m'

/-- The bins that a region's window adds to (R482). -/
def State.milBins (s : State) (r : Nat) : List (Nat × Nat) :=
  let w := (s.rgn r).mile
  let mv := w.lowMv.getD (s.fget F.SB_VSENSE_MV r)
  let temp := w.maxTemp.getD (signed 16 (s.fget F.SB_TEMP_TEMP r))
  let always := [(2, binVolt mv), (3, binTemp temp), (6, min 15 (16 * w.gated / 1600000)),
    (7, binFw (s.fget F.SEC_FW_STATUS_FW_CUR (s.build.sectionOf r)))]
  if w.edges = 0 then always
  else
    [(0, binLedger w.maxLedger)] ++ (match w.lowVote with | some v => [(1, min 15 (v / 2))] | none => [])
      ++ always ++ [(4, binStretch w.str), (5, min 15 (w.act / w.edges))]

/-- The counters with their units and the window's totals (R483). -/
def MileWin.totals (w : MileWin) : List (Nat × Nat × Nat) :=
  [(0, 65536, w.edges), (1, 65536, w.gated), (2, 65536, w.str), (3, 65536, w.sym), (4, 65536, w.cu), (5, 65536, w.woff),
   (6, 65536, w.denied), (7, 65536, w.alarms), (8, 1, w.strobes), (9, 1, w.viols), (10, 1, w.excl), (11, 1, w.grants),
   (12, 1, w.faults), (13, 1, w.posts), (14, 1000000, w.energy), (15, 1, w.hot)]

/-- One region's window ends. -/
def State.milRegion (s : State) (r : Nat) : State :=
  let s := if (s.sec (s.build.sectionOf r)).everReleased then
      let w := (s.rgn r).mile
      (s.each (s.milBins r) (fun s hb => s.milBin r hb)).each w.totals (fun s cu => s.milCount r cu)
    else s
  s.setRgn r { s.rgn r with mile := { maxLedger := (s.rgn r).ledA } }

/-- The window end of the present tick edge, once, where its count is a multiple of 1,600,000 (R482). -/
def State.milWindow (s : State) : State :=
  if s.build.optMileage && s.stn.locked && s.count % 1600000 == 0 && s.stn.milWin != s.stn.elapsed then
    (s.setStn { s.stn with milWin := s.stn.elapsed }).each (List.range s.build.nRegions) State.milRegion
  else s

/-- MILEAGE_WINDOW_END (R482). -/
def execMileageWindowEnd (s : State) : Host.Outcome State Fault Refusal := s.act State.milWindow

/-- A snapshot is requested; a second request merges and clears when either asked to (R484, R485). -/
def State.milRequest (s : State) (clear : Bool) : State :=
  if s.build.optMileage then
    let q := match s.milSnap with
      | some q => { q with clear := q.clear || clear }
      | none => { region := s.fget F.MIL_CTRL_REGION 0, clear, asked := s.stn.elapsed }
    { s.fset F.MIL_SEQ_NOT_READY 0 1 with milSnap := some q }
  else s

/-- A write of MIL_CTRL has been stored. -/
def State.milCtrlWritten (s : State) : State :=
  let s := if s.on F.MIL_CTRL_SNAP 0 then s.milRequest false else s
  if s.on F.MIL_CTRL_SNAP_CLR 0 then s.milRequest true else s

/-- The snapshot registers take a region's bins and counters (R484). -/
def State.milCopy (s : State) (m : Mile) : State :=
  let s := s.each (List.range 128) fun s i => s.setReg .MIL_HIST i (BitVec.ofNat 32 (Store.getD 0 m.bins i))
  let s := s.each (List.range 16) fun s c =>
    (s.setReg .MIL_CNT_LO c (BitVec.ofNat 32 (Store.getD 0 m.cnts c))).setReg .MIL_CNT_HI c
      (BitVec.ofNat 32 (Store.getD 0 m.cnts c / 2 ^ 32))
  (s.fset F.MIL_SAT_HIST 0 m.satH).fset F.MIL_SAT_CNT 0 m.satC

/-- The pending snapshot is made at this tick edge, its window end included (R484, R485). -/
def State.milSnapshot (s : State) : State :=
  match s.milSnap with
  | none => s
  | some q =>
    let s := s.milWindow
    let real := q.region < s.build.nRegions
    let m := if real then s.mile q.region else {}
    let s := s.milCopy m
    let s := if q.clear && real then s.setMile q.region { carry := m.carry } else s
    let s := s.fset F.MIL_SNAP_INFO_REGION 0 q.region
    let s := s.fsetB F.MIL_SNAP_INFO_CLEARED 0 (q.clear && real)
    let s := s.setReg .MIL_SNAP_TICK_LO 0 (BitVec.ofNat 32 s.count)
    let s := s.setReg .MIL_SNAP_TICK_HI 0 (BitVec.ofNat 32 (s.count / 2 ^ 32))
    let s := s.fset F.MIL_SEQ_NOT_READY 0 0
    let s := s.faddWrap F.MIL_SEQ_SEQ 0 1
    let s := (s.fset F.MIL_CTRL_SNAP 0 0).fset F.MIL_CTRL_SNAP_CLR 0 0
    { s.setFlag F.HIF_IRQ_SRC_MIL_DONE 0 with milSnap := none }

/-- A snapshot that nothing has made 64 tk after its request is made at that tick edge (R484). -/
def State.milDue (s : State) : State := s.iff (s.milSnap.any (·.asked + 64 ≤ s.stn.elapsed)) State.milSnapshot

/-- MIL_SNAP_DONE (R484). `corrected`: bits of the Mileage RAM that the copy's read corrects (R493). -/
def execMilSnapDone (corrected : Nat) (s : State) : Host.Outcome State Fault Refusal :=
  s.act fun s => s.iff s.milSnap.isSome fun s => (s.faddSat F.EVT_STATUS_CORR 0 corrected).milSnapshot

end Sys2Proof.Machine
end

