-- ==== Sys2Proof/Machine/Pmbus.lean ====
section
/-! DEFINITION. The PMBus host: its start, precedence, telemetry, alerts, host requests (R424–R430). -/

namespace Sys2Proof.Machine

def State.pmbRail (s : State) (n : Nat) : PmbRail := Store.getD {} s.pmb.rails n
def State.setPmb (s : State) (v : Pmb) : State := { s with pmb := v }
def State.setPmbRail (s : State) (n : Nat) (v : PmbRail) : State :=
  s.setPmb { s.pmb with rails := Store.setD {} s.pmb.rails n v }

/-- A READ_VOUT word in mV, by VOUT_MODE's exponent (ULINEAR16). -/
def State.voutMv (s : State) (rail w : Nat) : Nat :=
  let n := (s.pmbRail rail).expo
  let m : Int := (w % 2 ^ 16 * 1000 : Nat)
  satU 10 (if n < 0 then divOpen m (2 ^ n.natAbs) else m * 2 ^ n.toNat).toNat

/-! ### The next transaction (R426) -/

/-- ALERT# is ignored until the host clears ALERT_STUCK (R429). -/
def Pmb.ignores (p : Pmb) : Bool := 3 ≤ p.sameAddr || 3 ≤ p.nacks

/-- The rail whose raise step is read next: one without a reading first. -/
def State.confirmRail (s : State) : Option Nat :=
  let l := (List.range s.build.nRails).filter fun n =>
    s.on F.GOV_RAIL_CFG_TELEM n && (s.govRail n).raising.any (fun t => !s.raiseOk n t) && !s.pmb.vouts.any (fun x => x.1 == n)
  match l.find? fun n => (s.govRail n).reading.isNone with
  | some n => some n
  | none => l.head?

/-- The reads of a telemetry round (R427): rails that lost telemetry have their own tries (R428). -/
def State.roundReads (s : State) : List PTxn :=
  ((List.range s.build.nRails).filter fun n => s.on F.GOV_RAIL_CFG_TELEM n && !s.on F.GOV_RAIL_STAT_TELEM_FAIL n).flatMap
    fun n => if s.build.bareRail n then [.iout n, .vout n] else [.iout n]

/-- The start of R424 for every rail. -/
def State.startReads (s : State) : List PTxn := (List.range s.build.nRails).flatMap fun n => [.mode n, .startVout n]

/-- The start completes: VCMD and VCONF take the readings; a rail with MODE_ERR keeps both (R422, R424). -/
def State.startEnds (s : State) : State :=
  let s := s.setPmb { s.pmb with started := true }
  s.each (List.range s.build.nRails) fun s n =>
    match (s.pmbRail n).startMv with
    | some mv =>
      let s := s.setPmbRail n { s.pmbRail n with startMv := none }
      if s.on F.GOV_RAIL_STAT_MODE_ERR n then s
      else (s.fset F.GOV_RAIL_STAT_VCMD n mv).fset F.GOV_RAIL_STAT_VCONF n mv
    | none => s

/-- The rail and the command of a transaction; none for the Alert Response read. -/
def PTxn.on : PTxn → Option (Nat × Nat)
  | .mode n => some (n, 0x20)
  | .startVout n => some (n, 0x8B)
  | .alert => none
  | .status n => some (n, 0x79)
  | .clear n => some (n, 0x03)
  | .command n _ => some (n, 0x21)
  | .confirm n => some (n, 0x8B)
  | .host _ n c _ => some (n, c)
  | .iout n => some (n, 0x8C)
  | .vout n => some (n, 0x8B)
  | .retry n => some (n, 0x8C)

/-- A transaction to a rail with PAGE_EN at 1 is preceded by a write of PAGE (R442). -/
def State.pages (s : State) (t : PTxn) : Bool := t.on.any fun x => s.on F.GOV_RAIL_CFG_PAGE_EN x.1

/-- A host request for VOUT_COMMAND or PAGE while EN is 1 is refused (R430). -/
def State.hostRefused (s : State) (cmd : Nat) : Bool := (cmd == 0x21 || cmd == 0) && s.on F.GOV_CTRL_EN 0

/-- A request's result appears; NOT_READY stays while another one waits or runs (R430, R524). -/
def State.pmbResult (s : State) (err : Nat) (data : Option Nat) : State :=
  let s := s.fset F.GOV_PMB_RES_ERR 0 err
  let s := match data with | some d => s.fset F.GOV_PMB_RES_DATA 0 d | none => s
  let busy := !s.pmb.reqs.isEmpty || s.pmb.cur.any fun t => match t with | .host _ _ _ _ => true | _ => false
  let s := (s.faddWrap F.GOV_PMB_RES_SEQ 0 1).fset F.GOV_PMB_RES_NOT_READY 0 busy.toNat
  s.setFlag F.HIF_IRQ_SRC_PMB_DONE 0

/-- GO reads 1 while a request waits to start. -/
def State.pmbGoBit (s : State) : State := s.fsetB F.GOV_PMB_REQ_GO 0 (!s.pmb.reqs.isEmpty)

/-- The next transaction by precedence, with what it takes from those that wait; no VOUT_COMMAND in a control period whose
datapaths disagree (R499). -/
def State.pmbChoose (s : State) : State :=
  let p := s.pmb
  let go (p : Pmb) (t : PTxn) : State := s.setPmb { p with cur := some t, paging := s.pages t, fails := 0 }
  match p.start with
  | t :: l => go { p with start := l } t
  | [] =>
    if !p.started then s
    else
      match p.service with
      | t :: l => go { p with service := l } t
      | [] =>
        if !p.alertPin.level && !p.ignores then go p .alert
        else
          match if s.gov.hush then [] else p.vouts with
          | (n, mv) :: l => (go { p with vouts := l } (.command n mv)).voutSent n mv
          | [] =>
            match s.confirmRail with
            | some n => go p (.confirm n)
            | none =>
              match p.reqs with
              | (ty, n, c, d) :: l => (go { p with reqs := l } (.host ty n c d)).pmbGoBit
              | [] =>
                match p.retries with
                | n :: l => go { p with retries := l } (.retry n)
                | [] =>
                  match p.round with
                  | t :: l => go { p with round := l } t
                  | [] =>
                    if p.roundDue then
                      match s.roundReads with
                      | t :: l => go { p with round := l, roundDue := false } t
                      | [] => s.setPmb { p with roundDue := false }
                    else s

/-- The requests at the head of the queue that R430 refuses by now end with ERR 3. -/
def State.pmbRefuse (s : State) : State :=
  s.each (s.pmb.reqs.takeWhile fun q => s.hostRefused q.2.2.1) fun s _ =>
    ((s.setPmb { s.pmb with reqs := s.pmb.reqs.drop 1 }).pmbResult 3 none).pmbGoBit

/-- The bus takes its next transaction when it is free and PMB_EN is 1 (R425, R426). -/
def State.pmbNext (s : State) : State :=
  if s.pmb.begun && s.pmb.cur.isNone && s.on F.GOV_CTRL_PMB_EN 0 then s.pmbRefuse.pmbChoose else s

/-- PMBUS_START (R424): once, from count 96,000 on. -/
def execPmbusStart (s : State) : Host.Outcome State Fault Refusal :=
  s.act fun s => s.iff (s.stn.locked && s.on F.GOV_CTRL_PMB_EN 0 && !s.pmb.begun && 96000 ≤ s.count) fun s =>
    (s.setPmb { s.pmb with begun := true, start := s.startReads }).pmbNext

/-- A write of PMB_EN has been stored: to 0, what waits for a rail's voltage is dropped; from 0 to 1 after the first start,
the start is repeated (R425). -/
def State.pmbEnWritten (s : State) (was : Bool) : State :=
  let s := if was && !s.on F.GOV_CTRL_PMB_EN 0 then s.each (List.range s.build.nRails) State.voltDrop else s
  if s.on F.GOV_CTRL_PMB_EN 0 && !was && s.pmb.begun then
    (s.setPmb { s.pmb with started := false, start := s.startReads }).pmbNext
  else s

/-! ### Requests of the host (R430) -/

/-- GOV_PMB_REQ.GO has been written: the request waits, one for each write, or is refused (R425, R430). -/
def State.pmbGo (s : State) : State :=
  let f (x : Fld) : Nat := s.fget x 0
  let cmd := f F.GOV_PMB_REQ_CMD
  if !s.on F.GOV_CTRL_PMB_EN 0 || s.hostRefused cmd then (s.pmbResult 3 none).pmbGoBit
  else
    let ty := if 5 ≤ f F.GOV_PMB_REQ_TYPE then 0 else f F.GOV_PMB_REQ_TYPE
    let s := s.fset F.GOV_PMB_RES_NOT_READY 0 1
    (s.setPmb { s.pmb with reqs := s.pmb.reqs ++ [(ty, f F.GOV_PMB_REQ_RAIL, cmd, f F.GOV_PMB_REQ_DATA)] }).pmbNext

/-! ### The end of a transaction -/

/-- ALERT# is declared stuck: on the rails of an address, or on all after NACKs (R429). -/
def State.alertStuck (s : State) (addr : Option Nat) : State :=
  let l := (List.range s.build.nRails).filter fun n =>
    match addr with | some a => s.fget F.GOV_RAIL_CFG_ADDR n == a | none => true
  (s.each l fun s n => s.setFlag F.GOV_RAIL_STAT_ALERT_STUCK n).post srcPmb 6 5 [.num 32 (addr.getD 0)]

/-- The rails that an alert's address matches are to be read and cleared (R429). -/
def State.alertRead (s : State) (a : Nat) : State :=
  let l := (List.range s.build.nRails).filter fun n => s.fget F.GOV_RAIL_CFG_ADDR n == a
  let same := if s.pmb.lastAddr = some a then s.pmb.sameAddr + 1 else 1
  let s := s.setPmb { s.pmb with
    service := l.flatMap (fun n => [PTxn.status n, PTxn.clear n]), lastAddr := some a, sameAddr := same, nacks := 0 }
  if l.isEmpty && same == 3 then s.alertStuck (some a) else s

/-- The last transaction of an alert's service has ended. -/
def State.serviceEnds (s : State) : State :=
  if s.pmb.service.isEmpty && s.pmb.sameAddr == 3 then s.alertStuck s.pmb.lastAddr else s

/-- A telemetry read succeeds (R428). -/
def State.telemOk (s : State) (rail : Nat) : State :=
  let s := s.setPmbRail rail { s.pmbRail rail with fails := 0 }
  if s.on F.GOV_RAIL_STAT_TELEM_FAIL rail then
    (s.fset F.GOV_RAIL_STAT_TELEM_FAIL rail 0).post srcPmb 6 3 [pRail rail]
  else s

/-- A telemetry read fails: the third in a row loses the rail's telemetry (R428). -/
def State.telemBad (s : State) (rail : Nat) : State :=
  let r := s.pmbRail rail
  let s := s.setPmbRail rail { r with fails := r.fails + 1 }
  if r.fails + 1 = 3 ∧ !s.on F.GOV_RAIL_STAT_TELEM_FAIL rail then
    let s := s.setPmbRail rail { s.pmbRail rail with retryAt := s.stn.elapsed + 160000000 }
    ((s.fset F.GOV_RAIL_STAT_TELEM_FAIL rail 1).voltDrop rail).post srcPmb 6 2 [pRail rail]
  else s

/-- A READ_IOUT: GOV_RAIL_TEL in 0.25 A, and the Meter's sample. -/
def State.ioutRead (s : State) (rail w : Nat) : State :=
  let s := s.fset F.GOV_RAIL_TEL_IOUT rail (satU 16 ((linear11 w).mul (Frac.ofInt 4)).round.toNat)
  (s.telemOk rail).mtrSample rail w (s.fget F.GOV_RAIL_TEL_VOUT rail)

/-- A VOUT_MODE byte: ULINEAR16 gives the exponent, any other mode sets MODE_ERR (R424). -/
def State.modeRead (s : State) (rail b : Nat) : State :=
  if b % 256 / 32 = 0 then
    (s.setPmbRail rail { s.pmbRail rail with expo := signed 5 b }).fset F.GOV_RAIL_STAT_MODE_ERR rail 0
  else ((s.fset F.GOV_RAIL_STAT_MODE_ERR rail 1).voltDrop rail).post srcPmb 6 6 [pRail rail, pOther (b % 256)]

/-- A transaction succeeds with the word read. -/
def State.txnOk (s : State) (data : Nat) : PTxn → State
  | .mode n => s.modeRead n data
  | .startVout n =>
    let mv := s.voutMv n data
    (s.setPmbRail n { s.pmbRail n with startMv := some mv }).fset F.GOV_RAIL_TEL_VOUT n mv
  | .alert => s.alertRead (data % 128)
  | .status n =>
    let s := (s.fset F.GOV_RAIL_SW_STATUS_WORD n data).faddSat F.GOV_RAIL_SW_ALERTS n 1
    (s.setFlag F.GOV_RAIL_STAT_ALERT_SEEN n).post srcPmb 6 4 [pRail n, .num 16 (data % 2 ^ 16)]
  | .clear _ => s.serviceEnds
  | .command _ _ => s
  | .confirm n =>
    let mv := s.voutMv n data
    (s.setGovRail n { s.govRail n with reading := some mv }).fset F.GOV_RAIL_TEL_VOUT n mv
  | .host _ _ _ _ => s.pmbResult 0 (some data)
  | .iout n => s.ioutRead n data
  | .vout n =>
    let mv := s.voutMv n data
    ((s.fset F.GOV_RAIL_TEL_VOUT n mv).telemOk n).mtrVolt n mv
  | .retry n => s.ioutRead n data

/-- How a transaction failed: 1 NACK, 2 PEC, 3 clock held low (R441). -/
def replyKind : PmbReply → Nat
  | .ok _ => 0
  | .nack => 1
  | .pec => 2
  | .clockLow => 3

/-- A transaction's third failure is reported; of its write of PAGE with that command, 0x00 (R428). -/
def State.txnReport (s : State) (t : PTxn) (kind : Nat) : State :=
  match t.on with
  | some (n, c) => s.post srcPmb 6 1 [pRail n, pOther (if s.pmb.paging then 0 else c), pEnum kind]
  | none =>
    let s' := s.post srcPmb 6 1 [pRail (Config.alertItem s.freeCtr 0), pOther (Config.alertItem s.freeCtr 1), pEnum kind]
    { s' with freeCtr := s.freeCtr + 1 }

/-- What the third failure of a transaction leaves. -/
def State.txnFails (s : State) (kind : Nat) (t : PTxn) : State :=
  let s := s.txnReport t kind
  match t with
  | .host _ _ _ _ => s.pmbResult (if kind = 1 then 1 else 2) none
  | .iout n | .vout n | .retry n => s.telemBad n
  | .status _ | .clear _ => s.serviceEnds
  | _ => s

/-- A NACKed Alert Response read: the third is reported, and declares ALERT# stuck on all rails (R428, R429). -/
def State.alertNack (s : State) : State :=
  let s := s.setPmb { s.pmb with nacks := s.pmb.nacks + 1, lastAddr := none, sameAddr := 0, cur := none }
  if s.pmb.nacks = 3 then (s.txnReport .alert 1).alertStuck none else s

/-- The start is complete once its last transaction has ended. -/
def State.startCheck (s : State) : State :=
  if s.pmb.begun && !s.pmb.started && s.pmb.start.isEmpty && s.pmb.cur.isNone then s.startEnds else s

/-- A reply that the bus can show: a failed PEC only where the rail uses PEC (R442), a device that holds the clock low only
after 25 ms of it (R428). -/
def State.replyComes (s : State) (t : PTxn) : PmbReply → Bool
  | .pec => t.on.all fun x => s.on F.GOV_RAIL_CFG_PEC x.1
  | .clockLow => !s.pmb.clkPin.level && s.pmb.clkPin.since + 40000000 < s.stn.elapsed
  | _ => true

/-- The transaction in progress fails: a retry, or the third failure (R428, R429). -/
def State.txnBad (s : State) (t : PTxn) (r : PmbReply) : State :=
  if t = PTxn.alert ∧ r = PmbReply.nack then s.alertNack
  else if s.pmb.fails < 2 then s.setPmb { s.pmb with fails := s.pmb.fails + 1 }
  else
    let s := (s.setPmb { s.pmb with cur := none }).txnFails (replyKind r) t
    s.setPmb { s.pmb with paging := false }

/-- The transaction in progress, or its write of PAGE, ends (R428, R442). -/
def State.txnAnswer (s : State) (t : PTxn) : PmbReply → State
  | .ok d =>
    if s.pmb.paging then s.setPmb { s.pmb with paging := false, fails := 0 }
    else (s.setPmb { s.pmb with cur := none }).txnOk d t
  | r => s.txnBad t r

/-- PMBUS_TRANSACTION_DONE (R426, R428, R429): success, a retry, or the third failure. -/
def execPmbusTransactionDone (reply : PmbReply) (s : State) : Host.Outcome State Fault Refusal :=
  s.act fun s =>
    match s.pmb.cur with
    | none => s
    | some t => s.iff (s.replyComes t reply) fun s => (s.txnAnswer t reply).startCheck.pmbNext

/-! ### Telemetry and alerts -/

/-- TELEMETRY_ROUND (R427): at counts that are multiples of 1,600,000. -/
def execTelemetryRound (s : State) : Host.Outcome State Fault Refusal :=
  s.act fun s => s.iff (s.stn.locked && s.count % 1600000 == 0) fun s => (s.setPmb { s.pmb with roundDue := true }).pmbNext

/-- TELEMETRY_RETRY (R428): every 160,000,000 tk. -/
def execTelemetryRetry (rail : Nat) (s : State) : Host.Outcome State Fault Refusal :=
  s.act fun s => s.iff (s.on F.GOV_RAIL_STAT_TELEM_FAIL rail && (s.pmbRail rail).retryAt ≤ s.stn.elapsed) fun s =>
    let s := s.setPmbRail rail { s.pmbRail rail with retryAt := s.stn.elapsed + 160000000 }
    (s.setPmb { s.pmb with retries := s.pmb.retries ++ [rail] }).pmbNext

/-- ALERT_SERVICE (R429): ALERT# is low, and the bus takes the alert's service when it is free. -/
def execAlertService (s : State) : Host.Outcome State Fault Refusal :=
  s.act fun s => s.iff (!s.pmb.alertPin.level) fun s => s.pmbNext

/-- One sample of a PMBus input: a level is new after six equal samples in a row (R560). -/
def PinFilter.sample (p : PinFilter) (now : Nat) (x : Bool) : PinFilter :=
  if x == p.level then { p with run := 0 }
  else if p.run = 5 then { level := x, run := 0, since := now }
  else { p with run := p.run + 1 }

/-- The PMBus inputs at a tick edge, sampled every 16 tk (R560). ALERT# that goes high ends the row of services that count
as consecutive (R429; DEDUCED, log entry 39). -/
def State.pmbPins (s : State) (clk dat alertN : Bool) : State :=
  if s.count % 16 ≠ 0 then s
  else
    let p := s.pmb
    let now := s.stn.elapsed
    let q := p.alertPin.sample now alertN
    let p' := { p with clkPin := p.clkPin.sample now clk, datPin := p.datPin.sample now dat, alertPin := q }
    if q.level && !p.alertPin.level && !p.ignores then s.setPmb { p' with sameAddr := 0, nacks := 0, lastAddr := none }
    else s.setPmb p'

/-- ALERT_STUCK has been cleared: servicing resumes once no rail holds it (R429). -/
def State.alertResume (s : State) : State :=
  if (List.range s.build.nRails).any fun n => s.on F.GOV_RAIL_STAT_ALERT_STUCK n then s
  else (s.setPmb { s.pmb with sameAddr := 0, nacks := 0, lastAddr := none }).pmbNext

end Sys2Proof.Machine
end

