-- ==== Sys2Proof/Machine/Release.lean ====
section
/-! DEFINITION. Release of a Section Root (R99, R106): what the calibration sequencer's release and RESTART share. -/

namespace Sys2Proof.Machine

/-- A Section Root is released at this tick edge, at FW = 49,152, its phase origin here (R99–R101); where the Governor is
enabled FW_V caps that word as it caps every other (R102, R417; DEDUCED, log entry 69). Its lock, which the manual places
within 256 tk, is part of the release. -/
def State.releaseRoot (s : State) (k : Nat) : State :=
  let c := s.sec k
  let s := if c.everReleased then s else s.setStn { s.stn with relCount := s.stn.relCount + 1 }
  let s := s.setSec k { c with released := true, everReleased := true, readSeen := false, t0 := s.count, acc := 0,
                               pend := [], req := none, edgeAt := none, bus := [], lastChange := s.stn.elapsed }
  let s := s.fset F.SEC_FW_STATUS_FW_CUR k (s.fwTarget k)
  let s := s.setSec k { s.sec k with target := s.fwTarget k }
  let s := ((s.fset F.SEC_FW_STATUS_RAMPING k 0).fset F.SEC_HEADWAY_ACTIVE k 0).updatePend k
  let s := ((s.fset F.SEC_STATUS_STATE k 1).fset F.SEC_STATUS_LOCKED k 1).fset F.SEC_CTRL_RESTART k 0
  let s := (s.fset F.SEC_PLL_MAX_PS k 0).updateHeld k
  s.each (s.build.regionsOf k) fun s r => (s.fset F.SB_CLK_STATUS_DLL_LOCKED r 0).fset F.SB_CLK_STATUS_ALIGNED r 0

/-- The regions of a Section whose Spine leaf failed enter cause FAULT at its release (R60, R125). -/
def State.leafFaults (s : State) (k : Nat) : State := s.each (s.build.regionsOf k) State.leafFault

/-- RESTART in STATE FAULT repeats the release (R106). -/
def State.restartWritten (s : State) (k : Nat) : State :=
  if s.secState k = 4 ∧ s.on F.SEC_CTRL_RESTART k then (s.releaseRoot k).leafFaults k else s

end Sys2Proof.Machine
end

