-- ==== Sys2Proof/Machine/Spill.lean ====
section
/-! DEFINITION. The spill of the Event Log to the host's ring (R466–R472). -/

namespace Sys2Proof.Machine

/-- Entries in outstanding bursts. -/
def State.spillOut (s : State) : Nat := s.log.spill.bursts.foldl (· + ·) 0

/-- The ring index of the next entry to spill. -/
def State.spillNext (s : State) : Nat := ((s.reg .EVT_RING_WR 0).toNat + s.spillOut) % 2 ^ 32

/-- EVT_SPILL_CFG.TIMEOUT in tk (R468, R470). -/
def State.spillTimeout (s : State) : Nat := max 1 (s.fget F.EVT_SPILL_CFG_TIMEOUT 0) * 1600

/-- Room in the ring by the consume index last read: 0 where that index is invalid (R470, R471). -/
def State.ringRoom (s : State) : Nat :=
  let used := (s.spillNext + 2 ^ 32 - (s.reg .EVT_RING_CONV 0).toNat) % 2 ^ 32
  2 ^ s.log.spill.log2 - used

/-- The length of the next burst before the ring's room: at most 16 entries, across neither a 4 KiB boundary nor the
end of the ring (R468); 0 where neither BATCH nor TIMEOUT calls for one. -/
def State.burstWant (s : State) : Nat :=
  let avail := s.unconsumed - s.spillOut
  let batch := max 1 (min 16 (s.fget F.EVT_SPILL_CFG_BATCH 0))
  let timeout := s.spillTimeout
  let waited := match s.log.wtimes[s.spillOut]? with
    | some t => s.stn.elapsed - t ≥ timeout
    | none => false
  let size := 2 ^ s.log.spill.log2
  let pos := s.spillNext % size
  let addr := s.log.spill.base + 16 * pos
  if avail ≥ batch || (avail > 0 && waited) then min (min 16 avail) (min (256 - addr % 4096 / 16) (size - pos)) else 0

/-- The spill may issue: in SPILL mode, not stopped by an error, no reset in its way. -/
def State.spillRuns (s : State) : Bool :=
  s.log.up && s.log.spill.active && !s.log.spill.stopping && !s.on F.EVT_STATUS_SPILL_ERR 0 && !s.axi.held && !s.stn.warm

/-- A spill write or index read met an error: the spill stops and no index advances (R472). -/
def State.spillError (s : State) (what idx : Nat) : State :=
  let s := { s with log := { s.log with spill := { s.log.spill with bursts := [] } } }
  let s := s.setFlag F.EVT_STATUS_SPILL_ERR 0
  (s.post srcLog 7 2 [pEnum what, .num 28 idx]).spillSettle

/-- The words of log entry `i` as the spill reads it, with the flags of its copy (R465). -/
def State.logWords (s : State) (i : Nat) (ecc : Ecc) : List Nat :=
  (List.range 4).map fun n => (s.rdWord (logBase + 16 * (i % 4096) + 4 * n) ||| eccFlags n ecc).toNat

/-- Issue the next burst of the spill, of `n` entries (R468). -/
def State.spillIssue (s : State) (n : Nat) (ecc : List Ecc) : State :=
  let first := (s.reg .EVT_RIDX 0).toNat + s.spillOut
  let addr := s.log.spill.base + 16 * (s.spillNext % 2 ^ s.log.spill.log2)
  let entry (i : Nat) : Ecc := (ecc[i]?).getD .clean
  let data := (List.range n).flatMap fun i => s.logWords (first + i) (entry i)
  let s := s.each (List.range n) fun s i => s.logRead ((first + i) % 4096) (entry i)
  if axFits addr (16 * n) then
    { s.axiIssue true axSpill addr n 16 data with
      log := { s.log with spill := { s.log.spill with bursts := s.log.spill.bursts ++ [n] } } }
  else (s.axiRange axSpill).spillError 0 s.spillNext

/-- SPILL_BURST (R468, R470): a burst is issued where one is wanted and the consume index last read leaves it room; none
while the ring is full, or counts as full by an invalid index (R471). -/
def execSpillBurst (ecc : List Ecc) (s : State) : Host.Outcome State Fault Refusal :=
  s.act fun s =>
    let n := min s.burstWant s.ringRoom
    s.iff (s.spillRuns && !s.on F.EVT_STATUS_RING_FULL 0 && n > 0 && s.log.spill.bursts.length < axLimit (s.fget F.HIF_AXI_CFG_MAX_WR 0))
      fun s => s.spillIssue n ecc

/-- The oldest burst's write response is good: both indices advance, and the doorbell is written (R469). -/
def State.burstGood (s : State) (n : Nat) (rest : List Nat) : State :=
  let s := { s with log := { s.log with spill := { s.log.spill with bursts := rest }, wtimes := s.log.wtimes.drop n } }
  let s := s.setReg .EVT_RING_WR 0 (s.reg .EVT_RING_WR 0 + BitVec.ofNat 32 n)
  let s := s.setReg .EVT_RIDX 0 (s.reg .EVT_RIDX 0 + BitVec.ofNat 32 n)
  let s := s.setFlag F.HIF_IRQ_SRC_SPILL 0
  let s :=
    if s.on F.EVT_SPILL_CFG_DOORBELL_EN 0 then s.axiIssue true axIndex s.log.spill.ptr 1 4 [(s.reg .EVT_RING_WR 0).toNat]
    else s
  s.spillSettle

/-- SPILL_BURST_DONE (R469, R472): the write response of the oldest outstanding burst. -/
def execSpillBurstDone (resp : AxiResp) (s : State) : Host.Outcome State Fault Refusal :=
  s.act fun s =>
    match s.log.spill.bursts with
    | [] => s
    | n :: rest =>
      if resp = .okay then s.burstGood n rest
      else (s.axiRecord axSpill resp).spillError 0 (s.reg .EVT_RING_WR 0).toNat

/-- The consume index is read: stored, and checked against the ring's size (R470–R472). -/
def State.consumeRead (s : State) (value : Nat) (resp : AxiResp) : State :=
  if !axFits s.log.spill.con 4 then (s.axiRange axIndex).spillError 1 (s.reg .EVT_RING_WR 0).toNat
  else
    let s := s.axiIssue false axIndex s.log.spill.con 1 4
    if resp ≠ .okay then (s.axiRecord axIndex resp).spillError 1 (s.reg .EVT_RING_WR 0).toNat
    else
      let s := s.setReg .EVT_RING_CONV 0 (BitVec.ofNat 32 value)
      let s := { s with log := { s.log with spill := { s.log.spill with conAt := some s.stn.elapsed } } }
      let used := ((s.reg .EVT_RING_WR 0).toNat + 2 ^ 32 - value % 2 ^ 32) % 2 ^ 32
      if used > 2 ^ s.log.spill.log2 then
        let s := s.fset F.EVT_STATUS_RING_FULL 0 1
        (s.setFlag F.EVT_STATUS_RING_ERR 0).post srcLog 7 5 [.num 32 (value % 2 ^ 32)]
      else s.fsetB F.EVT_STATUS_RING_FULL 0 (s.ringRoom == 0)

/-- CONSUME_INDEX_READ (R470): before a burst that the last value read would not allow, where the ring is not full. -/
def execConsumeIndexRead (value : Nat) (resp : AxiResp) (s : State) : Host.Outcome State Fault Refusal :=
  s.act fun s => s.iff (s.spillRuns && !s.on F.EVT_STATUS_RING_FULL 0 && s.burstWant > s.ringRoom) fun s => s.consumeRead value resp

/-- RING_FULL_REREAD (R470): while the ring stays full, TIMEOUT µs after the index was last read. -/
def execRingFullReread (value : Nat) (resp : AxiResp) (s : State) : Host.Outcome State Fault Refusal :=
  s.act fun s => s.iff (s.spillRuns && s.on F.EVT_STATUS_RING_FULL 0 && s.log.spill.conAt.all (· + s.spillTimeout ≤ s.stn.elapsed)) fun s => s.consumeRead value resp

end Sys2Proof.Machine
end

