-- ==== Sys2Proof/Machine/Writes.lean ====
section
/-!
DEFINITION. A register write from any source: access types (R8, R9), its entry in the Journal (R474–R477), shadow
registers (R539–R541), and what each register's write starts.
-/

namespace Sys2Proof.Machine

/-! ### Storing a write (R8, R9) -/

/-- The bits of a register that a write clears, sets or triggers, and whose written value the Journal shows (R476). -/
def RegInfo.special (i : RegInfo) : Word := i.w1c ||| i.w1s ||| i.wo

/-- The SAFE bit of SEC_CTRL at an edge at which the Station sets it everywhere (R550). -/
def State.safeKept (s : State) (r : Reg) : Word :=
  if r = .SEC_CTRL ∧ s.stn.safeEdge = some s.stn.elapsed then maskF F.SEC_CTRL_SAFE.lo 1 else 0

/-- The word that a register holds after a write of `val` under `mask`: RW fields take the value, W1C flags written 1
clear but for those set at this edge, W1S bits written 1 set. SEC_CTRL.SAFE that the Station set at this edge stays
(R550). -/
def State.written (s : State) (r : Reg) (u : Nat) (val mask : Word) : Word :=
  let i := r.info
  let w := s.reg r u
  let w := (w &&& ~~~ (i.rw &&& mask)) ||| (val &&& i.rw &&& mask)
  let w := w &&& ~~~ (val &&& mask &&& i.w1c &&& ~~~ s.freshBits r u)
  w ||| (val &&& mask &&& i.w1s) ||| s.safeKept r

/-- The strobe of a byte: any bit of it in a mask. -/
def strobes (mask : Word) : Nat :=
  (List.range 4).foldl (fun a i => if getF mask (8 * i) 8 ≠ 0 then a + 2 ^ i else a) 0

/-- The mask of byte strobes. -/
def strobeMask (strb : Nat) : Word :=
  BitVec.ofNat 32 ((List.range 4).foldl (fun a i => if strb.testBit i then a + 255 * 2 ^ (8 * i) else a) 0)

/-- Store a write. A few registers stand for state that is held elsewhere. -/
def State.store (s : State) (r : Reg) (u : Nat) (val mask : Word) : State :=
  let s' := s.setReg r u (s.written r u val mask)
  match r with
  | .DSP_DMEM_DATA => s.wrWord (dmemBase + 4 * s.fget F.DSP_DMEM_ADDR_WORD 0) val (strobes mask)
  | .DSP_G => if u % 32 = 0 then s else s'
  | .DSP_SEM_HELD => s
  | .SB_PROFILE0 => s.profileWritten u 0 val.toNat (strobes mask)
  | .SB_PROFILE1 => s.profileWritten u 1 val.toNat (strobes mask)
  | .SB_PROFILE2 => s.profileWritten u 2 val.toNat (strobes mask)
  | .SB_PROFILE3 => s.profileWritten u 3 val.toNat (strobes mask)
  | .EVT_RIDX => s'.evtRidxWritten (s.reg r u)
  | _ => s'

/-- The address of a register's instance (R552). -/
def regAddr (r : Reg) (u : Nat) : Nat :=
  let i := r.info
  let unit := u / i.count
  let off := i.base + i.stride * (u % i.count)
  match i.cls with
  | .abs => off
  | .rail => 0x1100 + 0x40 * unit + off
  | .sec => 0x2000 + 0x80 * unit + off
  | .desk => 0x4100 + 0x40 * unit + off
  | .win => 0x6000 + 0x400 * unit + off
  | .sb => 0x40000 + 0x100 * unit + off
  | .jct => 0xC0000 + 8 * unit + off
  | .ich => 0xC3000 + 16 * unit + off

/-! ### What a write starts -/

/-- The condition of a region's fault, as the Signal Box last measured it (R126). -/
def State.faultPersists (s : State) (r : Nat) : Bool :=
  match s.fget F.SB_GATE_FAULT_CAUSE r with
  | 1 => (signed 8 (s.fget F.SB_CLK_STATUS_PERIOD_DEV r)).natAbs > 24
  | 2 => !s.on F.SB_CLK_STATUS_DLL_LOCKED r
  | _ => false

/-- A write of SEC_SYM_CFG has been stored: EN at 0 ends every request of the Section at each region's next edge (R183). -/
def State.symCfgWritten (s : State) (k : Nat) : State :=
  if s.on F.SEC_SYM_CFG_EN k then s
  else s.each (s.build.regionsOf k) fun s r => s.setRgn r { s.rgn r with symEnd := s.on F.SB_SLIP_REQ r }

/-- A slot opens at this edge; one that was open ends (R371). -/
def State.slotWritten (s : State) (k : Nat) : State :=
  let len := s.fget F.SEC_SLOT_LEN k
  (s.setSec k { s.sec k with slotEnd := s.count + 16 * len }).fsetB F.SEC_SLOT_ACTIVE k (len != 0)

/-- SAFE_ALL applies at least 32 tk later (R549). -/
def State.safeAllWritten (s : State) : State :=
  if s.on F.STN_GCTRL_SAFE_ALL 0 && s.stn.safeAllAt.isNone then
    s.setStn { s.stn with safeAllAt := some (s.stn.elapsed + 32) }
  else s

/-- A write of GOV_CTRL has been stored (R417, R423, R425, R431). -/
def State.govCtrlWritten (s : State) (old : Word) : State :=
  let s := if getF old 0 1 ≠ s.fget F.GOV_CTRL_EN 0 then s.fwFollowAll else s
  let s := if getF old 0 1 = 1 ∧ !s.on F.GOV_CTRL_EN 0 then s.each (List.range s.build.nRails) State.voltDrop else s
  let s := s.pmbEnWritten (getF old 1 1 == 1)
  if getF old 3 1 = 1 ∧ !s.on F.GOV_CTRL_LH_EN 0 then s.lhOff else s

/-- A write of JCT_CFG has been stored (R231, R234, R247). -/
def State.jctCfgWritten (s : State) (j : Nat) (old w : Word) : State :=
  let s := if getF old 4 8 ≠ getF (s.reg .JCT_CFG j) 4 8 then
      s.calDisturbEye j
    else s
  let s := if getF w F.JCT_CFG_CLR_MAX.lo 1 = 1 then s.occClrMax (.jct j) else s
  s.realignWritten (.jct j) old

/-- A write of ICH_CFG has been stored (R231, R234). -/
def State.ichCfgWritten (s : State) (i : Nat) (old w : Word) : State :=
  let s := if getF w F.ICH_CFG_CLR_MAX.lo 1 = 1 then s.occClrMax (.ich i) else s
  s.realignWritten (.ich i) old

/-- The effect of a write beyond the value it stores. `old`: the register before; `w`: the bits written; `desk`: a Desk
wrote (R360); `persists`: the condition of a region fault holds on (R126). -/
def State.effect (s : State) (r : Reg) (u : Nat) (old w : Word) (desk persists : Bool) : State :=
  match r with
  | .STN_CLK_CFG => s.clkCfgWritten old
  | .STN_TCAP_CTRL => s.tcapWritten w
  | .STN_SPINE_CTRL => s.spineCtrlWritten old
  | .STN_SYNC_CTRL => s.syncCtrlWritten old
  | .STN_GCTRL => s.safeAllWritten
  | .SB_SPINE_OVR => (s.spineOvrWritten u).spineOvrFault u
  | .SEC_FW => s.secFwWritten u desk
  | .SEC_HEADWAY => s.secHeadwayWritten u desk
  | .SEC_CTRL => (s.secCtrlWritten u old).restartWritten u
  | .SEC_SYM_CFG => s.symCfgWritten u
  | .SEC_SLOT => s.slotWritten u
  | .SB_GATE => s.gateWritten u old w persists
  | .SB_SENSE_CTRL => s.senseCtrlWritten u w
  | .SB_TC_CTRL => if getF w F.SB_TC_CTRL_CLR_LOW.lo 1 = 1 then s.fset F.SB_TC_MIN_LOW u 31 else s
  | .SB_TC_TRIM => s.calDisturbStage u 1
  | .SB_SLIP_CFG => if getF w F.SB_SLIP_CFG_CLR_MAX.lo 1 = 1 then s.setReg .SB_SLIP_MAX u (BitVec.ofNat 32 (s.rgn u).ledger) else s
  | .JCT_CFG => s.jctCfgWritten u old w
  | .ICH_CFG => s.ichCfgWritten u old w
  | .CAL_CTRL => s.calCtrlWritten
  | .DSP_CTRL => s.loadInCycle
  | .SB_CAL_CTRL => s.sbCalCtrlWritten u old
  | .CAL_IMG_CTRL => s.imgCtrlWritten old
  | .DSP_IMG_LO | .DSP_IMG_HI | .DSP_IMG_SIZE => s.dropFrames
  | .DSP_SEM_HELD => s.semHeldWritten w
  | .DSP_DMEM_DATA => s.faddWrap F.DSP_DMEM_ADDR_WORD 0 1
  | .DSP_DESK_CTRL => s.deskCtrlTake u
  | .GOV_CTRL => s.govCtrlWritten old
  | .GOV_ENV => s.budgetWritten
  | .GOV_PMB_REQ => if getF w 31 1 = 1 then s.pmbGo else s
  | .GOV_RAIL_STAT => if getF old 29 1 = 1 ∧ !s.on F.GOV_RAIL_STAT_ALERT_STUCK u then s.alertResume else s
  | .EVT_CTRL => s.evtCtrlWritten old
  | .MIL_CTRL => s.milCtrlWritten
  | _ => s

/-- The bits of a register whose write starts an effect even where they do not change. -/
def effectBits : Reg → Word
  | .GOV_ENV => maskF F.GOV_ENV_BUDGET.lo F.GOV_ENV_BUDGET.w
  | .SEC_FW => maskF F.SEC_FW_FW.lo F.SEC_FW_FW.w
  | .SEC_HEADWAY => maskF F.SEC_HEADWAY_FW_HW.lo F.SEC_HEADWAY_FW_HW.w
  | .SEC_SYM_CFG => maskF F.SEC_SYM_CFG_EN.lo 1
  | .SEC_SLOT => maskF F.SEC_SLOT_LEN.lo F.SEC_SLOT_LEN.w
  | .DSP_DMEM_DATA => 0
  | _ => BitVec.allOnes 32

/-- The effect of a write under a mask: a byte whose strobe is 0 is not written (R512), so a write that covers none of the
bits that start an effect starts none. -/
def State.effectOf (s : State) (r : Reg) (u : Nat) (old val mask : Word) (desk persists : Bool) : State :=
  if effectBits r ≠ 0 ∧ mask &&& effectBits r = 0 then s else s.effect r u old (val &&& mask) desk persists

/-! ### The write (R25, R26, R476) -/

/-- NEW of a Journal entry (R476), from the register's value after the write: the bits written of the fields of types WO,
W1C and W1S, the resulting value of every other. -/
def newOf (r : Reg) (result val mask : Word) : Word := (result &&& ~~~ r.info.special) ||| (val &&& mask &&& r.info.special)

/-- A write of a register of a ready unit; `src` none: the write has been journaled before, or is journaled with others. Its
entry precedes those of what it starts and shows the value that results from it; the word of data memory is read before the
address register moves on (R476). -/
def State.regWrite (s : State) (src : Option Nat) (a : Nat) (r : Reg) (u : Nat) (val mask : Word) (desk persists : Bool) : State :=
  let old := s.reg r u
  let shown := s.readReg r u
  let s := s.store r u val mask
  let result := match r with
    | .DSP_DMEM_DATA => s.readReg r u
    | _ => (s.effectOf r u old val mask desk persists).readReg r u
  let s := match src with
    | some x => s.journal x 0 false a shown.toNat (newOf r result val mask).toNat
    | none => s
  s.effectOf r u old val mask desk persists

/-- A write with no effect on what it names; it is journaled all the same. -/
def State.nullWrite (s : State) (src : Option Nat) (a : Nat) : State :=
  match src with
  | some x => s.journal x 0 false a (s.readWord a).toNat (s.readWord a).toNat
  | none => s

/-- A write of a word of the resident tiles or of the Tap Table. -/
def State.windowWrite (s : State) (src : Option Nat) (a : Nat) (val mask : Word) (tile : Bool) : State :=
  let old := s.rdWord a
  let s := s.wrWord a val (strobes mask)
  let s := match src with
    | some x => s.journal x 0 false a old.toNat (s.rdWord a).toNat
    | none => s
  if tile then s.residentWritten a else s

/-- A write to a unit that is not ready waits in its shadow register, journaled with DEFER (R477, R541). -/
def State.shadowWrite (s : State) (src : Nat) (a : Nat) (val mask special : Word) : State :=
  let old := s.readWord a
  let x : Shadow := { key := a, val := val.toNat, strb := mask.toNat, src }
  let s := { s with shadow := s.shadow ++ [x] }
  s.journal src 0 true a old.toNat ((s.readWord a &&& ~~~ special) ||| (val &&& mask &&& special)).toNat

/-- Writes to DSP_IMG and DSP_IMG_SIZE wait while a frame is FILLING (R394). -/
def State.imgWaits (s : State) (r : Reg) : Bool :=
  (r == .DSP_IMG_LO || r == .DSP_IMG_HI || r == .DSP_IMG_SIZE) && !s.dsp.fills.isEmpty

/-- A register write of source `src` takes effect at this tick edge (R25). -/
def State.writeWord (s : State) (src a : Nat) (val mask : Word) (persists : Option Bool := none) : State :=
  let a := wordAddr a
  match s.build.place a with
  | .unmapped => s
  | .hole | .frame _ | .slot _ => s.nullWrite (some src) a
  | .tile _ => if s.stn.locked then s.windowWrite (some src) a val mask true else s.shadowWrite src a val mask 0
  | .tap _ => if s.stn.locked then s.windowWrite (some src) a val mask false else s.shadowWrite src a val mask 0
  | .reg r u =>
    if !s.regReady r u then s.shadowWrite src a val mask r.info.special
    else if s.imgWaits r then
      s.setDsp { s.dsp with imgs := s.dsp.imgs ++ [{ src, addr := a, val := val.toNat, mask := mask.toNat }] }
    else s.regWrite (some src) a r u val mask (src < 4) (persists.getD (s.faultPersists u))

/-- A write whose Journal entry another one covers, or has been made before (R475, R477). -/
def State.quietWrite (s : State) (a : Nat) (val mask : Word) (desk : Bool) : State :=
  match s.build.place a with
  | .reg r u => if s.regReady r u then s.regWrite none a r u val mask desk (s.faultPersists u) else s
  | .tile _ => s.windowWrite none a val mask true
  | .tap _ => s.windowWrite none a val mask false
  | _ => s

/-- The shadowed writes to addresses that meet a test apply, in the order of their completion (R541). -/
def State.applyShadows (s : State) (p : Nat → Bool) : State :=
  let (due, wait) := s.shadow.partition (fun x => p x.key)
  { s with shadow := wait }.each due fun s x => s.quietWrite x.key (BitVec.ofNat 32 x.val) (BitVec.ofNat 32 x.strb) (x.src < 4)

/-- The shadowed writes to units that are now ready apply. -/
def State.applyReady (s : State) : State := s.applyShadows fun a => s.placeReady (s.build.place a)

/-- DSP_IMG_APPLY (R394): at the first tick edge with no fill in progress. -/
def execDspImgApply (s : State) : Host.Outcome State Fault Refusal :=
  s.act fun s => s.iff (s.dsp.fills.isEmpty && !s.dsp.imgs.isEmpty) fun s =>
    let l := s.dsp.imgs
    (s.setDsp { s.dsp with imgs := [] }).each l fun s x =>
      s.writeWord x.src x.addr (BitVec.ofNat 32 x.val) (BitVec.ofNat 32 x.mask)

end Sys2Proof.Machine
end

