-- ==== Sys2Proof/Machine/Apply.lean ====
section
/-!
DEFINITION. Stamped actions at their tick edge (R324–R328, R356), the lanes of the action network (R497), what dark and
reloading units hold back (R66, R501), and the Journal's form of each action (R475).
-/

namespace Sys2Proof.Machine

/-! ### Units (R508) -/

/-- The unit, as R508 numbers it, that holds the register at an address; none for a crossing's. -/
def unitOf (a : Nat) : Option Nat :=
  if isStation a then some unitStation
  else if 0x40000 ≤ a ∧ a < 0x80000 then some ((a - 0x40000) / 0x100)
  else if 0x2000 ≤ a ∧ a < 0x4000 then some (1024 + (a - 0x2000) / 0x80)
  else none

/-- The unit that checks the lanes of an action on an address (R497). For a Junction or an Interchange, which R508 does not
number, it is the reader's Signal Box, which reports the crossing's events; any other address is the Station's (DESIGN CHOICE,
log entry 77). -/
def Build.laneUnit (b : Build) (a : Nat) : Nat :=
  match unitOf a with
  | some u => u
  | none =>
    let r :=
      if 0xC0000 ≤ a ∧ a < 0xC3000 then (b.junctions[(a - 0xC0000) / 8]?).map (·.reader)
      else if 0xC3000 ≤ a ∧ a < 0xC3F00 then (b.interchanges[(a - 0xC3000) / 16]?).map (·.reader)
      else none
    r.getD unitStation

/-- The unit is held dark by an outcome: cause FAULT, or cause SECTION after a period fault, in a region, STATE FAULT in a Section Root (R501); or its count is to be reloaded (R66). -/
def State.unitHolds (s : State) (u : Nat) : Bool :=
  if u < 1024 then
    s.on F.SB_GATE_FAULT u || (s.rgn u).mismatch ||
      ((s.sec (s.build.sectionOf u)).dark && s.on F.SB_GATE_SECTION u)
  else if u < unitStation then s.secState (u - 1024) == 4
  else false

/-! ### One write in one unit -/

/-- A write in one unit that is covered by the action's own Journal entry. -/
def State.coveredWrite (s : State) (d a : Nat) (val mask : Word) : State :=
  if s.placeReady (s.build.place a) then s.quietWrite a val mask true
  else { s with shadow := s.shadow ++ [{ key := a, val := val.toNat, strb := mask.toNat, src := d }] }

/-- A write of an action reaches its register, `covered` when the action's own entry covers it. -/
def State.actWrite (s : State) (covered : Bool) (d a val mask : Nat) : State :=
  if covered then s.coveredWrite d a (BitVec.ofNat 32 val) (BitVec.ofNat 32 mask)
  else s.writeWord d a (BitVec.ofNat 32 val) (BitVec.ofNat 32 mask)

/-- A write of an action in one unit: lost with both lanes (R497), held by a dark or reloading unit (R66, R501), or made. -/
def State.unitWrite (s : State) (lanes : List (Nat × Lane)) (x : Act) (covered : Bool) (a val mask : Nat) : State :=
  let lane := if x.slot.isSome then laneAt lanes (s.build.laneUnit a) else .good
  let s := s.laneCheck x.t (s.build.laneUnit a) x.desk lane
  if lane = .both then s
  else match unitOf a with
  | none => s.actWrite covered x.desk a val mask
  | some u =>
    if s.unitHolds u || s.dsp.held.any (fun h => h.unit == u) then
      let h : HeldAct := { unit := u, addr := a, val, mask, covered, desk := x.desk, t := x.t }
      s.setDsp { s.dsp with held := s.dsp.held ++ [h] }
    else s.actWrite covered x.desk a val mask

/-! ### Actions -/

/-- The Sections that a SCOPE 0 or SCOPE 3 action of a Section register names. -/
def Act.sections (x : Act) : List Nat := if x.scope = 0 then [(x.addr - 0x2000) / 0x80] else x.secs

/-- The regions that a SCOPE 1 or SCOPE 2 action names. -/
def State.actRegions (s : State) (x : Act) : List Nat :=
  if x.scope = 1 then x.secs.flatMap s.build.regionsOf else List.range s.build.nRegions

/-- The MULTI entry of a SCOPE 1 or SCOPE 2 action (R475); DEFER when no unit that it names is ready. -/
def State.multiEntry (s : State) (x : Act) (fields : Bool) (new : Nat) : State :=
  let k := if x.scope = 1 then x.secs.headD 0 else 0
  let defer := !(s.actRegions x).any fun r => s.placeReady (s.build.place (0x40000 + 0x100 * r + x.addr))
  s.journal x.desk 1 defer x.addr (x.scope * 2 ^ 30 + fields.toNat * 2 ^ 29 + k) new

/-- A write applies in every unit that it names (R324, R353, R354). -/
def State.applyWrite (s : State) (lanes : List (Nat × Lane)) (x : Act) (val mask : Nat) (fields : Bool) (new : Nat) : State :=
  match x.scope with
  | 0 => s.unitWrite lanes x false x.addr val mask
  | 3 => s.each x.secs fun s k => s.unitWrite lanes x false (0x2000 + 0x80 * k + x.addr) val mask
  | _ =>
    let s := s.multiEntry x fields new
    s.each (s.actRegions x) fun s r => s.unitWrite lanes x true (0x40000 + 0x100 * r + x.addr) val mask

/-- WOFF at a Section: a change edge in every state but OFF and FAULT (R363). -/
def State.woffAt (s : State) (lanes : List (Nat × Lane)) (x : Act) (k : Nat) : State :=
  if k < s.build.nSections then
    let lane := laneAt lanes (1024 + k)
    let s := s.laneCheck x.t (1024 + k) x.desk lane
    if lane = .both ∨ s.secState k = 0 ∨ s.secState k = 4 then s else s.writeOffNow k
  else s

/-- An action on the Governor or the Meter (R358, R374, R375, R378, R379). -/
def State.stationAct (s : State) (lanes : List (Nat × Lane)) (x : Act) (f : State → State) : State :=
  let lane := if x.slot.isSome then laneAt lanes unitStation else .good
  let s := s.laneCheck x.t unitStation x.desk lane
  if lane = .both then s else f s

/-- PRIO applies: a write of one field of GOV_PRIO (R26, R379). -/
def State.setPrio (s : State) (d k v : Nat) : State :=
  s.writeWord d (regAddr .GOV_PRIO (k / 8)) (putF 0 (4 * (k % 8)) 4 v) (maskF (4 * (k % 8)) 4)

/-- An action of a Desk applies. -/
def State.applyAct (lanes : List (Nat × Lane)) (s : State) (x : Act) : State :=
  match x.op with
  | .write val mask fields new => s.applyWrite lanes x val mask fields new
  | .woff => s.each x.sections fun s k => s.woffAt lanes x k
  | .step n => s.stationAct lanes x fun s => s.mtrMark (.step n)
  | .phase n => s.stationAct lanes x fun s => s.mtrMark (.phase n)
  | .envcap v => s.stationAct lanes x fun s => s.envcap v
  | .prio k v => s.setPrio x.desk k v
  | .drop _ _ => s

/-- An action whose tick the count has passed applies now and is logged LATE (R84). -/
def State.applyDue (lanes : List (Nat × Lane)) (s : State) (x : Act) : State :=
  let s := s.applyAct lanes x
  if x.tick < s.count then s.post (srcDesk x.desk) 5 2 [.num 2 x.desk, .tick x.t, pOther (s.count - x.t)] else s

/-- An action of a Desk whose tick has come. -/
def State.actDue (s : State) (a : Act) : Bool := a.desk < 4 && a.tick ≤ s.count

/-- The Desks' actions whose tick has come apply, in the order of R25, the earlier issued first (R324–R328). -/
def State.applyActs (s : State) (lanes : List (Nat × Lane)) : State :=
  let l := s.dsp.acts.filter s.actDue
  let s := s.setDsp { s.dsp with acts := s.dsp.acts.filter (fun a => !s.actDue a) }
  s.each ((List.range 4).flatMap fun d => l.filter (fun a => a.desk == d)) (State.applyDue lanes)

/-- STAMPED_ACTION_APPLY (R324–R328). -/
def execStampedActionApply (lanes : List (Nat × Lane)) (s : State) : Host.Outcome State Fault Refusal :=
  s.act fun s => s.applyActs lanes

/-- Before any other writer of an edge the Desks' due actions apply, their lanes good (R25). -/
def State.desksFirst (s : State) : State := if s.dsp.acts.any s.actDue then s.applyActs [] else s

/-! ### Held writes (R66, R501) -/

/-- Two writes of one register in one: the later bits win. -/
def HeldAct.merge (a b : HeldAct) : HeldAct :=
  { b with val := ((BitVec.ofNat 32 a.val &&& ~~~ BitVec.ofNat 32 b.mask) ||| (BitVec.ofNat 32 b.val &&& BitVec.ofNat 32 b.mask)).toNat
           mask := a.mask ||| b.mask, covered := a.covered && b.covered }

/-- The last value of each register written, registers in the order of their first write. -/
def lastValues : List HeldAct → List HeldAct → List HeldAct
  | acc, [] => acc
  | acc, h :: t =>
    if acc.any (fun x => x.addr == h.addr) then lastValues (acc.map fun x => if x.addr == h.addr then x.merge h else x) t
    else lastValues (acc ++ [h]) t

/-- What a unit held applies, and each action is logged LATE. -/
def State.releaseUnit (s : State) (u : Nat) : State :=
  let l := s.dsp.held.filter (fun h => h.unit == u)
  let s := s.setDsp { s.dsp with held := s.dsp.held.filter (fun h => h.unit != u) }
  let s := s.each (lastValues [] l) fun s h => s.actWrite h.covered h.desk h.addr h.val h.mask
  s.each l fun s h => s.post (unitSrc u h.desk) 5 2 [.num 2 h.desk, .tick h.t, pOther (s.count - h.t)]

/-- The units that no longer hold writes back apply what they held; a region whose restart is set waits for it. -/
def State.releaseHeld (s : State) : State :=
  s.each ((s.dsp.held.map (·.unit)).eraseDups.filter fun u => !s.unitHolds u && (1024 ≤ u || (s.rgn u).restartMin.isNone))
    State.releaseUnit

end Sys2Proof.Machine
end

