-- ==== Sys2Proof/Machine/Bringup.lean ====
section
/-!
DEFINITION. Bring-up and the order of the first second (R36–R40, R99–R101, R232, R240, R455, R539–R541), warm reset
(R536, R537), safe settings that the Station sets (R103, R332, R549).
-/

namespace Sys2Proof.Machine

/-! ### Lock (R39, R40, R90) -/

/-- The timebase at lock: the first tick edge carries count 1. -/
def State.lockClock (s : State) (acqTk : Nat) : State :=
  let s := s.setStn { s.stn with locked := true, attempt := false, cntA := 1, cntB := 1, cntC := 1, elapsed := 0 }
  let s := (s.setClkState 1).fset F.STN_CLK_STATUS_REF_PRESENT 0 1
  s.fset F.STN_LOCK_TIME_TK 0 (satU 20 acqTk)

/-- A failure to lock before is reported at lock (R40). -/
def State.lockReport (s : State) (micros : Nat) : State :=
  if s.on F.STN_CLK_STATUS_LOCK_FAIL 0 then (s.fset F.STN_CLK_STATUS_LOCK_FAIL 0 0).post srcStation 0 3 [.num 32 micros]
  else s

/-- LOCK_DECLARED (R39, R40, R539, R541). -/
def execLockDeclared (micros acqTk : Nat) (s : State) : Host.Outcome State Fault Refusal :=
  s.act fun s => s.iff (!s.stn.locked && s.stn.attempt && (!s.refDetects || s.stn.classified)) fun s =>
    let s := (s.lockClock acqTk).lockReport micros
    let s := { s with cal := { s.cal with lockUs := micros } }.fset F.CAL_STATUS_PHASE 0 1
    let s := if s.on F.STN_CLK_CFG_HOLD_FORCE 0 then s.enterHoldover 3 else s
    State.jnlDrain 8 s.applyReady

/-- LOG_READY (R455): 4,096 tk after lock. -/
def execLogReady (s : State) : Host.Outcome State Fault Refusal :=
  s.act fun s => s.iff (s.stn.locked && s.stn.elapsed ≥ 4096 && !s.log.up) fun s =>
    let s := ({ s with log := { s.log with up := true } }).applyReady
    if s.on F.EVT_CTRL_EN 0 then s.recoverKept else s

/-! ### Sections (R99–R101, R240) -/

/-- The Section that the sequencer releases next: ascending numbers, 12,800 tk apart, once the region safe set of its
regions is committed (R240). -/
def State.releaseDue (s : State) (k : Nat) : Bool :=
  k < s.build.nSections && !(s.sec k).everReleased && s.stn.locked && s.on F.STN_SPINE_STATUS_CAL_DONE 0
    && !s.stn.relHold && s.cal.loaded && (List.range k).all (fun j => (s.sec j).everReleased)
    && (k == 0 || (s.sec (k - 1)).t0 + 12800 ≤ s.count) && (s.build.regionsOf k).all fun r => (s.calRgn r).bank.isNone

/-- SECTION_RELEASE (R99, R240, R541). -/
def execSectionRelease (sec : Nat) (s : State) : Host.Outcome State Fault Refusal :=
  s.act fun s => s.iff (s.releaseDue sec) fun s => ((s.releaseRoot sec).applyReady).leafFaults sec

/-- A region's part of the clock start: cause SECTION ends; its clock starts here unless another cause holds it (R99). -/
def State.clockStart (pos : Nat) (s : State) (r : Nat) : State :=
  let s := s.fset F.SB_GATE_SECTION r 0
  if s.gateCause r then s.fset F.SB_CLK_STATUS_STATE r 2 else s.startClock r pos

/-- REGION_CLOCK_START (R99): the first Section edge that coincides with a tick edge, at or after T0 + 1,024. -/
def execRegionClockStart (sec : Nat) (s : State) : Host.Outcome State Fault Refusal :=
  s.act fun s =>
    let c := s.sec sec
    s.iff (sec < s.build.nSections && s.secState sec == 1 && c.t0 + 1024 ≤ s.count && c.acc % 65536 == 0) fun s =>
      let s := (s.fset F.SEC_STATUS_STATE sec 2).setSec sec { c with dark := false }
      (s.each (s.build.regionsOf sec) (State.clockStart (c.acc / 4096))).releaseHeld

/-- The Section's Junctions are aligned, but for those whose side is in cause FAULT (R100). -/
def State.jctsAligned (s : State) (k : Nat) : Bool :=
  (List.range s.build.junctions.length).all fun j =>
    match s.build.junctions[j]? with
    | some b =>
      (s.build.sectionOf b.writer != k && s.build.sectionOf b.reader != k) || s.fget F.JCT_STAT_STATE j != 0
        || s.on F.SB_GATE_FAULT b.writer || s.on F.SB_GATE_FAULT b.reader
    | none => true

/-- PHASE reaches READY once every Section is READY or FAULT: every stage that is not FLAGGED becomes pending, and a
restore that is held starts; where every stage is FLAGGED refinement is complete (R251, R254, R280). -/
def State.readyCheck (s : State) : State :=
  if s.fget F.CAL_STATUS_PHASE 0 = 2 ∧ s.stn.relCount = s.build.nSections ∧ s.allReady then
    let s := s.fset F.CAL_STATUS_PHASE 0 3
    let s := s.fset F.CAL_TIME_READY_US 0 (satU 16 (s.cal.lockUs + s.stn.elapsed / 1600))
    let s := { s with cal := { s.cal with readyAt := s.stn.elapsed } }
    let s := s.each (List.range s.build.nRegions) fun s r =>
      let st (n : Nat) : Nat := if s.isFlagged r n then 0 else 2 ^ n
      s.fset F.SB_CAL_STAT_PENDING r (st 0 + st 1 + st 2)
    s.rebuildQueue.imgNext.checkRefined
  else s

/-- The Section reads READY: its requested word applies 32 tk later, with the commit of R239 (R101). With SAFE at 1 the word
stays the safe word, and fixed-headway mode alone starts where HEADWAY is 1 (R102, R170; DEDUCED, log entry 69). -/
def State.secBecomesReady (s : State) (k : Nat) : State :=
  let s := (s.enterState k 3).setSec k { s.sec k with readSeen := true }
  let safe := s.on F.SEC_CTRL_SAFE k
  if s.on F.SEC_CTRL_HEADWAY k then s.addPend k { due := s.count + 32, hw := some true, commit := !safe }
  else if safe then s
  else s.addPend k { due := s.count + 32, commit := true, applies := s.fget F.SEC_FW_FW k != 49152 }

/-- SECTION_READY (R100, R101). -/
def execSectionReady (sec : Nat) (s : State) : Host.Outcome State Fault Refusal :=
  s.act fun s => s.iff (sec < s.build.nSections && s.secState sec == 2 && s.jctsAligned sec) fun s =>
    (s.secBecomesReady sec).readyCheck

/-- REGION_RESTART (R120, R501). -/
def execRegionRestart (region : Nat) (s : State) : Host.Outcome State Fault Refusal :=
  s.act fun s => s.iff (s.restartDue region) fun s => (s.restartRegion region).releaseHeld

/-- SLOT_END (R371). -/
def execSlotEnd (sec : Nat) (s : State) : Host.Outcome State Fault Refusal :=
  s.act fun s => s.iff (s.on F.SEC_SLOT_ACTIVE sec && (s.sec sec).slotEnd ≤ s.count) fun s =>
    s.fset F.SEC_SLOT_ACTIVE sec 0

/-! ### Crossings (R232, R602) -/

/-- The address of a cell's CFG register. -/
def Cell.cfgAddr (c : Cell) : Nat := if c.isJct then 0xC0000 + 8 * c.idx else 0xC3000 + 16 * c.idx

/-- A REALIGN that waits in a shadow register merges into the alignment (R231). -/
def dropRealign (a : Nat) (l : List Shadow) : List Shadow :=
  l.map fun x => if x.key = a then { x with val := x.val &&& (2 ^ 32 - 3) } else x

/-- CROSSING_ALIGN (R232, R602): the handshake on the empty halves of a cell in STATE OFF starts, once both Sections are
released and no reset input is asserted. -/
def execCrossingAlign (x : XId) (s : State) : Host.Outcome State Fault Refusal :=
  s.act fun s =>
    match s.build.cell x with
    | none => s
    | some c =>
      let q := (s.xing c.key).chan
      let up (r : Nat) : Bool := (s.sec (s.build.sectionOf r)).released
      s.iff (s.xState c == 0 && q.hand.isNone && !q.wRst && !q.rRst && up c.writer && up c.reader) fun s =>
        s.xAlign c

/-- CROSSING_HANDSHAKE_DONE (R222, R232): a side's half comes to run; where an alignment ends, the cell's registers are
ready (R541). -/
def execCrossingHandshakeDone (x : XId) (side : Side) (s : State) : Host.Outcome State Fault Refusal :=
  s.act fun s =>
    match x with
    | .tok t => s.onTok t (fun _ => true) fun b => s.tokHandshake t b side
    | x => match s.build.cell x with
      | none => s
      | some c =>
        let s := s.xHandshake c side
        if s.xState c = 1 then { s with shadow := dropRealign c.cfgAddr s.shadow }.applyReady else s

/-! ### Warm reset (R536, R537) -/

/-- Every calibration slot ends. -/
def State.slotsEnd (s : State) : State :=
  s.each (List.range s.build.nSections) fun s k => s.fset F.SEC_SLOT_ACTIVE k 0

/-- WARM_RESET (R299, R536, R537); before lock it has no effect. -/
def execWarmReset (s : State) : Host.Outcome State Fault Refusal :=
  s.act fun s => s.iff (s.stn.locked && !s.stn.warm) fun s =>
    ((s.setStn { s.stn with warm := true }).dspWarm.govWarm.calWarm).slotsEnd

/-- WARM_RESET_RELEASE (R537). -/
def execWarmResetRelease (s : State) : Host.Outcome State Fault Refusal :=
  s.act fun s => s.iff s.stn.warm fun s =>
    (((s.setStn { s.stn with warm := false }).setFlag F.HIF_IRQ_SRC_WARM_DONE 0).recover 1).imgNext

/-! ### Safe settings set by the Station (R103, R332, R549, R550) -/

/-- SAFE in every Section, in ascending number, after every write of this tick edge (R550): the Desks' are made first, and a
later one of this edge leaves SAFE set. -/
def State.safeEverywhere (s : State) : State :=
  let s := s.desksFirst
  (s.setStn { s.stn with safeEdge := some s.stn.elapsed }).each (List.range s.build.nSections) State.stationSafe

/-- SAFE_ALL_APPLY (R549). -/
def execSafeAllApply (s : State) : Host.Outcome State Fault Refusal :=
  s.act fun s => s.iff (s.stn.safeAllAt.any (· ≤ s.stn.elapsed)) fun s =>
    ((s.setStn { s.stn with safeAllAt := none }).fset F.STN_GCTRL_SAFE_ALL 0 0).safeEverywhere

/-- DESK0_SAFE (R103, R332). -/
def execDesk0Safe (s : State) : Host.Outcome State Fault Refusal :=
  s.act fun s => s.iff (s.dsp.safeAt.any (· ≤ s.stn.elapsed)) fun s =>
    (s.setDsp { s.dsp with safeAt := s.dsp.safeAt.filter (s.stn.elapsed < ·) }).safeEverywhere

end Sys2Proof.Machine
end

