-- ==== Sys2Proof/Machine/Clock.lean ====
section
/-!
DEFINITION. The tick edge (R39, R47–R50): the master tick counter, the copies of R494, and what counts tick edges.
-/

namespace Sys2Proof.Machine

/-! ### The master tick counter (R47–R50) -/

/-- The bitwise majority of three copies. -/
def maj64 (a b c : BitVec 64) : BitVec 64 := (a &&& b) ||| (a &&& c) ||| (b &&& c)

/-- The counter's copies with the bits upset since the last tick edge. -/
def State.copies (s : State) (up : TickIn) : BitVec 64 × BitVec 64 × BitVec 64 :=
  (s.stn.cntA ^^^ up.a, s.stn.cntB ^^^ up.b, s.stn.cntC ^^^ up.c)

/-- Every copy takes the majority plus 1. -/
def State.tickCount (s : State) (up : TickIn) : State :=
  let (a, b, c) := s.copies up
  let n := maj64 a b c + 1
  s.setStn { s.stn with cntA := n, cntB := n, cntC := n, elapsed := s.stn.elapsed + 1 }

/-- One copy's correction count (R48). -/
def State.tmrCopy (s : State) (f : Fld) (differs : Bool) : State := if differs then s.faddSat f 0 1 else s

/-- Corrections are counted; three copies that all differ are reported (R48, R49). `m`: the majority before the
increment. -/
def State.tmrReport (s : State) (a b c m : BitVec 64) : State :=
  let s := s.tmrCopy F.STN_TMR_STATUS_CORR_A (a != m)
  let s := s.tmrCopy F.STN_TMR_STATUS_CORR_B (b != m)
  let s := s.tmrCopy F.STN_TMR_STATUS_CORR_C (c != m)
  if a ≠ b ∧ a ≠ c ∧ b ≠ c then
    (s.setFlag F.STN_TMR_STATUS_TRIPLE 0).post srcStation 0 4 [.num 32 (m.toNat % 2 ^ 32)]
  else s

/-! ### Frequency state in three copies (R494) -/

/-- The value of an item, and its width. -/
def State.fwItem (s : State) (k : Nat) : FwItem → Nat × Nat
  | .secFw => (s.fget F.SEC_FW_FW k, 18)
  | .fwHw => (s.fget F.SEC_HEADWAY_FW_HW k, 18)
  | .inForce => (s.fwCur k, 18)
  | .phase => ((s.sec k).acc, 64)
  | .target => ((s.sec k).target, 18)
  | .rampStep => ((s.sec k).rampNext, 64)
  | .dropE => (s.fget F.GOV_SEC_STAT_DROP_E k, 5)
  | .dropM => (s.fget F.GOV_SEC_STAT_DROP_M k, 5)

/-- Replace the value of an item. -/
def State.setFwItem (s : State) (k v : Nat) : FwItem → State
  | .secFw => s.fset F.SEC_FW_FW k v
  | .fwHw => s.fset F.SEC_HEADWAY_FW_HW k v
  | .inForce => s.fset F.SEC_FW_STATUS_FW_CUR k v
  | .phase => s.setSec k { s.sec k with acc := v }
  | .target => s.setSec k { s.sec k with target := v }
  | .rampStep => s.setSec k { s.sec k with rampNext := v }
  | .dropE => s.fset F.GOV_SEC_STAT_DROP_E k v
  | .dropM => s.fset F.GOV_SEC_STAT_DROP_M k v

/-- The unit that holds an item, as an event source. -/
def fwItemSrc (k : Nat) : FwItem → Nat
  | .dropE | .dropM => srcGov
  | _ => srcSec k

/-- One item's copies take their majority (R494). -/
def State.fwVote (s : State) (x : FwUpset) : State :=
  if x.sec < s.build.nSections then
    let (v, w) := s.fwItem x.sec x.item
    let a := v ^^^ (x.a % 2 ^ w)
    let b := v ^^^ (x.b % 2 ^ w)
    let c := v ^^^ (x.c % 2 ^ w)
    let m := maj3 a b c
    let s := s.faddSat F.STN_DEP_CNT_FW_CORR 0 ((a != m).toNat + (b != m).toNat + (c != m).toNat)
    let s := s.setFwItem x.sec m x.item
    if a ≠ b ∧ a ≠ c ∧ b ≠ c then
      (s.setFlag F.STN_DEP_STATUS_FW_TRIPLE 0).post (fwItemSrc x.sec x.item) 0 0x19 [pSection x.sec, .fw (s.fwCur x.sec)]
    else s
  else s

/-! ### What counts tick edges -/

/-- The Station's counts in holdover and reacquisition (R46); the tick phase moves by 1/8,192 tk a tick while the follower
slews (R86). -/
def State.tickStation (s : State) : State :=
  let t := s.stn
  let t := if s.on F.STN_SYNC_STATUS_SLEWING 0 then { t with slewPhase := t.slewPhase + t.slewDir } else t
  match s.clkState with
  | 2 => s.setStn { t with holdTk := t.holdTk + 1 }
  | 3 => s.setStn { t with holdTk := t.holdTk + 1, reacqTk := t.reacqTk + 1 }
  | _ => s.setStn t

/-- A released Section's phase advances by the word in force (R91); SEC_SYM_TK counts while the bus is active. -/
def State.tickSection (s : State) (k : Nat) : State :=
  let c := s.sec k
  let s := if c.released then s.setSec k { c with acc := c.acc + s.fwCur k } else s
  if s.on F.SEC_SYM_STATUS_ACTIVE k then s.faddWrap F.SEC_SYM_TK_COUNT k 1 else s

/-- A gated region's count (R131), the gate port's answer (R601), the ledger at each multiple of 64 tk (R123). -/
def State.tickRegion (s : State) (r : Nat) : State :=
  let s := s.ackFalls r
  let g := s.rgn r
  let s := if s.count % 64 = 0 then s.setRgn r { g with ledWin := g.ledger :: g.ledWin.take 3 } else s
  if s.clk r = 2 then
    let g := s.rgn r
    s.setRgn r { g with gatedTk := (g.gatedTk + 1) % 2 ^ 32, mile := { g.mile with gated := g.mile.gated + 1 } }
  else s

/-- A STALLED Desk's count. -/
def State.tickDesk (s : State) (d : Nat) : State :=
  if s.deskState d = 3 then s.faddWrap F.DSP_DESK_STALL_TK d 1 else s

/-- The tick edge's new allowances: flags set since the last one count as made here (R9); the log and the Journal may
write four entries each. -/
def State.tickFresh (s : State) : State :=
  { s with
    fresh := s.freshMid
    freshMid := []
    jnl := { s.jnl with wrote := 0 }
    log := { s.log with wrote := 0, took := 0 } }

/-- The pins sampled at a tick edge (R73, R560). -/
def State.tickPins (s : State) (inp : TickIn) : State :=
  let s := s.pmbPins inp.smbClk inp.smbDat inp.alertN
  if s.build.optSync then s.setStn { s.stn with syncRx := s.stn.syncRx.edge s.count inp.syncMid inp.syncIn } else s

/-- A user of the AXI manager's read channel waits to issue a burst (R527). -/
def State.readWaits (s : State) (user : Nat) : Bool :=
  if user = axPage then s.dsp.fills.any (·.sent < 16)
  else if user = axLoad then s.on F.DSP_STATUS_LOADING 0 && s.dsp.loadSent < 128
  else user == axImage && s.cal.restore.any fun o => o.err.isNone && o.pos < 2 * s.build.imgTiles

/-- A user issues its next read burst. -/
def State.readIssue (s : State) (user : Nat) : State :=
  let s := { s with axi := { s.axi with turn := user } }
  if user = axPage then s.pageIssue
  else if user = axLoad then s.loadIssue
  else match s.cal.restore with
    | some o => s.restoreIssue o
    | none => s

/-- The AXI manager issues one read burst, of the next user in turn, and one burst of a save, where it has room (R276, R281,
R527, R529); the spill's bursts have their own row. The count of bursts outstanding is the free one that HIF_AXI_STATUS
shows (DESIGN CHOICE, log entry 75). -/
def State.tickAxi (s : State) : State :=
  if s.axi.held then s
  else
    let next := ((List.range 5).map fun i => (s.axi.turn + 1 + i) % 5).find? s.readWaits
    let s := match next with
      | some u => s.iff (s.rdOut < axLimit (s.fget F.HIF_AXI_CFG_MAX_RD 0)) fun s => s.readIssue u
      | none => s
    match s.cal.save with
    | some o => s.iff (s.wrOut < axLimit (s.fget F.HIF_AXI_CFG_MAX_WR 0)) fun s => s.saveIssue o
    | none => s

/-- One tick edge. -/
def State.tickEdge (s : State) (up : TickIn) : State :=
  let (a, b, c) := s.copies up
  let s := (s.tickFresh.tickCount up).tmrReport a b c (maj64 a b c)
  let s := s.each up.fw State.fwVote
  let s := (s.tickPins up).tickStation
  let s := s.each (List.range s.build.nSections) State.tickSection
  let s := s.each (List.range s.build.nRegions) State.tickRegion
  let s := s.each (List.range 4) State.tickDesk
  let s := s.each (List.range s.build.nRails) State.lhShow
  let s := State.jnlDrain 8 s
  let s := s.syncDrive.readyCheck.releaseHeld.tickAxi.milDue.pmbNext
  if !s.on F.DSP_STATUS_READY 0 && s.count % 2 == 0 && 2 ≤ s.count then s.dspGo else s

/-- TICK (R47): every tick edge from lock on (R38, R39). -/
def execTick (inp : TickIn) (s : State) : Host.Outcome State Fault Refusal :=
  s.act fun s => s.iff s.stn.locked fun s => s.tickEdge inp

end Sys2Proof.Machine
end

