-- ==== Sys2Proof/Machine/Fetch.lean ====
section
/-!
DEFINITION. A Dispatcher cycle: Desk 0's copies, the fetch, the decoding of an instruction word (R291, R301, R302,
R305–R315, R333–R340).
-/

namespace Sys2Proof.Machine

/-! ### Decoding (R333, R334, R337, R339) -/

/-- Bits `lo` to `lo + n - 1` of an instruction word. -/
def bits (w lo n : Nat) : Nat := w / 2 ^ lo % 2 ^ n

/-- The fields of an instruction word. -/
def iD (w : Nat) : Nat := bits w 51 5
def iA (w : Nat) : Nat := bits w 46 5
def iB (w : Nat) : Nat := bits w 41 5
def iFn (w : Nat) : Nat := bits w 32 9
def iImm (w : Nat) : Nat := bits w 0 32
def tTd (w : Nat) : Nat := bits w 54 2
def tTa (w : Nat) : Nat := bits w 52 2
def tA (w : Nat) : Nat := bits w 47 5

/-- Format S. -/
def sForm (w : Nat) (ecc : Ecc) : SForm :=
  { stamp := bits w 48 1 == 1, ts := bits w 49 2, offs := bits w 32 16, scope := bits w 30 2, index := bits w 20 10
    addr := bits w 0 20, ecc }

/-- An instruction whose reserved fields are zero; else it is ILLEGAL (R337). -/
def needs (l : List Nat) (i : Issue) : Issue := if l.all (· == 0) then i else .illegal

/-- The instruction of opcodes 0x01–0x33: control flow, arithmetic, moves, data memory. -/
def State.decodeLow (s : State) (d w : Nat) (ecc : Ecc) : Nat → Issue
  | 0x01 => needs [iB w] (s.doBr d (iFn w) (iD w) (iA w) (iImm w))
  | 0x02 => needs [iD w, iA w, iB w, iFn w] (s.doCall d (iImm w))
  | 0x03 => needs [bits w 0 56] (s.doRet d)
  | 0x04 => needs [iD w, iB w, iFn w] (s.doJr d (iA w) (iImm w))
  | 0x05 => needs [bits w 0 56] (s.doHalt d)
  | 0x06 => needs [bits w 0 56] (.ok s)
  | 0x10 => needs [iImm w] (s.doAlu d (iFn w) (iD w) (iA w) (iB w))
  | 0x11 => needs [iB w] (s.doAlui d (iFn w) (iD w) (iA w) (iImm w))
  | 0x20 => needs [iA w, iB w, iFn w] (s.doMovi d (iD w) (iImm w))
  | 0x21 => needs [iImm w] (s.doCmp d (iFn w) (iD w) (iA w) (iB w))
  | 0x22 => needs [iB w] (s.doCmpi d (iFn w) (iD w) (iA w) (iImm w))
  | 0x30 => needs [iB w, iFn w] (s.doLd d (iD w) (iA w) (iImm w) ecc)
  | 0x31 => needs [iB w, iFn w] (s.doSt d (iD w) (iA w) (iImm w))
  | 0x32 => needs [iB w, iFn w] (s.doLdt d (iD w) (iA w) (iImm w) ecc)
  | 0x33 => needs [iB w, iFn w] (s.doStt d (iD w) (iA w) (iImm w))
  | _ => .illegal

/-- The instruction of opcodes 0x40–0x48: time. -/
def State.decodeTime (s : State) (d w : Nat) : Nat → Issue
  | 0x40 => needs [bits w 32 15, tTa w, tA w, iImm w] (s.doRdt d (tTd w))
  | 0x41 => needs [bits w 32 15, tA w] (s.doTaddi d (tTd w) (tTa w) (iImm w))
  | 0x42 => needs [bits w 32 15] (s.doTaddg d (tTd w) (tTa w) (tA w) (iImm w))
  | 0x43 => needs [bits w 32 15, iImm w] (s.doTdiff d (tA w) (tTd w) (tTa w))
  | 0x44 => needs [bits w 32 15, tTd w, iImm w] (s.doTlo d (tA w) (tTa w))
  | 0x45 => needs [bits w 32 15, tTd w, iImm w] (s.doThi d (tA w) (tTa w))
  | 0x46 => needs [bits w 32 15, tTa w, iImm w] (s.doTsetlo d (tTd w) (tA w))
  | 0x47 => needs [bits w 32 15, tTa w, iImm w] (s.doTsethi d (tTd w) (tA w))
  | 0x48 => needs [bits w 32 15, tTd w, tA w] (s.doWait d (tTa w) (iImm w))
  | _ => .illegal

/-- The instruction of opcodes 0x50–0xB2: units, marks, registers, paging, semaphores. -/
def State.decodeHigh (s : State) (d w : Nat) (f : SForm) : Nat → Issue
  | 0x50 => s.doFreq d (iD w) f
  | 0x51 => s.doFreqhw d (iD w) f
  | 0x52 => s.doHeadway d (iD w) f
  | 0x53 => s.doStrpol d (iD w) f
  | 0x54 => s.doGate d (iD w) f
  | 0x55 => s.doFreeze d (iD w) f
  | 0x56 => s.doThaw d (iD w) f
  | 0x57 => s.doWoff d (iD w) f
  | 0x60 => s.doCslot d (iD w) f
  | 0x61 => s.doLwh d (iD w) f
  | 0x70 => s.doStep d (iD w) f
  | 0x71 => s.doPhase d (iD w) f
  | 0x78 => needs [iD w, iB w] (s.doPost d (iFn w) (iA w) (iImm w))
  | 0x80 => s.doEnvcap d (iD w) f
  | 0x81 => needs [iD w, iB w, iFn w] (s.doPrio d (iA w) (iImm w))
  | 0x90 => s.doWr d (iD w) f
  | 0x91 => needs [iB w, iFn w] (s.doRd d (iD w) (iA w) (iImm w))
  | 0xA0 => needs [iD w, iB w, iFn w] (s.doPref d (iA w) (iImm w))
  | 0xA1 => needs [iD w, iB w, iFn w] (s.doPin d (iA w) (iImm w))
  | 0xA2 => needs [iD w, iB w, iFn w] (s.doUnpin d (iA w) (iImm w))
  | 0xB0 => needs [iD w, iA w, iB w, iFn w] (s.doAcq d (iImm w))
  | 0xB1 => needs [iD w, iA w, iB w, iFn w] (s.doRel d (iImm w))
  | 0xB2 => needs [iA w, iB w, iFn w] (s.doTry d (iD w) (iImm w))
  | _ => .illegal

/-- What an instruction word does (R339): an opcode that no index lists is ILLEGAL. -/
def State.decodeWord (s : State) (d w : Nat) (ecc : Ecc) : Issue :=
  let op := bits w 56 8
  if op < 0x40 then s.decodeLow d w ecc op
  else if op < 0x50 then s.decodeTime d w op
  else s.decodeHigh d w (sForm w ecc) op

/-! ### The fetch (R305–R307, R310, R311, R314) -/

/-- The 64-bit word at an address of the program store. -/
def State.progWord (s : State) (a : Nat) : Nat := (s.rdWord (a + 4)).toNat * 2 ^ 32 + (s.rdWord a).toNat

/-- A Desk that is ready fetches and issues. A page at or above PAGES faults it, a resident page too (R314). -/
def State.fetchIssue (s : State) (d : Nat) (inp : CycleIn) : State :=
  let pc := s.pc d
  if inp.parity && d != 0 then s.deskFault d 9
  else if d = 0 ∧ 0x1000 ≤ pc then s.deskFault 0 3
  else if s.imgPages ≤ pc / 512 then s.deskFault d 4
  else if pc < 0x1000 then
    if s.tileValid (pc / 128) && !inp.fetch then s.issue d fun s => s.decodeWord d (s.progWord (0x10000 + 8 * pc)) inp.ecc
    else s.deskFault d 2
  else
    match s.frameOf (pc / 512) with
    | none => (s.setDesk d { s.desk d with page := some (pc / 512) }).setDeskState d 3
    | some f =>
      if inp.fetch then s.deskFault d 2
      else (s.fetched d).issue d fun s =>
        s.decodeWord d (s.progWord (0x18000 + 0x1000 * f + 8 * (pc % 512))) inp.ecc

/-! ### Desk 0's copies (R301) -/

/-- The bits of an item of Desk 0's state. -/
def itemWidth : DeskItem → Nat
  | .g n => if n % 32 = 0 then 0 else 32
  | .t _ => 64
  | .pc => 21
  | .stack _ => 21
  | .depth => 4
  | .action _ => 64

/-- The tick of the n-th action of Desk 0 with some of its bits turned. -/
def flipAct (m : Nat) : Nat → List Act → List Act
  | _, [] => []
  | n, a :: l =>
    if a.desk = 0 ∧ a.slot.isSome then
      (match n with
       | 0 => { a with tick := a.tick ^^^ m } :: l
       | n + 1 => a :: flipAct m n l)
    else a :: flipAct m n l

/-- The majority of an item's copies takes its place. -/
def State.flipItem (s : State) (x : DeskUpset) : State :=
  let m := maj3 x.a x.b x.c % 2 ^ itemWidth x.item
  match x.item with
  | .g n => s.setG 0 n (s.g 0 n ^^^ m)
  | .t n => s.setT 0 n (s.t 0 n ^^^ m)
  | .pc => s.setPc 0 (s.pc 0 ^^^ m)
  | .stack n => s.fset F.DSP_STACK_RET (n % 8) (s.fget F.DSP_STACK_RET (n % 8) ^^^ m)
  | .depth => s.fset F.DSP_DESK_STATUS_DEPTH 0 (s.depth 0 ^^^ m)
  | .action n => s.setDsp { s.dsp with acts := flipAct m n s.dsp.acts }

/-- Two copies of Desk 0's state differ. -/
def copiesDiffer (l : List DeskUpset) (f g : DeskUpset → Nat) : Bool :=
  l.any fun x => (f x ^^^ g x) % 2 ^ itemWidth x.item != 0

/-- Each copy of Desk 0's state takes the majority; three copies that all differ fault it (R301). -/
def State.desk0Copies (s : State) (l : List DeskUpset) : State :=
  let m (x : DeskUpset) : Nat := maj3 x.a x.b x.c
  let wrong := [copiesDiffer l (·.a) m, copiesDiffer l (·.b) m, copiesDiffer l (·.c) m]
  let s := s.each l State.flipItem
  let s := s.faddSat F.DSP_STATUS_TMR_CORR 0 (wrong.filter id).length
  if copiesDiffer l (·.a) (·.b) && copiesDiffer l (·.a) (·.c) && copiesDiffer l (·.b) (·.c) then s.deskFault 0 9 else s

/-- DISPATCH_CYCLE (R290, R291). -/
def execDispatchCycle (inp : CycleIn) (s : State) : Host.Outcome State Fault Refusal :=
  s.act fun s => s.iff s.cycleOpen fun s =>
    let s := (s.cycleBegin.desk0Copies inp.upsets).cycleTaken
    match s.issuer with
    | some d => s.fetchIssue d inp
    | none => s

end Sys2Proof.Machine
end

