-- ==== Sys2Proof/Machine/HostWrites.lean ====
section
/-!
DEFINITION. Writes of the host through the APB target (R509–R513, R538): one meaning for each row of a host write, each
the write of R25 at that register's address with the field's value and mask.
-/

namespace Sys2Proof.Machine

/-! ### The APB target -/

/-- An access to an unmapped range: PSLVERR, recorded (R511). -/
def State.apbUnmapped (s : State) (a : Nat) (write : Bool) : State :=
  let s := (s.fset F.HIF_APB_ERR_ADDR 0 (a % 2 ^ 20)).fset F.HIF_APB_ERR_WRITE 0 write.toNat
  let s := (s.faddSat F.HIF_APB_ERR_COUNT 0 1).setFlag F.HIF_IRQ_SRC_APB_ERR 0
  { s with apb := { rdata := if write then s.apb.rdata else 0, slverr := true } }

/-- A host write of the bits of a mask: to an unmapped range (R511), discarded while a warm reset is in effect (R538), or
made, after the Desks' actions of the same edge (R25, R513). -/
def State.hostWord (s : State) (a : Nat) (val mask : Word) (persists : Option Bool := none) : State :=
  if !mapped a then s.apbUnmapped a true
  else
    let s := { s with apb := { s.apb with slverr := false } }
    if s.stn.warm && 0x4000 ≤ wordAddr a && wordAddr a < 0x8000 then s
    else s.desksFirst.writeWord wApb a val mask persists

/-- A host write of a word with byte strobes (R512). -/
def State.hostStrobed (s : State) (a data strb : Nat) : State := s.hostWord a (BitVec.ofNat 32 data) (strobeMask strb)

/-- A host write of one field; a unit that the instance lacks is a reserved offset (R11, R544). -/
def State.hostField (s : State) (f : Fld) (u v : Nat) : State :=
  s.hostWord (regAddr f.reg u) (putF 0 f.lo f.w v) (maskF f.lo f.w)

/-- A host write of one bit at 1. -/
def State.hostBit (s : State) (f : Fld) (u : Nat) : State := s.hostField f u 1

/-- The number of a crossing's registers, in a field of each kind of cell. -/
def State.hostCrossing (s : State) (j i : Fld) : XId → State
  | .jct n => s.iff (n < s.build.junctions.length) fun s => s.hostBit j n
  | .ich n => s.iff (n < s.build.interchanges.length) fun s => s.hostBit i n
  | .tok _ => s

/-! ### Station -/

/-- REF_SEL_WRITE (R36). -/
def execRefSelWrite (sel : Nat) (s : State) : Host.Outcome State Fault Refusal :=
  s.act fun s => s.hostField F.STN_CLK_CFG_REF_SEL 0 sel
/-- HOLD_FORCE (R90). -/
def execHoldForce (on : Bool) (s : State) : Host.Outcome State Fault Refusal :=
  s.act fun s => s.hostField F.STN_CLK_CFG_HOLD_FORCE 0 on.toNat
/-- TCAP_CAPTURE (R55, R56). -/
def execTcapCapture (s : State) : Host.Outcome State Fault Refusal :=
  s.act fun s => s.hostBit F.STN_TCAP_CTRL_CAPTURE 0
/-- SPINE_RECAL (R63). -/
def execSpineRecal (s : State) : Host.Outcome State Fault Refusal :=
  s.act fun s => s.hostBit F.STN_SPINE_CTRL_RECAL 0
/-- SYNC_ROLE_WRITE (R82). -/
def execSyncRoleWrite (role : Nat) (s : State) : Host.Outcome State Fault Refusal :=
  s.act fun s => s.hostField F.STN_SYNC_CTRL_ROLE 0 role
/-- SYNC_MEASURE (R78). -/
def execSyncMeasure (s : State) : Host.Outcome State Fault Refusal :=
  s.act fun s => s.hostBit F.STN_SYNC_CTRL_MEASURE 0
/-- SAFE_ALL (R549). -/
def execSafeAll (s : State) : Host.Outcome State Fault Refusal :=
  s.act fun s => s.hostBit F.STN_GCTRL_SAFE_ALL 0

/-! ### Sections -/

/-- SEC_FW_WRITE (R94). -/
def execSecFwWrite (sec fw : Nat) (s : State) : Host.Outcome State Fault Refusal :=
  s.act fun s => s.iff (sec < s.build.nSections) fun s => s.hostField F.SEC_FW_FW sec fw
/-- SAFE_SET (R102). -/
def execSafeSet (sec : Nat) (s : State) : Host.Outcome State Fault Refusal :=
  s.act fun s => s.iff (sec < s.build.nSections) fun s => s.hostField F.SEC_CTRL_SAFE sec 1
/-- SAFE_CLEAR (R104). -/
def execSafeClear (sec : Nat) (s : State) : Host.Outcome State Fault Refusal :=
  s.act fun s => s.iff (sec < s.build.nSections) fun s => s.hostField F.SEC_CTRL_SAFE sec 0
/-- SECTION_RESTART (R106, R107). -/
def execSectionRestart (sec : Nat) (s : State) : Host.Outcome State Fault Refusal :=
  s.act fun s => s.iff (sec < s.build.nSections) fun s => s.hostBit F.SEC_CTRL_RESTART sec
/-- HEADWAY_ON (R164). -/
def execHeadwayOn (sec : Nat) (s : State) : Host.Outcome State Fault Refusal :=
  s.act fun s => s.iff (sec < s.build.nSections) fun s => s.hostField F.SEC_CTRL_HEADWAY sec 1
/-- HEADWAY_OFF (R165). -/
def execHeadwayOff (sec : Nat) (s : State) : Host.Outcome State Fault Refusal :=
  s.act fun s => s.iff (sec < s.build.nSections) fun s => s.hostField F.SEC_CTRL_HEADWAY sec 0
/-- FW_HW_WRITE (R169). -/
def execFwHwWrite (sec fw : Nat) (s : State) : Host.Outcome State Fault Refusal :=
  s.act fun s => s.iff (sec < s.build.nSections) fun s => s.hostField F.SEC_HEADWAY_FW_HW sec fw
/-- SYM_EN_CLEAR (R183): requests end at each region's next edge. -/
def execSymEnClear (sec : Nat) (s : State) : Host.Outcome State Fault Refusal :=
  s.act fun s => s.iff (sec < s.build.nSections) fun s => s.hostField F.SEC_SYM_CFG_EN sec 0
/-- SLOT_LEN_WRITE (R371). -/
def execSlotLenWrite (sec len : Nat) (s : State) : Host.Outcome State Fault Refusal :=
  s.act fun s => s.iff (sec < s.build.nSections) fun s => s.hostField F.SEC_SLOT_LEN sec len

/-! ### Signal Boxes -/

/-- A host write of one bit in a region of the instance. -/
def State.hostRegion (s : State) (f : Fld) (r v : Nat) : State := s.iff (s.isRegion r) fun s => s.hostField f r v

/-- GATE_WAKE_WRITE (R119). -/
def execGateWakeWrite (region : Nat) (s : State) : Host.Outcome State Fault Refusal :=
  s.act fun s => s.hostRegion F.SB_GATE_WAKE region 1
/-- GATE_FORCE_WRITE (R364). -/
def execGateForceWrite (region : Nat) (on : Bool) (s : State) : Host.Outcome State Fault Refusal :=
  s.act fun s => s.hostRegion F.SB_GATE_FORCE region on.toNat
/-- GATE_FAULT_CLEAR (R126). -/
def execGateFaultClear (region : Nat) (persists : Bool) (s : State) : Host.Outcome State Fault Refusal :=
  s.act fun s => s.iff (s.isRegion region) fun s =>
    s.hostWord (regAddr .SB_GATE region) (maskF 31 1) (maskF 31 1) (some persists)
/-- TAP_RELOAD (R272). -/
def execTapReload (region : Nat) (s : State) : Host.Outcome State Fault Refusal :=
  s.act fun s => s.hostRegion F.SB_TAP_CTRL_RELOAD region 1
/-- TAP_TABLE_WRITE (R272): `addr` counts from the start of the Tap Table. -/
def execTapTableWrite (addr data strb : Nat) (s : State) : Host.Outcome State Fault Refusal :=
  s.act fun s => s.hostStrobed (0x20000 + addr % 0x20000) data strb
/-- CLR_TEMP_MAX (R130). -/
def execClrTempMax (region : Nat) (s : State) : Host.Outcome State Fault Refusal :=
  s.act fun s => s.hostRegion F.SB_SENSE_CTRL_CLR_TEMP_MAX region 1
/-- CLR_V_MIN (R130). -/
def execClrVMin (region : Nat) (s : State) : Host.Outcome State Fault Refusal :=
  s.act fun s => s.hostRegion F.SB_SENSE_CTRL_CLR_V_MIN region 1
/-- TC_CLR_LOW (R173). -/
def execTcClrLow (region : Nat) (s : State) : Host.Outcome State Fault Refusal :=
  s.act fun s => s.hostRegion F.SB_TC_CTRL_CLR_LOW region 1
/-- PROFILE_WRITE (R163). -/
def execProfileWrite (region n data strb : Nat) (s : State) : Host.Outcome State Fault Refusal :=
  s.act fun s => s.iff (s.isRegion region && n < 4) fun s => s.hostStrobed (regAddr .SB_PROFILE0 region + 4 * n) data strb
/-- SLIP_CLR_MAX (R195). -/
def execSlipClrMax (region : Nat) (s : State) : Host.Outcome State Fault Refusal :=
  s.act fun s => s.hostRegion F.SB_SLIP_CFG_CLR_MAX region 1

/-! ### Crossings -/

/-- CROSSING_REALIGN (R231). -/
def execCrossingRealign (x : XId) (s : State) : Host.Outcome State Fault Refusal :=
  s.act fun s => s.hostCrossing F.JCT_CFG_REALIGN F.ICH_CFG_REALIGN x
/-- OCC_CLR_MAX (R234). -/
def execOccClrMax (x : XId) (s : State) : Host.Outcome State Fault Refusal :=
  s.act fun s => s.hostCrossing F.JCT_CFG_CLR_MAX F.ICH_CFG_CLR_MAX x

/-! ### Calibration -/

/-- CAL_FORCE (R255). -/
def execCalForce (s : State) : Host.Outcome State Fault Refusal := s.act fun s => s.hostBit F.CAL_CTRL_FORCE 0
/-- CAL_RESTART (R256). -/
def execCalRestart (s : State) : Host.Outcome State Fault Refusal := s.act fun s => s.hostBit F.CAL_CTRL_RESTART 0
/-- REDO_DESKEW (R256). -/
def execRedoDeskew (region : Nat) (s : State) : Host.Outcome State Fault Refusal :=
  s.act fun s => s.hostRegion F.SB_CAL_CTRL_REDO_DESKEW region 1
/-- REDO_TRIM (R256). -/
def execRedoTrim (region : Nat) (s : State) : Host.Outcome State Fault Refusal :=
  s.act fun s => s.hostRegion F.SB_CAL_CTRL_REDO_TRIM region 1
/-- REDO_EYE (R256). -/
def execRedoEye (region : Nat) (s : State) : Host.Outcome State Fault Refusal :=
  s.act fun s => s.hostRegion F.SB_CAL_CTRL_REDO_EYE region 1
/-- CAL_IMG_SAVE (R276, R280). -/
def execCalImgSave (s : State) : Host.Outcome State Fault Refusal := s.act fun s => s.hostBit F.CAL_IMG_CTRL_SAVE 0
/-- CAL_IMG_RESTORE (R280). -/
def execCalImgRestore (s : State) : Host.Outcome State Fault Refusal := s.act fun s => s.hostBit F.CAL_IMG_CTRL_RESTORE 0

/-! ### Dispatcher -/

/-- DESK_START (R295). -/
def execDeskStart (desk : Nat) (s : State) : Host.Outcome State Fault Refusal :=
  s.act fun s => s.iff (desk < 4) fun s => s.hostBit F.DSP_DESK_CTRL_START desk
/-- DESK_STOP (R296). -/
def execDeskStop (desk : Nat) (s : State) : Host.Outcome State Fault Refusal :=
  s.act fun s => s.iff (desk < 4) fun s => s.hostBit F.DSP_DESK_CTRL_STOP desk
/-- DESK_STEP (R297). -/
def execDeskStep (desk : Nat) (s : State) : Host.Outcome State Fault Refusal :=
  s.act fun s => s.iff (desk < 4) fun s => s.hostBit F.DSP_DESK_CTRL_STEP desk
/-- SEM_HOST_RELEASE (R321). -/
def execSemHostRelease (sems : Nat) (s : State) : Host.Outcome State Fault Refusal :=
  s.act fun s => s.hostField F.DSP_SEM_HELD_HELD 0 sems
/-- RESIDENT_TILE_WRITE (R306): `addr` counts from the start of the resident tiles. -/
def execResidentTileWrite (addr data strb : Nat) (s : State) : Host.Outcome State Fault Refusal :=
  s.act fun s => s.hostStrobed (0x10000 + addr % 0x8000) data strb
/-- RESIDENT_CRC_WRITE (R306). -/
def execResidentCrcWrite (tile data strb : Nat) (s : State) : Host.Outcome State Fault Refusal :=
  s.act fun s => s.hostStrobed (residentAddr (tile % 32) + 0x3FC) data strb
/-- RESIDENT_LOAD (R309, R392). -/
def execResidentLoad (s : State) : Host.Outcome State Fault Refusal := s.act fun s => s.hostBit F.DSP_CTRL_LOAD_RES 0
/-- The register of DSP_IMG that a write names. -/
def imgReg : ImgReg → Reg
  | .lo => .DSP_IMG_LO
  | .hi => .DSP_IMG_HI
  | .size => .DSP_IMG_SIZE
/-- DSP_IMG_WRITE (R394). -/
def execDspImgWrite (which : ImgReg) (data strb : Nat) (s : State) : Host.Outcome State Fault Refusal :=
  s.act fun s => s.hostStrobed (regAddr (imgReg which) 0) data strb
/-- DMEM_DATA_WRITE (R317). -/
def execDmemDataWrite (data strb : Nat) (s : State) : Host.Outcome State Fault Refusal :=
  s.act fun s => s.hostStrobed (regAddr .DSP_DMEM_DATA 0) data strb

/-! ### Governor and PMBus -/

/-- GOV_ENV_WRITE (R399). -/
def execGovEnvWrite (budget : Nat) (s : State) : Host.Outcome State Fault Refusal :=
  s.act fun s => s.hostField F.GOV_ENV_BUDGET 0 budget
/-- PMB_EN_WRITE (R425). -/
def execPmbEnWrite (on : Bool) (s : State) : Host.Outcome State Fault Refusal :=
  s.act fun s => s.hostField F.GOV_CTRL_PMB_EN 0 on.toNat
/-- ALERT_STUCK_CLEAR (R429). -/
def execAlertStuckClear (rail : Nat) (s : State) : Host.Outcome State Fault Refusal :=
  s.act fun s => s.iff (rail < s.build.nRails) fun s => s.hostBit F.GOV_RAIL_STAT_ALERT_STUCK rail
/-- PMB_REQUEST (R430): GOV_PMB_REQ is written whole, with GO. -/
def execPmbRequest (type rail cmd data : Nat) (s : State) : Host.Outcome State Fault Refusal :=
  s.act fun s =>
    let w := putF (putF (putF (putF (maskF 31 1) 28 3 type) 24 4 rail) 16 8 cmd) 0 16 data
    s.hostWord (regAddr .GOV_PMB_REQ 0) w (BitVec.allOnes 32)

/-! ### Event Log and Mileage -/

/-- EVT_EN_WRITE (R455, R458). -/
def execEvtEnWrite (on : Bool) (s : State) : Host.Outcome State Fault Refusal :=
  s.act fun s => s.hostField F.EVT_CTRL_EN 0 on.toNat
/-- EVT_RECOVER (R458). -/
def execEvtRecover (s : State) : Host.Outcome State Fault Refusal := s.act fun s => s.hostBit F.EVT_CTRL_RECOVER 0
/-- EVT_RIDX_WRITE (R461). -/
def execEvtRidxWrite (idx : Nat) (s : State) : Host.Outcome State Fault Refusal :=
  s.act fun s => s.hostField F.EVT_RIDX_INDEX 0 idx
/-- EVT_MODE_WRITE (R466, R467). -/
def execEvtModeWrite (spill : Bool) (s : State) : Host.Outcome State Fault Refusal :=
  s.act fun s => s.hostField F.EVT_CTRL_MODE 0 spill.toNat
/-- SPILL_ERR_CLEAR (R472). -/
def execSpillErrClear (s : State) : Host.Outcome State Fault Refusal := s.act fun s => s.hostBit F.EVT_STATUS_SPILL_ERR 0
/-- A snapshot is asked for with its region, in one write of MIL_CTRL. -/
def State.hostSnap (s : State) (f : Fld) (region : Nat) : State :=
  s.hostWord (regAddr .MIL_CTRL 0) (putF (putF 0 f.lo 1 1) 0 10 region) (maskF f.lo 1 ||| maskF 0 10)
/-- MIL_SNAP (R484). -/
def execMilSnap (region : Nat) (s : State) : Host.Outcome State Fault Refusal :=
  s.act fun s => s.hostSnap F.MIL_CTRL_SNAP region
/-- MIL_SNAP_CLR (R484, R485). -/
def execMilSnapClr (region : Nat) (s : State) : Host.Outcome State Fault Refusal :=
  s.act fun s => s.hostSnap F.MIL_CTRL_SNAP_CLR region

/-! ### Any other register -/

/-- HOST_REGISTER_WRITE (R512, R513). -/
def execHostRegisterWrite (addr data strb : Nat) (s : State) : Host.Outcome State Fault Refusal :=
  s.act fun s => s.hostStrobed addr data strb

end Sys2Proof.Machine
end

