-- ==== Sys2Proof/Machine/HostPorts.lean ====
section
/-!
DEFINITION. The host's ports beside its writes: APB accesses to unmapped ranges and its reset (R511, R535), a host read
that finds an error (R317), the AXI manager's errors and reset (R531–R533).
-/

namespace Sys2Proof.Machine

/-- APB_UNMAPPED_ACCESS (R511). -/
def execApbUnmappedAccess (addr : Nat) (write : Bool) (s : State) : Host.Outcome State Fault Refusal :=
  s.act fun s => s.iff (!mapped addr) fun s => s.apbUnmapped addr write

/-- APB_RESET (R535): the protocol's state only. -/
def execApbReset (s : State) : Host.Outcome State Fault Refusal := s.act fun s => { s with apb := {} }

/-- DMEM_DATA_READ (R317): the read finds an uncorrectable error. -/
def execDmemDataRead (s : State) : Host.Outcome State Fault Refusal :=
  s.act fun s =>
    let s := { s with apb := { rdata := s.readWord (regAddr .DSP_DMEM_DATA 0) } }
    if s.regReady .DSP_DMEM_DATA 0 then s.setFlag F.DSP_STATUS_DMEM_ERR 0 else s

/-- AXI_ERROR_RESPONSE (R532): recorded; an image transfer fails by it, and of the other users
their own rows carry the response to them. -/
def execAxiErrorResponse (user : Nat) (resp : AxiResp) (s : State) : Host.Outcome State Fault Refusal :=
  s.act fun s => if user = axImage ∧ resp ≠ .okay then (s.axiRecord user resp).imgError else s.axiRecord user resp

/-- AXI_RANGE (R531): recorded; its user's own row acts on it. -/
def execAxiRange (user : Nat) (s : State) : Host.Outcome State Fault Refusal := s.act fun s => s.axiRange user

/-- The users with transactions outstanding get error responses (R532, R533): a load for the tile read last (DEDUCED, log
entry 75). -/
def State.axiCut (s : State) (resp : AxiResp) : State :=
  let s := s.each (s.dsp.fills.filter fun f => f.sent != 0) fun s f => (s.axiRecord axPage resp).fillFails f
  let s := if s.on F.DSP_STATUS_LOADING 0 && s.dsp.loadSent != 0 then
      (s.setDsp { s.dsp with loadErr := (s.dsp.loadSent - 1) / 4 :: s.dsp.loadErr }).axiRecord axLoad resp
    else s
  let s := if s.log.spill.bursts.isEmpty then s
    else (s.axiRecord axSpill resp).spillError 0 (s.reg .EVT_RING_WR 0).toNat
  if s.cal.save.isSome || s.cal.restore.isSome then (s.axiRecord axImage resp).imgError else s

/-- AXI_RESET (R533). -/
def execAxiReset (s : State) : Host.Outcome State Fault Refusal :=
  s.act fun s => s.iff (!s.axi.held) fun s =>
    let resp : AxiResp := if Config.resetResp s.freeCtr then .decerr else .slverr
    let s := { s with axi := { s.axi with held := true }, freeCtr := s.freeCtr + 1 }
    s.axiCut resp

/-- AXI_RESET_RELEASE (R533). -/
def execAxiResetRelease (s : State) : Host.Outcome State Fault Refusal :=
  s.act fun s => { s with axi := { s.axi with held := false } }

end Sys2Proof.Machine
end

