-- ==== Sys2Proof/Machine/TestMode.lean ====
section
/-!
DEFINITION. Test (R574, R575, R594, R595, R597): after any use of scan or of a wrapper instruction but bypass the state
of the block is undefined until `po_rst_n` is asserted.
-/

namespace Sys2Proof

/-- The state of a block that has been under test (R575: undefined), by the model's counter. -/
opaque Config.testState : Nat → Machine.State

namespace Machine

/-- The block under test: every state is a free value but the build, the test logic itself and the queue (R575). -/
def State.underTest (s : State) (t : Test) : State :=
  { Config.testState s.freeCtr with build := s.build, test := t, freeCtr := s.freeCtr + 1, por := s.por, pending := s.pending }

/-- A wrapper or self-test instruction of code `n` is selected, with a data register of `w` bits (R594). -/
def State.testInstr (s : State) (n w : Nat) : State :=
  s.underTest { s.test with instr := n, data := Config.testData n s.freeCtr % 2 ^ w, used := true }

/-- SCAN_MODE (R575, R595). -/
def execScanMode (s : State) : Host.Outcome State Fault Refusal :=
  s.act fun s => s.underTest { s.test with scan := true, used := true }
/-- WS_BYPASS (R594): the bypass register stands between WSI and WSO; nothing else changes. -/
def execWsBypass (s : State) : Host.Outcome State Fault Refusal :=
  s.act fun s => { s with test := { s.test with instr := 0, data := 0 } }
/-- WS_EXTEST (R575, R594). -/
def execWsExtest (s : State) : Host.Outcome State Fault Refusal := s.act fun s => s.testInstr 1 32
/-- WS_INTEST (R575, R594). -/
def execWsIntest (s : State) : Host.Outcome State Fault Refusal := s.act fun s => s.testInstr 2 32
/-- WS_CLAMP (R575, R594). -/
def execWsClamp (s : State) : Host.Outcome State Fault Refusal := s.act fun s => s.testInstr 3 1
/-- TK_PLLTEST (R575, R594). -/
def execTkPlltest (s : State) : Host.Outcome State Fault Refusal := s.act fun s => s.testInstr 8 32
/-- TK_DLLTEST (R575, R594). -/
def execTkDlltest (s : State) : Host.Outcome State Fault Refusal := s.act fun s => s.testInstr 9 32
/-- TK_MBIST (R575, R594). -/
def execTkMbist (s : State) : Host.Outcome State Fault Refusal := s.act fun s => s.testInstr 10 16
/-- TK_TCTEST (R575, R594). -/
def execTkTctest (s : State) : Host.Outcome State Fault Refusal := s.act fun s => s.testInstr 11 8

end Machine

end Sys2Proof
end

