-- ==== Sys2Proof/Machine/Transfers.lean ====
section
/-!
DEFINITION. What writes with AXI transfers, after the Desks and before the APB target (R25, R266): a resident load's end
(R309), calibration commits (R263, R282).
-/

namespace Sys2Proof.Machine

/-- RESIDENT_LOAD_DONE (R309): every burst of the load has returned. -/
def execResidentLoadDone (bytes errors : List Nat) (s : State) : Host.Outcome State Fault Refusal :=
  s.act fun s => s.iff (s.on F.DSP_STATUS_LOADING 0 && s.dsp.loadSent == 128) fun s =>
    let s := (s.desksFirst.each (List.range 32) (State.loadTile bytes errors)).loadEnd
    { s with freeCtr := s.freeCtr + 1 }

/-- CAL_COMMIT (R263, R264, R276): not while a save runs; a restored image commits with its restore (R282). -/
def execCalCommit (region : Nat) (crcBad : Bool) (s : State) : Host.Outcome State Fault Refusal :=
  s.act fun s =>
    match (s.calRgn region).bank with
    | none => s
    | some b => s.iff (s.commitEdge b.doneAt && s.cal.save.isNone && b.src != .image) fun s =>
      let s := s.desksFirst
      if crcBad then s.bankBad region b else (s.commitBank region b).afterCommit region b

/-- CAL_IMG_RESTORE_DONE (R281–R284): the verdict, which refuses the image or loads the shadow banks; then, at a multiple
of 64 at least 32 tk later, their commit, with the image that was read. -/
def execCalImgRestoreDone (img : ImageIn) (s : State) : Host.Outcome State Fault Refusal :=
  s.act fun s =>
    match s.cal.restore with
    | none => s
    | some o =>
      if o.loaded.isSome then s.iff (s.commitEdge o.loaded) fun s => s.desksFirst.imgCommit img o.gen
      else s.imgVerdict o img

end Sys2Proof.Machine
end

