-- ==== Sys2Proof/Machine/Dispatch.lean ====
section
/-! DEFINITION. One arm per command, each one direct call of its meaning. -/

namespace Sys2Proof.Machine

def exec (i : Instr) (s : State) : Host.Outcome State Fault Refusal :=
  match i with
  | .poRstAssert => Sys2Proof.Machine.execPoRstAssert s
  | .poRstRelease => Sys2Proof.Machine.execPoRstRelease s
  | .referenceDetection edges => Sys2Proof.Machine.execReferenceDetection edges s
  | .lockDeclared micros acqTk => Sys2Proof.Machine.execLockDeclared micros acqTk s
  | .lockFail => Sys2Proof.Machine.execLockFail s
  | .refSelWrite sel => Sys2Proof.Machine.execRefSelWrite sel s
  | .holdForce on => Sys2Proof.Machine.execHoldForce on s
  | .lossOfReference cause => Sys2Proof.Machine.execLossOfReference cause s
  | .referenceQualified => Sys2Proof.Machine.execReferenceQualified s
  | .lockRestored refPeriods => Sys2Proof.Machine.execLockRestored refPeriods s
  | .tick inp => Sys2Proof.Machine.execTick inp s
  | .tcapCapture => Sys2Proof.Machine.execTcapCapture s
  | .tcapLatch => Sys2Proof.Machine.execTcapLatch s
  | .spineCalibration leaves => Sys2Proof.Machine.execSpineCalibration leaves s
  | .spineTrackMeasure attempts delta residual => Sys2Proof.Machine.execSpineTrackMeasure attempts delta residual s
  | .spineRecal => Sys2Proof.Machine.execSpineRecal s
  | .spineParityMismatch region count => Sys2Proof.Machine.execSpineParityMismatch region count s
  | .spineReload region => Sys2Proof.Machine.execSpineReload region s
  | .spineFrameCheck region count => Sys2Proof.Machine.execSpineFrameCheck region count s
  | .warmReset => Sys2Proof.Machine.execWarmReset s
  | .warmResetRelease => Sys2Proof.Machine.execWarmResetRelease s
  | .syncFrameSend => Sys2Proof.Machine.execSyncFrameSend s
  | .syncFrameReceive => Sys2Proof.Machine.execSyncFrameReceive s
  | .syncLost => Sys2Proof.Machine.execSyncLost s
  | .hardAlignment => Sys2Proof.Machine.execHardAlignment s
  | .syncHoldTimeout => Sys2Proof.Machine.execSyncHoldTimeout s
  | .syncRoleWrite role => Sys2Proof.Machine.execSyncRoleWrite role s
  | .syncMeasure => Sys2Proof.Machine.execSyncMeasure s
  | .syncRttDone => Sys2Proof.Machine.execSyncRttDone s
  | .syncEcho => Sys2Proof.Machine.execSyncEcho s
  | .secFwWrite sec fw => Sys2Proof.Machine.execSecFwWrite sec fw s
  | .frequencyChange sec => Sys2Proof.Machine.execFrequencyChange sec s
  | .writeOff region => Sys2Proof.Machine.execWriteOff region s
  | .rampStep sec => Sys2Proof.Machine.execRampStep sec s
  | .sectionRelease sec => Sys2Proof.Machine.execSectionRelease sec s
  | .dllLock region alignPh alignFine residPs => Sys2Proof.Machine.execDllLock region alignPh alignFine residPs s
  | .regionClockStart sec => Sys2Proof.Machine.execRegionClockStart sec s
  | .sectionReady sec => Sys2Proof.Machine.execSectionReady sec s
  | .safeSet sec => Sys2Proof.Machine.execSafeSet sec s
  | .safeClear sec => Sys2Proof.Machine.execSafeClear sec s
  | .sectionPeriodCheck sec edges phaseErr => Sys2Proof.Machine.execSectionPeriodCheck sec edges phaseErr s
  | .sectionRestart sec => Sys2Proof.Machine.execSectionRestart sec s
  | .gateRequest region => Sys2Proof.Machine.execGateRequest region s
  | .gatingWriteOff region => Sys2Proof.Machine.execGatingWriteOff region s
  | .wakeInput region edge => Sys2Proof.Machine.execWakeInput region edge s
  | .gateWakeWrite region => Sys2Proof.Machine.execGateWakeWrite region s
  | .gateForceWrite region on => Sys2Proof.Machine.execGateForceWrite region on s
  | .regionRestart region => Sys2Proof.Machine.execRegionRestart region s
  | .regionPeriodCheck region edges => Sys2Proof.Machine.execRegionPeriodCheck region edges s
  | .dllLockLoss region cycles => Sys2Proof.Machine.execDllLockLoss region cycles s
  | .gateFaultClear region persists => Sys2Proof.Machine.execGateFaultClear region persists s
  | .resetRequestLower region => Sys2Proof.Machine.execResetRequestLower region s
  | .inputUnmask region => Sys2Proof.Machine.execInputUnmask region s
  | .regionEdge region inp => Sys2Proof.Machine.execRegionEdge region inp s
  | .eventPortPosting region cls code payload => Sys2Proof.Machine.execEventPortPosting region cls code payload s
  | .tapTileLoad region => Sys2Proof.Machine.execTapTileLoad region s
  | .tapReload region => Sys2Proof.Machine.execTapReload region s
  | .tapTableWrite addr data strb => Sys2Proof.Machine.execTapTableWrite addr data strb s
  | .tapTableSeedLoad failed => Sys2Proof.Machine.execTapTableSeedLoad failed s
  | .thermalReading region temp => Sys2Proof.Machine.execThermalReading region temp s
  | .voltageSenseUpdate region mv => Sys2Proof.Machine.execVoltageSenseUpdate region mv s
  | .clrTempMax region => Sys2Proof.Machine.execClrTempMax region s
  | .clrVMin region => Sys2Proof.Machine.execClrVMin region s
  | .actSnapshot region => Sys2Proof.Machine.execActSnapshot region s
  | .actSnapshotDone region => Sys2Proof.Machine.execActSnapshotDone region s
  | .tcSelftest region tc => Sys2Proof.Machine.execTcSelftest region tc s
  | .tcOutOfTurnTest region => Sys2Proof.Machine.execTcOutOfTurnTest region s
  | .tcReadmit region tc => Sys2Proof.Machine.execTcReadmit region tc s
  | .tcClrLow region => Sys2Proof.Machine.execTcClrLow region s
  | .tcReadRefresh region => Sys2Proof.Machine.execTcReadRefresh region s
  | .whistleStrobe region intensity => Sys2Proof.Machine.execWhistleStrobe region intensity s
  | .profileRefit region => Sys2Proof.Machine.execProfileRefit region s
  | .profileWrite region n data strb => Sys2Proof.Machine.execProfileWrite region n data strb s
  | .headwayOn sec => Sys2Proof.Machine.execHeadwayOn sec s
  | .headwayOff sec => Sys2Proof.Machine.execHeadwayOff sec s
  | .fwHwWrite sec fw => Sys2Proof.Machine.execFwHwWrite sec fw s
  | .symEnClear sec => Sys2Proof.Machine.execSymEnClear sec s
  | .slipClrMax region => Sys2Proof.Machine.execSlipClrMax region s
  | .crossingWrite x data => Sys2Proof.Machine.execCrossingWrite x data s
  | .crossingRead x => Sys2Proof.Machine.execCrossingRead x s
  | .tokenPulse t => Sys2Proof.Machine.execTokenPulse t s
  | .tokenDeliver t => Sys2Proof.Machine.execTokenDeliver t s
  | .tokenWordDeliver t taken => Sys2Proof.Machine.execTokenWordDeliver t taken s
  | .tokenAcknowledge t pulse => Sys2Proof.Machine.execTokenAcknowledge t pulse s
  | .crossingResetAssert x side => Sys2Proof.Machine.execCrossingResetAssert x side s
  | .crossingFlush x side => Sys2Proof.Machine.execCrossingFlush x side s
  | .crossingResetDeassert x side => Sys2Proof.Machine.execCrossingResetDeassert x side s
  | .crossingHandshakeDone x side => Sys2Proof.Machine.execCrossingHandshakeDone x side s
  | .pointerParity x pointer side => Sys2Proof.Machine.execPointerParity x pointer side s
  | .crossingRealign x => Sys2Proof.Machine.execCrossingRealign x s
  | .crossingAlign x => Sys2Proof.Machine.execCrossingAlign x s
  | .occRefresh x => Sys2Proof.Machine.execOccRefresh x s
  | .occClrMax x => Sys2Proof.Machine.execOccClrMax x s
  | .sectionInitStep region step meas => Sys2Proof.Machine.execSectionInitStep region step meas s
  | .calStepStart region => Sys2Proof.Machine.execCalStepStart region s
  | .calUnitStart region edges => Sys2Proof.Machine.execCalUnitStart region edges s
  | .calStepDone region meas => Sys2Proof.Machine.execCalStepDone region meas s
  | .calStepAbandon region => Sys2Proof.Machine.execCalStepAbandon region s
  | .calForce => Sys2Proof.Machine.execCalForce s
  | .calRestart => Sys2Proof.Machine.execCalRestart s
  | .redoDeskew region => Sys2Proof.Machine.execRedoDeskew region s
  | .redoTrim region => Sys2Proof.Machine.execRedoTrim region s
  | .redoEye region => Sys2Proof.Machine.execRedoEye region s
  | .calCommit region crcBad => Sys2Proof.Machine.execCalCommit region crcBad s
  | .calImgSave => Sys2Proof.Machine.execCalImgSave s
  | .calImgSaveDone ok => Sys2Proof.Machine.execCalImgSaveDone ok s
  | .calImgRestore => Sys2Proof.Machine.execCalImgRestore s
  | .calImgRestoreDone img => Sys2Proof.Machine.execCalImgRestoreDone img s
  | .calSpotCheck region stage meas => Sys2Proof.Machine.execCalSpotCheck region stage meas s
  | .slotLenWrite sec len => Sys2Proof.Machine.execSlotLenWrite sec len s
  | .slotEnd sec => Sys2Proof.Machine.execSlotEnd sec s
  | .dispatchCycle inp => Sys2Proof.Machine.execDispatchCycle inp s
  | .stampedActionApply lanes => Sys2Proof.Machine.execStampedActionApply lanes s
  | .deskStart desk => Sys2Proof.Machine.execDeskStart desk s
  | .deskStop desk => Sys2Proof.Machine.execDeskStop desk s
  | .deskStep desk => Sys2Proof.Machine.execDeskStep desk s
  | .desk0Safe => Sys2Proof.Machine.execDesk0Safe s
  | .br desk cond a b target => Sys2Proof.Machine.execBr desk cond a b target s
  | .call desk target => Sys2Proof.Machine.execCall desk target s
  | .ret desk => Sys2Proof.Machine.execRet desk s
  | .jr desk a imm => Sys2Proof.Machine.execJr desk a imm s
  | .halt desk => Sys2Proof.Machine.execHalt desk s
  | .nop desk => Sys2Proof.Machine.execNop desk s
  | .alu desk fn rd ra rb => Sys2Proof.Machine.execAlu desk fn rd ra rb s
  | .alui desk fn rd ra imm => Sys2Proof.Machine.execAlui desk fn rd ra imm s
  | .movi desk rd imm => Sys2Proof.Machine.execMovi desk rd imm s
  | .cmp desk fn rd ra rb => Sys2Proof.Machine.execCmp desk fn rd ra rb s
  | .cmpi desk fn rd ra imm => Sys2Proof.Machine.execCmpi desk fn rd ra imm s
  | .ld desk rd ra imm ecc => Sys2Proof.Machine.execLd desk rd ra imm ecc s
  | .st desk rd ra imm => Sys2Proof.Machine.execSt desk rd ra imm s
  | .ldt desk td ra imm ecc => Sys2Proof.Machine.execLdt desk td ra imm ecc s
  | .stt desk td ra imm => Sys2Proof.Machine.execStt desk td ra imm s
  | .rdt desk td => Sys2Proof.Machine.execRdt desk td s
  | .taddi desk td ta imm => Sys2Proof.Machine.execTaddi desk td ta imm s
  | .taddg desk td ta ra imm => Sys2Proof.Machine.execTaddg desk td ta ra imm s
  | .tdiff desk ra td ta => Sys2Proof.Machine.execTdiff desk ra td ta s
  | .tlo desk ra ta => Sys2Proof.Machine.execTlo desk ra ta s
  | .thi desk ra ta => Sys2Proof.Machine.execThi desk ra ta s
  | .tsetlo desk td ra => Sys2Proof.Machine.execTsetlo desk td ra s
  | .tsethi desk td ra => Sys2Proof.Machine.execTsethi desk td ra s
  | .wait desk ta imm => Sys2Proof.Machine.execWait desk ta imm s
  | .waitEnd desk => Sys2Proof.Machine.execWaitEnd desk s
  | .freq desk v sf => Sys2Proof.Machine.execFreq desk v sf s
  | .freqhw desk v sf => Sys2Proof.Machine.execFreqhw desk v sf s
  | .headway desk v sf => Sys2Proof.Machine.execHeadway desk v sf s
  | .strpol desk v sf => Sys2Proof.Machine.execStrpol desk v sf s
  | .gate desk v sf => Sys2Proof.Machine.execGate desk v sf s
  | .freeze desk v sf => Sys2Proof.Machine.execFreeze desk v sf s
  | .thaw desk v sf => Sys2Proof.Machine.execThaw desk v sf s
  | .woff desk v sf => Sys2Proof.Machine.execWoff desk v sf s
  | .cslot desk v sf => Sys2Proof.Machine.execCslot desk v sf s
  | .lwh desk v sf => Sys2Proof.Machine.execLwh desk v sf s
  | .step desk v sf => Sys2Proof.Machine.execStep desk v sf s
  | .phase desk v sf => Sys2Proof.Machine.execPhase desk v sf s
  | .post desk fn ra imm => Sys2Proof.Machine.execPost desk fn ra imm s
  | .envcap desk v sf => Sys2Proof.Machine.execEnvcap desk v sf s
  | .prio desk ra imm => Sys2Proof.Machine.execPrio desk ra imm s
  | .wr desk v sf => Sys2Proof.Machine.execWr desk v sf s
  | .rd desk rd ra imm => Sys2Proof.Machine.execRd desk rd ra imm s
  | .rdReturn desk => Sys2Proof.Machine.execRdReturn desk s
  | .pref desk ra imm => Sys2Proof.Machine.execPref desk ra imm s
  | .pin desk ra imm => Sys2Proof.Machine.execPin desk ra imm s
  | .unpin desk ra imm => Sys2Proof.Machine.execUnpin desk ra imm s
  | .acq desk imm => Sys2Proof.Machine.execAcq desk imm s
  | .rel desk imm => Sys2Proof.Machine.execRel desk imm s
  | .try desk rd imm => Sys2Proof.Machine.execTry desk rd imm s
  | .semaphorePass sem => Sys2Proof.Machine.execSemaphorePass sem s
  | .actionEntryFree desk => Sys2Proof.Machine.execActionEntryFree desk s
  | .whistleEntryFree desk => Sys2Proof.Machine.execWhistleEntryFree desk s
  | .semHostRelease sems => Sys2Proof.Machine.execSemHostRelease sems s
  | .residentTileWrite addr data strb => Sys2Proof.Machine.execResidentTileWrite addr data strb s
  | .residentCrcWrite tile data strb => Sys2Proof.Machine.execResidentCrcWrite tile data strb s
  | .tileScrub bad => Sys2Proof.Machine.execTileScrub bad s
  | .residentLoad => Sys2Proof.Machine.execResidentLoad s
  | .residentLoadDone bytes errors => Sys2Proof.Machine.execResidentLoadDone bytes errors s
  | .pageFillStart page => Sys2Proof.Machine.execPageFillStart page s
  | .pageFillDone page bytes resp => Sys2Proof.Machine.execPageFillDone page bytes resp s
  | .dspImgWrite which data strb => Sys2Proof.Machine.execDspImgWrite which data strb s
  | .dspImgApply => Sys2Proof.Machine.execDspImgApply s
  | .dmemDataWrite data strb => Sys2Proof.Machine.execDmemDataWrite data strb s
  | .envSample valid budget => Sys2Proof.Machine.execEnvSample valid budget s
  | .govEnvWrite budget => Sys2Proof.Machine.execGovEnvWrite budget s
  | .governorControlTick mismatch => Sys2Proof.Machine.execGovernorControlTick mismatch s
  | .stepCountApply lanes => Sys2Proof.Machine.execStepCountApply lanes s
  | .marginWindow sec => Sys2Proof.Machine.execMarginWindow sec s
  | .voltageRaiseStep rail => Sys2Proof.Machine.execVoltageRaiseStep rail s
  | .voltageConfirm rail => Sys2Proof.Machine.execVoltageConfirm rail s
  | .voltageConfirmTimeout rail => Sys2Proof.Machine.execVoltageConfirmTimeout rail s
  | .longWhistleDue => Sys2Proof.Machine.execLongWhistleDue s
  | .loadHintStrobe rail => Sys2Proof.Machine.execLoadHintStrobe rail s
  | .loadHintStrobeEnd rail => Sys2Proof.Machine.execLoadHintStrobeEnd rail s
  | .pmbusStart => Sys2Proof.Machine.execPmbusStart s
  | .pmbEnWrite on => Sys2Proof.Machine.execPmbEnWrite on s
  | .pmbusTransactionDone reply => Sys2Proof.Machine.execPmbusTransactionDone reply s
  | .telemetryRound => Sys2Proof.Machine.execTelemetryRound s
  | .telemetryRetry rail => Sys2Proof.Machine.execTelemetryRetry rail s
  | .alertService => Sys2Proof.Machine.execAlertService s
  | .alertStuckClear rail => Sys2Proof.Machine.execAlertStuckClear rail s
  | .pmbRequest type rail cmd data => Sys2Proof.Machine.execPmbRequest type rail cmd data s
  | .reconciliationClose mismatch => Sys2Proof.Machine.execReconciliationClose mismatch s
  | .reconciliationResult => Sys2Proof.Machine.execReconciliationResult s
  | .energyEstimate region e => Sys2Proof.Machine.execEnergyEstimate region e s
  | .eventPosting src cls code payload => Sys2Proof.Machine.execEventPosting src cls code payload s
  | .sourceGapMarker src => Sys2Proof.Machine.execSourceGapMarker src s
  | .eventNetworkTake lanes => Sys2Proof.Machine.execEventNetworkTake lanes s
  | .logCommit => Sys2Proof.Machine.execLogCommit s
  | .logOverflowGap => Sys2Proof.Machine.execLogOverflowGap s
  | .logReady => Sys2Proof.Machine.execLogReady s
  | .evtEnWrite on => Sys2Proof.Machine.execEvtEnWrite on s
  | .evtRecover => Sys2Proof.Machine.execEvtRecover s
  | .evtRidxWrite idx => Sys2Proof.Machine.execEvtRidxWrite idx s
  | .evtModeWrite spill => Sys2Proof.Machine.execEvtModeWrite spill s
  | .spillBurst ecc => Sys2Proof.Machine.execSpillBurst ecc s
  | .spillBurstDone resp => Sys2Proof.Machine.execSpillBurstDone resp s
  | .consumeIndexRead value resp => Sys2Proof.Machine.execConsumeIndexRead value resp s
  | .ringFullReread value resp => Sys2Proof.Machine.execRingFullReread value resp s
  | .spillErrClear => Sys2Proof.Machine.execSpillErrClear s
  | .logEntryRead slot word ecc => Sys2Proof.Machine.execLogEntryRead slot word ecc s
  | .journalEntryRead slot word ecc => Sys2Proof.Machine.execJournalEntryRead slot word ecc s
  | .mileageWindowEnd => Sys2Proof.Machine.execMileageWindowEnd s
  | .milSnap region => Sys2Proof.Machine.execMilSnap region s
  | .milSnapClr region => Sys2Proof.Machine.execMilSnapClr region s
  | .milSnapDone corrected => Sys2Proof.Machine.execMilSnapDone corrected s
  | .safeAll => Sys2Proof.Machine.execSafeAll s
  | .safeAllApply => Sys2Proof.Machine.execSafeAllApply s
  | .hostRegisterWrite addr data strb => Sys2Proof.Machine.execHostRegisterWrite addr data strb s
  | .apbUnmappedAccess addr write => Sys2Proof.Machine.execApbUnmappedAccess addr write s
  | .apbReset => Sys2Proof.Machine.execApbReset s
  | .axiErrorResponse user resp => Sys2Proof.Machine.execAxiErrorResponse user resp s
  | .axiRange user => Sys2Proof.Machine.execAxiRange user s
  | .axiReset => Sys2Proof.Machine.execAxiReset s
  | .scanMode => Sys2Proof.Machine.execScanMode s
  | .wsBypass => Sys2Proof.Machine.execWsBypass s
  | .wsExtest => Sys2Proof.Machine.execWsExtest s
  | .wsIntest => Sys2Proof.Machine.execWsIntest s
  | .wsClamp => Sys2Proof.Machine.execWsClamp s
  | .tkPlltest => Sys2Proof.Machine.execTkPlltest s
  | .tkDlltest => Sys2Proof.Machine.execTkDlltest s
  | .tkMbist => Sys2Proof.Machine.execTkMbist s
  | .tkTctest => Sys2Proof.Machine.execTkTctest s
  | .tokenWordOffer t data => Sys2Proof.Machine.execTokenWordOffer t data s
  | .acknowledgeRiseSeen t => Sys2Proof.Machine.execAcknowledgeRiseSeen t s
  | .requestFallSeen t => Sys2Proof.Machine.execRequestFallSeen t s
  | .dmemDataRead => Sys2Proof.Machine.execDmemDataRead s
  | .axiResetRelease => Sys2Proof.Machine.execAxiResetRelease s

end Sys2Proof.Machine
end

