-- ==== Sys2Proof/WellFormed.lean ====
section
/-!
DEFINITION. Well-formed commands: what a sender can send to an instance. A unit exists, a number fits the field that
carries it, a reading lies in the range that its sensor has.
-/

namespace Sys2Proof

/-- How many of each unit an instance has (R27, R29, R198, R213). -/
structure Sizes where
  regions      : Nat
  sections     : Nat
  rails        : Nat
  junctions    : Nat
  interchanges : Nat
  tokens       : Nat
  deriving DecidableEq, Repr

/-- A number below a bound. -/
def below (n v : Nat) : Bool := v < n

/-- The instance has the region. -/
def Sizes.region (z : Sizes) (r : Nat) : Bool := r < z.regions
/-- The instance has the Section. -/
def Sizes.section (z : Sizes) (k : Nat) : Bool := k < z.sections
/-- The instance has the rail. -/
def Sizes.rail (z : Sizes) (n : Nat) : Bool := n < z.rails
/-- The instance has the crossing. -/
def Sizes.crossing (z : Sizes) : XId → Bool
  | .jct j => j < z.junctions
  | .ich i => i < z.interchanges
  | .tok t => t < z.tokens

/-- The fields of format S fit their widths (R333). -/
def SForm.ok (f : SForm) : Bool :=
  below 4 f.ts && below (2 ^ 16) f.offs && below 4 f.scope && below 1024 f.index && below (2 ^ 20) f.addr

/-- Eight readings of 0–31 and ledger copies of 7 bits. -/
def EdgeIn.ok (i : EdgeIn) : Bool :=
  i.raw.length == 8 && i.raw.all (below 32) && below 128 i.upA && below 128 i.upB && below 128 i.upC

/-- The command is well-formed in an instance. -/
def wellFormed (z : Sizes) : Instr → Bool
  | .poRstAssert => true
  | .poRstRelease => true
  | .referenceDetection _ => true
  | .lockDeclared _ _ => true
  | .lockFail => true
  | .refSelWrite sel => below 4 sel
  | .holdForce _ => true
  | .lossOfReference _ => true
  | .referenceQualified => true
  | .lockRestored _ => true
  | .tick _ => true
  | .tcapCapture => true
  | .tcapLatch => true
  | .spineCalibration leaves => leaves.map (·.region) == List.range (z.regions + 1)
  | .spineTrackMeasure _ _ _ => true
  | .spineRecal => true
  | .spineParityMismatch region _ => z.region region
  | .spineReload region => z.region region
  | .spineFrameCheck region _ => z.region region
  | .warmReset => true
  | .warmResetRelease => true
  | .syncFrameSend => true
  | .syncFrameReceive => true
  | .syncLost => true
  | .hardAlignment => true
  | .syncHoldTimeout => true
  | .syncRoleWrite role => below 4 role
  | .syncMeasure => true
  | .syncRttDone => true
  | .syncEcho => true
  | .secFwWrite sec fw => z.section sec && below (2 ^ 18) fw
  | .frequencyChange sec => z.section sec
  | .writeOff region => z.region region
  | .rampStep sec => z.section sec
  | .sectionRelease sec => z.section sec
  | .dllLock region _ _ _ => z.region region
  | .regionClockStart sec => z.section sec
  | .sectionReady sec => z.section sec
  | .safeSet sec => z.section sec
  | .safeClear sec => z.section sec
  | .sectionPeriodCheck sec _ _ => z.section sec
  | .sectionRestart sec => z.section sec
  | .gateRequest region => z.region region
  | .gatingWriteOff region => z.region region
  | .wakeInput region _ => z.region region
  | .gateWakeWrite region => z.region region
  | .gateForceWrite region _ => z.region region
  | .regionRestart region => z.region region
  | .regionPeriodCheck region _ => z.region region
  | .dllLockLoss region _ => z.region region
  | .gateFaultClear region _ => z.region region
  | .resetRequestLower region => z.region region
  | .inputUnmask region => z.region region
  | .regionEdge region inp => z.region region && inp.ok
  | .eventPortPosting region cls code payload => z.region region && below 16 cls && below 256 code && below (2 ^ 32) payload
  | .tapTileLoad region => z.region region
  | .tapReload region => z.region region
  | .tapTableWrite addr data strb => below (2 ^ 20) addr && below (2 ^ 32) data && below 16 strb
  | .tapTableSeedLoad failed => failed.all z.region
  | .thermalReading region _ => z.region region
  | .voltageSenseUpdate region _ => z.region region
  | .clrTempMax region => z.region region
  | .clrVMin region => z.region region
  | .actSnapshot region => z.region region
  | .actSnapshotDone region => z.region region
  | .tcSelftest region tc => z.region region && below 8 tc
  | .tcOutOfTurnTest region => z.region region
  | .tcReadmit region tc => z.region region && below 8 tc
  | .tcClrLow region => z.region region
  | .tcReadRefresh region => z.region region
  | .whistleStrobe region _ => z.region region
  | .profileRefit region => z.region region
  | .profileWrite region n data strb => z.region region && below 4 n && below (2 ^ 32) data && below 16 strb
  | .headwayOn sec => z.section sec
  | .headwayOff sec => z.section sec
  | .fwHwWrite sec fw => z.section sec && below (2 ^ 18) fw
  | .symEnClear sec => z.section sec
  | .slipClrMax region => z.region region
  | .crossingWrite x _ => z.crossing x
  | .crossingRead x => z.crossing x
  | .tokenPulse t => z.crossing (.tok t)
  | .tokenDeliver t => z.crossing (.tok t)
  | .tokenWordDeliver t _ => z.crossing (.tok t)
  | .tokenAcknowledge t _ => z.crossing (.tok t)
  | .crossingResetAssert x _ => z.crossing x
  | .crossingFlush x _ => z.crossing x
  | .crossingResetDeassert x _ => z.crossing x
  | .crossingHandshakeDone x _ => z.crossing x
  | .pointerParity x _ _ => z.crossing x
  | .crossingRealign x => z.crossing x
  | .crossingAlign x => z.crossing x
  | .occRefresh x => z.crossing x
  | .occClrMax x => z.crossing x
  | .sectionInitStep region _ _ => z.region region
  | .calStepStart region => z.region region
  | .calUnitStart region edges => z.region region && 1 ≤ edges && edges ≤ 16
  | .calStepDone region _ => z.region region
  | .calStepAbandon region => z.region region
  | .calForce => true
  | .calRestart => true
  | .redoDeskew region => z.region region
  | .redoTrim region => z.region region
  | .redoEye region => z.region region
  | .calCommit region _ => z.region region
  | .calImgSave => true
  | .calImgSaveDone _ => true
  | .calImgRestore => true
  | .calImgRestoreDone _ => true
  | .calSpotCheck region _ _ => z.region region
  | .slotLenWrite sec len => z.section sec && below (2 ^ 20) len
  | .slotEnd sec => z.section sec
  | .dispatchCycle _ => true
  | .stampedActionApply _ => true
  | .deskStart desk => below 4 desk
  | .deskStop desk => below 4 desk
  | .deskStep desk => below 4 desk
  | .desk0Safe => true
  | .br desk cond a b target => below 4 desk && below 16 cond && below 32 a && below 32 b && below (2 ^ 32) target
  | .call desk target => below 4 desk && below (2 ^ 32) target
  | .ret desk => below 4 desk
  | .jr desk a imm => below 4 desk && below 32 a && below (2 ^ 32) imm
  | .halt desk => below 4 desk
  | .nop desk => below 4 desk
  | .alu desk fn rd ra rb => below 4 desk && below 512 fn && below 32 rd && below 32 ra && below 32 rb
  | .alui desk fn rd ra imm => below 4 desk && below 512 fn && below 32 rd && below 32 ra && below (2 ^ 32) imm
  | .movi desk rd imm => below 4 desk && below 32 rd && below (2 ^ 32) imm
  | .cmp desk fn rd ra rb => below 4 desk && below 512 fn && below 32 rd && below 32 ra && below 32 rb
  | .cmpi desk fn rd ra imm => below 4 desk && below 512 fn && below 32 rd && below 32 ra && below (2 ^ 32) imm
  | .ld desk rd ra imm _ => below 4 desk && below 32 rd && below 32 ra && below (2 ^ 32) imm
  | .st desk rd ra imm => below 4 desk && below 32 rd && below 32 ra && below (2 ^ 32) imm
  | .ldt desk td ra imm _ => below 4 desk && below 4 td && below 32 ra && below (2 ^ 32) imm
  | .stt desk td ra imm => below 4 desk && below 4 td && below 32 ra && below (2 ^ 32) imm
  | .rdt desk td => below 4 desk && below 4 td
  | .taddi desk td ta imm => below 4 desk && below 4 td && below 4 ta && below (2 ^ 32) imm
  | .taddg desk td ta ra imm => below 4 desk && below 4 td && below 4 ta && below 32 ra && below (2 ^ 32) imm
  | .tdiff desk ra td ta => below 4 desk && below 32 ra && below 4 td && below 4 ta
  | .tlo desk ra ta => below 4 desk && below 32 ra && below 4 ta
  | .thi desk ra ta => below 4 desk && below 32 ra && below 4 ta
  | .tsetlo desk td ra => below 4 desk && below 4 td && below 32 ra
  | .tsethi desk td ra => below 4 desk && below 4 td && below 32 ra
  | .wait desk ta imm => below 4 desk && below 4 ta && below (2 ^ 32) imm
  | .waitEnd desk => below 4 desk
  | .freq desk v sf => below 4 desk && below 32 v && sf.ok
  | .freqhw desk v sf => below 4 desk && below 32 v && sf.ok
  | .headway desk v sf => below 4 desk && below 32 v && sf.ok
  | .strpol desk v sf => below 4 desk && below 32 v && sf.ok
  | .gate desk v sf => below 4 desk && below 32 v && sf.ok
  | .freeze desk v sf => below 4 desk && below 32 v && sf.ok
  | .thaw desk v sf => below 4 desk && below 32 v && sf.ok
  | .woff desk v sf => below 4 desk && below 32 v && sf.ok
  | .cslot desk v sf => below 4 desk && below 32 v && sf.ok
  | .lwh desk v sf => below 4 desk && below 32 v && sf.ok
  | .step desk v sf => below 4 desk && below 32 v && sf.ok
  | .phase desk v sf => below 4 desk && below 32 v && sf.ok
  | .post desk fn ra imm => below 4 desk && below 512 fn && below 32 ra && below (2 ^ 32) imm
  | .envcap desk v sf => below 4 desk && below 32 v && sf.ok
  | .prio desk ra imm => below 4 desk && below 32 ra && below (2 ^ 32) imm
  | .wr desk v sf => below 4 desk && below 32 v && sf.ok
  | .rd desk rd ra imm => below 4 desk && below 32 rd && below 32 ra && below (2 ^ 32) imm
  | .rdReturn desk => below 4 desk
  | .pref desk ra imm => below 4 desk && below 32 ra && below (2 ^ 32) imm
  | .pin desk ra imm => below 4 desk && below 32 ra && below (2 ^ 32) imm
  | .unpin desk ra imm => below 4 desk && below 32 ra && below (2 ^ 32) imm
  | .acq desk imm => below 4 desk && below (2 ^ 32) imm
  | .rel desk imm => below 4 desk && below (2 ^ 32) imm
  | .try desk rd imm => below 4 desk && below 32 rd && below (2 ^ 32) imm
  | .semaphorePass sem => below 16 sem
  | .actionEntryFree desk => below 4 desk
  | .whistleEntryFree desk => below 4 desk
  | .semHostRelease sems => below (2 ^ 16) sems
  | .residentTileWrite addr data strb => below (2 ^ 20) addr && below (2 ^ 32) data && below 16 strb
  | .residentCrcWrite tile data strb => below 32 tile && below (2 ^ 32) data && below 16 strb
  | .tileScrub _ => true
  | .residentLoad => true
  | .residentLoadDone bytes errors => bytes.all (below 256) && errors.all (below 32)
  | .pageFillStart page => below 4096 page
  | .pageFillDone page bytes _ => below 4096 page && bytes.all (below 256)
  | .dspImgWrite _ data strb => below (2 ^ 32) data && below 16 strb
  | .dspImgApply => true
  | .dmemDataWrite data strb => below (2 ^ 32) data && below 16 strb
  | .envSample _ budget => below (2 ^ 16) budget
  | .govEnvWrite budget => below (2 ^ 16) budget
  | .governorControlTick _ => true
  | .stepCountApply _ => true
  | .marginWindow sec => z.section sec
  | .voltageRaiseStep rail => z.rail rail
  | .voltageConfirm rail => z.rail rail
  | .voltageConfirmTimeout rail => z.rail rail
  | .longWhistleDue => true
  | .loadHintStrobe rail => z.rail rail
  | .loadHintStrobeEnd rail => z.rail rail
  | .pmbusStart => true
  | .pmbEnWrite _ => true
  | .pmbusTransactionDone _ => true
  | .telemetryRound => true
  | .telemetryRetry rail => z.rail rail
  | .alertService => true
  | .alertStuckClear rail => z.rail rail
  | .pmbRequest type rail cmd data => below 8 type && below 16 rail && below 256 cmd && below (2 ^ 16) data
  | .reconciliationClose _ => true
  | .reconciliationResult => true
  | .energyEstimate region _ => z.region region
  | .eventPosting src cls code payload => below 2048 src && below 16 cls && below 256 code && below (2 ^ 32) payload
  | .sourceGapMarker src => below 2048 src
  | .eventNetworkTake _ => true
  | .logCommit => true
  | .logOverflowGap => true
  | .logReady => true
  | .evtEnWrite _ => true
  | .evtRecover => true
  | .evtRidxWrite idx => below (2 ^ 32) idx
  | .evtModeWrite _ => true
  | .spillBurst _ => true
  | .spillBurstDone _ => true
  | .consumeIndexRead value _ => below (2 ^ 32) value
  | .ringFullReread value _ => below (2 ^ 32) value
  | .spillErrClear => true
  | .logEntryRead slot word _ => below 4096 slot && below 4 word
  | .journalEntryRead slot word _ => below 1024 slot && below 4 word
  | .mileageWindowEnd => true
  | .milSnap region => below 1024 region
  | .milSnapClr region => below 1024 region
  | .milSnapDone _ => true
  | .safeAll => true
  | .safeAllApply => true
  | .hostRegisterWrite addr data strb => below (2 ^ 20) addr && below (2 ^ 32) data && below 16 strb
  | .apbUnmappedAccess addr _ => below (2 ^ 20) addr
  | .apbReset => true
  | .axiErrorResponse user _ => below 8 user
  | .axiRange user => below 8 user
  | .axiReset => true
  | .scanMode => true
  | .wsBypass => true
  | .wsExtest => true
  | .wsIntest => true
  | .wsClamp => true
  | .tkPlltest => true
  | .tkDlltest => true
  | .tkMbist => true
  | .tkTctest => true
  | .tokenWordOffer t _ => z.crossing (.tok t)
  | .acknowledgeRiseSeen t => z.crossing (.tok t)
  | .requestFallSeen t => z.crossing (.tok t)
  | .dmemDataRead => true
  | .axiResetRelease => true

end Sys2Proof
end

