-- ==== Sys2Proof/Safety.lean ====
section
/-!
DEFINITION. What counts as a sound state and as a command that its sender may send: the terms in which claims are stated.
-/

namespace Sys2Proof.Machine

/-- How many of each unit a build has. -/
def Build.sizes (b : Build) : Sizes where
  regions := b.nRegions
  sections := b.nSections
  rails := b.nRails
  junctions := b.junctions.length
  interchanges := b.interchanges.length
  tokens := b.tokens.length

/-- Every waiting command is well-formed in the instance. -/
def State.queueOk (s : State) : Bool := s.pending.all (wellFormed s.build.sizes)

/-- The three copies of the master tick counter agree (R47). -/
def State.copiesAgree (s : State) : Prop := s.stn.cntA = s.stn.cntB ∧ s.stn.cntB = s.stn.cntC

/-- While `po_rst_n` is low every state holds its reset value (R534): the state is the reset state of its build but for the
queue of commands. -/
def State.porHolds (s : State) : Prop := s.por = true → { s with pending := [] } = State.resetOf s.build

/-- The registers are in canonical form: keys strictly rising, none listed at its reset word. -/
def State.regsOk (s : State) : Prop := Store.wf (regIsDef s.build) s.regs = true

/-- The memory windows are in canonical form. -/
def State.memOk (s : State) : Prop := Memory.wf s.mem = true

end Sys2Proof.Machine
end

