-- ==== Sys2Proof/Certificates/Slice0/Obligations.lean ====
section
/-!
DEFINITION. The statements about the model, each from the numbered rules of the manual that its docstring cites. A result
is stated as the next state that a command answers and what that state holds, with what it leaves unchanged.
-/

namespace Sys2Proof.Claim

open Sys2Proof.Machine

/-! ### The words of the statements -/

/-- The command answers a next state, of which `P` holds. -/
def Runs (c : Instr) (s : State) (P : State → Prop) : Prop := ∃ t, exec c s = .next t ∧ P t

/-- Every register but those listed keeps its word. -/
def RegsKeep (s t : State) (l : List (Reg × Nat)) : Prop := ∀ r u, (r, u) ∉ l → t.reg r u = s.reg r u

/-- Every byte of the memory windows and of data memory keeps its value, but those at addresses `p`. -/
def BytesKeep (s t : State) (p : Nat → Prop) : Prop := ∀ a, ¬ p a → t.rdByte a = s.rdByte a

/-- What the units hold beside registers and memory stays as it is. -/
def UnitsKeep (s t : State) : Prop :=
  t.build = s.build ∧ t.shadow = s.shadow ∧ t.stn = s.stn ∧ t.secs = s.secs ∧ t.rgns = s.rgns ∧ t.log = s.log ∧
    t.jnl = s.jnl ∧ t.miles = s.miles ∧ t.milSnap = s.milSnap ∧ t.xings = s.xings ∧ t.toks = s.toks ∧ t.cal = s.cal ∧
    t.calRgns = s.calRgns ∧ t.gov = s.gov ∧ t.pmb = s.pmb ∧ t.mtr = s.mtr ∧ t.axi = s.axi ∧ t.apb = s.apb

/-- Registers but those listed, every byte and what the units hold stay as they are. -/
def Keeps (s t : State) (l : List (Reg × Nat)) : Prop := RegsKeep s t l ∧ BytesKeep s t (fun _ => False) ∧ UnitsKeep s t

/-- The registers that the Journal's entry of a write may move, beside the write's own. -/
def jnlRegs : List (Reg × Nat) := [(.JNL_WIDX, 0), (.JNL_STATUS, 0), (.HIF_IRQ_SRC, 0)]

/-- The Journal's window. -/
def jnlByte (a : Nat) : Prop := 0x90000 ≤ a ∧ a < 0x94000

/-- Registers but those listed and those of the Journal's entry, and bytes outside the Journal's window, stay. -/
def HostKeeps (s t : State) (l : List (Reg × Nat)) : Prop := RegsKeep s t (l ++ jnlRegs) ∧ BytesKeep s t jnlByte

/-- The host may write a register of a ready unit: the pin `po_rst_n` is high, no warm reset is in effect, and no Desk's
action is due at this edge (such an action applies before the write, R25, as `HostRegisterWrites` states). -/
def HostMay (s : State) (r : Reg) (u : Nat) : Prop :=
  s.por = false ∧ s.stn.warm = false ∧ s.regReady r u = true ∧ ∀ a ∈ s.dsp.acts, s.actDue a = false

/-- Desk `d` issues in the present Dispatcher cycle (R291); `b` is the state that its instruction meets: after what the
cycle's start does (R309, R319, R326, R349, R369), the mark that the cycle has served, and the note of the frame fetched
from (R312). -/
def Issues (s : State) (d : Nat) (b : State) : Prop :=
  s.por = false ∧ s.cycleOpen = true ∧ s.cycleBegin.issuer = some d ∧ b = s.cycleBegin.cycleTaken.fetched d

/-- The Desk issued: its PC, its count of instructions, its issue cost; registers but those listed and the other Desks
stay. -/
def Issued (b t : State) (d pc cost : Nat) (l : List (Reg × Nat)) : Prop :=
  t.pc d = pc ∧ t.fget F.DSP_DESK_ISSUED_COUNT d = (b.fget F.DSP_DESK_ISSUED_COUNT d + 1) % 2 ^ 32 ∧
    (t.desk d).readyAt = b.stn.elapsed + cost ∧ (∀ e, e ≠ d → t.desk e = b.desk e) ∧
    RegsKeep b t ((.DSP_DESK_PC, d) :: (.DSP_DESK_ISSUED, d) :: l)

/-- No byte, no unit and nothing of the Dispatcher but its Desks and the mark of its cycle changes. -/
def Alone (b t : State) : Prop :=
  BytesKeep b t (fun _ => False) ∧ UnitsKeep b t ∧ t.dsp = { b.dsp with desks := t.dsp.desks, cycle := t.dsp.cycle }

/-- g[n] of a Desk as a word. -/
def gw (s : State) (d n : Nat) : BitVec 32 := BitVec.ofNat 32 (s.g d n)

/-- t[n] of a Desk as a tick. -/
def tw (s : State) (d n : Nat) : BitVec 64 := BitVec.ofNat 64 (s.t d n)

/-- The registers of g[n]: none for g0, which ignores writes. -/
def gRegs (d n : Nat) : List (Reg × Nat) := if n % 32 = 0 then [] else [(.DSP_G, d * 32 + n % 32)]

/-- The registers of t[n]. -/
def tRegs (d n : Nat) : List (Reg × Nat) := [(.DSP_T_LO, d * 4 + n % 4), (.DSP_T_HI, d * 4 + n % 4)]

/-- g[n] holds the word; g0 reads 0 whatever is written. -/
def GHolds (t : State) (d n : Nat) (w : BitVec 32) : Prop := gw t d n = if n % 32 = 0 then 0 else w

/-- The operations of R344. -/
def aluWord (fn : Nat) (a b : BitVec 32) : BitVec 32 :=
  match fn with
  | 0 => a + b
  | 1 => a - b
  | 2 => a &&& b
  | 3 => a ||| b
  | 4 => a ^^^ b
  | 5 => a <<< (b.toNat % 32)
  | 6 => a >>> (b.toNat % 32)
  | 7 => a.sshiftRight (b.toNat % 32)
  | 8 => a * b
  | 9 => ((a.setWidth 64 * b.setWidth 64) >>> 32).setWidth 32
  | 10 => if a.toNat + b.toNat < 2 ^ 32 then a + b else BitVec.allOnes 32
  | 11 => if b ≤ a then a - b else 0
  | 12 => if a.sle b then a else b
  | 13 => if a.sle b then b else a
  | 14 => if a ≤ b then a else b
  | 15 => if a ≤ b then b else a
  | 16 => a / b
  | _ => a % b

/-- The conditions of R341. -/
def condWord (c : Nat) (a b : BitVec 32) : Bool :=
  match c with
  | 0 => true
  | 1 => a == b
  | 2 => a != b
  | 3 => a.slt b
  | 4 => b.sle a
  | 5 => a.ult b
  | 6 => b.ule a
  | 7 => a == 0
  | _ => a != 0

/-! ### Frames by field -/

/-- The bits of the listed fields, each with its unit. -/
def fields (l : List (Fld × Nat)) (r : Reg) (u : Nat) : Word :=
  l.foldl (fun m x => if x.1.reg = r ∧ x.2 = u then m ||| maskF x.1.lo x.1.w else m) 0

/-- Every bit of every register keeps its value, but those of a mask. -/
def BitsKeep (s t : State) (m : Reg → Nat → Word) : Prop := ∀ r u, t.reg r u &&& ~~~ m r u = s.reg r u &&& ~~~ m r u

/-- Nothing changes but the listed fields, with the marks of R9 for flags set. -/
def Only (s t : State) (l : List (Fld × Nat)) : Prop :=
  BitsKeep s t (fields l) ∧ t = { s with regs := t.regs, fresh := t.fresh, freshMid := t.freshMid }

/-- The fields that the Journal's entry of a write may move. -/
def jnlFields : List (Fld × Nat) :=
  [(F.JNL_WIDX_INDEX, 0), (F.JNL_STATUS_OVERRUN, 0), (F.JNL_STATUS_OVERRUN_SEEN, 0), (F.HIF_IRQ_SRC_JNL_HIGH, 0)]

/-- Nothing changes but the listed fields and what belongs to the Journal's entry of a write: the Journal's window and
registers, and the event of an overrun. The port answers without an error. -/
def HostOnly (s t : State) (l : List (Fld × Nat)) : Prop :=
  BitsKeep s t (fields (l ++ jnlFields)) ∧ BytesKeep s t jnlByte ∧ (∀ x, x ≠ srcLog → t.source x = s.source x) ∧
    t = { s with regs := t.regs, mem := t.mem, fresh := t.fresh, jnl := t.jnl, log := t.log
                 apb := { s.apb with slverr := false } }

/-- One posting of a source stamped with the present tick takes its place there, merges or is counted as lost
(R447, R449–R451). -/
def PostedIn (s t : State) (src cls code pay : Nat) : Prop :=
  t.source src = ((s.source src).placeGap src (!s.logReady)).post
    { tick := s.count, src, cls, code, payload := pay, held := !s.logReady }

/-- One posting, and no other change of the event sources. -/
def Posted (s t : State) (src cls code pay : Nat) : Prop :=
  PostedIn s t src cls code pay ∧ (∀ x, x ≠ src → t.source x = s.source x) ∧
    t.log = { s.log with srcs := t.log.srcs }

/-- A write by the host beside which the Station posts. -/
def HostPosted (s t : State) (src cls code pay : Nat) : Prop :=
  PostedIn s t src cls code pay ∧ ∀ x, x ≠ src → x ≠ srcLog → t.source x = s.source x

/-- A fault of a Desk (R331, R332): FAULTED with the cause, its PC at the instruction that faults; actions that have been
launched still apply, the others are discarded and counted; its semaphores are released; the event names the cause and the
PC, the host's interrupt source DESK_STOP is set; Desk 0 puts every Section on SAFE 32 tk later. Other Desks, other registers
(a resident load that waited may start, R309), memory, the Station, Sections, regions, Junctions, the Governor, the PMBus
host, the Meter and the AXI manager stay. -/
def Faulted (b t : State) (d cause : Nat) : Prop :=
  t.deskState d = 4 ∧ t.fget F.DSP_DESK_STATUS_CAUSE d = cause ∧ t.pc d = b.pc d ∧
    (∀ a, a ∈ t.dsp.acts ↔ a ∈ b.dsp.acts ∧ ¬ (a.desk = d ∧ ∃ x, a.slot = some x ∧ b.count < x)) ∧
    t.fget F.DSP_DESK_LATECNT_DISCARDED d = satU F.DSP_DESK_LATECNT_DISCARDED.w
      (b.fget F.DSP_DESK_LATECNT_DISCARDED d + (b.dsp.acts.length - t.dsp.acts.length)) ∧
    (∀ i, i < 16 → b.semOwned d i = true → (∀ p, p ∈ b.dsp.passes → p.1 ≠ i) →
      (b.semWaiters i = [] → t.semHeld i = false) ∧ (b.semWaiters i ≠ [] → (i, b.stn.elapsed) ∈ t.dsp.passes)) ∧
    (∀ i, i < 16 → b.semOwned d i = false → t.semHeld i = b.semHeld i) ∧
    (∀ i, i < 16 → t.semHeld i = true → t.semOwner i = b.semOwner i) ∧
    (if d = 0 then t.dsp.safeAt = b.dsp.safeAt ++ [b.stn.elapsed + 32] ∧
        PostedIn b t 1800 0 0x20 (cause * 2 ^ 28 + b.pc 0)
     else t.dsp.safeAt = b.dsp.safeAt ∧ PostedIn b t (1800 + d) 5 0x01 (d * 2 ^ 30 + cause * 2 ^ 26 + b.pc d)) ∧
    t.on F.HIF_IRQ_SRC_DESK_STOP 0 = true ∧
    (∀ e, e ≠ d → t.desk e = b.desk e) ∧
    RegsKeep b t [(.DSP_DESK_STATUS, d), (.DSP_DESK_CTRL, d), (.DSP_DESK_LATECNT, d), (.DSP_SEM_HELD, 0),
      (.DSP_SEM_OWNER, 0), (.HIF_IRQ_SRC, 0), (.DSP_STATUS, 0), (.DSP_TILE_OK, 0)] ∧
    (b.on F.DSP_CTRL_LOAD_RES 0 = false → t.reg .DSP_TILE_OK 0 = b.reg .DSP_TILE_OK 0) ∧
    BytesKeep b t (fun _ => False) ∧ t.stn = b.stn ∧ t.secs = b.secs ∧ t.rgns = b.rgns ∧ t.xings = b.xings ∧ t.gov = b.gov ∧
    t.pmb = b.pmb ∧
    t.mtr = b.mtr ∧ t.axi = b.axi

/-- The Desk's instruction faults with a cause. -/
def FaultsWith (s b : State) (d cause : Nat) (c : Instr) : Prop := Runs c s fun t => Faulted b t d cause

end Sys2Proof.Claim

section

open Sys2Proof Sys2Proof.Machine Sys2Proof.Claim

/-! ### The machine -/

/-- A step takes the command at the front of the queue and runs it on the state with the queue's rest (the block's queue
of commands: the model's frame, log entry 1). -/
def Obligations.StepRunsTheFrontCommand : Prop :=
  ∀ (c : Instr) (rest : List Instr) (s : State),
    step { s with pending := c :: rest } = exec c { s with pending := rest }

/-- Every step answers a next state: on an empty queue the block idles (the model's choice, log entry 3), and every command
completes in every state. A step never changes the build (R32), and the queue moves on by the front command. -/
def Obligations.StepsAlwaysComplete : Prop :=
  (∀ s : State, s.pending = [] → step s = .next s) ∧ (∀ (c : Instr) (s : State), ∃ t, exec c s = .next t) ∧
    ∀ s : State, ∃ t, step s = .next t ∧ t.build = s.build ∧ t.pending = s.pending.tail

/-- Right after reset every register of every unit reads its reset word, no command waits, no byte is listed and
`po_rst_n` is low; STN_ID reads 0x0002_0100 (R534, R547). -/
def Obligations.ResetLeavesResetValues : Prop :=
  (∀ r u, State.reset.reg r u = State.reset.build.resetWord r u) ∧ State.reset.reg .STN_ID 0 = 0x00020100 ∧
    State.reset.reg .SB_SLIP_CFG 170 = 2 ∧ State.reset.reg .GOV_CTRL 0 = 0xF ∧ State.reset.mem = [] ∧
    State.reset.por = true ∧ State.reset.pending = [] ∧ State.reset.stn.locked = false

/-- The machine right after reset holds every state at its reset value (R534). -/
def Obligations.ResetMeetsThePowerOnInvariant : Prop := State.reset.porHolds

/-- An invariant of every step: while `po_rst_n` is low every state of the block holds its reset value (R534). -/
def Obligations.PowerOnInvariantIsKept : Prop :=
  ∀ s t : State, s.porHolds → step s = .next t → t.porHolds

/-- While `po_rst_n` is low no command but those of its pin changes anything. PO_RST_ASSERT returns every state, register and
byte to its reset value; PO_RST_RELEASE starts the first acquisition attempt and moves nothing else (R534, R598). -/
def Obligations.PowerOnResets : Prop :=
  ∀ (c : Instr) (s : State),
    (s.por = true → c ≠ .poRstRelease → c ≠ .poRstAssert → exec c s = .next s) ∧
    Runs .poRstAssert s (fun t => t = { State.resetOf s.build with pending := s.pending }) ∧
    (s.por = true → Runs .poRstRelease s (fun t =>
      t = { s with por := false, stn := { s.stn with attempt := true } }))

/-- Every register of the map lies at its own address, in every instance within the limits of R27 (R543, R552): the address
of a register names that register and no other. -/
def Obligations.AddressesNameTheirRegisters : Prop :=
  ∀ (b : Build) (r : Reg) (u : Nat),
    b.nRails ≤ 16 → b.nSections ≤ 64 → b.nRegions ≤ 1024 → b.junctions.length ≤ 1536 → b.interchanges.length ≤ 240 →
    b.optMileage = true →
    (match r.info.cls with
     | .abs => u < r.info.count ∧ (r = .MTR_RAIL_K → u < b.nRails)
     | .rail => u / r.info.count < b.nRails
     | .sec => u / r.info.count < b.nSections
     | .desk => u / r.info.count < 4
     | .win => u / r.info.count < 4
     | .sb => u / r.info.count < b.nRegions
     | .jct => u < b.junctions.length
     | .ich => u < b.interchanges.length) →
    b.place (regAddr r u) = .reg r u

namespace Sys2Proof.Claim

/-! ### Clopor: arithmetic, time, control flow, data memory -/

/-- ALU (R344): D takes the operation of A and B; a division by 0 is the operand fault and is not covered here. -/
def Alu (s b : State) (d fn rd ra rb : Nat) : Prop :=
  Issues s d b → fn < 18 → (16 ≤ fn → gw b d rb ≠ 0) →
    Runs (.alu d fn rd ra rb) s fun t =>
      GHolds t d rd (aluWord fn (gw b d ra) (gw b d rb)) ∧
      Issued b t d (nextPc (b.pc d)) (if fn = 8 ∨ fn = 9 then 4 else if 16 ≤ fn then 20 else 2) (gRegs d rd) ∧
      Alone b t

/-- ALUI (R344): the operation of A and the immediate; a shift by more than 31 is the operand fault. -/
def Alui (s b : State) (d fn rd ra imm : Nat) : Prop :=
  Issues s d b → fn < 18 → imm < 2 ^ 32 → (16 ≤ fn → imm ≠ 0) → (5 ≤ fn → fn ≤ 7 → imm < 32) →
    Runs (.alui d fn rd ra imm) s fun t =>
      GHolds t d rd (aluWord fn (gw b d ra) (BitVec.ofNat 32 imm)) ∧
      Issued b t d (nextPc (b.pc d)) (if fn = 8 ∨ fn = 9 then 4 else if 16 ≤ fn then 20 else 2) (gRegs d rd) ∧
      Alone b t

/-- MOVI (R340): D takes the immediate. -/
def Movi (s b : State) (d rd imm : Nat) : Prop :=
  Issues s d b →
    Runs (.movi d rd imm) s fun t =>
      GHolds t d rd (BitVec.ofNat 32 imm) ∧ Issued b t d (nextPc (b.pc d)) 2 (gRegs d rd) ∧
      Alone b t

/-- CMP (R341, R345): 1 where the condition holds, else 0; register fields that the condition leaves unused are 0. -/
def Cmp (s b : State) (d fn rd ra rb : Nat) : Prop :=
  Issues s d b → fn < 9 → (fn = 0 → ra % 32 = 0 ∧ rb % 32 = 0) → (7 ≤ fn → rb % 32 = 0) →
    Runs (.cmp d fn rd ra rb) s fun t =>
      GHolds t d rd (if condWord fn (gw b d ra) (gw b d rb) then 1 else 0) ∧
      Issued b t d (nextPc (b.pc d)) 2 (gRegs d rd) ∧ Alone b t

/-- CMPI (R341, R345): the same with the immediate in place of B. -/
def Cmpi (s b : State) (d fn rd ra imm : Nat) : Prop :=
  Issues s d b → fn < 9 → imm < 2 ^ 32 → (fn = 0 → ra % 32 = 0 ∧ imm = 0) → (7 ≤ fn → imm = 0) →
    Runs (.cmpi d fn rd ra imm) s fun t =>
      GHolds t d rd (if condWord fn (gw b d ra) (BitVec.ofNat 32 imm) then 1 else 0) ∧
      Issued b t d (nextPc (b.pc d)) 2 (gRegs d rd) ∧ Alone b t

/-- RDT (R348): the issue tick, which is even. -/
def Rdt (s b : State) (d td : Nat) : Prop :=
  Issues s d b →
    Runs (.rdt d td) s fun t =>
      tw t d td = BitVec.ofNat 64 b.count ∧ b.count % 2 = 0 ∧ Issued b t d (nextPc (b.pc d)) 2 (tRegs d td) ∧
      Alone b t

/-- TADDI (R348): a tick plus a signed immediate, modulo 2⁶⁴. -/
def Taddi (s b : State) (d td ta imm : Nat) : Prop :=
  Issues s d b →
    Runs (.taddi d td ta imm) s fun t =>
      tw t d td = tw b d ta + (BitVec.ofNat 32 imm).signExtend 64 ∧
      Issued b t d (nextPc (b.pc d)) 2 (tRegs d td) ∧ Alone b t

/-- TADDG (R348): a tick plus a signed register and a signed immediate, modulo 2⁶⁴. -/
def Taddg (s b : State) (d td ta ra imm : Nat) : Prop :=
  Issues s d b →
    Runs (.taddg d td ta ra imm) s fun t =>
      tw t d td = tw b d ta + (gw b d ra).signExtend 64 + (BitVec.ofNat 32 imm).signExtend 64 ∧
      Issued b t d (nextPc (b.pc d)) 2 (tRegs d td) ∧ Alone b t

/-- TDIFF (R348): the signed difference of two ticks, saturated to 32 bits. -/
def Tdiff (s b : State) (d ra td ta : Nat) : Prop :=
  Issues s d b →
    Runs (.tdiff d ra td ta) s fun t =>
      GHolds t d ra (BitVec.ofInt 32 (max (-2 ^ 31) (min (tw b d td - tw b d ta).toInt (2 ^ 31 - 1)))) ∧
      Issued b t d (nextPc (b.pc d)) 2 (gRegs d ra) ∧ Alone b t

/-- TLO (R348): the low half of a tick. -/
def Tlo (s b : State) (d ra ta : Nat) : Prop :=
  Issues s d b →
    Runs (.tlo d ra ta) s fun t =>
      GHolds t d ra ((tw b d ta).extractLsb' 0 32) ∧ Issued b t d (nextPc (b.pc d)) 2 (gRegs d ra) ∧
      Alone b t

/-- THI (R348): the high half of a tick. -/
def Thi (s b : State) (d ra ta : Nat) : Prop :=
  Issues s d b →
    Runs (.thi d ra ta) s fun t =>
      GHolds t d ra ((tw b d ta).extractLsb' 32 32) ∧ Issued b t d (nextPc (b.pc d)) 2 (gRegs d ra) ∧
      Alone b t

/-- TSETLO (R348): a register becomes the low half; the high half stays. -/
def Tsetlo (s b : State) (d td ra : Nat) : Prop :=
  Issues s d b →
    Runs (.tsetlo d td ra) s fun t =>
      tw t d td = (tw b d td).extractLsb' 32 32 ++ gw b d ra ∧ Issued b t d (nextPc (b.pc d)) 2 (tRegs d td) ∧
      Alone b t

/-- TSETHI (R348): a register becomes the high half; the low half stays. -/
def Tsethi (s b : State) (d td ra : Nat) : Prop :=
  Issues s d b →
    Runs (.tsethi d td ra) s fun t =>
      tw t d td = gw b d ra ++ (tw b d td).extractLsb' 0 32 ∧ Issued b t d (nextPc (b.pc d)) 2 (tRegs d td) ∧
      Alone b t

/-- A function code that R344 or R345 does not list, and a field that a condition leaves unused and that is not 0, fault
with cause 1; a division by 0 and a shift of ALUI by more than 31 with cause 10. -/
def ArithFaults (s b : State) (d fn rd ra rb imm : Nat) : Prop :=
  Issues s d b → (b.desk d).wait = .none →
    (18 ≤ fn → FaultsWith s b d 1 (.alu d fn rd ra rb) ∧ FaultsWith s b d 1 (.alui d fn rd ra imm)) ∧
    (fn = 16 ∨ fn = 17 → gw b d rb = 0 → FaultsWith s b d 10 (.alu d fn rd ra rb)) ∧
    (fn = 16 ∨ fn = 17 → FaultsWith s b d 10 (.alui d fn rd ra 0)) ∧
    (5 ≤ fn → fn ≤ 7 → 32 ≤ imm → imm < 2 ^ 32 → FaultsWith s b d 10 (.alui d fn rd ra imm)) ∧
    (9 ≤ fn → FaultsWith s b d 1 (.cmp d fn rd ra rb) ∧ FaultsWith s b d 1 (.cmpi d fn rd ra imm)) ∧
    (fn = 7 ∨ fn = 8 → 0 < rb → rb < 32 → FaultsWith s b d 1 (.cmp d fn rd ra rb)) ∧
    (fn = 7 ∨ fn = 8 → 0 < imm → imm < 2 ^ 32 → FaultsWith s b d 1 (.cmpi d fn rd ra imm)) ∧
    (ra % 32 ≠ 0 ∨ rb % 32 ≠ 0 → FaultsWith s b d 1 (.cmp d 0 rd ra rb)) ∧
    (ra % 32 ≠ 0 ∨ imm % 2 ^ 32 ≠ 0 → FaultsWith s b d 1 (.cmpi d 0 rd ra imm))

/-- BR (R341, R342): the target at a cost of 4 tk where the condition holds, else the next word at 2 tk. -/
def Br (s b : State) (d c ra rb target : Nat) : Prop :=
  Issues s d b → c < 9 → (c = 0 → ra % 32 = 0 ∧ rb % 32 = 0) → (7 ≤ c → rb % 32 = 0) → target < 2 ^ 21 →
    target % 128 ≠ 127 →
    Runs (.br d c ra rb target) s fun t =>
      Issued b t d (if condWord c (gw b d ra) (gw b d rb) then target else nextPc (b.pc d))
        (if condWord c (gw b d ra) (gw b d rb) then 4 else 2) [] ∧
      Alone b t

/-- CALL (R341): the address of the next word goes on the stack. -/
def Call (s b : State) (d target : Nat) : Prop :=
  Issues s d b → target < 2 ^ 21 → target % 128 ≠ 127 → b.depth d < 8 →
    Runs (.call d target) s fun t =>
      t.depth d = b.depth d + 1 ∧ t.fget F.DSP_STACK_RET (d * 8 + b.depth d) = nextPc (b.pc d) ∧
      Issued b t d target 4 [(.DSP_STACK, d * 8 + b.depth d), (.DSP_DESK_STATUS, d)] ∧
      Alone b t

/-- RET (R341): to the address on top of the stack. -/
def Ret (s b : State) (d : Nat) : Prop :=
  Issues s d b → b.depth d ≠ 0 → b.fget F.DSP_STACK_RET (d * 8 + (b.depth d - 1)) % 128 ≠ 127 →
    Runs (.ret d) s fun t =>
      t.depth d = b.depth d - 1 ∧
      Issued b t d (b.fget F.DSP_STACK_RET (d * 8 + (b.depth d - 1))) 4 [(.DSP_DESK_STATUS, d)] ∧
      Alone b t

/-- JR (R342): to g[A] + IMM, modulo 2²¹. -/
def Jr (s b : State) (d ra imm : Nat) : Prop :=
  Issues s d b → (b.g d ra + imm) % 2 ^ 21 % 128 ≠ 127 →
    Runs (.jr d ra imm) s fun t =>
      Issued b t d ((b.g d ra + imm) % 2 ^ 21) 4 [] ∧ Alone b t

/-- NOP (R340): the next word, and nothing else. -/
def Nop (s b : State) (d : Nat) : Prop :=
  Issues s d b →
    Runs (.nop d) s fun t => Issued b t d (nextPc (b.pc d)) 2 [] ∧ Alone b t

/-- HALT (R343): its Desk is to stop at its next issue boundary (`DispatcherCycle` states that stop); its pending actions
stay. -/
def Halt (s b : State) (d : Nat) : Prop :=
  Issues s d b →
    Runs (.halt d) s fun t =>
      (t.desk d).halting = true ∧ Issued b t d (nextPc (b.pc d)) 2 [] ∧
      Alone b t

/-- A condition or a reserved field that R341 does not allow, and a target in word 127, fault with cause 1; CALL on a full
stack and RET on an empty one with cause 5. -/
def BranchFaults (s b : State) (d c ra rb imm target : Nat) : Prop :=
  Issues s d b → (b.desk d).wait = .none →
    (9 ≤ c → FaultsWith s b d 1 (.br d c ra rb target)) ∧
    (7 ≤ c → 0 < rb → rb < 32 → FaultsWith s b d 1 (.br d c ra rb target)) ∧
    (0 < ra → ra < 32 → FaultsWith s b d 1 (.br d 0 ra rb target)) ∧
    (0 < rb → rb < 32 → FaultsWith s b d 1 (.br d 0 ra rb target)) ∧
    (target % 128 = 127 → FaultsWith s b d 1 (.br d c ra rb target) ∧ FaultsWith s b d 1 (.call d target)) ∧
    (target < 2 ^ 21 → target % 128 ≠ 127 → b.depth d = 8 → FaultsWith s b d 5 (.call d target)) ∧
    (b.depth d = 0 → FaultsWith s b d 5 (.ret d)) ∧
    (b.depth d ≠ 0 → b.fget F.DSP_STACK_RET (d * 8 + (b.depth d - 1)) % 128 = 127 → FaultsWith s b d 1 (.ret d)) ∧
    ((b.g d ra + imm) % 2 ^ 21 % 128 = 127 → FaultsWith s b d 1 (.jr d ra imm))

/-- The byte address of a data-memory access (R346): g[A] + IMM, modulo 2³². -/
def dmemAt (b : State) (d ra imm : Nat) : Nat := (gw b d ra + BitVec.ofNat 32 imm).toNat

/-- LD (R346): D takes the word of the data memory, at a cost of 4 tk. -/
def Ld (s b : State) (d rd ra imm : Nat) : Prop :=
  Issues s d b → dmemAt b d ra imm % 4 = 0 → dmemAt b d ra imm < 0x4000 →
    Runs (.ld d rd ra imm .clean) s fun t =>
      GHolds t d rd (b.rdWord (dmemBase + dmemAt b d ra imm)) ∧ Issued b t d (nextPc (b.pc d)) 4 (gRegs d rd) ∧
      Alone b t

/-- ST (R346): the four bytes of the word, no other. -/
def St (s b : State) (d rd ra imm : Nat) : Prop :=
  Issues s d b → dmemAt b d ra imm % 4 = 0 → dmemAt b d ra imm < 0x4000 →
    Runs (.st d rd ra imm) s fun t =>
      t.rdWord (dmemBase + dmemAt b d ra imm) = gw b d rd ∧
      BytesKeep b t (fun a => dmemBase + dmemAt b d ra imm ≤ a ∧ a < dmemBase + dmemAt b d ra imm + 4) ∧
      Issued b t d (nextPc (b.pc d)) 2 [] ∧ UnitsKeep b t

/-- LDT (R347): a tick from two words, the low half first. -/
def Ldt (s b : State) (d td ra imm : Nat) : Prop :=
  Issues s d b → td < 4 → dmemAt b d ra imm % 4 = 0 → dmemAt b d ra imm + 4 < 0x4000 →
    Runs (.ldt d td ra imm .clean) s fun t =>
      tw t d td = b.rdWord (dmemBase + dmemAt b d ra imm + 4) ++ b.rdWord (dmemBase + dmemAt b d ra imm) ∧
      Issued b t d (nextPc (b.pc d)) 6 (tRegs d td) ∧ Alone b t

/-- STT (R347): two words, the low half first; no other byte. -/
def Stt (s b : State) (d td ra imm : Nat) : Prop :=
  Issues s d b → td < 4 → dmemAt b d ra imm % 4 = 0 → dmemAt b d ra imm + 4 < 0x4000 →
    Runs (.stt d td ra imm) s fun t =>
      t.rdWord (dmemBase + dmemAt b d ra imm) = (tw b d td).extractLsb' 0 32 ∧
      t.rdWord (dmemBase + dmemAt b d ra imm + 4) = (tw b d td).extractLsb' 32 32 ∧
      BytesKeep b t (fun a => dmemBase + dmemAt b d ra imm ≤ a ∧ a < dmemBase + dmemAt b d ra imm + 8) ∧
      Issued b t d (nextPc (b.pc d)) 4 [] ∧ UnitsKeep b t

/-- An access outside data memory, off a word or with an uncorrectable error faults with cause 6 (R316, R346). -/
def AccessFaults (s b : State) (d rd td ra imm : Nat) (ecc : Ecc) : Prop :=
  let a := dmemAt b d ra imm
  Issues s d b → (b.desk d).wait = .none → td < 4 →
    (a % 4 ≠ 0 ∨ 0x4000 ≤ a → FaultsWith s b d 6 (.ld d rd ra imm ecc) ∧ FaultsWith s b d 6 (.st d rd ra imm)) ∧
    (a % 4 ≠ 0 ∨ 0x4000 ≤ a + 4 →
      FaultsWith s b d 6 (.ldt d td ra imm ecc) ∧ FaultsWith s b d 6 (.stt d td ra imm)) ∧
    FaultsWith s b d 6 (.ld d rd ra imm .uncorrectable) ∧ FaultsWith s b d 6 (.ldt d td ra imm .uncorrectable)

end Sys2Proof.Claim

/-- ALU, ALUI, MOVI, CMP and CMPI write D with the result of R340, R344 and R345, at the issue cost of R292, and nothing
else; a field or an operand that those rules do not allow faults the Desk. -/
def Obligations.CloporArithmetic : Prop :=
  ∀ (s b : State) (d fn rd ra rb imm : Nat),
    Alu s b d fn rd ra rb ∧ Alui s b d fn rd ra imm ∧ Movi s b d rd imm ∧ Cmp s b d fn rd ra rb ∧ Cmpi s b d fn rd ra imm ∧
      ArithFaults s b d fn rd ra rb imm

/-- RDT, TADDI, TADDG, TDIFF, TLO, THI, TSETLO and TSETHI write their register with the result of R348, and nothing
else. -/
def Obligations.CloporTicks : Prop :=
  ∀ (s b : State) (d td ta ra imm : Nat),
    Rdt s b d td ∧ Taddi s b d td ta imm ∧ Taddg s b d td ta ra imm ∧ Tdiff s b d ra td ta ∧ Tlo s b d ra ta ∧
      Thi s b d ra ta ∧ Tsetlo s b d td ra ∧ Tsethi s b d td ra

/-- BR, CALL, RET, JR, NOP and HALT set the PC, the stack and the issue cost as R341 to R343 and R305 say, and nothing
else; a target in word 127, a condition that is none of the table's and the stack's ends fault the Desk. -/
def Obligations.CloporControlFlow : Prop :=
  ∀ (s b : State) (d c ra rb imm target : Nat),
    Br s b d c ra rb target ∧ Call s b d target ∧ Ret s b d ∧ Jr s b d ra imm ∧ Nop s b d ∧ Halt s b d ∧
      BranchFaults s b d c ra rb imm target

/-- LD, ST, LDT and STT read and write the data memory at g[A] + IMM, and no other byte; any other access, and a read with
an uncorrectable error, faults the Desk (R316, R346, R347). -/
def Obligations.CloporDataMemory : Prop :=
  ∀ (s b : State) (d rd td ra imm : Nat) (ecc : Ecc),
    Ld s b d rd ra imm ∧ St s b d rd ra imm ∧ Ldt s b d td ra imm ∧ Stt s b d td ra imm ∧ AccessFaults s b d rd td ra imm ecc

namespace Sys2Proof.Claim

/-! ### Clopor: waits, actions on units, marks, semaphores, paging -/

/-- WAIT (R349): a tick at most 2 tk away ends at once; a later one makes the Desk wait for it. -/
def Wait (s b : State) (d ta imm : Nat) : Prop :=
  Issues s d b →
    Runs (.wait d ta imm) s fun t =>
      let w := (tw b d ta + (BitVec.ofNat 32 imm).signExtend 64).toNat
      (if w ≤ b.count + 2 then t.deskState d = 1
       else t.deskState d = 2 ∧ (t.desk d).wait = .tick w) ∧
      Issued b t d (nextPc (b.pc d)) 2 [(.DSP_DESK_STATUS, d)] ∧ Alone b t

/-- WAIT_END (R349): in the first Dispatcher cycle at or after the tick the Desk is ready again. -/
def WaitEnd (s : State) (d w : Nat) : Prop :=
  s.por = false → s.cycleOpen = true → d < 4 → s.deskState d = 2 → (s.desk d).wait = .tick w → w ≤ s.count →
    (s.desk d).readyAt ≤ s.stn.elapsed → s.on F.DSP_DESK_CTRL_STOP d = false → (s.desk d).halting = false →
    (s.desk d).stepping = false →
    Runs (.waitEnd d) s fun t =>
      t.deskState d = 1 ∧ (t.desk d).wait = .none ∧ t.pc d = s.pc d ∧ Keeps s t [(.DSP_DESK_STATUS, d)]

/-- ACTION_ENTRY_FREE (R326): the waiting instruction issues once the Desk has fewer than 64 pending actions. -/
def ActionEntryFree (s : State) (d : Nat) : Prop :=
  s.por = false → s.cycleOpen = true → d < 4 → s.deskState d = 2 → (s.desk d).wait = .entry → s.pendingOf d < 64 →
    (s.desk d).readyAt ≤ s.stn.elapsed → s.on F.DSP_DESK_CTRL_STOP d = false → (s.desk d).halting = false →
    (s.desk d).stepping = false →
    Runs (.actionEntryFree d) s fun t =>
      t.deskState d = 1 ∧ (t.desk d).wait = .none ∧ t.pc d = s.pc d ∧ Keeps s t [(.DSP_DESK_STATUS, d)]

/-- WHISTLE_ENTRY_FREE (R369): the same for the 32 entries of the long-Whistle table. -/
def WhistleEntryFree (s : State) (d : Nat) : Prop :=
  s.por = false → s.cycleOpen = true → d < 4 → s.deskState d = 2 → (s.desk d).wait = .whistle →
    s.gov.whistles.length < 32 → (s.desk d).readyAt ≤ s.stn.elapsed → s.on F.DSP_DESK_CTRL_STOP d = false →
    (s.desk d).halting = false → (s.desk d).stepping = false →
    Runs (.whistleEntryFree d) s fun t =>
      t.deskState d = 1 ∧ (t.desk d).wait = .none ∧ t.pc d = s.pc d ∧ Keeps s t [(.DSP_DESK_STATUS, d)]

/-- RD of a Station register reads at once (R382); of any other mapped register the Desk waits for the value (R329). -/
def Rd (s b : State) (d rd ra imm : Nat) : Prop :=
  let a := (b.g d ra + imm) % 2 ^ 20
  Issues s d b → a % 4 = 0 → mapped a = true →
    Runs (.rd d rd ra imm) s fun t =>
      (if isStation a then GHolds t d rd (b.readWord a) ∧ Issued b t d (nextPc (b.pc d)) 2 (gRegs d rd)
       else t.deskState d = 2 ∧ (t.desk d).wait = .read a (rd % 32) b.stn.elapsed ∧
         Issued b t d (nextPc (b.pc d)) 2 [(.DSP_DESK_STATUS, d)]) ∧ Alone b t

/-- RD off a word faults with cause 10, in an unmapped range with cause 8 (R382). -/
def RdFaults (s b : State) (d rd ra imm : Nat) : Prop :=
  let a := (b.g d ra + imm) % 2 ^ 20
  Issues s d b → (b.desk d).wait = .none →
    (a % 4 ≠ 0 → FaultsWith s b d 10 (.rd d rd ra imm)) ∧ (a % 4 = 0 → mapped a = false → FaultsWith s b d 8 (.rd d rd ra imm))

/-- RD_RETURN (R329, R382): within 48 tk of the issue the register's value at this tick reaches D and the Desk is RUNNING. -/
def RdReturn (s : State) (d a rd at_ : Nat) : Prop :=
  s.por = false → s.deskState d = 2 → (s.desk d).wait = .read a rd at_ →
    s.stn.elapsed ≤ at_ + 48 →
    Runs (.rdReturn d) s fun t =>
      GHolds t d rd (s.readWord a) ∧ t.deskState d = 1 ∧ (t.desk d).wait = .none ∧
      Keeps s t ((.DSP_DESK_STATUS, d) :: gRegs d rd)

/-- A launch slot that an action issued now may take to apply at `T` (R323): even, held by no other action, at least 2 tk
after the issue, and 64 to 16 tk before `T`. -/
def SlotFree (b : State) (T x : Nat) : Prop :=
  x % 2 = 0 ∧ b.count + 2 ≤ x ∧ T ≤ x + 64 ∧ x + 16 ≤ T ∧ x ∉ b.slots

/-- `x` is the earliest such slot. -/
def Earliest (b : State) (T x : Nat) : Prop := SlotFree b T x ∧ ∀ y, y < x → ¬ SlotFree b T y

/-- The instruction takes an entry of the action table with its operation and units (R322, R324). A stamp names T, and no
stamp means the issue tick + 32 tk (R328). An action issued at least 32 tk before T for which a launch slot is free takes the
earliest one and applies at T; any other is late: it applies at T′, the first tick after T and at least 32 tk after the issue
for which a slot is free; it is marked in DSP_DESK_STATUS.LATE, counted and reported (R323–R325, R335). -/
def Takes (b t : State) (d : Nat) (f : SForm) (secs : List Nat) (op : ActOp) : Prop :=
  let T := if f.stamp then (b.t d f.ts + f.offs) % 2 ^ 64 else b.count + 32
  let lateFld := [F.DSP_DESK_STATUS_LATE, F.DSP_DESK_LATECNT_LATE]
  ∃ a : Act, t.dsp.acts = b.dsp.acts ++ [a] ∧ a.desk = d ∧ a.op = op ∧ a.scope = f.scope ∧ a.addr = f.addr ∧
    a.secs = secs ∧ a.t = T ∧ (∃ x, a.slot = some x ∧ Earliest b a.tick x) ∧
    (b.count + 32 ≤ T → (∃ x, SlotFree b T x) →
      a.tick = T ∧ a.late = false ∧ t.log = b.log ∧ ∀ x ∈ lateFld, t.fget x d = b.fget x d) ∧
    ((T < b.count + 32 ∨ ∀ x, ¬ SlotFree b T x) →
      a.late = true ∧ T + 1 ≤ a.tick ∧ b.count + 32 ≤ a.tick ∧
      (∀ T', T + 1 ≤ T' → b.count + 32 ≤ T' → T' < a.tick → ∀ x, ¬ SlotFree b T' x) ∧
      t.on F.DSP_DESK_STATUS_LATE d = true ∧
      t.fget F.DSP_DESK_LATECNT_LATE d = min (2 ^ 16 - 1) (b.fget F.DSP_DESK_LATECNT_LATE d + 1) ∧
      Posted b t (1800 + d) 5 0x02 (d * 2 ^ 30 + T % 2 ^ 16 * 2 ^ 14 + min (2 ^ 14 - 1) (a.tick - T)))

/-- A stamped or immediate write of units: legal fields, a scope of the instruction, its register (R333, R353, R355). -/
def Names (f : SForm) (sb : Bool) (off : Nat) (scopes : List Nat) : Prop :=
  sformLegal f = true ∧ scopes.contains f.scope = true ∧ sformFixed f sb off = true

/-- The Sections that the instruction names: of SCOPE 1 the Section of INDEX, of SCOPE 3 those of the list (R351–R353). -/
def NamesSecs (b : State) (f : SForm) (secs : List Nat) : Prop :=
  (f.scope = 1 → f.index < b.build.nSections ∧ secs = [f.index]) ∧
    (f.scope = 3 → f.ecc = .clean ∧ secs = b.listSecs f.index ∧ secs ≠ [] ∧ ∀ k ∈ secs, k < b.build.nSections) ∧
    (f.scope ≠ 1 → f.scope ≠ 3 → secs = [])

/-- What an instruction that issues an action leaves: but for the action and its late report (R325) nothing changes. -/
def ActIssued (b t : State) (d : Nat) : Prop :=
  Issued b t d (nextPc (b.pc d)) 2 [(.DSP_DESK_STATUS, d), (.DSP_DESK_LATECNT, d)] ∧
    BytesKeep b t (fun _ => False) ∧ UnitsKeep { b with log := t.log } t ∧ (∀ x, x ≠ 1800 + d → t.source x = b.source x) ∧
    t.dsp = { b.dsp with desks := t.dsp.desks, acts := t.dsp.acts, seq := t.dsp.seq }

/-- FREQ, FREQHW, HEADWAY, WOFF and CSLOT name Section Roots (R360–R363, R371): what the action writes. -/
def SecAction (s b : State) (d v : Nat) (f : SForm) (secs : List Nat) : Prop :=
  Issues s d b → b.pendingOf d < 64 → NamesSecs b f secs →
    (Names f false 0x04 [0, 3] → Runs (.freq d v f) s fun t =>
      Takes b t d f secs (.write (b.g d v % 2 ^ 32 &&& 0x3FFFF) 0x3FFFF true (b.g d v % 2 ^ 32 &&& 0x3FFFF)) ∧
        ActIssued b t d) ∧
    (Names f false 0x20 [0, 3] → Runs (.freqhw d v f) s fun t =>
      Takes b t d f secs (.write (b.g d v % 2 ^ 32 &&& 0x3FFFF) 0x3FFFF true (b.g d v % 2 ^ 32 &&& 0x3FFFF)) ∧
        ActIssued b t d) ∧
    (Names f false 0x0C [0, 3] → Runs (.headway d v f) s fun t =>
      Takes b t d f secs (.write ((gw b d v).toNat % 2 * 2) 2 true ((gw b d v).toNat % 2 * 2)) ∧ ActIssued b t d) ∧
    (Names f false 0x04 [0, 3] → v = 0 → Runs (.woff d v f) s fun t =>
      Takes b t d f secs .woff ∧ ActIssued b t d) ∧
    (Names f false 0x38 [0, 3] → Runs (.cslot d v f) s fun t =>
      Takes b t d f secs (.write (b.g d v % 2 ^ 32 &&& 0xFFFFF) 0xFFFFF true (b.g d v % 2 ^ 32 &&& 0xFFFFF)) ∧
        ActIssued b t d)

/-- STRPOL, GATE, FREEZE and THAW name Signal Boxes (R356, R359, R364, R365, R475): what the action writes, and what its
Journal entry shows as NEW (the written fields alone, and the mask for STRPOL). -/
def SbAction (s b : State) (d v : Nat) (f : SForm) (secs : List Nat) : Prop :=
  Issues s d b → b.pendingOf d < 64 → NamesSecs b f secs →
    (Names f true 0x44 [0, 1, 2] → b.g d v / 2 ^ 16 &&& 0x18E0 = 0 → Runs (.strpol d v f) s fun t =>
      Takes b t d f secs (.write (b.g d v % 2 ^ 16) (b.g d v / 2 ^ 16) true
        (b.g d v / 2 ^ 16 * 2 ^ 16 + (b.g d v % 2 ^ 16 &&& b.g d v / 2 ^ 16))) ∧ ActIssued b t d) ∧
    (Names f true 0x0C [0, 1, 2] → Runs (.gate d v f) s fun t =>
      (let force := (b.g d v).testBit 0; let wake := (b.g d v).testBit 1
       let val := force.toNat * 2 ^ 25 + wake.toNat * 2 ^ 24
       Takes b t d f secs (.write val (2 ^ 25 + wake.toNat * 2 ^ 24) true val)) ∧ ActIssued b t d) ∧
    (Names f true 0x0C [1, 2] → v = 0 → Runs (.freeze d v f) s fun t =>
      Takes b t d f secs (.write (2 ^ 25) (2 ^ 25) true (2 ^ 25)) ∧ ActIssued b t d) ∧
    (Names f true 0x0C [1, 2] → v = 0 → Runs (.thaw d v f) s fun t =>
      Takes b t d f secs (.write 0 (2 ^ 25) true 0) ∧ ActIssued b t d)

/-- WR (R380): the word of g[V], at every unit it names. -/
def Wr (s b : State) (d v : Nat) (f : SForm) (secs : List Nat) : Prop :=
  Issues s d b → b.pendingOf d < 64 → NamesSecs b f secs → sformLegal f = true → f.scope ≠ 0 →
    Runs (.wr d v f) s fun t =>
      Takes b t d f secs (.write (b.g d v) (2 ^ 32 - 1) false (b.g d v)) ∧ ActIssued b t d

/-- An instruction that names units and holds a bit that must be 0 faults with cause 1 (R333, R353, R359–R365); one whose
scope is not its own, or that names a Section that is absent, with cause 10 (R352, R355). -/
def UnitFaults (s b : State) (d v : Nat) (f : SForm) : Prop :=
  Issues s d b → (b.desk d).wait = .none →
    (sformLegal f = false →
      FaultsWith s b d 1 (.freq d v f) ∧ FaultsWith s b d 1 (.freqhw d v f) ∧ FaultsWith s b d 1 (.headway d v f) ∧
      FaultsWith s b d 1 (.cslot d v f) ∧ FaultsWith s b d 1 (.woff d v f) ∧ FaultsWith s b d 1 (.strpol d v f) ∧
      FaultsWith s b d 1 (.gate d v f) ∧ FaultsWith s b d 1 (.freeze d v f) ∧ FaultsWith s b d 1 (.thaw d v f) ∧
      FaultsWith s b d 1 (.wr d v f)) ∧
    (v ≠ 0 → FaultsWith s b d 1 (.woff d v f) ∧ FaultsWith s b d 1 (.freeze d v f) ∧ FaultsWith s b d 1 (.thaw d v f)) ∧
    (sformLegal f = true → f.scope = 1 → b.build.nSections ≤ f.index → FaultsWith s b d 10 (.wr d v f)) ∧
    (sformLegal f = true → f.scope = 1 ∨ f.scope = 2 →
      FaultsWith s b d 10 (.freq d v f) ∧ FaultsWith s b d 10 (.freqhw d v f) ∧ FaultsWith s b d 10 (.headway d v f) ∧
      FaultsWith s b d 10 (.cslot d v f) ∧ FaultsWith s b d 10 (.woff d 0 f)) ∧
    (sformLegal f = true → f.scope = 3 →
      FaultsWith s b d 10 (.gate d v f) ∧ FaultsWith s b d 10 (.freeze d 0 f) ∧ FaultsWith s b d 10 (.thaw d 0 f))

/-- With 64 of its actions pending the Desk waits before the instruction, which is not issued (R326). -/
def FullTable (s b : State) (d v : Nat) (f : SForm) (secs : List Nat) : Prop :=
  Issues s d b → b.pendingOf d = 64 → NamesSecs b f secs → sformLegal f = true → f.scope ≠ 0 →
    Runs (.wr d v f) s fun t =>
      t.deskState d = 2 ∧ (t.desk d).wait = .entry ∧ t.pc d = b.pc d ∧ t.dsp.acts = b.dsp.acts ∧
      Keeps b t [(.DSP_DESK_STATUS, d)]

/-- STEP, PHASE and ENVCAP with a stamp take an action entry at the Station (R358, R374, R375, R378). -/
def StationAction (s b : State) (d v : Nat) (f : SForm) : Prop :=
  Issues s d b → b.pendingOf d < 64 → sformBare f = true → f.stamp = true →
    (Runs (.step d v f) s fun t => Takes b t d f [] (.step (b.g d v)) ∧ ActIssued b t d) ∧
    (b.g d v < 256 → Runs (.phase d v f) s fun t => Takes b t d f [] (.phase (b.g d v)) ∧ ActIssued b t d) ∧
    (b.g d v < 2 ^ 17 → Runs (.envcap d v f) s fun t => Takes b t d f [] (.envcap (b.g d v)) ∧ ActIssued b t d)

/-- STEP, PHASE, ENVCAP and PRIO without a stamp act at the Station 2 tk after their issue, and take no entry (R328, R358,
R379). -/
def StationNow (s b : State) (d v ra imm : Nat) (f : SForm) : Prop :=
  let Now (t : State) (op : ActOp) : Prop :=
    ∃ a : Act, t.dsp.acts = b.dsp.acts ++ [a] ∧ a.desk = d ∧ a.op = op ∧ a.tick = b.count + 2 ∧ a.slot = none ∧ t.log = b.log
  Issues s d b → sformBare f = true → f.stamp = false →
    (Runs (.step d v f) s fun t => Now t (.step (b.g d v)) ∧ ActIssued b t d) ∧
    (b.g d v < 256 → Runs (.phase d v f) s fun t => Now t (.phase (b.g d v)) ∧ ActIssued b t d) ∧
    (b.g d v < 2 ^ 17 → Runs (.envcap d v f) s fun t => Now t (.envcap (b.g d v)) ∧ ActIssued b t d) ∧
    (imm < 64 → imm < b.build.nSections → b.g d ra < 16 → Runs (.prio d ra imm) s fun t =>
      Now t (.prio imm (b.g d ra)) ∧ ActIssued b t d)

/-- LWH (R367, R368, R377, R431): the Governor holds the step of its rail for tick T, with no action slot, and the Desk's
count of long Whistles grows. With a lead of at least 3,200 tk the load-hint port, where it is built and enabled, takes the
code with the earliest tick of its strobe; a smaller lead is counted and reported. -/
def Lwh (s b : State) (d v : Nat) (f : SForm) : Prop :=
  let w := b.g d v
  let T : Nat := (b.t d f.ts + f.offs) % 2 ^ 64
  let lead : Int := (T : Int) - (b.count : Int)
  let adv := min 3200 (b.fget F.GOV_LH_CFG_ADV 0)
  let gov := { b.gov with whistles := b.gov.whistles ++
    [{ rail := w % 16, delta := ((gw b d v).extractLsb' 16 16).toInt, t := T }] }
  Issues s d b → sformBare f = true → f.stamp = true → w / 256 % 256 = 0 → w % 16 < b.build.nRails →
    b.gov.whistles.length < 32 →
    Runs (.lwh d v f) s fun t =>
      t.fget F.DSP_DESK_WHISTLE_ISSUED d = (b.fget F.DSP_DESK_WHISTLE_ISSUED d + 1) % 2 ^ 16 ∧
      (3200 ≤ lead → t.log = b.log ∧ t.fget F.DSP_DESK_WHISTLE_SHORT d = b.fget F.DSP_DESK_WHISTLE_SHORT d ∧
        (if b.on F.GOV_CTRL_LH_EN 0 = true ∧ b.build.optLoadhint = true then
          (t.lhRail (w % 16)).queue = (b.lhRail (w % 16)).queue ++
            [(w / 16 % 16, if adv = 0 then b.count + 8 else max (T - adv) (b.count + 8))] ∧
          (∀ x, x ≠ w % 16 → t.lhRail x = b.lhRail x) ∧ t.gov = { gov with lh := t.gov.lh }
         else t.gov = gov)) ∧
      (lead < 3200 → t.gov = gov ∧
        t.fget F.DSP_DESK_WHISTLE_SHORT d = min (2 ^ 16 - 1) (b.fget F.DSP_DESK_WHISTLE_SHORT d + 1) ∧
        Posted b t (1800 + d) 5 0x05 (d * 2 ^ 30 + w % 16 * 2 ^ 26 +
          (BitVec.ofInt 26 (max (-32768) (min lead 32767))).toNat)) ∧
      t.dsp = { b.dsp with desks := t.dsp.desks } ∧ Issued b t d (nextPc (b.pc d)) 2 [(.DSP_DESK_WHISTLE, d)] ∧
      BytesKeep b t (fun _ => False) ∧ UnitsKeep { b with log := t.log, gov := t.gov } t

/-- POST (R376): one class 5 posting of the Desk with the code FN and the payload g[A] + IMM, at a cost of 4 tk. -/
def Post (s b : State) (d fn ra imm : Nat) : Prop :=
  Issues s d b → 0x80 ≤ fn → fn < 256 →
    Runs (.post d fn ra imm) s fun t =>
      Posted b t (1800 + d) 5 fn (gw b d ra + BitVec.ofNat 32 imm).toNat ∧
      Issued b t d (nextPc (b.pc d)) 4 [] ∧ Alone { b with log := t.log } t

/-- STEP, PHASE, ENVCAP, PRIO, LWH and POST fault: reserved bits with cause 1, an operand out of its range with cause 10
(R333, R357, R366, R375–R379). -/
def StationFaults (s b : State) (d v fn ra imm : Nat) (f : SForm) : Prop :=
  Issues s d b → (b.desk d).wait = .none → imm < 2 ^ 32 →
    (sformBare f = false → FaultsWith s b d 1 (.lwh d v f) ∧ FaultsWith s b d 1 (.step d v f) ∧
      FaultsWith s b d 1 (.phase d v f) ∧ FaultsWith s b d 1 (.envcap d v f)) ∧
    (sformBare f = true → f.stamp = false ∨ b.g d v / 256 % 256 ≠ 0 ∨ b.build.nRails ≤ b.g d v % 16 →
      FaultsWith s b d 10 (.lwh d v f)) ∧
    (sformBare f = true → 256 ≤ b.g d v → FaultsWith s b d 10 (.phase d v f)) ∧
    (sformBare f = true → 2 ^ 17 ≤ b.g d v → FaultsWith s b d 10 (.envcap d v f)) ∧
    (fn < 0x80 → FaultsWith s b d 10 (.post d fn ra imm)) ∧
    (b.build.nSections ≤ imm ∨ 16 ≤ b.g d ra → FaultsWith s b d 10 (.prio d ra imm))

/-- Every semaphore but one is held or free as before, and a held one keeps its owner. -/
def OtherSems (b t : State) (i : Nat) : Prop :=
  ∀ j, j < 16 → j ≠ i → t.semHeld j = b.semHeld j ∧ (t.semHeld j = true → t.semOwner j = b.semOwner j)

/-- ACQ, REL and TRY (R318, R319): a free semaphore becomes the Desk's, TRY then writing 1 to D; of a held one ACQ makes the
Desk wait and TRY writes 0. REL frees it with nobody waiting, else it is to pass at the next cycle. -/
def Semaphores (s b : State) (d i rd : Nat) : Prop :=
  Issues s d b → i < 16 →
    (b.semHeld i = false → Runs (.acq d i) s fun t =>
      t.semOwned d i = true ∧ OtherSems b t i ∧ t.deskState d = 1 ∧
      Issued b t d (nextPc (b.pc d)) 2 [(.DSP_SEM_HELD, 0), (.DSP_SEM_OWNER, 0)] ∧ Alone b t) ∧
    (b.semHeld i = true → b.semMine d i = false → Runs (.acq d i) s fun t =>
      t.deskState d = 2 ∧ (t.desk d).wait = .sem i ∧ Issued b t d (nextPc (b.pc d)) 2 [(.DSP_DESK_STATUS, d)] ∧
      Alone b t) ∧
    (b.semMine d i = true → b.semWaiters i = [] → Runs (.rel d i) s fun t =>
      t.semHeld i = false ∧ OtherSems b t i ∧
      Issued b t d (nextPc (b.pc d)) 2 [(.DSP_SEM_HELD, 0), (.DSP_SEM_OWNER, 0)] ∧ Alone b t) ∧
    (b.semMine d i = true → b.semWaiters i ≠ [] → Runs (.rel d i) s fun t =>
      t.dsp.passes = b.dsp.passes ++ [(i, b.stn.elapsed)] ∧ t.semOwned d i = true ∧ Issued b t d (nextPc (b.pc d)) 2 [] ∧
      BytesKeep b t (fun _ => False) ∧ UnitsKeep b t ∧
      t.dsp = { b.dsp with desks := t.dsp.desks, passes := t.dsp.passes }) ∧
    (b.semHeld i = false → Runs (.try d rd i) s fun t =>
      t.semOwned d i = true ∧ OtherSems b t i ∧ GHolds t d rd 1 ∧
      Issued b t d (nextPc (b.pc d)) 2 ((.DSP_SEM_HELD, 0) :: (.DSP_SEM_OWNER, 0) :: gRegs d rd) ∧ Alone b t) ∧
    (b.semHeld i = true → b.semMine d i = false → Runs (.try d rd i) s fun t =>
      GHolds t d rd 0 ∧ Issued b t d (nextPc (b.pc d)) 2 (gRegs d rd) ∧ Alone b t)

/-- An ACQ or TRY of a semaphore that the Desk owns, and a REL of one that it does not, fault with cause 7; a number above
15 faults with cause 10 (R318–R320). -/
def SemFaults (s b : State) (d i rd : Nat) : Prop :=
  Issues s d b → (b.desk d).wait = .none → i < 2 ^ 32 →
    (16 ≤ i → FaultsWith s b d 10 (.acq d i) ∧ FaultsWith s b d 10 (.rel d i) ∧ FaultsWith s b d 10 (.try d rd i)) ∧
    (i < 16 → b.semMine d i = true → FaultsWith s b d 7 (.acq d i) ∧ FaultsWith s b d 7 (.try d rd i)) ∧
    (i < 16 → b.semMine d i = false → FaultsWith s b d 7 (.rel d i))

/-- SEMAPHORE_PASS (R319): the semaphore that was released passes to the lowest-numbered waiting Desk, which is RUNNING
(`l` are the others that wait, in ascending number). -/
def SemaphorePass (s : State) (i at_ e : Nat) (l : List Nat) : Prop :=
  s.por = false → s.cycleOpen = true → i < 16 → (i, at_) ∈ s.dsp.passes → at_ < s.stn.elapsed → s.semWaiters i = e :: l →
    Runs (.semaphorePass i) s fun t =>
      t.semOwned e i = true ∧ OtherSems s t i ∧ t.deskState e = 1 ∧ (t.desk e).wait = .none ∧
      Keeps s t [(.DSP_SEM_HELD, 0), (.DSP_SEM_OWNER, 0), (.DSP_DESK_STATUS, e)]

/-- PREF, PIN and UNPIN name a page of the image (R311, R383–R385). A fill of a page that no frame holds or is filling starts
into the frame that R312 chooses; PIN sets the frame's PIN bit, UNPIN clears it. -/
def PageHints (s b : State) (d ra imm fr : Nat) : Prop :=
  let p := (gw b d ra + BitVec.ofNat 32 imm).toNat
  let fills (t : State) : Prop :=
    t.on F.DSP_FRAME_FILLING fr = true ∧ t.on F.DSP_FRAME_VALID fr = false ∧ t.fget F.DSP_FRAME_PAGE fr = p ∧
      t.fget F.DSP_PAGE_CNT_MISSES 0 = (b.fget F.DSP_PAGE_CNT_MISSES 0 + 1) % 2 ^ 16 ∧
      t.dsp = { b.dsp with desks := t.dsp.desks, fills := b.dsp.fills ++ [{ frame := fr, page := p }] } ∧
      Issued b t d (nextPc (b.pc d)) 2 [(.DSP_FRAME, fr), (.DSP_PAGE_CNT, 0)] ∧
      BytesKeep b t (fun _ => False) ∧ UnitsKeep b t
  Issues s d b → 8 ≤ p → p < b.imgPages →
    (b.frameOf p = none → b.fillOf p = none → b.on F.DSP_CTRL_PAGE_EN 0 = true → b.dsp.imgs = [] →
      b.frameFor = some fr →
      (Runs (.pref d ra imm) s fun t => fills t ∧ (t.on F.DSP_FRAME_PIN fr = b.on F.DSP_FRAME_PIN fr)) ∧
      (Runs (.pin d ra imm) s fun t => fills t ∧ t.on F.DSP_FRAME_PIN fr = true)) ∧
    (b.frameOf p = some fr →
      (Runs (.pref d ra imm) s fun t => Issued b t d (nextPc (b.pc d)) 2 [] ∧ Alone b t) ∧
      (Runs (.pin d ra imm) s fun t =>
        t.on F.DSP_FRAME_PIN fr = true ∧ Issued b t d (nextPc (b.pc d)) 2 [(.DSP_FRAME, fr)] ∧ Alone b t) ∧
      (Runs (.unpin d ra imm) s fun t =>
        t.on F.DSP_FRAME_PIN fr = false ∧ Issued b t d (nextPc (b.pc d)) 2 [(.DSP_FRAME, fr)] ∧ Alone b t))

/-- A hint that has no effect: PREF and PIN of a page that no frame holds or is filling where no frame is eligible or PAGE_EN
is 0, PREF of a page that is being filled, UNPIN of a page that no frame holds. PIN of a page that is being filled sets PIN
of its frame; a page out of range faults with cause 10 (R383–R385). -/
def IdleHints (s b : State) (d ra imm : Nat) (f : Fill) : Prop :=
  let p := (gw b d ra + BitVec.ofNat 32 imm).toNat
  let only (t : State) : Prop := Issued b t d (nextPc (b.pc d)) 2 [] ∧ Alone b t
  Issues s d b → (b.desk d).wait = .none →
    (8 ≤ p → p < b.imgPages → b.frameOf p = none → Runs (.unpin d ra imm) s only ∧
      (b.fillOf p = none → b.frameFor = none ∨ b.on F.DSP_CTRL_PAGE_EN 0 = false →
        Runs (.pref d ra imm) s only ∧ Runs (.pin d ra imm) s only) ∧
      (b.fillOf p = some f → Runs (.pref d ra imm) s only ∧ Runs (.pin d ra imm) s fun t =>
        t.on F.DSP_FRAME_PIN f.frame = true ∧ Issued b t d (nextPc (b.pc d)) 2 [(.DSP_FRAME, f.frame)] ∧ Alone b t)) ∧
    (p < 8 ∨ b.imgPages ≤ p →
      FaultsWith s b d 10 (.pref d ra imm) ∧ FaultsWith s b d 10 (.pin d ra imm) ∧ FaultsWith s b d 10 (.unpin d ra imm))

/-- DISPATCH_CYCLE (R291, R305): with no upset, the issuing Desk runs the word at its PC in a valid resident tile of the
image, shown for a NOP and a MOVI; with no Desk ready nothing issues; a Desk that HALT is to stop is STOPPED (R343). -/
def DispatchCycle (s : State) (d : Nat) : Prop :=
  let b := s.cycleBegin.cycleTaken
  let w := b.progWord (0x10000 + 8 * b.pc d)
  s.por = false → s.cycleOpen = true →
    (b.issuer = some d → b.pc d < 0x1000 → b.pc d / 512 < b.imgPages → b.tileValid (b.pc d / 128) = true →
      (w = 0x06 * 2 ^ 56 → Runs (.dispatchCycle {}) s fun t => Issued b t d (nextPc (b.pc d)) 2 [] ∧ Alone b t) ∧
      (∀ rd imm, rd < 32 → imm < 2 ^ 32 → w = 0x20 * 2 ^ 56 + rd * 2 ^ 51 + imm →
        Runs (.dispatchCycle {}) s fun t =>
          GHolds t d rd (BitVec.ofNat 32 imm) ∧ Issued b t d (nextPc (b.pc d)) 2 (gRegs d rd) ∧ Alone b t)) ∧
    (b.issuer = none → Runs (.dispatchCycle {}) s fun t => t.dsp.cycle = some s.stn.elapsed ∧ t = b) ∧
    (d < 4 → s.deskState d = 1 → (s.desk d).halting = true → (s.desk d).readyAt ≤ s.stn.elapsed →
      Runs (.dispatchCycle {}) s fun t => t.deskState d = 0 ∧ t.pc d = s.pc d)

/-- DISPATCH_CYCLE (R302, R307, R310, R314): a fetch of bad parity or from an invalid tile faults the Desk with cause 2, one
of Desk 0 outside the resident area with cause 3, one of a page beyond the image with cause 4, and bad parity in a register
of Desk 1–3 with cause 9. A Desk whose page no frame holds is STALLED for it (R311). -/
def FetchFaults (s : State) (d : Nat) (inp : CycleIn) : Prop :=
  let b := s.cycleBegin.cycleTaken
  s.por = false → s.cycleOpen = true → inp.upsets = [] → b.issuer = some d → (b.desk d).wait = .none →
    (inp.parity = false → b.pc d < 0x1000 → b.pc d / 512 < b.imgPages →
      (inp.fetch = true ∨ b.tileValid (b.pc d / 128) = false) →
      Runs (.dispatchCycle inp) s fun t => Faulted b t d 2) ∧
    (0x1000 ≤ b.pc d → d = 0 → Runs (.dispatchCycle inp) s fun t => Faulted b t 0 3) ∧
    (inp.parity = false → d ≠ 0 ∨ b.pc d < 0x1000 → b.imgPages ≤ b.pc d / 512 →
      Runs (.dispatchCycle inp) s fun t => Faulted b t d 4) ∧
    (inp.parity = true → d ≠ 0 → Runs (.dispatchCycle inp) s fun t => Faulted b t d 9) ∧
    (inp.parity = false → d ≠ 0 → 0x1000 ≤ b.pc d → b.pc d / 512 < b.imgPages → b.frameOf (b.pc d / 512) = none →
      Runs (.dispatchCycle inp) s fun t =>
        t.deskState d = 3 ∧ (t.desk d).page = some (b.pc d / 512) ∧ t.pc d = b.pc d ∧
          RegsKeep b t [(.DSP_DESK_STATUS, d)] ∧ Alone b t)

/-- The encoding of format R (R333): the opcode, D, A, B, FN and the immediate. -/
def encR (op d a b fn imm : Nat) : Nat :=
  op * 2 ^ 56 + d * 2 ^ 51 + a * 2 ^ 46 + b * 2 ^ 41 + fn * 2 ^ 32 + imm

/-- The encoding of format T (R333): the opcode, TD, TA, A and the immediate. -/
def encT (op td ta a imm : Nat) : Nat := op * 2 ^ 56 + td * 2 ^ 54 + ta * 2 ^ 52 + a * 2 ^ 47 + imm

/-- The encoding of format S (R333): the opcode, V, TS, the stamp, OFFS, SCOPE, INDEX and ADDR. -/
def encS (op v : Nat) (f : SForm) : Nat :=
  op * 2 ^ 56 + v * 2 ^ 51 + f.ts * 2 ^ 49 + f.stamp.toNat * 2 ^ 48 + f.offs * 2 ^ 32 + f.scope * 2 ^ 30 +
    f.index * 2 ^ 20 + f.addr

end Sys2Proof.Claim

/-- WAIT, WAIT_END, ACTION_ENTRY_FREE, WHISTLE_ENTRY_FREE, RD and RD_RETURN: what a Desk waits for, and that it runs again
(R326, R329, R349, R369, R382). -/
def Obligations.CloporWaits : Prop :=
  ∀ (s b : State) (d ta rd ra imm w a at_ : Nat),
    Claim.Wait s b d ta imm ∧ WaitEnd s d w ∧ ActionEntryFree s d ∧ WhistleEntryFree s d ∧ Rd s b d rd ra imm ∧
      RdFaults s b d rd ra imm ∧ RdReturn s d a rd at_

/-- FREQ, FREQHW, HEADWAY, WOFF, CSLOT, STRPOL, GATE, FREEZE, THAW and WR take an action entry with the write that their
entries give, at T where a launch slot is free (R322–R328, R351–R365, R371, R380). -/
def Obligations.CloporActionsOnUnits : Prop :=
  ∀ (s b : State) (d v : Nat) (f : SForm) (secs : List Nat),
    SecAction s b d v f secs ∧ SbAction s b d v f secs ∧ Wr s b d v f secs ∧ FullTable s b d v f secs ∧ UnitFaults s b d v f

/-- STEP, PHASE, ENVCAP, PRIO, LWH and POST reach the Station: stamped through an action entry, immediate 2 tk after the
issue, long Whistles and postings at once (R328, R358, R367, R374–R379). -/
def Obligations.CloporStationInstructions : Prop :=
  ∀ (s b : State) (d v fn ra imm : Nat) (f : SForm),
    StationAction s b d v f ∧ StationNow s b d v ra imm f ∧ Lwh s b d v f ∧ Claim.Post s b d fn ra imm ∧
      StationFaults s b d v fn ra imm f

/-- ACQ, REL, TRY and SEMAPHORE_PASS: who owns a semaphore, who waits for it, to whom it passes, and when a Desk faults
(R318–R320). -/
def Obligations.CloporSemaphores : Prop :=
  ∀ (s b : State) (d i rd at_ e : Nat) (l : List Nat), Semaphores s b d i rd ∧ SemFaults s b d i rd ∧ SemaphorePass s i at_ e l

/-- PREF, PIN and UNPIN: fills, PIN bits, hints without effect, and faults (R311, R312, R383–R385). -/
def Obligations.CloporPagingHints : Prop :=
  ∀ (s b : State) (d ra imm fr : Nat) (f : Fill), PageHints s b d ra imm fr ∧ IdleHints s b d ra imm f

/-- A Dispatcher cycle issues the word at the PC of the Desk that R291 gives the cycle, or nothing; a bad fetch faults the
Desk, and an absent page stalls it (R291, R302, R305, R307, R310, R311, R314). -/
def Obligations.DispatcherCycle : Prop :=
  ∀ (s : State) (d : Nat) (inp : CycleIn), Claim.DispatchCycle s d ∧ FetchFaults s d inp

/-- Decoding an instruction word gives back every operand of its format (R333–R337): formats R, T and S. -/
def Obligations.InstructionWordsDecode : Prop :=
  ∀ (s : State) (d rd ra rb fn imm td ta v : Nat) (f : SForm) (ecc : Ecc),
    rd < 32 → ra < 32 → rb < 32 → fn < 512 → imm < 2 ^ 32 → td < 4 → ta < 4 → v < 32 → f.ts < 4 → f.offs < 2 ^ 16 →
    f.scope < 4 → f.index < 2 ^ 10 → f.addr < 2 ^ 20 → f.ecc = ecc →
    s.decodeWord d (encR 0x01 rd ra 0 fn imm) ecc = s.doBr d fn rd ra imm ∧
    s.decodeWord d (encR 0x02 0 0 0 0 imm) ecc = s.doCall d imm ∧
    s.decodeWord d (encR 0x03 0 0 0 0 0) ecc = s.doRet d ∧
    s.decodeWord d (encR 0x04 0 ra 0 0 imm) ecc = s.doJr d ra imm ∧
    s.decodeWord d (encR 0x05 0 0 0 0 0) ecc = s.doHalt d ∧
    s.decodeWord d (encR 0x06 0 0 0 0 0) ecc = .ok s ∧
    s.decodeWord d (encR 0x10 rd ra rb fn 0) ecc = s.doAlu d fn rd ra rb ∧
    s.decodeWord d (encR 0x11 rd ra 0 fn imm) ecc = s.doAlui d fn rd ra imm ∧
    s.decodeWord d (encR 0x20 rd 0 0 0 imm) ecc = s.doMovi d rd imm ∧
    s.decodeWord d (encR 0x21 rd ra rb fn 0) ecc = s.doCmp d fn rd ra rb ∧
    s.decodeWord d (encR 0x22 rd ra 0 fn imm) ecc = s.doCmpi d fn rd ra imm ∧
    s.decodeWord d (encR 0x30 rd ra 0 0 imm) ecc = s.doLd d rd ra imm ecc ∧
    s.decodeWord d (encR 0x31 rd ra 0 0 imm) ecc = s.doSt d rd ra imm ∧
    s.decodeWord d (encR 0x32 rd ra 0 0 imm) ecc = s.doLdt d rd ra imm ecc ∧
    s.decodeWord d (encR 0x33 rd ra 0 0 imm) ecc = s.doStt d rd ra imm ∧
    s.decodeWord d (encT 0x40 td 0 0 0) ecc = s.doRdt d td ∧
    s.decodeWord d (encT 0x41 td ta 0 imm) ecc = s.doTaddi d td ta imm ∧
    s.decodeWord d (encT 0x42 td ta ra imm) ecc = s.doTaddg d td ta ra imm ∧
    s.decodeWord d (encT 0x43 td ta ra 0) ecc = s.doTdiff d ra td ta ∧
    s.decodeWord d (encT 0x44 0 ta ra 0) ecc = s.doTlo d ra ta ∧
    s.decodeWord d (encT 0x45 0 ta ra 0) ecc = s.doThi d ra ta ∧
    s.decodeWord d (encT 0x46 td 0 ra 0) ecc = s.doTsetlo d td ra ∧
    s.decodeWord d (encT 0x47 td 0 ra 0) ecc = s.doTsethi d td ra ∧
    s.decodeWord d (encT 0x48 0 ta 0 imm) ecc = s.doWait d ta imm ∧
    s.decodeWord d (encS 0x50 v f) ecc = s.doFreq d v f ∧
    s.decodeWord d (encS 0x51 v f) ecc = s.doFreqhw d v f ∧
    s.decodeWord d (encS 0x52 v f) ecc = s.doHeadway d v f ∧
    s.decodeWord d (encS 0x53 v f) ecc = s.doStrpol d v f ∧
    s.decodeWord d (encS 0x54 v f) ecc = s.doGate d v f ∧
    s.decodeWord d (encS 0x55 v f) ecc = s.doFreeze d v f ∧
    s.decodeWord d (encS 0x56 v f) ecc = s.doThaw d v f ∧
    s.decodeWord d (encS 0x57 v f) ecc = s.doWoff d v f ∧
    s.decodeWord d (encS 0x60 v f) ecc = s.doCslot d v f ∧
    s.decodeWord d (encS 0x61 v f) ecc = s.doLwh d v f ∧
    s.decodeWord d (encS 0x70 v f) ecc = s.doStep d v f ∧
    s.decodeWord d (encS 0x71 v f) ecc = s.doPhase d v f ∧
    s.decodeWord d (encR 0x78 0 ra 0 fn imm) ecc = s.doPost d fn ra imm ∧
    s.decodeWord d (encS 0x80 v f) ecc = s.doEnvcap d v f ∧
    s.decodeWord d (encR 0x81 0 ra 0 0 imm) ecc = s.doPrio d ra imm ∧
    s.decodeWord d (encS 0x90 v f) ecc = s.doWr d v f ∧
    s.decodeWord d (encR 0x91 rd ra 0 0 imm) ecc = s.doRd d rd ra imm ∧
    s.decodeWord d (encR 0xA0 0 ra 0 0 imm) ecc = s.doPref d ra imm ∧
    s.decodeWord d (encR 0xA1 0 ra 0 0 imm) ecc = s.doPin d ra imm ∧
    s.decodeWord d (encR 0xA2 0 ra 0 0 imm) ecc = s.doUnpin d ra imm ∧
    s.decodeWord d (encR 0xB0 0 0 0 0 imm) ecc = s.doAcq d imm ∧
    s.decodeWord d (encR 0xB1 0 0 0 0 imm) ecc = s.doRel d imm ∧
    s.decodeWord d (encR 0xB2 rd 0 0 0 imm) ecc = s.doTry d rd imm

namespace Sys2Proof.Claim

/-! ### The Station Clock -/

/-- REFERENCE_DETECTION (R34, R45, R598): with REF_SEL 0 or 3, in an attempt or in holdover that is not classified yet: 140
to 249 edges in 2 µs are 100 MHz, 250 to 400 are 156.25 MHz, any other count is no reference. -/
def Detection (s : State) (n : Nat) : Prop :=
  s.por = false → (s.fget F.STN_CLK_CFG_REF_SEL 0 = 0 ∨ s.fget F.STN_CLK_CFG_REF_SEL 0 = 3) → s.stn.classified = false →
    (s.stn.locked = false ∧ s.stn.attempt = true ∨ s.stn.locked = true ∧ s.clkState = 2) →
    Runs (.referenceDetection n) s fun t =>
      let c := if 140 ≤ n ∧ n < 250 then 1 else if 250 ≤ n ∧ n ≤ 400 then 2 else 3
      t.fget F.STN_CLK_STATUS_REF_DET 0 = c ∧ (t.on F.STN_CLK_STATUS_REF_PRESENT 0 = true ↔ c ≠ 3) ∧
      t.stn = { s.stn with classified := c != 3 } ∧
      Only { s with stn := t.stn } t [(F.STN_CLK_STATUS_REF_DET, 0), (F.STN_CLK_STATUS_REF_PRESENT, 0)]

/-- LOCK_DECLARED (R39) with no failure to lock before, no forced holdover and no shadowed write: LOCKED, count 1, PHASE 1 and
the length of the attempt. -/
def Lock (s : State) (us acq : Nat) : Prop :=
  s.por = false → s.stn.locked = false → s.stn.attempt = true →
    (s.fget F.STN_CLK_CFG_REF_SEL 0 % 3 ≠ 0 ∨ s.stn.classified = true) → s.on F.STN_CLK_STATUS_LOCK_FAIL 0 = false →
    s.on F.STN_CLK_CFG_HOLD_FORCE 0 = false → s.shadow = [] → s.jnl.queue = [] →
    Runs (.lockDeclared us acq) s fun t =>
      t.stn = { s.stn with locked := true, attempt := false, cntA := 1, cntB := 1, cntC := 1, elapsed := 0 } ∧
      t.clkState = 1 ∧ t.on F.STN_CLK_STATUS_LOCKED 0 = true ∧ t.on F.STN_CLK_STATUS_REF_PRESENT 0 = true ∧
      t.fget F.STN_LOCK_TIME_TK 0 = min acq (2 ^ 20 - 1) ∧ t.fget F.CAL_STATUS_PHASE 0 = 1 ∧
      t.cal = { s.cal with lockUs := us } ∧
      Only { s with stn := t.stn, cal := t.cal } t
        [(F.STN_CLK_STATUS_STATE, 0), (F.STN_CLK_STATUS_LOCKED, 0), (F.STN_CLK_STATUS_REF_PRESENT, 0),
         (F.STN_LOCK_TIME_TK, 0), (F.CAL_STATUS_PHASE, 0)]

/-- LOCK_FAIL (R40): the flag is set and an attempt starts afresh. -/
def LockFail (s : State) : Prop :=
  s.por = false → s.stn.locked = false → s.stn.attempt = true →
    Runs .lockFail s fun t =>
      t.on F.STN_CLK_STATUS_LOCK_FAIL 0 = true ∧ t.stn = { s.stn with attempt := true, classified := false } ∧
      Only { s with stn := t.stn } t [(F.STN_CLK_STATUS_LOCK_FAIL, 0)]

/-- Holdover is entered (R44): from LOCKED the span of R46 starts at 0, from REACQUIRE it goes on; the event names the
cause. -/
def Holdover (s t : State) : Prop :=
  t.clkState = 2 ∧ t.on F.STN_CLK_STATUS_LOCKED 0 = false ∧ t.on F.STN_CLK_STATUS_LOSS_SEEN 0 = true ∧
    t.stn = { s.stn with holdTk := if s.clkState = 3 then s.stn.holdTk else 0, classified := false,
                         qualified := false }

/-- The fields that the entry of holdover moves. -/
def holdoverFields : List (Fld × Nat) :=
  [(F.STN_CLK_STATUS_STATE, 0), (F.STN_CLK_STATUS_LOCKED, 0), (F.STN_CLK_STATUS_LOSS_SEEN, 0)]

/-- LOSS_OF_REFERENCE (R41, R44): holdover, with the cause in the event; in holdover REF_PRESENT falls, and the reference
is to be qualified afresh (the model's choice, log entry 61). -/
def Loss (s : State) (c : LossCause) : Prop :=
  s.por = false → s.stn.locked = true →
    ((s.clkState = 1 ∨ s.clkState = 3) → Runs (.lossOfReference c) s fun t =>
      Holdover s t ∧ t.on F.STN_CLK_STATUS_REF_PRESENT 0 = false ∧
      Posted s t 1792 0 0x01 (match c with | .missingEdge => 0 | .phaseError => 1) ∧
      Only { s with stn := t.stn, log := t.log } t ((F.STN_CLK_STATUS_REF_PRESENT, 0) :: holdoverFields)) ∧
    (s.clkState = 2 → Runs (.lossOfReference c) s fun t =>
      t.on F.STN_CLK_STATUS_REF_PRESENT 0 = false ∧ t.stn = { s.stn with classified := false, qualified := false } ∧
      Only { s with stn := t.stn } t [(F.STN_CLK_STATUS_REF_PRESENT, 0)])

/-- REFERENCE_QUALIFIED (R45, R90): from holdover to reacquisition; HOLD_FORCE at 1 keeps holdover, with the reference noted
as qualified. -/
def Qualified (s : State) : Prop :=
  s.por = false → s.clkState = 2 → (s.fget F.STN_CLK_CFG_REF_SEL 0 % 3 ≠ 0 ∨ s.stn.classified = true) →
    (s.on F.STN_CLK_CFG_HOLD_FORCE 0 = false → Runs .referenceQualified s fun t =>
      t.clkState = 3 ∧ t.on F.STN_CLK_STATUS_REF_PRESENT 0 = true ∧ t.on F.STN_CLK_STATUS_LOCKED 0 = false ∧
      t.stn = { s.stn with reacqTk := 0, qualified := false } ∧
      Only { s with stn := t.stn } t
        [(F.STN_CLK_STATUS_STATE, 0), (F.STN_CLK_STATUS_LOCKED, 0), (F.STN_CLK_STATUS_REF_PRESENT, 0)]) ∧
    (s.on F.STN_CLK_CFG_HOLD_FORCE 0 = true → Runs .referenceQualified s fun t =>
      t.on F.STN_CLK_STATUS_REF_PRESENT 0 = true ∧ t.stn = { s.stn with qualified := true } ∧
      Only { s with stn := t.stn } t [(F.STN_CLK_STATUS_REF_PRESENT, 0)])

/-- LOCK_RESTORED (R46), with a reference of 100 MHz: STN_HOLD_OFFSET is the ticks counted less 16 a period; the span in
units of 1,024 tk, rounded either way where it is no whole number of them (log entry 9). -/
def Restored (s : State) (n : Nat) : Prop :=
  s.por = false → s.clkState = 3 → s.fget F.STN_CLK_CFG_REF_SEL 0 = 1 → s.stn.holdTk < 2 ^ 31 → 16 * n < 2 ^ 31 →
    Runs (.lockRestored n) s fun t =>
      t.clkState = 1 ∧ t.on F.STN_CLK_STATUS_LOCKED 0 = true ∧
      t.reg .STN_HOLD_OFFSET 0 = BitVec.ofInt 32 ((s.stn.holdTk : Int) - 16 * (n : Int)) ∧
      (t.fget F.STN_HOLD_TIME_SPAN 0 = s.stn.holdTk / 1024 ∨
        s.stn.holdTk % 1024 ≠ 0 ∧ t.fget F.STN_HOLD_TIME_SPAN 0 = s.stn.holdTk / 1024 + 1) ∧
      t.fget F.STN_LOCK_TIME_TK 0 = min s.stn.reacqTk (2 ^ 20 - 1) ∧
      Posted s t 1792 0 0x02 (t.reg .STN_HOLD_OFFSET 0).toNat ∧
      Only { s with log := t.log } t
        [(F.STN_CLK_STATUS_STATE, 0), (F.STN_CLK_STATUS_LOCKED, 0), (F.STN_HOLD_OFFSET_OFFSET, 0),
         (F.STN_HOLD_TIME_SPAN, 0), (F.STN_LOCK_TIME_TK, 0)]

/-- REF_SEL_WRITE (R36): the field takes the value; a change of it forces holdover once locked, and starts the attempt
afresh before; in holdover the reference is to be qualified afresh (log entry 61). -/
def RefSel (s : State) (v : Nat) : Prop :=
  HostMay s .STN_CLK_CFG 0 → s.build.nSections ≤ 64 → v < 4 →
    Runs (.refSelWrite v) s fun t =>
      t.fget F.STN_CLK_CFG_REF_SEL 0 = v ∧
      (v = s.fget F.STN_CLK_CFG_REF_SEL 0 → HostOnly s t []) ∧
      (v ≠ s.fget F.STN_CLK_CFG_REF_SEL 0 → s.stn.locked = true → (s.clkState = 1 ∨ s.clkState = 3) →
        Holdover s t ∧ HostPosted s t 1792 0 0x01 2 ∧
        HostOnly { s with stn := t.stn, log := t.log } t ((F.STN_CLK_CFG_REF_SEL, 0) :: holdoverFields)) ∧
      (v ≠ s.fget F.STN_CLK_CFG_REF_SEL 0 → s.stn.locked = true → s.clkState = 2 →
        t.stn = { s.stn with classified := false, qualified := false } ∧
        HostOnly { s with stn := t.stn } t [(F.STN_CLK_CFG_REF_SEL, 0)]) ∧
      (v ≠ s.fget F.STN_CLK_CFG_REF_SEL 0 → s.stn.locked = false → s.stn.attempt = true →
        t.stn = { s.stn with attempt := true, classified := false } ∧
        HostOnly { s with stn := t.stn } t [(F.STN_CLK_CFG_REF_SEL, 0)])

/-- HOLD_FORCE (R45, R90): 1 forces holdover, 0 starts reacquisition where the reference is qualified. -/
def HoldForce (s : State) (on : Bool) : Prop :=
  HostMay s .STN_CLK_CFG 0 →
    Runs (.holdForce on) s fun t =>
      t.on F.STN_CLK_CFG_HOLD_FORCE 0 = on ∧
      (on = true → s.on F.STN_CLK_CFG_HOLD_FORCE 0 = false → s.stn.locked = true → (s.clkState = 1 ∨ s.clkState = 3) →
        Holdover s t ∧ HostPosted s t 1792 0 0x01 3 ∧
        HostOnly { s with stn := t.stn, log := t.log } t ((F.STN_CLK_CFG_HOLD_FORCE, 0) :: holdoverFields)) ∧
      (on = false → s.on F.STN_CLK_CFG_HOLD_FORCE 0 = true → s.clkState = 2 → s.stn.qualified = true →
        t.clkState = 3 ∧ t.on F.STN_CLK_STATUS_LOCKED 0 = false ∧
        t.stn = { s.stn with reacqTk := 0, qualified := false } ∧
        HostOnly { s with stn := t.stn } t
          [(F.STN_CLK_CFG_HOLD_FORCE, 0), (F.STN_CLK_STATUS_STATE, 0), (F.STN_CLK_STATUS_LOCKED, 0)]) ∧
      (on = false → s.on F.STN_CLK_CFG_HOLD_FORCE 0 = true → s.clkState ≠ 2 ∨ s.stn.qualified = false →
        HostOnly s t [(F.STN_CLK_CFG_HOLD_FORCE, 0)]) ∧
      (on = s.on F.STN_CLK_CFG_HOLD_FORCE 0 → HostOnly s t [])

/-! ### Ticks and captures -/

/-- The count that the three copies give: their bitwise majority (R47). -/
def majority (a b c : BitVec 64) : BitVec 64 := (a &&& b) ||| (a &&& c) ||| (b &&& c)

/-- TICK, whatever else happens at the edge (R39, R47): before lock the count stands at 0; from lock on each of the three
copies takes the bitwise majority plus 1. -/
def Copies (s : State) (u : TickIn) : Prop :=
  let m := majority (s.stn.cntA ^^^ u.a) (s.stn.cntB ^^^ u.b) (s.stn.cntC ^^^ u.c)
  s.por = false →
    (s.stn.locked = true → Runs (.tick u) s fun t =>
      t.stn.cntA = m + 1 ∧ t.stn.cntB = m + 1 ∧ t.stn.cntC = m + 1 ∧ t.stn.elapsed = s.stn.elapsed + 1) ∧
    (s.stn.locked = false → Runs (.tick u) s fun t => t = s)

/-- TICK (R47–R49, R73, R86, R91) outside the bring-up of Sections, with no action held back and no upset of Sections'
copies: a copy that differed is counted; three that all differ are reported; a released Section's phase advances by the word
in force; `sync_in` is sampled; a follower that slews moves its phase. Junctions, Token crossings, the Meter, the action
table and shadowed writes stay. -/
def Tick (s : State) (u : TickIn) : Prop :=
  s.por = false → s.stn.locked = true → s.fget F.CAL_STATUS_PHASE 0 ≠ 2 → s.dsp.held = [] → u.fw = [] →
    let x := s.stn.cntA ^^^ u.a
    let y := s.stn.cntB ^^^ u.b
    let z := s.stn.cntC ^^^ u.c
    let m := majority x y z
    Runs (.tick u) s fun t =>
      t.fget F.STN_TMR_STATUS_CORR_A 0 = min 255 (s.fget F.STN_TMR_STATUS_CORR_A 0 + if x = m then 0 else 1) ∧
      t.fget F.STN_TMR_STATUS_CORR_B 0 = min 255 (s.fget F.STN_TMR_STATUS_CORR_B 0 + if y = m then 0 else 1) ∧
      t.fget F.STN_TMR_STATUS_CORR_C 0 = min 255 (s.fget F.STN_TMR_STATUS_CORR_C 0 + if z = m then 0 else 1) ∧
      (∀ k, k < s.build.nSections →
        t.sec k = { s.sec k with acc := (s.sec k).acc + if (s.sec k).released then s.fwCur k else 0 }) ∧
      (if x ≠ y ∧ x ≠ z ∧ y ≠ z then
        t.on F.STN_TMR_STATUS_TRIPLE 0 = true ∧ PostedIn { s with stn := t.stn } t 1792 0 0x04 (m.toNat % 2 ^ 32)
       else t.on F.STN_TMR_STATUS_TRIPLE 0 = s.on F.STN_TMR_STATUS_TRIPLE 0 ∧ t.source 1792 = s.source 1792) ∧
      (s.build.optSync = true → t.stn.syncRx.pipe = u.syncIn :: u.syncMid :: s.stn.syncRx.pipe.take 5) ∧
      t.stn.slewPhase = s.stn.slewPhase + (if s.on F.STN_SYNC_STATUS_SLEWING 0 then s.stn.slewDir else 0) ∧
      t.xings = s.xings ∧ t.toks = s.toks ∧ t.mtr = s.mtr ∧ t.dsp.acts = s.dsp.acts ∧ t.shadow = s.shadow

/-- TICK with upsets in the three copies of a Section's SEC_FW (R494): the register takes their majority, each copy that
differs is counted, three that all differ are reported with the word in force. -/
def FwCopies (s : State) (u : TickIn) (k a b c : Nat) : Prop :=
  let v := s.fget F.SEC_FW_FW k
  let x := v ^^^ (a % 2 ^ 18)
  let y := v ^^^ (b % 2 ^ 18)
  let z := v ^^^ (c % 2 ^ 18)
  let m := (x &&& y) ||| (x &&& z) ||| (y &&& z)
  s.por = false → s.stn.locked = true → s.fget F.CAL_STATUS_PHASE 0 ≠ 2 → s.dsp.held = [] → k < s.build.nSections →
    s.build.nSections ≤ 64 → u.fw = [{ sec := k, item := .secFw, a, b, c }] →
    Runs (.tick u) s fun t =>
      t.fget F.SEC_FW_FW k = m ∧
      t.fget F.STN_DEP_CNT_FW_CORR 0 = min 255 (s.fget F.STN_DEP_CNT_FW_CORR 0 +
        ((if x = m then 0 else 1) + (if y = m then 0 else 1) + (if z = m then 0 else 1))) ∧
      (if x ≠ y ∧ x ≠ z ∧ y ≠ z then t.on F.STN_DEP_STATUS_FW_TRIPLE 0 = true ∧
        PostedIn { s with stn := t.stn } t (1024 + k) 0 0x19 (k * 2 ^ 26 + s.fwCur k)
       else t.on F.STN_DEP_STATUS_FW_TRIPLE 0 = s.on F.STN_DEP_STATUS_FW_TRIPLE 0 ∧
        t.source (1024 + k) = s.source (1024 + k))

/-- TCAP_CAPTURE (R55, R56): a capture is pending and NOT_READY reads 1. -/
def Capture (s : State) : Prop :=
  HostMay s .STN_TCAP_CTRL 0 →
    Runs .tcapCapture s fun t =>
      t.on F.STN_TCAP_SEQ_NOT_READY 0 = true ∧ t.stn = { s.stn with tcapPend := true } ∧
      HostOnly { s with stn := t.stn } t [(F.STN_TCAP_SEQ_NOT_READY, 0)]

/-- TCAP_LATCH (R55): the count, SEQ, NOT_READY and the interrupt source. -/
def Latch (s : State) : Prop :=
  s.por = false → s.stn.locked = true → s.stn.tcapPend = true →
    Runs .tcapLatch s fun t =>
      t.reg .STN_TCAP_LO 0 = BitVec.ofNat 32 s.count ∧ t.reg .STN_TCAP_HI 0 = BitVec.ofNat 32 (s.count / 2 ^ 32) ∧
      t.fget F.STN_TCAP_SEQ_SEQ 0 = (s.fget F.STN_TCAP_SEQ_SEQ 0 + 1) % 2 ^ 31 ∧
      t.on F.STN_TCAP_SEQ_NOT_READY 0 = false ∧ t.on F.HIF_IRQ_SRC_TCAP_DONE 0 = true ∧
      t.stn = { s.stn with tcapPend := false } ∧
      Only { s with stn := t.stn } t
        [(F.STN_TCAP_LO_COUNT, 0), (F.STN_TCAP_HI_COUNT, 0), (F.STN_TCAP_SEQ_SEQ, 0), (F.STN_TCAP_SEQ_NOT_READY, 0),
         (F.HIF_IRQ_SRC_TCAP_DONE, 0)]

/-! ### The Time Spine -/

/-- A leaf passes (R59): in the first attempt or one of three retries the two measurements agree within three fine steps. -/
def LeafOk (m : LeafMeas) : Prop := ∃ p ∈ m.attempts.take 4, (p.1 - p.2).natAbs ≤ 3

/-- The fields that Spine calibration moves. -/
def spineFields (n : Nat) : List (Fld × Nat) :=
  (F.STN_SPINE_STATUS_CAL_DONE, 0) :: (F.STN_SPINE_STATUS_CAL_FAIL, 0) ::
    ((List.range n).map (fun r => (F.SB_SPINE_FINE, r)) ++ (List.range n).map (fun r => (F.SB_SPINE_FAILED, r)))

/-- SPINE_CALIBRATION (R59, R60, R82): at a `spine_f` boundary, with every region's leaf measured and then the Station tap's
(leaf N_REGIONS): a passing leaf takes its fine delay, its residual is kept and its local counter is loaded; a leaf that fails is
marked, and one alone that fails is reported with its region and its last disagreement; the release hold is decided. Nothing
else changes. -/
def SpineCal (s : State) (l : List LeafMeas) : Prop :=
  let n := s.build.nRegions
  s.por = false → s.stn.locked = true → s.on F.STN_SPINE_STATUS_CAL_DONE 0 = false → s.count % 64 = 0 → n ≤ 1024 →
    2 ≤ s.fget F.CAL_STATUS_PHASE 0 → l.map (·.region) = List.range (n + 1) →
    (∀ m ∈ l, m.fine < 512 ∧ m.attempts ≠ []) →
    Runs (.spineCalibration l) s fun t =>
      t.on F.STN_SPINE_STATUS_CAL_DONE 0 = true ∧ t.stn.spineEnd = some s.stn.elapsed ∧
      (t.stn.relHold = true ↔ s.build.optSync = true ∧ s.fget F.STN_SYNC_CTRL_ROLE 0 = 2 ∧
        s.on F.STN_SYNC_STATUS_HARD_DONE 0 = false) ∧
      (∀ m ∈ l, m.region < n → LeafOk m → t.fget F.SB_SPINE_FINE m.region = m.fine ∧
        t.fget F.SB_SPINE_FAILED m.region = s.fget F.SB_SPINE_FAILED m.region ∧
        t.rgn m.region = { s.rgn m.region with residual := m.residual, loaded := true, localErr := 0, mismatch := false }) ∧
      (∀ m ∈ l, m.region < n → ¬ LeafOk m → t.on F.SB_SPINE_FAILED m.region = true ∧
        t.fget F.SB_SPINE_FINE m.region = s.fget F.SB_SPINE_FINE m.region ∧ t.rgn m.region = s.rgn m.region) ∧
      (∀ m ∈ l, m.region = n → LeafOk m → t.stn.tapFine = m.fine ∧ t.stn.tapResidual = m.residual) ∧
      ((∃ m ∈ l, ¬ LeafOk m) → t.on F.STN_SPINE_STATUS_CAL_FAIL 0 = true) ∧
      ((∀ m ∈ l, LeafOk m) → t.log = s.log ∧
        t.on F.STN_SPINE_STATUS_CAL_FAIL 0 = s.on F.STN_SPINE_STATUS_CAL_FAIL 0) ∧
      (∀ m ∈ l, m.region < n → ¬ LeafOk m → (∀ x ∈ l, x ≠ m → LeafOk x) → ∀ p, (m.attempts.take 4).getLast? = some p →
        Posted s t 1792 1 0x02 (m.region * 2 ^ 22 + (BitVec.ofInt 22 (max (-2 ^ 21) (min (p.2 - p.1) (2 ^ 21 - 1)))).toNat)) ∧
      t.stn = { s.stn with spineEnd := t.stn.spineEnd, trackAt := s.stn.elapsed, relHold := t.stn.relHold,
                           tapFine := t.stn.tapFine, tapResidual := t.stn.tapResidual } ∧
      Only { s with stn := t.stn, rgns := t.rgns, log := t.log } t (spineFields n)

/-- A fine delay moved by at most one step (R62). -/
def stepped (fine : Nat) (delta : Int) : Nat := if 0 < delta then min 511 (fine + 1) else if delta < 0 then fine - 1 else fine

/-- SPINE_TRACK_MEASURE (R62, R63): the next leaf in turn, past those whose OVR.EN is 1, moves by at most one fine step: in
tracking 1,024 tk after the last measurement, in a RECAL round 96 tk after it for each pair measured, and there only where a
pair agrees. A RECAL round ends with its last leaf that is not skipped. Leaf N_REGIONS is the Station tap. -/
def SpineTrack (s : State) (l : List (Int × Int)) (delta : Int) (residual k : Nat) : Prop :=
  let n := s.build.nRegions + 1
  let skip (i : Nat) : Prop := i % n < s.build.nRegions ∧ s.on F.SB_SPINE_OVR_EN (i % n) = true
  let r := (s.stn.trackIdx + k) % n
  let recal := s.on F.STN_SPINE_CTRL_RECAL 0
  let moves := recal = false ∨ ∃ p ∈ l.take 4, (p.1 - p.2).natAbs ≤ 3
  let left := s.stn.recalLeft - (k + 1)
  let ends := ∀ i, i < left → skip (r + 1 + i)
  s.por = false → s.on F.STN_SPINE_STATUS_CAL_DONE 0 = true → recal = true ∨ s.on F.STN_SPINE_CTRL_TRACK_EN 0 = true →
    s.stn.trackAt + (if recal then 96 * l.length else 1024) ≤ s.stn.elapsed →
    k < n → (∀ i, i < k → skip (s.stn.trackIdx + i)) → ¬ skip (s.stn.trackIdx + k) →
    Runs (.spineTrackMeasure l delta residual) s fun t =>
      (moves → r < s.build.nRegions → t.fget F.SB_SPINE_FINE r = stepped (s.fget F.SB_SPINE_FINE r) delta ∧
        t.rgn r = { s.rgn r with residual }) ∧
      (moves → r = s.build.nRegions → t.stn.tapFine = stepped s.stn.tapFine delta ∧ t.stn.tapResidual = residual) ∧
      (¬ moves ∨ r < s.build.nRegions → t.stn.tapFine = s.stn.tapFine ∧ t.stn.tapResidual = s.stn.tapResidual) ∧
      (¬ moves ∨ r = s.build.nRegions → t.rgns = s.rgns ∧ t.fget F.SB_SPINE_FINE r = s.fget F.SB_SPINE_FINE r) ∧
      (∀ q, q ≠ r → t.rgn q = s.rgn q) ∧
      t.stn = { s.stn with trackIdx := (r + 1) % n, trackAt := s.stn.elapsed, recalLeft := t.stn.recalLeft,
                           tapFine := t.stn.tapFine, tapResidual := t.stn.tapResidual } ∧
      (ends → t.stn.recalLeft = 0 ∧ t.on F.STN_SPINE_CTRL_RECAL 0 = false) ∧
      (¬ ends → t.stn.recalLeft = left ∧ t.on F.STN_SPINE_CTRL_RECAL 0 = recal) ∧
      Only { s with stn := t.stn, rgns := t.rgns } t [(F.SB_SPINE_FINE, r), (F.STN_SPINE_CTRL_RECAL, 0)]

/-- SPINE_RECAL (R63): RECAL reads 1 and a fresh round of every leaf is to come. -/
def SpineRecal (s : State) : Prop :=
  HostMay s .STN_SPINE_CTRL 0 →
    Runs .spineRecal s fun t =>
      t.on F.STN_SPINE_CTRL_RECAL 0 = true ∧
      (s.on F.STN_SPINE_CTRL_RECAL 0 = false → t.stn = { s.stn with recalLeft := s.build.nRegions + 1, trackAt := s.stn.elapsed }) ∧
      (s.on F.STN_SPINE_CTRL_RECAL 0 = true → t.stn = s.stn) ∧
      HostOnly { s with stn := t.stn } t [(F.STN_SPINE_CTRL_RECAL, 0)]

/-- SPINE_PARITY_MISMATCH, SPINE_FRAME_CHECK and SPINE_RELOAD (R64–R67): a faulty local count is found, and put right at
a boundary. -/
def SpineFaults (s : State) (r : Nat) (n : BitVec 64) : Prop :=
  s.por = false → r < s.build.nRegions → s.on F.STN_SPINE_STATUS_CAL_DONE 0 = true →
    ((s.rgn r).mismatch = false → Runs (.spineParityMismatch r n) s fun t =>
      (t.rgn r).mismatch = true ∧ t.localCount r = n ∧ t.on F.STN_SPINE_STATUS_MISMATCH_SEEN 0 = true ∧
      (∀ q, q ≠ r → t.rgn q = s.rgn q) ∧ Only { s with rgns := t.rgns } t [(F.STN_SPINE_STATUS_MISMATCH_SEEN, 0)]) ∧
    ((s.rgn r).mismatch = false → s.count % 64 = 0 → n ≠ BitVec.ofNat 64 s.count → Runs (.spineFrameCheck r n) s fun t =>
      (t.rgn r).mismatch = true ∧ t.localCount r = n ∧ (∀ q, q ≠ r → t.rgn q = s.rgn q) ∧ t = { s with rgns := t.rgns }) ∧
    (s.count % 64 = 0 → n = BitVec.ofNat 64 s.count → Runs (.spineFrameCheck r n) s fun t => t = s) ∧
    ((s.rgn r).mismatch = true → s.count % 64 = 0 → Runs (.spineReload r) s fun t =>
      (t.rgn r).mismatch = false ∧ t.localCount r = BitVec.ofNat 64 s.count ∧
      t.fget F.SB_SPINE_RESYNC r = satU F.SB_SPINE_RESYNC.w (s.fget F.SB_SPINE_RESYNC r + 1) ∧
      Posted s t r 1 0x01 ((s.localCount r).toNat % 2 ^ 32) ∧ (∀ q, q ≠ r → t.rgn q = s.rgn q) ∧
      Only { s with rgns := t.rgns, log := t.log } t [(F.SB_SPINE_RESYNC, r)])

/-! ### Alignment across dies -/

/-- The level of `sync_out` at offset `k` of the frame of count `n` (R74): 64 tk high, 32 tk low, then 56 cells of 32 tk, of
which a cell is high for 24 tk for a 1 and 8 tk for a 0: the 48 bits N[63:16] and their CRC-8, most significant first (of the
CRC the model's choice, log entry 65); low after the cells. -/
def frameLevel (n k : Nat) : Bool :=
  let word := n / 2 ^ 16 % 2 ^ 48 * 2 ^ 8 + crc8 (BitVec.ofNat 48 (n / 2 ^ 16))
  if k < 64 then true else if k < 96 ∨ 96 + 56 * 32 ≤ k then false
  else decide ((k - 96) % 32 < if word.testBit (55 - (k - 96) / 32) then 24 else 8)

/-- SYNC_FRAME_SEND (R74, R78): a leader's frame begins at a count that is a multiple of 65,536, and measures the round trip
where MEASURE is 1; each tick then drives the level of its place in the frame. -/
def FrameSend (s : State) (u : TickIn) (n : Nat) : Prop :=
  (s.por = false → s.build.optSync = true → s.stn.locked = true → s.fget F.STN_SYNC_CTRL_ROLE 0 = 1 → s.count % 65536 = 0 →
    Runs .syncFrameSend s fun t =>
      t = { s with stn := { s.stn with frameN := some s.count, syncOut := true
                                       measN := if s.on F.STN_SYNC_CTRL_MEASURE 0 then some s.count else s.stn.measN } }) ∧
  (s.por = false → s.stn.locked = true → s.stn.frameN = some n → s.fget F.CAL_STATUS_PHASE 0 ≠ 2 → s.dsp.held = [] →
    u.fw = [] → n ≤ s.count → s.count + 1 < 2 ^ 64 → u.a = 0 → u.b = 0 → u.c = 0 →
    Runs (.tick u) s fun t => t.stn.syncOut = frameLevel n (s.count + 1 - n))

/-- SYNC_FRAME_RECEIVE (R76, R80, R81, R86, R87): the receiver's frame is taken. One of bad CRC is discarded. A valid one of
count N, whose marker was detected at `cdet`, gives the error e = (N + STN_SYNC_DLY + 2 tk) − c_det, in half ticks modulo 2⁶⁵:
STN_SYNC_ERR, ALIGNED within 2 tk, the events above 2 tk and of the return, slewing; before any release the first one asks
for a hard alignment by E, the even number of ticks nearest to e, midway toward zero. -/
def FrameReceive (s : State) (cells cdet : Nat) (e : Int) : Prop :=
  let n := cells / 256
  let stn := { s.stn with syncRx := { s.stn.syncRx with frame := none } }
  let slews := s.on F.STN_SYNC_CTRL_AUTO_SLEW 0 = true ∧ (s.stn.relCount ≠ 0 ∨ s.on F.STN_SYNC_STATUS_HARD_DONE 0 = true)
  s.por = false → s.build.optSync = true → s.stn.locked = true → s.fget F.STN_SYNC_CTRL_ROLE 0 = 2 → cells < 2 ^ 56 →
    s.stn.syncRx.frame = some (cells, cdet) →
    (cells % 256 ≠ crc8 (BitVec.ofNat 48 n) → Runs .syncFrameReceive s fun t =>
      t.on F.STN_SYNC_STATUS_CRC_ERR_SEEN 0 = true ∧ t.on F.STN_SYNC_STATUS_FRAME_OK 0 = false ∧
      Only { s with stn } t [(F.STN_SYNC_STATUS_CRC_ERR_SEEN, 0), (F.STN_SYNC_STATUS_FRAME_OK, 0)]) ∧
    (cells % 256 = crc8 (BitVec.ofNat 48 n) → -2 ^ 64 ≤ e → e < 2 ^ 64 →
      (2 ^ 65 : Int) ∣ (cdet : Int) + e - (2 * (n * 65536 : Nat) + s.fget F.STN_SYNC_DLY_DELAY 0 + 4 : Nat) →
      Runs .syncFrameReceive s fun t =>
        t.reg .STN_SYNC_ERR 0 = BitVec.ofInt 32 e ∧ (t.on F.STN_SYNC_STATUS_ALIGNED 0 = true ↔ e.natAbs ≤ 4) ∧
        t.on F.STN_SYNC_STATUS_FRAME_OK 0 = true ∧ t.on F.STN_SYNC_STATUS_LOST 0 = false ∧
        (4 < e.natAbs → t.stn.above2 = true ∧ Posted s t 1792 1 0x05 (BitVec.ofInt 32 e).toNat) ∧
        (e.natAbs ≤ 4 → t.stn.above2 = false ∧
          (if s.stn.above2 then Posted s t 1792 1 0x06 (BitVec.ofInt 32 e).toNat else t.log = s.log)) ∧
        (slews → (t.on F.STN_SYNC_STATUS_SLEWING 0 = true ↔ 2 ≤ e.natAbs) ∧ t.stn.slewDir = e.sign) ∧
        (¬ slews → t.on F.STN_SYNC_STATUS_SLEWING 0 = s.on F.STN_SYNC_STATUS_SLEWING 0 ∧ t.stn.slewDir = s.stn.slewDir) ∧
        (if s.stn.relCount = 0 ∧ s.on F.STN_SYNC_STATUS_HARD_DONE 0 = false ∧ s.stn.hardPend = none then
          ∃ h : Int, t.stn.hardPend = some h ∧ h % 2 = 0 ∧ (2 * h - e).natAbs ≤ 2 ∧
            ((2 * h - e).natAbs = 2 → (2 * h).natAbs ≤ e.natAbs)
         else t.stn.hardPend = s.stn.hardPend) ∧
        t.stn = { stn with syncLast := s.stn.elapsed, above2 := t.stn.above2, slewDir := t.stn.slewDir,
                           hardPend := t.stn.hardPend } ∧
        Only { s with stn := t.stn, log := t.log } t
          [(F.STN_SYNC_ERR_ERR, 0), (F.STN_SYNC_STATUS_ALIGNED, 0), (F.STN_SYNC_STATUS_FRAME_OK, 0),
           (F.STN_SYNC_STATUS_LOST, 0), (F.STN_SYNC_STATUS_SLEWING, 0)])

/-- SYNC_LOST (R76): 3 × 65,536 tk without a valid frame set LOST, and the event gives how many frame periods. -/
def FramesLost (s : State) : Prop :=
  s.por = false → s.build.optSync = true → s.stn.locked = true → s.fget F.STN_SYNC_CTRL_ROLE 0 = 2 →
    s.stn.syncLast + 196608 ≤ s.stn.elapsed → s.on F.STN_SYNC_STATUS_LOST 0 = false →
    Runs .syncLost s fun t =>
      t.on F.STN_SYNC_STATUS_LOST 0 = true ∧
      Posted s t 1792 1 0x04 (min (2 ^ 32 - 1) ((s.stn.elapsed - s.stn.syncLast) / 65536)) ∧
      Only { s with log := t.log } t [(F.STN_SYNC_STATUS_LOST, 0)]

/-- The event of a hard alignment, stamped with the count after it (R81, R83). -/
def alignEntry (tick : Nat) (e : Int) (held : Bool) : Entry :=
  { tick, src := 1792, cls := 1, code := 7, payload := (BitVec.ofInt 32 (max (-2 ^ 31) (min e (2 ^ 31 - 1)))).toNat, held }

/-- HARD_ALIGNMENT (R81, R83, R455, R458) at a `spine_f` boundary with no Section released: every copy of the count moves by E,
every local count is reloaded, what waits at the sources is marked as of before, and the event with E and then a RECOVERY marker of
cause 2 are written at once where the log is ready with nothing received, or kept until it is ready. -/
def HardAlign (s : State) (e : Int) : Prop :=
  let w := (s.reg .EVT_WIDX 0).toNat
  s.por = false → s.stn.hardPend = some e → s.count % 64 = 0 → s.stn.relCount = 0 →
    Runs .hardAlignment s fun t =>
      t.stn = { s.stn with cntA := s.stn.cntA + BitVec.ofInt 64 e, cntB := s.stn.cntB + BitVec.ofInt 64 e,
                           cntC := s.stn.cntC + BitVec.ofInt 64 e, hardPend := none, relHold := false } ∧
      t.on F.STN_SYNC_STATUS_HARD_DONE 0 = true ∧
      (∀ r, r < s.build.nRegions → (t.rgn r).mismatch = false ∧ t.localCount r = BitVec.ofNat 64 t.count) ∧
      (∀ x, (t.source x).c0 = (s.source x).c0.map (fun y => { y with stale := true }) ∧
        (t.source x).gen = (s.source x).gen.map (fun y => { y with stale := true })) ∧
      (s.logReady = false →
        t.log = { s.log with srcs := t.log.srcs, recover := s.log.recover ++ [(2, [alignEntry t.count e true])] } ∧
        Only { s with stn := t.stn, rgns := t.rgns, log := t.log } t [(F.STN_SYNC_STATUS_HARD_DONE, 0)]) ∧
      (s.logReady = true → s.log.received = [] → s.log.overflow = none → s.unconsumed < 4094 →
        s.log.lastHi = some (t.count / 2 ^ 48) → (t.count - 1) / 2 ^ 48 = t.count / 2 ^ 48 →
        t.reg .EVT_WIDX 0 = s.reg .EVT_WIDX 0 + 2 ∧
        (∀ i, i < 4 → t.rdWord (0x80000 + 16 * (w % 4096) + 4 * i) =
          BitVec.ofNat 32 ((alignEntry t.count e false).words.getD i 0)) ∧
        (∀ i, i < 4 → t.rdWord (0x80000 + 16 * ((w + 1) % 4096) + 4 * i) =
          BitVec.ofNat 32 (({ tick := t.count - 1, src := 2047, cls := 0, code := 2, payload := 2, mark := true } : Entry).words.getD i 0)) ∧
        RegsKeep s t [(.STN_SYNC_STATUS, 0), (.EVT_WIDX, 0), (.EVT_PEND, 0), (.EVT_CLASS_CNT, 1), (.HIF_IRQ_SRC, 0)] ∧
        BytesKeep s t (fun a => 0x80000 + 16 * (w % 4096) ≤ a ∧ a < 0x80000 + 16 * (w % 4096) + 16 ∨
          0x80000 + 16 * ((w + 1) % 4096) ≤ a ∧ a < 0x80000 + 16 * ((w + 1) % 4096) + 16))

/-- SYNC_HOLD_TIMEOUT (R82): the release hold ends after 262,144 tk, and the event carries nothing. -/
def HoldTimeout (s : State) (at_ : Nat) : Prop :=
  s.por = false → s.stn.relHold = true → s.stn.spineEnd = some at_ → at_ + 262144 ≤ s.stn.elapsed →
    Runs .syncHoldTimeout s fun t =>
      t.stn = { s.stn with relHold := false } ∧ Posted s t 1792 1 0x08 0 ∧ t = { s with stn := t.stn, log := t.log }

/-- SYNC_ROLE_WRITE (R77, R82): a change of ROLE ends the frame being sent and received and drives `sync_out` low, one away
from FOLLOWER ends a release hold and slewing; a new follower awaits frames from this edge (log entry 66). -/
def RoleWrite (s : State) (v : Nat) : Prop :=
  HostMay s .STN_SYNC_CTRL 0 → v < 4 → v ≠ s.fget F.STN_SYNC_CTRL_ROLE 0 →
    Runs (.syncRoleWrite v) s fun t =>
      t.fget F.STN_SYNC_CTRL_ROLE 0 = v ∧
      t.stn = { s.stn with frameN := none, measN := none, syncOut := false, syncRx := { pipe := s.stn.syncRx.pipe }
                           relHold := s.stn.relHold && v == 2
                           syncLast := if v = 2 then s.stn.elapsed else s.stn.syncLast } ∧
      (s.on F.STN_SYNC_CTRL_AUTO_SLEW 0 = false ∨ v ≠ 2 → t.on F.STN_SYNC_STATUS_SLEWING 0 = false) ∧
      (s.on F.STN_SYNC_CTRL_AUTO_SLEW 0 = true → v = 2 →
        t.on F.STN_SYNC_STATUS_SLEWING 0 = s.on F.STN_SYNC_STATUS_SLEWING 0) ∧
      (s.on F.STN_SYNC_CTRL_MEASURE 0 = true → t.on F.STN_SYNC_RSEQ_NOT_READY 0 = true) ∧
      HostOnly { s with stn := t.stn } t
        [(F.STN_SYNC_CTRL_ROLE, 0), (F.STN_SYNC_STATUS_SLEWING, 0), (F.STN_SYNC_RSEQ_NOT_READY, 0)]

/-- SYNC_MEASURE and SYNC_RTT_DONE (R78): MEASURE asks for a round trip. For the frame of count N it is the time to the rising
edge `r` of the marker that returns, in half ticks, or 0xFFFF when 2,048 tk passed without one; SEQ grows, NOT_READY and MEASURE
clear, the host is told. -/
def RoundTrip (s : State) (n r : Nat) : Prop :=
  let done (t : State) (rt : Nat) : Prop :=
    t.fget F.STN_SYNC_RTT_RT 0 = rt ∧ t.fget F.STN_SYNC_RSEQ_SEQ 0 = (s.fget F.STN_SYNC_RSEQ_SEQ 0 + 1) % 2 ^ 31 ∧
      t.on F.STN_SYNC_RSEQ_NOT_READY 0 = false ∧ t.on F.STN_SYNC_CTRL_MEASURE 0 = false ∧
      t.on F.HIF_IRQ_SRC_SYNC_DONE 0 = true ∧ t.stn = { s.stn with measN := none } ∧
      Only { s with stn := t.stn } t [(F.STN_SYNC_RTT_RT, 0), (F.STN_SYNC_RSEQ_SEQ, 0), (F.STN_SYNC_RSEQ_NOT_READY, 0),
        (F.STN_SYNC_CTRL_MEASURE, 0), (F.HIF_IRQ_SRC_SYNC_DONE, 0)]
  (HostMay s .STN_SYNC_CTRL 0 → Runs .syncMeasure s fun t =>
    t.on F.STN_SYNC_CTRL_MEASURE 0 = true ∧ t.on F.STN_SYNC_RSEQ_NOT_READY 0 = true ∧
    HostOnly s t [(F.STN_SYNC_CTRL_MEASURE, 0), (F.STN_SYNC_RSEQ_NOT_READY, 0), (F.STN_SYNC_STATUS_SLEWING, 0)]) ∧
  (s.por = false → s.build.optSync = true → s.fget F.STN_SYNC_CTRL_ROLE 0 = 1 → s.stn.measN = some n →
    (s.stn.syncRx.rise = some r → s.stn.syncRx.marker = true → 2 * n ≤ r → r ≤ 2 * (n + 2048) →
      Runs .syncRttDone s fun t => done t (r - 2 * n)) ∧
    (s.stn.syncRx.rise = none → n + 2048 ≤ s.count → Runs .syncRttDone s fun t => done t 0xFFFF))

/-- SYNC_ECHO (R77): `sync_out` takes the level that `sync_in` had 3 tk before (`pipe` holds the samples newest first, two a
tick). -/
def Echo (s : State) (b : Bool) : Prop :=
  s.por = false → s.build.optSync = true → s.fget F.STN_SYNC_CTRL_ROLE 0 = 3 → s.stn.syncRx.pipe[6]? = some b →
    Runs .syncEcho s fun t => t = { s with stn := { s.stn with syncOut := b } }

end Sys2Proof.Claim

/-- REFERENCE_DETECTION, LOCK_DECLARED, LOCK_FAIL, LOSS_OF_REFERENCE, REFERENCE_QUALIFIED, LOCK_RESTORED, REF_SEL_WRITE and
HOLD_FORCE: what the Station Clock's registers hold after each, what is posted, and that nothing else moves (R34, R36,
R39–R46, R90). -/
def Obligations.StationClockTransitions : Prop :=
  ∀ (s : State) (n us acq v : Nat) (c : LossCause) (on : Bool),
    Detection s n ∧ Lock s us acq ∧ LockFail s ∧ Loss s c ∧ Qualified s ∧ Restored s n ∧ RefSel s v ∧ Claim.HoldForce s on

/-- TICK, TCAP_CAPTURE and TCAP_LATCH: each copy takes the majority of the copies plus 1, and corrections are counted; a
released Section's phase advances by its word; a capture takes the count (R39, R47–R49, R55, R56, R91, R494). -/
def Obligations.TicksAndCaptures : Prop :=
  ∀ (s : State) (u : TickIn) (k a b c : Nat), Copies s u ∧ Claim.Tick s u ∧ FwCopies s u k a b c ∧ Capture s ∧ Latch s

/-- SPINE_CALIBRATION, SPINE_TRACK_MEASURE, SPINE_RECAL, SPINE_PARITY_MISMATCH, SPINE_FRAME_CHECK and SPINE_RELOAD: which
leaf moves and by how much, and how a faulty local count is found and put right (R59–R67). -/
def Obligations.TimeSpine : Prop :=
  ∀ (s : State) (l : List LeafMeas) (p : List (Int × Int)) (delta : Int) (residual k r : Nat) (n : BitVec 64),
    SpineCal s l ∧ SpineTrack s p delta residual k ∧ Claim.SpineRecal s ∧ SpineFaults s r n

/-- SYNC_FRAME_SEND, SYNC_FRAME_RECEIVE, SYNC_LOST, HARD_ALIGNMENT and SYNC_HOLD_TIMEOUT: what a frame drives and how it is
taken, when frames are lost, how the count is aligned, when the release hold ends (R74–R87). -/
def Obligations.AlignmentAcrossDies : Prop :=
  ∀ (s : State) (u : TickIn) (n cells cdet at_ : Nat) (e : Int),
    FrameSend s u n ∧ FrameReceive s cells cdet e ∧ FramesLost s ∧ HardAlign s e ∧ Claim.HoldTimeout s at_

/-- SYNC_ROLE_WRITE, SYNC_MEASURE, SYNC_RTT_DONE and SYNC_ECHO: roles, the round trip and the echo (R77, R78, R82). -/
def Obligations.AlignmentRoles : Prop :=
  ∀ (s : State) (v n r : Nat) (b : Bool), Claim.RoleWrite s v ∧ RoundTrip s n r ∧ Echo s b

namespace Sys2Proof.Claim

/-! ### Section Roots -/

/-- A register belongs to Section `k`: its Section Root's, one of its regions', a Junction's that one of its regions reads,
or the Governor's for it. -/
def ofSection (b : Build) (k : Nat) (r : Reg) (u : Nat) : Prop :=
  match r.info.cls with
  | .sec => u / r.info.count = k
  | .sb => b.sectionOf (u / r.info.count) = k
  | .jct => ∃ j ∈ b.junctions[u]?, b.sectionOf j.reader = k
  | _ => r = .GOV_SEC_STAT ∧ u = k

/-- Nothing moves but what belongs to Section `k`; its regions, its Governor entry and the Governor may post. -/
def InSection (s t : State) (k : Nat) : Prop :=
  (∀ r u, ¬ ofSection s.build k r u → t.reg r u = s.reg r u) ∧ (∀ j, j ≠ k → t.sec j = s.sec j) ∧
    (∀ r, s.build.sectionOf r ≠ k → t.rgn r = s.rgn r) ∧
    (∀ x, x ≠ srcGov → x ≠ srcSec k → s.build.sectionOf x ≠ k → t.source x = s.source x) ∧
    t = { s with regs := t.regs, fresh := t.fresh, freshMid := t.freshMid, secs := t.secs, rgns := t.rgns
                 calRgns := t.calRgns, xings := t.xings, log := t.log }

/-- The same beside the Journal's entry of a host write. -/
def HostInSection (s t : State) (k : Nat) : Prop :=
  (∀ r u, ¬ ofSection s.build k r u → (r, u) ∉ jnlRegs → t.reg r u = s.reg r u) ∧ (∀ j, j ≠ k → t.sec j = s.sec j) ∧
    (∀ r, s.build.sectionOf r ≠ k → t.rgn r = s.rgn r) ∧ BytesKeep s t jnlByte ∧
    t = { s with regs := t.regs, fresh := t.fresh, freshMid := t.freshMid, secs := t.secs, rgns := t.rgns
                 calRgns := t.calRgns, xings := t.xings, log := t.log, mem := t.mem, jnl := t.jnl
                 apb := { s.apb with slverr := false } }

/-- The host writes a register of a Section Root of the instance. -/
def HostSec (s : State) (r : Reg) (k : Nat) : Prop := HostMay s r k ∧ k < s.build.nSections ∧ s.build.nSections ≤ 64

/-- The word that the rail's confirmed voltage supports (R417): the largest FW_MAX of the table's entries whose demand it
meets, 49,152 where it meets none. -/
def supported (s : State) (k : Nat) (w : Nat) : Prop :=
  let rail := s.build.railOf k
  let ok (n : Nat) : Prop :=
    (s.fget F.GOV_VF_MV n : Int) + (BitVec.ofNat 8 (s.fget F.GOV_RAIL_CFG_OFFSET rail)).toInt ≤
      (s.fget F.GOV_RAIL_STAT_VCONF rail : Int)
  ((∀ n, n < 8 → ¬ ok n) → w = 49152) ∧
    ((∃ n, n < 8 ∧ ok n) →
      (∃ n, n < 8 ∧ ok n ∧ w = s.fget F.GOV_VF_FW_MAX n) ∧ ∀ n, n < 8 → ok n → s.fget F.GOV_VF_FW_MAX n ≤ w)

/-- The word `x` that a Section runs at for a requested word, none on safe settings and before its requested word applies:
49,152 without one, else the word lowered by the step counts to the floor at the lowest (R404); while the Governor is enabled
no more than the supported word (R417); within the range of R93. -/
def runsAt (s : State) (k : Nat) (req : Option Nat) (x : Nat) : Prop :=
  let drops := s.fget F.GOV_SEC_STAT_DROP_E k + s.fget F.GOV_SEC_STAT_DROP_M k
  let w := match req with
    | none => 49152
    | some r => max (r - 4096 * drops) (min r (s.fget F.GOV_LIMITS_FW_FLOOR 0))
  if s.on F.GOV_CTRL_EN 0 then ∃ v, supported s k v ∧ x = max 14336 (min 139264 (min w v))
  else x = max 14336 (min 139264 w)

/-- One step of at most 8,192 from one word toward another (R96). -/
def oneStep (a b : Nat) : Nat := if b ≤ a then max b (a - 8192) else min b (a + 8192)

/-- A change edge of Section `k` at this tick edge: counted, and every running region past its first edge is to write off
against the word in force before (R188, R191). -/
def ChangeEdge (s t : State) (k : Nat) : Prop :=
  (t.sec k).edgeAt = some s.count ∧
    t.fget F.SEC_WOFF_CNT_COUNT k = (s.fget F.SEC_WOFF_CNT_COUNT k + 1) % 2 ^ F.SEC_WOFF_CNT_COUNT.w ∧
    (∀ r ∈ s.build.regionsOf k, s.clk r = 1 → (s.rgn r).first = none →
      (t.rgn r).woff = some ((s.rgn r).woff.getD (s.fwCur k)))

/-- Section `k` took a step of a ramp at this tick edge toward the word `x` (R96). -/
def Stepped (s t : State) (k x : Nat) : Prop :=
  t.fwCur k = oneStep (s.fwCur k) x ∧ (t.on F.SEC_FW_STATUS_RAMPING k = true ↔ t.fwCur k ≠ x) ∧
    (t.sec k).target = x ∧ (t.sec k).rampNext = s.count + 128 ∧ ChangeEdge s t k

/-- A frequency change to the word `x` takes effect at this tick edge: out of a ramp its first step, in a ramp a new target
at its change edge (R96, R98, R188). -/
def Moved (s t : State) (k x : Nat) : Prop :=
  if s.on F.SEC_FW_STATUS_RAMPING k then
    t.fwCur k = s.fwCur k ∧ t.on F.SEC_FW_STATUS_RAMPING k = true ∧ (t.sec k).target = x ∧
      (t.sec k).rampNext = (s.sec k).rampNext ∧ ChangeEdge s t k
  else Stepped s t k x

/-- The host writes SEC_CTRL of a Section, outside the edge at which the Station set SAFE everywhere (R550). -/
def HostCtl (s : State) (k : Nat) : Prop := HostSec s .SEC_CTRL k ∧ s.stn.safeEdge ≠ some s.stn.elapsed

/-- SEC_FW_WRITE (R94): the field takes the word; in STATE READY with SAFE and HEADWAY 0 it waits to apply 32 tk later. -/
def FwWrite (s : State) (k fw : Nat) : Prop :=
  HostSec s .SEC_FW k → fw < 2 ^ 18 →
    Runs (.secFwWrite k fw) s fun t =>
      t.fget F.SEC_FW_FW k = fw ∧
      (if s.secState k = 3 ∧ s.on F.SEC_CTRL_SAFE k = false ∧ s.on F.SEC_CTRL_HEADWAY k = false then
        t.sec k = { s.sec k with pend := (s.sec k).pend ++ [{ due := s.count + 32, word := some fw }] } ∧
          t.on F.SEC_FW_STATUS_PENDING k = true
       else t.secs = s.secs) ∧
      (∀ j, j ≠ k → t.sec j = s.sec j) ∧
      HostOnly { s with secs := t.secs } t [(F.SEC_FW_FW, k), (F.SEC_FW_STATUS_PENDING, k), (F.SEC_HEADWAY_PENDING, k)]

/-- FW_HW_WRITE (R169): the same for FW_HW in STATE READY with SAFE 0 and HEADWAY 1. -/
def HwWrite (s : State) (k fw : Nat) : Prop :=
  HostSec s .SEC_HEADWAY k → fw < 2 ^ 18 →
    Runs (.fwHwWrite k fw) s fun t =>
      t.fget F.SEC_HEADWAY_FW_HW k = fw ∧
      (if s.secState k = 3 ∧ s.on F.SEC_CTRL_SAFE k = false ∧ s.on F.SEC_CTRL_HEADWAY k = true then
        t.sec k = { s.sec k with pend := (s.sec k).pend ++ [{ due := s.count + 32, word := some fw }] } ∧
          t.on F.SEC_FW_STATUS_PENDING k = true
       else t.secs = s.secs) ∧
      (∀ j, j ≠ k → t.sec j = s.sec j) ∧
      HostOnly { s with secs := t.secs } t
        [(F.SEC_HEADWAY_FW_HW, k), (F.SEC_FW_STATUS_PENDING, k), (F.SEC_HEADWAY_PENDING, k)]

/-- SAFE_SET (R102, R238, R417): SAFE and SAFE_ACTIVE read 1, the regions' taps, trims and phases are the safe set, words and
commits that wait are dropped, and a Section that runs, at another word or in a ramp, changes to the safe word. -/
def SafeSet (s : State) (k : Nat) : Prop :=
  HostCtl s k → s.on F.SEC_CTRL_SAFE k = false → s.on F.SEC_CTRL_RESTART k = false →
    Runs (.safeSet k) s fun t =>
      t.on F.SEC_CTRL_SAFE k = true ∧ t.on F.SEC_STATUS_SAFE_ACTIVE k = true ∧
      t.fget F.SEC_CTRL_HEADWAY k = s.fget F.SEC_CTRL_HEADWAY k ∧ t.fget F.SEC_FW_FW k = s.fget F.SEC_FW_FW k ∧
      (∀ r ∈ s.build.regionsOf k, t.reg .SB_TC_TRIM r = 0 ∧ (t.rgn r).tapTgt = s.seedTaps r ∧
        ∀ j ∈ s.build.jctsRead r, t.fget F.JCT_CFG_PHASE_WP j = 8 ∧ t.fget F.JCT_CFG_PHASE_RP j = 8) ∧
      (t.sec k).req = none ∧
      (t.sec k).pend = ((s.sec k).pend.filter (·.hw.isSome)).map (fun p => { p with commit := false }) ∧
      (∀ x, runsAt s k none x → (s.secState k = 1 ∨ s.secState k = 2 ∨ s.secState k = 3) →
        s.fwCur k ≠ x ∨ s.on F.SEC_FW_STATUS_RAMPING k = true → (s.sec k).edgeAt ≠ some s.count → Moved s t k x) ∧
      HostInSection s t k

/-- SAFE_CLEAR (R104): SAFE and SAFE_ACTIVE read 0; in a Section that has read READY and is READY the word then held and the
commit of R239 wait 32 tk. -/
def SafeClear (s : State) (k : Nat) : Prop :=
  HostCtl s k → s.on F.SEC_CTRL_SAFE k = true → s.on F.SEC_CTRL_RESTART k = false →
    Runs (.safeClear k) s fun t =>
      t.on F.SEC_CTRL_SAFE k = false ∧ t.on F.SEC_STATUS_SAFE_ACTIVE k = false ∧ t.fwCur k = s.fwCur k ∧
      ((s.sec k).readSeen = false ∨ s.secState k ≠ 3 → t.sec k = s.sec k) ∧
      ((s.sec k).readSeen = true → s.secState k = 3 →
        t.sec k = { s.sec k with pend := (s.sec k).pend ++ [{ due := s.count + 32, commit := true }] } ∧
          t.on F.SEC_FW_STATUS_PENDING k = true) ∧
      HostInSection s t k

/-- SAFE_CLEAR at the edge at which the Station set SAFE everywhere leaves SAFE at 1 (R550). -/
def SafeStays (s : State) (k : Nat) : Prop :=
  HostSec s .SEC_CTRL k → s.stn.safeEdge = some s.stn.elapsed → s.on F.SEC_CTRL_SAFE k = true →
    s.on F.SEC_CTRL_RESTART k = false →
    Runs (.safeClear k) s fun t => t.on F.SEC_CTRL_SAFE k = true ∧ t.secs = s.secs ∧ HostOnly s t []

/-- SECTION_RESTART (R99, R106, R107): in STATE FAULT the release is made again, at the safe word; in any other state nothing
but the Journal's entry changes. -/
def Restart (s : State) (k : Nat) : Prop :=
  HostCtl s k →
    Runs (.sectionRestart k) s fun t =>
      t.on F.SEC_CTRL_RESTART k = false ∧
      (s.secState k ≠ 4 → HostOnly s t [(F.SEC_CTRL_RESTART, k)]) ∧
      (s.secState k = 4 →
        t.secState k = 1 ∧ t.on F.SEC_STATUS_LOCKED k = true ∧ (∀ x, runsAt s k none x → t.fwCur k = x) ∧
        (t.sec k).t0 = s.count ∧ (t.sec k).acc = 0 ∧ (t.sec k).pend = [] ∧ (t.sec k).req = none ∧
        (t.sec k).readSeen = false ∧ t.on F.SEC_HEADWAY_ACTIVE k = false ∧ t.fget F.SEC_PLL_MAX_PS k = 0 ∧
        t.fget F.SEC_CTRL_SAFE k = s.fget F.SEC_CTRL_SAFE k ∧ t.fget F.SEC_FW_FW k = s.fget F.SEC_FW_FW k ∧
        HostInSection s t k)

/-- HEADWAY_ON and HEADWAY_OFF (R164, R165): HEADWAY takes the value, and in STATE READY the transition waits 32 tk. -/
def HeadwayWrite (s : State) (k : Nat) (on : Bool) : Prop :=
  HostCtl s k → s.on F.SEC_CTRL_HEADWAY k ≠ on → s.on F.SEC_CTRL_RESTART k = false →
    Runs (if on then .headwayOn k else .headwayOff k) s fun t =>
      t.on F.SEC_CTRL_HEADWAY k = on ∧ t.on F.SEC_HEADWAY_ACTIVE k = s.on F.SEC_HEADWAY_ACTIVE k ∧ t.fwCur k = s.fwCur k ∧
      (s.secState k = 3 →
        t.sec k = { s.sec k with pend := (s.sec k).pend ++ [{ due := s.count + 32, hw := some on }] } ∧
          t.on F.SEC_FW_STATUS_PENDING k = true ∧ t.on F.SEC_HEADWAY_PENDING k = true) ∧
      (s.secState k ≠ 3 → t.secs = s.secs) ∧ HostInSection s t k

/-- SYM_EN_CLEAR (R183): EN reads 0, and every request that stands in a region of the Section is marked to end at its next
edge. -/
def SymEnClear (s : State) (k : Nat) : Prop :=
  HostSec s .SEC_SYM_CFG k →
    Runs (.symEnClear k) s fun t =>
      t.on F.SEC_SYM_CFG_EN k = false ∧
      (∀ r ∈ s.build.regionsOf k, t.rgn r = { s.rgn r with symEnd := s.on F.SB_SLIP_REQ r }) ∧
      (∀ r, r ∉ s.build.regionsOf k → t.rgn r = s.rgn r) ∧
      HostOnly { s with rgns := t.rgns } t [(F.SEC_SYM_CFG_EN, k)]

/-- SLOT_LEN_WRITE and SLOT_END (R371): a slot of 16 × LEN tk opens at the write, LEN 0 ends one; ACTIVE clears at its end. -/
def Slots (s : State) (k len : Nat) : Prop :=
  (HostSec s .SEC_SLOT k → len < 2 ^ 20 → Runs (.slotLenWrite k len) s fun t =>
    t.fget F.SEC_SLOT_LEN k = len ∧ t.sec k = { s.sec k with slotEnd := s.count + 16 * len } ∧
    (t.on F.SEC_SLOT_ACTIVE k = true ↔ len ≠ 0) ∧ (∀ j, j ≠ k → t.sec j = s.sec j) ∧
    HostOnly { s with secs := t.secs } t [(F.SEC_SLOT_LEN, k), (F.SEC_SLOT_ACTIVE, k)]) ∧
  (s.por = false → s.on F.SEC_SLOT_ACTIVE k = true → (s.sec k).slotEnd ≤ s.count → Runs (.slotEnd k) s fun t =>
    t.on F.SEC_SLOT_ACTIVE k = false ∧ Only s t [(F.SEC_SLOT_ACTIVE, k)])

/-- FREQUENCY_CHANGE (R94, R101, R104, R188, R404, R417): the one change that waits is due: the Section moves to the word
written, or to the word then held where the change names none; PENDING clears. A change that brings no commit moves nothing
else. -/
def FreqChange (s : State) (k x d : Nat) (w : Option Nat) (c : Bool) : Prop :=
  let held := if s.on F.SEC_CTRL_HEADWAY k then s.fget F.SEC_HEADWAY_FW_HW k else s.fget F.SEC_FW_FW k
  s.por = false → k < s.build.nSections → d ≤ s.count → (s.sec k).pend = [{ due := d, word := w, commit := c }] →
    s.on F.SEC_CTRL_SAFE k = false → (s.sec k).edgeAt ≠ some s.count → runsAt s k (some (w.getD held)) x →
    Runs (.frequencyChange k) s fun t =>
      Moved s t k x ∧ (t.sec k).req = some (w.getD held) ∧ (t.sec k).pend = [] ∧
        t.on F.SEC_FW_STATUS_PENDING k = false ∧ (c = false → InSection s t k)

/-- FREQUENCY_CHANGE with nothing due changes nothing but what PENDING shows. -/
def NoChangeDue (s : State) (k : Nat) : Prop :=
  s.por = false → (∀ p ∈ (s.sec k).pend, s.count < p.due) →
    Runs (.frequencyChange k) s fun t =>
      t.sec k = s.sec k ∧ Only { s with secs := t.secs } t [(F.SEC_FW_STATUS_PENDING, k), (F.SEC_HEADWAY_PENDING, k)]

/-- FREQUENCY_CHANGE of a headway transition (R164, R165, R170): the mode changes at this edge, in a ramp too, with the word
of the mode, on safe settings the safe word; fixed-headway mode ends every request of the Section's regions. -/
def HeadwayChange (s : State) (k x d : Nat) (on c : Bool) : Prop :=
  let req := if s.on F.SEC_CTRL_SAFE k then none
    else some (if on then s.fget F.SEC_HEADWAY_FW_HW k else s.fget F.SEC_FW_FW k)
  s.por = false → k < s.build.nSections → d ≤ s.count → (s.sec k).pend = [{ due := d, hw := some on, commit := c }] →
    (s.sec k).edgeAt ≠ some s.count → runsAt s k req x →
    Runs (.frequencyChange k) s fun t =>
      t.on F.SEC_HEADWAY_ACTIVE k = on ∧ t.on F.SEC_HEADWAY_PENDING k = false ∧ Moved s t k x ∧
      (on = true → ∀ r ∈ s.build.regionsOf k, t.on F.SB_SLIP_REQ r = false) ∧ (c = false → InSection s t k)

/-- RAMP_STEP (R96): a ramp under way takes its next step at its tick, at a change edge. -/
def RampStep (s : State) (k : Nat) : Prop :=
  s.por = false → s.on F.SEC_FW_STATUS_RAMPING k = true → (s.sec k).rampNext ≤ s.count → (s.sec k).edgeAt ≠ some s.count →
    Runs (.rampStep k) s fun t => Stepped s t k (s.sec k).target ∧ InSection s t k

/-- SECTION_RELEASE (R99, R125, R240): in ascending order and 12,800 tk apart, once the region safe set is committed; at FW
49,152 (no more than the supported word, R417), its phase origin here; a region whose Spine leaf failed, with OVR.EN 0,
enters cause FAULT. -/
def Release (s : State) (k : Nat) : Prop :=
  s.por = false → k < s.build.nSections → (s.sec k).everReleased = false → s.stn.locked = true →
    s.on F.STN_SPINE_STATUS_CAL_DONE 0 = true → s.stn.relHold = false → s.cal.loaded = true →
    (∀ j, j < k → (s.sec j).everReleased = true) → (k = 0 ∨ (s.sec (k - 1)).t0 + 12800 ≤ s.count) →
    (∀ r ∈ s.build.regionsOf k, (s.calRgn r).bank = none) → s.shadow = [] →
    Runs (.sectionRelease k) s fun t =>
      t.secState k = 1 ∧ t.on F.SEC_STATUS_LOCKED k = true ∧
      (∀ x, runsAt s k none x → t.fwCur k = x) ∧ (t.sec k).released = true ∧
      (t.sec k).everReleased = true ∧ (t.sec k).t0 = s.count ∧ (t.sec k).acc = 0 ∧
      (∀ r ∈ s.build.regionsOf k, t.on F.SB_CLK_STATUS_DLL_LOCKED r = false ∧
        (s.on F.SB_SPINE_FAILED r = true → s.on F.SB_SPINE_OVR_EN r = false → t.on F.SB_GATE_FAULT r = true)) ∧
      t.stn = { s.stn with relCount := s.stn.relCount + 1 } ∧ InSection { s with stn := t.stn } t k

/-- REGION_CLOCK_START (R99): at a Section edge on a tick edge, 1,024 tk after the release, cause SECTION ends and every
region's clock starts, but for a region that another cause holds. -/
def ClockStart (s : State) (k : Nat) : Prop :=
  s.por = false → k < s.build.nSections → s.secState k = 1 → (s.sec k).t0 + 1024 ≤ s.count →
    (s.sec k).acc % 65536 = 0 → s.dsp.held = [] →
    Runs (.regionClockStart k) s fun t =>
      t.secState k = 2 ∧ (t.sec k).dark = false ∧
      (∀ r ∈ s.build.regionsOf k, t.on F.SB_GATE_SECTION r = false ∧
        (if s.on F.SB_GATE_FAULT r = true ∨ s.on F.SB_GATE_PORT r = true ∨ s.on F.SB_GATE_FORCE r = true then t.clk r = 2
         else t.clk r = 1 ∧ (t.rgn r).ledger = 0 ∧ (t.rgn r).first = some ((s.sec k).acc / 4096))) ∧
      InSection s t k

/-- SECTION_READY (R100, R101, R102, R170): STATE reads READY. With HEADWAY 0 the word held and the commit wait 32 tk, and on
safe settings nothing waits; with HEADWAY 1 fixed-headway mode waits 32 tk, with the commit unless SAFE is 1 (log entry
69). -/
def Ready (s : State) (k : Nat) : Prop :=
  s.por = false → k < s.build.nSections → s.secState k = 2 →
    (∀ j b, s.build.junctions[j]? = some b → (s.build.sectionOf b.writer = k ∨ s.build.sectionOf b.reader = k) →
      s.fget F.JCT_STAT_STATE j ≠ 0 ∨ s.on F.SB_GATE_FAULT b.writer = true ∨ s.on F.SB_GATE_FAULT b.reader = true) →
    s.fget F.CAL_STATUS_PHASE 0 ≠ 2 →
    Runs (.sectionReady k) s fun t =>
      t.secState k = 3 ∧ (t.sec k).readSeen = true ∧
      (t.sec k).pend = (s.sec k).pend ++
        (if s.on F.SEC_CTRL_HEADWAY k then
          [{ due := s.count + 32, hw := some true, commit := !s.on F.SEC_CTRL_SAFE k }]
         else if s.on F.SEC_CTRL_SAFE k then []
         else [{ due := s.count + 32, commit := true, applies := s.fget F.SEC_FW_FW k != 49152 }]) ∧
      (∀ j, j ≠ k → t.sec j = s.sec j) ∧
      Only { s with secs := t.secs } t
        [(F.SEC_STATUS_STATE, k), (F.SEC_FW_STATUS_PENDING, k), (F.SEC_HEADWAY_PENDING, k), (F.HIF_IRQ_SRC_ALL_READY, 0)]

/-- SECTION_PERIOD_CHECK (R105, R106): the phase error's registers; more than 2 edges off over 192 quiet tk is a fault,
which leaves STATE FAULT, cause SECTION in every region, whose running clocks are to stop, and an event with the count. -/
def PeriodCheck (s : State) (k edges : Nat) (err : Int) : Prop :=
  s.por = false → k < s.build.nSections → k < 64 → s.count % 64 = 0 → (s.secState k = 1 ∨ s.secState k = 2 ∨ s.secState k = 3) →
    err.natAbs < 256 →
    Runs (.sectionPeriodCheck k edges err) s fun t =>
      t.fget F.SEC_PLL_PHASE_ERR k = (BitVec.ofInt 16 err).toNat ∧
      t.fget F.SEC_PLL_MAX_PS k = max (s.fget F.SEC_PLL_MAX_PS k) err.natAbs ∧
      (if (s.sec k).lastChange + 192 ≤ s.stn.elapsed ∧
          2048 < ((1024 * edges : Int) - 3 * (s.fwCur k : Int)).natAbs then
        t.secState k = 4 ∧ t.on F.SEC_STATUS_LOCKED k = false ∧ t.on F.SEC_STATUS_PERIOD_FAULT k = true ∧
        (t.sec k).pend = [] ∧ (t.sec k).dark = true ∧ t.on F.SEC_FW_STATUS_RAMPING k = false ∧
        (∀ r ∈ s.build.regionsOf k, t.on F.SB_GATE_SECTION r = true ∧ (t.rgn r).rstReq = true ∧ (t.rgn r).masked = true ∧
          (s.clk r = 1 → (t.rgn r).stopDue = true)) ∧
        PostedIn s t (1024 + k) 0 0x10 (k * 2 ^ 26 + min (2 ^ 26 - 1) edges) ∧
        (∀ x, x ≠ 1024 + k → t.source x = s.source x) ∧ (∀ j, j ≠ k → t.sec j = s.sec j) ∧
        (∀ r u, ¬ ofSection s.build k r u → r ≠ .HIF_IRQ_SRC → t.reg r u = s.reg r u)
       else Only s t [(F.SEC_PLL_PHASE_ERR, k), (F.SEC_PLL_MAX_PS, k)])

/-- SAFE in every Section, at an edge at which no Desk's action is due (those go first, R550): a Section on which it was 0
takes safe settings; the edge is noted, so that later writes of it leave SAFE. Registers stay but those of Sections, regions,
Junctions, the Governor's Section entries, STN_GCTRL, the interrupt sources and the Journal. -/
def AllSafe (s t : State) : Prop :=
  (∀ k, k < s.build.nSections → t.on F.SEC_CTRL_SAFE k = true ∧
    (s.on F.SEC_CTRL_SAFE k = false → t.on F.SEC_STATUS_SAFE_ACTIVE k = true) ∧
    t.fget F.SEC_FW_FW k = s.fget F.SEC_FW_FW k) ∧
  t.stn.safeEdge = some s.stn.elapsed ∧
  (∀ r u, r.info.cls ≠ .sec → r.info.cls ≠ .sb → r.info.cls ≠ .jct → r ≠ .GOV_SEC_STAT → r ≠ .STN_GCTRL → (r, u) ∉ jnlRegs →
    t.reg r u = s.reg r u) ∧
  BytesKeep s t jnlByte ∧
  t = { s with regs := t.regs, fresh := t.fresh, freshMid := t.freshMid, secs := t.secs, rgns := t.rgns
               calRgns := t.calRgns, xings := t.xings, log := t.log, mem := t.mem, jnl := t.jnl, stn := t.stn, dsp := t.dsp }

/-- SAFE_ALL, SAFE_ALL_APPLY and DESK0_SAFE (R103, R332, R549): the host's request waits at least 32 tk; the request, and a
Desk 0 fault's, then set SAFE in every Section and are over. -/
def SafeAll (s : State) (a : Nat) : Prop :=
  (HostMay s .STN_GCTRL 0 → Runs .safeAll s fun t =>
    t.on F.STN_GCTRL_SAFE_ALL 0 = true ∧
    (s.stn.safeAllAt = none → t.stn = { s.stn with safeAllAt := some (s.stn.elapsed + 32) }) ∧
    (s.stn.safeAllAt ≠ none → t.stn = s.stn) ∧ HostOnly { s with stn := t.stn } t [(F.STN_GCTRL_SAFE_ALL, 0)]) ∧
  (s.por = false → (∀ x ∈ s.dsp.acts, s.actDue x = false) →
    (s.stn.safeAllAt = some a → a ≤ s.stn.elapsed → Runs .safeAllApply s fun t =>
      t.stn = { s.stn with safeAllAt := none, safeEdge := t.stn.safeEdge } ∧ t.on F.STN_GCTRL_SAFE_ALL 0 = false ∧
      t.dsp = s.dsp ∧ AllSafe s t) ∧
    (a ∈ s.dsp.safeAt → a ≤ s.stn.elapsed → Runs .desk0Safe s fun t =>
      t.dsp = { s.dsp with safeAt := s.dsp.safeAt.filter fun x => s.stn.elapsed < x } ∧
      t.stn = { s.stn with safeEdge := t.stn.safeEdge } ∧
      t.fget F.STN_GCTRL_SAFE_ALL 0 = s.fget F.STN_GCTRL_SAFE_ALL 0 ∧ AllSafe s t))

end Sys2Proof.Claim

/-- SEC_FW_WRITE, FW_HW_WRITE, SAFE_SET, SAFE_CLEAR, SECTION_RESTART, HEADWAY_ON, HEADWAY_OFF, SYM_EN_CLEAR,
SLOT_LEN_WRITE and SLOT_END: what the Section's registers hold, what waits, what else stays (R94, R102, R104, R106, R164,
R165, R169, R183, R371). -/
def Obligations.SectionWrites : Prop :=
  ∀ (s : State) (k fw len : Nat) (on : Bool),
    FwWrite s k fw ∧ HwWrite s k fw ∧ Claim.SafeSet s k ∧ Claim.SafeClear s k ∧ SafeStays s k ∧ Restart s k ∧
      HeadwayWrite s k on ∧ Claim.SymEnClear s k ∧ Slots s k len

/-- FREQUENCY_CHANGE and RAMP_STEP: a Section moves by at most 8,192 a step toward the word that R404 and R417 give, and
its running regions are to write off (R93–R98, R164, R165, R188, R191, R404, R417). -/
def Obligations.FrequencyChanges : Prop :=
  ∀ (s : State) (k x d : Nat) (w : Option Nat) (on c : Bool),
    FreqChange s k x d w c ∧ NoChangeDue s k ∧ HeadwayChange s k x d on c ∧ Claim.RampStep s k

/-- SECTION_RELEASE, REGION_CLOCK_START, SECTION_READY and SECTION_PERIOD_CHECK: when a Section is released, when its regions'
clocks start, when it reads READY, when it faults, and what each leaves (R99–R101, R105, R106, R240). -/
def Obligations.SectionLifetime : Prop :=
  ∀ (s : State) (k edges : Nat) (err : Int), Release s k ∧ ClockStart s k ∧ Ready s k ∧ PeriodCheck s k edges err

/-- SAFE_ALL, SAFE_ALL_APPLY and DESK0_SAFE set SAFE in every Section (R103, R332, R549). -/
def Obligations.SafeEverywhere : Prop := ∀ (s : State) (a : Nat), Claim.SafeAll s a

namespace Sys2Proof.Claim

/-! ### Signal Boxes -/

/-- The host writes a register of a Signal Box of the instance. -/
def HostBox (s : State) (q : Reg) (r : Nat) : Prop := HostMay s q r ∧ r < s.build.nRegions ∧ s.build.nRegions ≤ 1024

/-- The region's next edge comes: its clock runs, nothing stops it before that edge, its Section's clock runs, and the
place at which the region's edge lies (with `bad` parity on the stretch bus) comes before the next tick edge (R22). -/
def ComesOn (s : State) (r : Nat) (bad : Bool) : Prop :=
  let k := s.build.sectionOf r
  s.por = false ∧ r < s.build.nRegions ∧ s.clk r = 1 ∧ (s.rgn r).stopDue = false ∧ (s.rgn r).grant ≠ 3 ∧
    (s.secState k = 2 ∨ s.secState k = 3) ∧ 4096 * s.nextPos r bad < (s.sec k).acc + s.fwCur k

/-- The same with good parity. -/
def Comes (s : State) (r : Nat) : Prop := ComesOn s r false

/-- No region but `r` changes what it holds. -/
def OtherBoxes (s t : State) (r : Nat) : Prop := ∀ q, q ≠ r → t.rgn q = s.rgn q

/-- The fields that count a disturbance of calibration in a region (R247, R248). -/
def distFields (r : Nat) : List (Fld × Nat) :=
  [(F.SB_CAL_QUAL_SKEW_DIST, r), (F.SB_CAL_QUAL_TRIM_DIST, r), (F.SB_CAL_QUAL_EYE_DIST, r), (F.SB_CAL_CNT_DISTURBED, r)]

/-- The place of a restart whose last cause ends at place `x`: the first zero-lag edge at least two Section cycles later
(R120). Places count 1/4,096 ph of the Section's clock, of which a Section cycle has 65,536. -/
def RestartAt (x p : Nat) : Prop := p % 16 = 0 ∧ x + 2 * 65536 ≤ 4096 * p ∧ 4096 * p < x + 3 * 65536

/-- A cause of gating ended at place `x` (R120, R122): with none left in `t`, in a gated region whose Section's clock runs,
the restart is set; otherwise the region goes on as it was. -/
def CauseEndsAt (s t : State) (r x : Nat) : Prop :=
  if s.clk r = 2 ∧ t.gateCause r = false ∧
      (s.secState (s.build.sectionOf r) = 2 ∨ s.secState (s.build.sectionOf r) = 3) then
    ∃ p, t.rgn r = { s.rgn r with restartMin := some p } ∧ RestartAt x p
  else t.rgn r = s.rgn r

/-- The same at the present tick edge. -/
def CauseEnds (s t : State) (r : Nat) : Prop := CauseEndsAt s t r (s.sec (s.build.sectionOf r)).acc

/-- GATE_WAKE_WRITE, at a tick edge, and WAKE_INPUT, at the Section edge of number `edge` that comes before the next tick
edge, end cause PORT; without it they are discarded (R119, R120). -/
def Wakes (s : State) (r edge : Nat) : Prop :=
  (HostBox s .SB_GATE r → Runs (.gateWakeWrite r) s fun t =>
    t.on F.SB_GATE_PORT r = false ∧ (s.on F.SB_GATE_PORT r = true → CauseEnds s t r) ∧
    (s.on F.SB_GATE_PORT r = false → HostOnly s t []) ∧ OtherBoxes s t r ∧
    HostOnly { s with rgns := t.rgns } t [(F.SB_GATE_PORT, r)]) ∧
  (s.por = false → r < s.build.nRegions → (s.sec (s.build.sectionOf r)).acc ≤ 65536 * edge →
    65536 * edge < (s.sec (s.build.sectionOf r)).acc + s.fwCur (s.build.sectionOf r) → Runs (.wakeInput r edge) s fun t =>
    t.on F.SB_GATE_PORT r = false ∧ (s.on F.SB_GATE_PORT r = true → CauseEndsAt s t r (65536 * edge)) ∧
    (s.on F.SB_GATE_PORT r = false → t = s) ∧ OtherBoxes s t r ∧ Only { s with rgns := t.rgns } t [(F.SB_GATE_PORT, r)])

/-- GATE_FORCE_WRITE (R120, R122, R364): FORCE takes the value; a cause that begins stops a running clock before its next
edge and withdraws a restart; one that ends may set the restart; where no cause is left of those that began at this edge, no
edge is withheld. -/
def Force (s : State) (r : Nat) (on : Bool) : Prop :=
  HostBox s .SB_GATE r →
    Runs (.gateForceWrite r on) s fun t =>
      t.on F.SB_GATE_FORCE r = on ∧
      (on = true → s.on F.SB_GATE_FORCE r = false →
        t.rgn r = { s.rgn r with
          stopDue := (s.rgn r).stopDue || s.clk r == 1, restartMin := none
          stopTk := if s.clk r = 1 ∧ (s.rgn r).stopDue = false then s.stn.elapsed else (s.rgn r).stopTk }) ∧
      (on = false → s.on F.SB_GATE_FORCE r = true →
        if (s.rgn r).stopDue = true ∧ (s.rgn r).stopTk = s.stn.elapsed ∧ t.gateCause r = false then
          t.rgn r = { s.rgn r with stopDue := false }
        else CauseEnds s t r) ∧
      (on = s.on F.SB_GATE_FORCE r → t.rgns = s.rgns) ∧ OtherBoxes s t r ∧
      HostOnly { s with rgns := t.rgns } t [(F.SB_GATE_FORCE, r)]

/-- GATE_FAULT_CLEAR (R126): cause FAULT ends only when its condition no longer holds, as the sender says with `persists`
and a failed Spine leaf says by itself. -/
def FaultClear (s : State) (r : Nat) (persists : Bool) : Prop :=
  HostBox s .SB_GATE r → s.on F.SB_GATE_FAULT r = true → (s.freshBits .SB_GATE r).toNat.testBit 31 = false →
    Runs (.gateFaultClear r persists) s fun t =>
      let leaf := s.fget F.SB_GATE_FAULT_CAUSE r = 3 ∧ s.on F.SB_SPINE_FAILED r = true ∧ s.on F.SB_SPINE_OVR_EN r = false
      (persists = true ∨ leaf → t.on F.SB_GATE_FAULT r = true ∧ t.rgns = s.rgns ∧
        t.fget F.SB_GATE_FAULT_CAUSE r = s.fget F.SB_GATE_FAULT_CAUSE r) ∧
      (persists = false → ¬ leaf → t.on F.SB_GATE_FAULT r = false ∧ t.fget F.SB_GATE_FAULT_CAUSE r = 0 ∧ CauseEnds s t r) ∧
      OtherBoxes s t r ∧ HostOnly { s with rgns := t.rgns } t [(F.SB_GATE_FAULT, r), (F.SB_GATE_FAULT_CAUSE, r)]

/-- TAP_RELOAD, CLR_TEMP_MAX, CLR_V_MIN, TC_CLR_LOW and SLIP_CLR_MAX (R130, R173, R195, R272): one field each. -/
def BoxBits (s : State) (r : Nat) : Prop :=
  (HostBox s .SB_TAP_CTRL r → Runs (.tapReload r) s fun t =>
    t.on F.SB_TAP_CTRL_RELOAD r = true ∧ HostOnly s t [(F.SB_TAP_CTRL_RELOAD, r)]) ∧
  (HostBox s .SB_SENSE_CTRL r → Runs (.clrTempMax r) s fun t =>
    t.fget F.SB_TEMP_MAX r = 0x8000 ∧ HostOnly s t [(F.SB_TEMP_MAX, r)]) ∧
  (HostBox s .SB_SENSE_CTRL r → Runs (.clrVMin r) s fun t =>
    t.fget F.SB_VSENSE_MIN_MV r = 0x3FF ∧ HostOnly s t [(F.SB_VSENSE_MIN_MV, r)]) ∧
  (HostBox s .SB_TC_CTRL r → Runs (.tcClrLow r) s fun t =>
    t.fget F.SB_TC_MIN_LOW r = 31 ∧ HostOnly s t [(F.SB_TC_MIN_LOW, r)]) ∧
  (HostBox s .SB_SLIP_CFG r → Runs (.slipClrMax r) s fun t =>
    t.reg .SB_SLIP_MAX r = BitVec.ofNat 32 (s.rgn r).ledger ∧ HostOnly s t [({ reg := .SB_SLIP_MAX, lo := 0, w := 32 }, r)])

/-- A host write of a word of a memory window: the bytes whose strobes are 1 take the data, no other byte of the window
moves. -/
def HostBytes (s t : State) (a data strb : Nat) : Prop :=
  (∀ i, i < 4 → strb.testBit i = true → t.rdByte (a + i) = BitVec.ofNat 8 (data / 2 ^ (8 * i))) ∧
    BytesKeep s t (fun x => jnlByte x ∨ ∃ i, i < 4 ∧ strb.testBit i = true ∧ x = a + i)

/-- TAP_TABLE_WRITE (R272): only the stored tile changes. -/
def TapWrite (s : State) (x data strb : Nat) : Prop :=
  let a := 0x20000 + x % 0x20000 / 4 * 4
  s.por = false → s.stn.warm = false → s.stn.locked = true → x % 0x20000 / 0x80 < s.build.nRegions → data < 2 ^ 32 →
    Runs (.tapTableWrite x data strb) s fun t =>
      HostBytes s t a data strb ∧ BitsKeep s t (fields jnlFields) ∧ t.rgns = s.rgns ∧
      t = { s with regs := t.regs, mem := t.mem, fresh := t.fresh, jnl := t.jnl, log := t.log
                   apb := { s.apb with slverr := false } }

/-- PROFILE_WRITE (R163): each byte written sets its weight to 16 times the value; the other weights stay. -/
def ProfileWrite (s : State) (r n data strb : Nat) : Prop :=
  HostBox s .SB_PROFILE0 r → n < 4 → data < 2 ^ 32 → (s.rgn r).weights.length = 16 →
    Runs (.profileWrite r n data strb) s fun t =>
      (∀ i, i < 4 → (t.rgn r).weights[4 * n + i]? =
        if strb.testBit i then some (16 * (data / 2 ^ (8 * i) % 256)) else (s.rgn r).weights[4 * n + i]?) ∧
      (∀ k, k / 4 ≠ n → (t.rgn r).weights[k]? = (s.rgn r).weights[k]?) ∧
      t.rgn r = { s.rgn r with weights := (t.rgn r).weights, play := (t.rgn r).play, refit := (t.rgn r).refit } ∧
      OtherBoxes s t r ∧ HostOnly { s with rgns := t.rgns } t []

/-- Section edge `n` lies at least one rc of the old FW after the region's last edge, and after the change edge (R189). -/
def WriteOffAllows (s : State) (r fwOld n : Nat) : Prop :=
  let k := s.build.sectionOf r
  let l := (s.rgn r).tLast
  let at_ : Int := (s.count * s.fwCur k + 65536 * n : Nat) - ((s.sec k).acc : Int)
  (l.num * (fwOld : Int) + (65536 * l.den : Nat)) * (s.fwCur k : Int) ≤ at_ * (l.den * fwOld : Nat) ∧
    (((s.sec k).edgeAt.getD 0 * s.fwCur k : Nat) : Int) < at_

/-- WRITE_OFF (R189): at the first edge after a change edge the ledger goes to 0 and its balance counts as written off; the
clock goes on at the first zero-lag edge that R189 allows; the request ends; an alignment that a running region waits for
takes effect (log entry 71). -/
def WriteOff (s : State) (r fwOld : Nat) : Prop :=
  let k := s.build.sectionOf r
  Comes s r → (s.rgn r).woff = some fwOld → 0 < fwOld → 0 < s.fwCur k → 0 < (s.rgn r).tLast.den →
    Runs (.writeOff r) s fun t =>
      (t.rgn r).ledger = 0 ∧ (t.rgn r).woff = none ∧ (t.rgn r).woffPh = (s.rgn r).woffPh + (s.rgn r).ledger ∧
      (∃ n, (t.rgn r).first = some (16 * n) ∧ WriteOffAllows s r fwOld n ∧ ∀ m, m < n → ¬ WriteOffAllows s r fwOld m) ∧
      (t.rgn r).own = 0 ∧ (t.rgn r).lastWoff = s.stn.elapsed ∧ t.on F.SB_SLIP_REQ r = false ∧ t.on F.SB_SLIP_RESTORED r = false ∧
      (s.on F.SB_SLIP_REQ r = true →
        t.fget F.SEC_SYM_STATUS_REQUESTERS k = s.fget F.SEC_SYM_STATUS_REQUESTERS k - 1) ∧
      t.fget F.SB_ROT_ALIGN_PH r = (((s.rgn r).alignTgt.map (·.1)).getD (s.fget F.SB_ROT_ALIGN_PH r)) % 16 ∧
      OtherBoxes s t r ∧
      Only { s with rgns := t.rgns } t
        [(F.SB_SLIP_REQ, r), (F.SB_SLIP_RESTORED, r), (F.SEC_SYM_STATUS_REQUESTERS, k), (F.SEC_SYM_STATUS_ACTIVE, k),
          (F.SB_ROT_ALIGN_PH, r)]

/-- GATE_REQUEST (R114, R115): in READY the request is granted, in any other state refused. -/
def GateRequest (s : State) (r : Nat) : Prop :=
  Comes s r → (s.rgn r).reqHigh = false → (s.rgn r).masked = false → (s.rgn r).grant = 0 → (s.rgn r).ackLeft = 0 →
    Runs (.gateRequest r) s fun t =>
      (t.rgn r).ackOut = true ∧ (t.rgn r).ackLeft = 2 ∧ (t.rgn r).reqHigh = true ∧
      (if s.secState (s.build.sectionOf r) = 3 then
        (t.rgn r).grantOut = true ∧ (t.rgn r).grant = 1 ∧
          t.fget F.SB_GATE_CNT_GRANTED r = satU F.SB_GATE_CNT_GRANTED.w (s.fget F.SB_GATE_CNT_GRANTED r + 1) ∧
          Only { s with rgns := t.rgns, calRgns := t.calRgns, xings := t.xings } t ((F.SB_GATE_CNT_GRANTED, r) :: distFields r)
       else (t.rgn r).grantOut = false ∧ (t.rgn r).grant = 0 ∧
          t.fget F.SB_GATE_CNT_REFUSED r = satU F.SB_GATE_CNT_REFUSED.w (s.fget F.SB_GATE_CNT_REFUSED r + 1) ∧
          Only { s with rgns := t.rgns } t [(F.SB_GATE_CNT_REFUSED, r)]) ∧ OtherBoxes s t r

/-- GATING_WRITE_OFF (R117, R120, R601): the clock gates, with cause PORT after a grant; the ledger is written off; an answer
of the gate port stays until the withheld edge would have come; where no cause is left the restart is set. -/
def GatingWriteOff (s : State) (r : Nat) : Prop :=
  let k := s.build.sectionOf r
  s.por = false → r < s.build.nRegions → s.clk r = 1 → ((s.rgn r).stopDue = true ∨ (s.rgn r).grant = 3) →
    Runs (.gatingWriteOff r) s fun t =>
      t.clk r = 2 ∧ (t.rgn r).ledger = 0 ∧ (t.rgn r).woffPh = (s.rgn r).woffPh + (s.rgn r).ledger ∧
      (t.rgn r).grant = 0 ∧ (t.rgn r).ackOut = (s.rgn r).ackOut ∧ (t.rgn r).grantOut = (s.rgn r).grantOut ∧
      (t.rgn r).ackFall = (if (s.rgn r).ackOut then some (s.nextPos r false) else none) ∧ (t.rgn r).stopDue = false ∧
      ((s.secState k = 2 ∨ s.secState k = 3) → t.gateCause r = false →
        ∃ p, (t.rgn r).restartMin = some p ∧ RestartAt (s.sec k).acc p) ∧
      (t.rgn r).play = none ∧ t.on F.SB_SLIP_REQ r = false ∧ t.on F.SB_SLIP_RESTORED r = false ∧
      ((s.rgn r).grant ≠ 0 → t.on F.SB_GATE_PORT r = true) ∧
      ((s.rgn r).grant = 0 → t.on F.SB_GATE_PORT r = s.on F.SB_GATE_PORT r) ∧
      OtherBoxes s t r ∧
      Only { s with rgns := t.rgns, calRgns := t.calRgns, xings := t.xings } t
        ([(F.SB_CLK_STATUS_STATE, r), (F.SB_GATE_PORT, r), (F.SB_SLIP_REQ, r), (F.SB_SLIP_RESTORED, r),
          (F.SB_PROFILE_SEQ_SKIPPED, r), (F.SEC_SYM_STATUS_REQUESTERS, k), (F.SEC_SYM_STATUS_ACTIVE, k)] ++ distFields r)

/-- REGION_RESTART (R120): the clock starts at the position set, its ledger at 0; a measured alignment takes effect. -/
def Restarts (s : State) (r p : Nat) : Prop :=
  s.por = false → r < s.build.nRegions → s.clk r = 2 → s.gateCause r = false →
    (s.secState (s.build.sectionOf r) = 2 ∨ s.secState (s.build.sectionOf r) = 3) → (s.rgn r).restartMin = some p →
    s.dsp.held = [] →
    Runs (.regionRestart r) s fun t =>
      t.clk r = 1 ∧ (t.rgn r).ledger = 0 ∧ (t.rgn r).first = some p ∧ (t.rgn r).restartMin = none ∧
      (t.rgn r).masked = (s.rgn r).masked ∧ (t.rgn r).rstReq = (s.rgn r).rstReq ∧
      t.fget F.SB_ROT_ALIGN_PH r = (((s.rgn r).alignTgt.map (·.1)).getD (s.fget F.SB_ROT_ALIGN_PH r)) % 16 ∧
      OtherBoxes s t r ∧ Only { s with rgns := t.rgns } t [(F.SB_CLK_STATUS_STATE, r), (F.SB_ROT_ALIGN_PH, r)]

/-- DLL_LOCK (R110, R113): the residual enters SB_ROT. A dark region takes the alignment measured up at once, and ALIGNED
reads whether the residual is within 15 ps; a running one keeps its alignment, which then moves to the one measured a step
per region edge (log entry 71). -/
def DllLock (s : State) (r ph fine : Nat) (ps : Int) : Prop :=
  s.por = false → r < s.build.nRegions → (s.sec (s.build.sectionOf r)).released = true → ph < 16 → fine < 128 →
    ps.natAbs < 128 →
    Runs (.dllLock r ph fine ps) s fun t =>
      t.fget F.SB_ROT_RESID_PS r = (BitVec.ofInt 8 ps).toNat ∧ t.on F.SB_CLK_STATUS_DLL_LOCKED r = true ∧
      (if s.clk r ≠ 1 ∨ (s.fget F.SB_ROT_ALIGN_PH r = ph ∧ s.fget F.SB_ROT_ALIGN_FINE r = fine) then
        t.fget F.SB_ROT_ALIGN_PH r = ph ∧ t.fget F.SB_ROT_ALIGN_FINE r = fine ∧
          (t.on F.SB_CLK_STATUS_ALIGNED r = true ↔ ps.natAbs ≤ 15) ∧ t.rgn r = { s.rgn r with alignTgt := none }
       else t.rgn r = { s.rgn r with alignTgt := some (ph, fine) } ∧
          Only { s with rgns := t.rgns } t [(F.SB_ROT_RESID_PS, r), (F.SB_CLK_STATUS_DLL_LOCKED, r)]) ∧
      OtherBoxes s t r ∧
      Only { s with rgns := t.rgns } t [(F.SB_ROT_ALIGN_PH, r), (F.SB_ROT_ALIGN_FINE, r), (F.SB_ROT_RESID_PS, r), (F.SB_CLK_STATUS_DLL_LOCKED, r),
        (F.SB_CLK_STATUS_ALIGNED, r)]

/-- A region enters cause FAULT for a reason (R125, R568): the first reason is kept; the region reset is requested, its
inputs masked, a running clock stops before its next edge; the event carries its payload. -/
def Faults (s t : State) (r cause code pay : Nat) : Prop :=
  if s.on F.SB_GATE_FAULT r = true then
    t.rgns = s.rgns ∧ t.log = s.log ∧ t.fget F.SB_GATE_FAULT_CAUSE r = s.fget F.SB_GATE_FAULT_CAUSE r
  else t.on F.SB_GATE_FAULT r = true ∧ t.fget F.SB_GATE_FAULT_CAUSE r = cause ∧ (t.rgn r).rstReq = true ∧
    (t.rgn r).masked = true ∧ (t.rgn r).restartMin = none ∧ (s.clk r = 1 → (t.rgn r).stopDue = true) ∧
    Posted s t r 0 code pay ∧ OtherBoxes s t r

/-- REGION_PERIOD_CHECK and DLL_LOCK_LOSS (R123–R125): the deviation in ph is 16 for each edge counted, plus the ledger's
change over the 192 tk, less 3/64 of FW; PERIOD_DEV is it rounded to a whole ph (how, is left open: log entry 9); more than
24 ph is cause FAULT with reason 1, loss of the DLL with reason 2. -/
def BoxFaults (s : State) (r edges cycles now before : Nat) : Prop :=
  let k := s.build.sectionOf r
  let dev := (16 * (edges : Int) + (now : Int) - (before : Int)) * 64 - 3 * (s.fwCur k : Int)
  s.por = false → r < s.build.nRegions →
    (s.count % 64 = 0 → s.clk r ≠ 0 → (s.secState k = 2 ∨ s.secState k = 3) → (s.sec k).lastChange + 192 ≤ s.stn.elapsed →
      (s.rgn r).lastWoff + 192 ≤ s.stn.elapsed → (s.rgn r).ledWin[0]? = some now → (s.rgn r).ledWin[3]? = some before →
      dev.natAbs < 2 ^ 36 → Runs (.regionPeriodCheck r edges) s fun t =>
        (∃ x : Int, (64 * x - dev).natAbs < 64 ∧
          t.fget F.SB_CLK_STATUS_PERIOD_DEV r = (BitVec.ofInt 8 (max (-128) (min 127 x))).toNat ∧
          (64 * 24 < dev.natAbs → Faults s t r 1 0x11 (BitVec.ofInt 32 x).toNat)) ∧
        (dev.natAbs ≤ 64 * 24 → t.rgns = s.rgns ∧ t.log = s.log) ∧
        Only { s with rgns := t.rgns, log := t.log } t
          ((F.SB_CLK_STATUS_PERIOD_DEV, r) :: if 64 * 24 < dev.natAbs then [(F.SB_GATE_FAULT, r), (F.SB_GATE_FAULT_CAUSE, r)] else [])) ∧
    (s.on F.SB_CLK_STATUS_DLL_LOCKED r = true → Runs (.dllLockLoss r cycles) s fun t =>
        t.on F.SB_CLK_STATUS_DLL_LOCKED r = false ∧ t.on F.SB_CLK_STATUS_ALIGNED r = false ∧ Faults s t r 2 0x12 (min cycles (2 ^ 32 - 1)) ∧
        Only { s with rgns := t.rgns, log := t.log } t
          [(F.SB_CLK_STATUS_DLL_LOCKED, r), (F.SB_CLK_STATUS_ALIGNED, r), (F.SB_GATE_FAULT, r), (F.SB_GATE_FAULT_CAUSE, r)])

/-- RESET_REQUEST_LOWER, INPUT_UNMASK and EVENT_PORT_POSTING, at the region's coming edge (R447, R448, R568, R569): the
request falls at an edge after the restart edge, the inputs count again once it has fallen; a posting of an application's
class is its source's, one of the block's classes is event 7/0x03 with that class and code, a masked one is nothing. -/
def Ports (s : State) (r cls code pay : Nat) : Prop :=
  Comes s r →
    ((s.rgn r).rstReq = true → (s.rgn r).first = none → 1 ≤ (s.rgn r).sinceStart → Runs (.resetRequestLower r) s fun t =>
      t.rgn r = { s.rgn r with rstReq := false } ∧ OtherBoxes s t r ∧ t = { s with rgns := t.rgns }) ∧
    ((s.rgn r).rstReq = false → (s.rgn r).masked = true → Runs (.inputUnmask r) s fun t =>
      t.rgn r = { s.rgn r with masked := false } ∧ OtherBoxes s t r ∧ t = { s with rgns := t.rgns }) ∧
    ((s.rgn r).masked = false → 8 ≤ cls → cls < 16 → code < 256 → pay < 2 ^ 32 → Runs (.eventPortPosting r cls code pay) s fun t =>
      Posted s t r cls code pay ∧ (t.rgn r).mile.posts = (s.rgn r).mile.posts + 1 ∧ OtherBoxes s t r ∧
      t = { s with rgns := t.rgns, log := t.log }) ∧
    ((s.rgn r).masked = false → cls < 8 → Runs (.eventPortPosting r cls code pay) s fun t =>
      Posted s t r 7 0x03 (cls * 2 ^ 28 + code % 256) ∧ (t.rgn r).mile.posts = (s.rgn r).mile.posts + 1 ∧ OtherBoxes s t r ∧
      t = { s with rgns := t.rgns, log := t.log }) ∧
    ((s.rgn r).masked = true → Runs (.eventPortPosting r cls code pay) s fun t => t = s)

/-- TAP_TILE_LOAD (R129, R238, R272, R273): a good tile gives the taps to walk to, unless the Section is on safe settings,
and is kept as the store; a bad one keeps the taps and is reported. -/
def TileLoad (s : State) (r : Nat) : Prop :=
  s.por = false → r < s.build.nRegions → s.on F.SB_TAP_CTRL_RELOAD r = true →
    Runs (.tapTileLoad r) s fun t =>
      t.on F.SB_TAP_CTRL_RELOAD r = false ∧ (t.rgn r).taps = (s.rgn r).taps ∧ OtherBoxes s t r ∧
      BytesKeep s t (fun _ => False) ∧
      (crc32c (s.rdBytes (0x20000 + 0x80 * r) 124) = leNat (s.rdBytes (0x20000 + 0x80 * r + 124) 4) →
        (t.rgn r).tapTgt = (if s.on F.SEC_CTRL_SAFE (s.build.sectionOf r) then (s.rgn r).tapTgt
          else (s.rdBytes (0x20000 + 0x80 * r) 120).map (· % 128)) ∧
        (t.calRgn r).storeTaps = (s.rdBytes (0x20000 + 0x80 * r) 120).map (· % 128) ∧
        t.on F.SB_TAP_CTRL_TILE_ERR r = s.on F.SB_TAP_CTRL_TILE_ERR r ∧ t.log = s.log) ∧
      (crc32c (s.rdBytes (0x20000 + 0x80 * r) 124) ≠ leNat (s.rdBytes (0x20000 + 0x80 * r + 124) 4) →
        t.rgns = s.rgns ∧ t.on F.SB_TAP_CTRL_TILE_ERR r = true ∧ (t.fget F.SB_CAL_STAT_PENDING r).testBit 0 = true ∧
        Posted s t 1793 2 0x0B r)

/-- TAP_TABLE_SEED_LOAD (R240, R274): every region's tile holds its seed taps and passes its check; a tile that failed both
reads holds uniform taps of 64, and is reported; the region safe set, with those taps and trim 0, is complete in the region's
shadow bank and awaits its commit. -/
def SeedLoad (s : State) (failed : List Nat) : Prop :=
  s.por = false → s.stn.locked = true → s.cal.loaded = false →
    (∀ r, r < s.build.nRegions → (s.build.seedTapsOf r).length = 120 ∧ ∀ x ∈ s.build.seedTapsOf r, x < 128) →
    Runs (.tapTableSeedLoad failed) s fun t =>
      t.cal.loaded = true ∧
      (∀ r, r < s.build.nRegions →
        t.tileOk r = true ∧ t.tileTaps r = (if failed.contains r then List.replicate 120 64 else s.build.seedTapsOf r) ∧
        (t.rgn r).tapTgt = t.tileTaps r ∧
        (∃ b, (t.calRgn r).bank = some b ∧ b.taps = some (t.tileTaps r) ∧ b.trim = some 0 ∧ b.src = .boot ∧
          b.doneAt = some s.count) ∧ (failed.contains r = true → t.on F.SB_TAP_CTRL_TILE_ERR r = true)) ∧
      BytesKeep s t (fun a => 0x20000 ≤ a ∧ a < 0x20000 + 0x80 * s.build.nRegions)

/-- THERMAL_READING and VOLTAGE_SENSE_UPDATE (R130): the reading, the extreme, the alarm. -/
def Senses (s : State) (r : Nat) (temp : Int) (mv : Nat) : Prop :=
  let top := (BitVec.ofNat 16 (s.fget F.SB_TEMP_MAX r)).toInt
  s.por = false → r < s.build.nRegions → s.stn.locked = true → -32768 ≤ temp → temp < 32768 → mv < 1024 →
    (Runs (.thermalReading r temp) s fun t =>
      t.fget F.SB_TEMP_TEMP r = (BitVec.ofInt 16 temp).toNat ∧
      t.fget F.SB_TEMP_MAX r = (BitVec.ofInt 16 (max top temp)).toNat ∧
      ((s.fget F.SB_SENSE_CTRL_TEMP_LIMIT r : Int) < temp → t.on F.SB_SENSE_CTRL_TEMP_ALARM r = true) ∧
      (temp ≤ (s.fget F.SB_SENSE_CTRL_TEMP_LIMIT r : Int) →
        t.on F.SB_SENSE_CTRL_TEMP_ALARM r = s.on F.SB_SENSE_CTRL_TEMP_ALARM r) ∧
      OtherBoxes s t r ∧
      Only { s with rgns := t.rgns } t [(F.SB_TEMP_TEMP, r), (F.SB_TEMP_MAX, r), (F.SB_SENSE_CTRL_TEMP_ALARM, r)]) ∧
    (Runs (.voltageSenseUpdate r mv) s fun t =>
      t.fget F.SB_VSENSE_MV r = mv ∧ t.fget F.SB_VSENSE_MIN_MV r = min mv (s.fget F.SB_VSENSE_MIN_MV r) ∧
      OtherBoxes s t r ∧
      Only { s with rgns := t.rgns, calRgns := t.calRgns, xings := t.xings } t
        ([(F.SB_VSENSE_MV, r), (F.SB_VSENSE_MIN_MV, r)] ++ distFields r))

/-- ACT_SNAPSHOT and ACT_SNAPSHOT_DONE (R132, R192): the counters at the snapshot tick become the RS block. -/
def Snapshots (s : State) (r : Nat) (q : ActSnap) : Prop :=
  s.por = false →
    (r < s.build.nRegions → s.stn.locked = true → s.count % 16384 = 0 → Runs (.actSnapshot r) s fun t =>
      (∃ x, t.rgn r = { s.rgn r with snap := some x } ∧ x.edges = (s.rgn r).edges ∧ x.act = (s.rgn r).act ∧
        x.gated = (s.rgn r).gatedTk ∧ x.ledger = (s.rgn r).ledger ∧ x.str = (s.rgn r).str ∧ x.sym = (s.rgn r).sym ∧
        x.cu = (s.rgn r).cu ∧ x.woff = (s.rgn r).woffPh ∧ x.denied = (s.rgn r).denied) ∧
      t.on F.SB_ACT_SEQ_NOT_READY r = true ∧ OtherBoxes s t r ∧
      Only { s with rgns := t.rgns } t [(F.SB_ACT_SEQ_NOT_READY, r)]) ∧
    ((s.rgn r).snap = some q → Runs (.actSnapshotDone r) s fun t =>
      t.reg .SB_EDGES_LO r = BitVec.ofNat 32 q.edges ∧ t.reg .SB_EDGES_HI r = BitVec.ofNat 32 (q.edges / 2 ^ 32 % 2 ^ 16) ∧
      t.reg .SB_ACT_LO r = BitVec.ofNat 32 q.act ∧ t.reg .SB_ACT_HI r = BitVec.ofNat 32 (q.act / 2 ^ 32 % 2 ^ 16) ∧
      t.reg .SB_GATED_TK r = BitVec.ofNat 32 q.gated ∧ t.reg .SB_SLIP_STR r = BitVec.ofNat 32 q.str ∧
      t.reg .SB_SLIP_SYM r = BitVec.ofNat 32 q.sym ∧ t.reg .SB_SLIP_CU r = BitVec.ofNat 32 q.cu ∧
      t.reg .SB_SLIP_WOFF r = BitVec.ofNat 32 q.woff ∧
      t.fget F.SB_SLIP_SNAP_LEDGER r = q.ledger % 2 ^ F.SB_SLIP_SNAP_LEDGER.w ∧
      t.fget F.SB_SLIP_SNAP_DENIED r = q.denied % 2 ^ F.SB_SLIP_SNAP_DENIED.w ∧ t.rgn r = { s.rgn r with snap := none } ∧
      t.fget F.SB_ACT_SEQ_SEQ r = (s.fget F.SB_ACT_SEQ_SEQ r + 1) % 2 ^ 31 ∧ t.on F.SB_ACT_SEQ_NOT_READY r = false ∧
      OtherBoxes s t r ∧ t = { s with regs := t.regs, rgns := t.rgns } ∧
      ∀ g u, u ≠ r → t.reg g u = s.reg g u)

end Sys2Proof.Claim

/-- GATE_WAKE_WRITE, WAKE_INPUT, GATE_FORCE_WRITE, GATE_FAULT_CLEAR, GATE_REQUEST, GATING_WRITE_OFF, REGION_RESTART and
WRITE_OFF: the causes of gating, and the ledger's write-off (R114–R126, R189, R364). -/
def Obligations.RegionGating : Prop :=
  ∀ (s : State) (r p fwOld edge : Nat) (on persists : Bool),
    Wakes s r edge ∧ Force s r on ∧ FaultClear s r persists ∧ Claim.GateRequest s r ∧ Claim.GatingWriteOff s r ∧ Restarts s r p ∧
      Claim.WriteOff s r fwOld

/-- DLL_LOCK, REGION_PERIOD_CHECK, DLL_LOCK_LOSS, RESET_REQUEST_LOWER, INPUT_UNMASK and EVENT_PORT_POSTING (R110, R113,
R123–R125, R447, R568, R569). -/
def Obligations.RegionFaultsAndPorts : Prop :=
  ∀ (s : State) (r ph fine edges cycles now before cls code pay : Nat) (ps : Int),
    Claim.DllLock s r ph fine ps ∧ BoxFaults s r edges cycles now before ∧ Ports s r cls code pay

/-- TAP_RELOAD, TAP_TABLE_WRITE, TAP_TILE_LOAD and TAP_TABLE_SEED_LOAD, with the clears of a Signal Box's extremes and
PROFILE_WRITE (R129, R130, R163, R173, R195, R272–R274). -/
def Obligations.TapsAndProfiles : Prop :=
  ∀ (s : State) (r x n data strb : Nat) (failed : List Nat),
    BoxBits s r ∧ TapWrite s x data strb ∧ Claim.ProfileWrite s r n data strb ∧ TileLoad s r ∧ SeedLoad s failed

/-- THERMAL_READING, VOLTAGE_SENSE_UPDATE, ACT_SNAPSHOT and ACT_SNAPSHOT_DONE (R130, R132, R192). -/
def Obligations.SensorsAndSnapshots : Prop :=
  ∀ (s : State) (r mv : Nat) (temp : Int) (q : ActSnap), Senses s r temp mv ∧ Snapshots s r q

namespace Sys2Proof.Claim

/-! ### Region edges, Track Circuits, Whistles -/

/-- The reading of Track Circuit `i` at an edge (R135, R147): the raw reading and its trim, within 0 and 31; under test its
last reading. -/
def readingOf (s : State) (r i : Nat) (inp : EdgeIn) : Int :=
  let trim := (BitVec.ofNat 4 (getF (s.reg .SB_TC_TRIM r) (4 * i) 4)).toInt
  if (s.rgn r).tcTest.map (·.tc) = some i then (((s.rgn r).readings[i]?).getD 0 : Nat)
  else max 0 (min 31 (((inp.raw[i]?).getD 0 : Nat) + trim))

/-- Track Circuit `i` is in service. -/
def inService (s : State) (r i : Nat) : Prop := i < 8 ∧ (s.fget F.SB_TC_STATUS_EXCL r).testBit i = false

/-- The bus value that is due on an edge due at Section edge `n` after one due at `m` (R186): the largest value published
for a Section edge two before an edge in between. -/
def BusValue (s : State) (k m n v : Nat) : Prop :=
  (∀ e ∈ (s.sec k).bus, m < e.1 + 2 → e.1 + 2 ≤ n → e.2 ≤ v) ∧
    (v = 0 ∨ ∃ e ∈ (s.sec k).bus, m < e.1 + 2 ∧ e.1 + 2 ≤ n ∧ e.2 = v)

/-- REGION_EDGE, the placing of the edge (R109, R164, R175–R182, R186), with no write-off to make, the ledger `l` the majority
of its copies: the clock's first edge comes at its place; in fixed-headway mode an edge comes 16 ph after the last; else
later by the stretch and earlier by a catch-up step. The ledger follows, and never leaves 0 to 96; a copy that differed is
counted. -/
def EdgePlaced (s : State) (r : Nat) (inp : EdgeIn) (v l : Nat) : Prop :=
  let k := s.build.sectionOf r
  let g := s.rgn r
  let copies := [g.ledA ^^^ inp.upA, g.ledB ^^^ inp.upB, g.ledC ^^^ inp.upC]
  ComesOn s r inp.busBad → g.woff = none → l ≤ 96 →
    (∀ i, l.testBit i = decide (2 ≤ (copies.filter (·.testBit i)).length)) →
    BusValue s k g.duePrev ((g.pos + 16) / 16) v →
    Runs (.regionEdge r inp) s fun t =>
      let req := s.on F.SB_SLIP_REQ r
      let free := g.first = none ∧ s.on F.SEC_HEADWAY_ACTIVE k = false
      let own := if free then g.own else 0
      let w := if inp.busBad ∨ g.offBus ∨ ¬ free then 0 else v
      let sym := if req then 0 else w
      let st := min (96 - l) (max own sym)
      let interval := max 2 (min 16 (s.fget F.SB_SLIP_CFG_CU_INT r))
      let cu := if free ∧ s.on F.SB_SLIP_RESTORED r = true ∧ st = 0 ∧ w = 0 ∧
          (req = true ∨ s.on F.SEC_SYM_STATUS_ACTIVE k = false) ∧
          0 < l ∧ (g.cuSince = none ∨ ∃ n, g.cuSince = some n ∧ interval ≤ n + 1) then 1 else 0
      (t.rgn r).pos = (match g.first with | some p => p | none => g.pos + 16 + st - cu) ∧ (t.rgn r).first = none ∧
      (t.rgn r).ledger = l + st - cu ∧ (t.rgn r).ledger ≤ 96 ∧
      t.fget F.SB_SLIP_MAX_MAX r = max (l + st - cu) (s.fget F.SB_SLIP_MAX_MAX r) ∧
      (t.rgn r).str = g.str + st ∧ (t.rgn r).cu = g.cu + cu ∧ (t.rgn r).sym = g.sym + (st - own) ∧
      (t.rgn r).denied = g.denied + (max own sym - st) ∧ (t.rgn r).edges = (g.edges + 1) % 2 ^ 48 ∧
      t.fget F.SB_SLIP_CORR r = min (2 ^ F.SB_SLIP_CORR.w - 1) (s.fget F.SB_SLIP_CORR r + (copies.filter (· ≠ l)).length)

/-- An edge at which a write-off is due makes it first (R189): the edge is the one after WRITE_OFF. -/
def EdgeAfterWriteOff (s : State) (r : Nat) (inp : EdgeIn) : Prop :=
  Comes s r → Runs (.writeOff r) s fun u => ComesOn s r inp.busBad → (s.rgn r).woff ≠ none →
    exec (.regionEdge r inp) s = exec (.regionEdge r inp) u

/-- REGION_EDGE, the vote (R135–R139, R147, R152, R154, R167, R168, R173): `v` is the lowest reading of those in service; at
or below ALARM it is counted and gives a stretch, which adds to the playback's of the next edge, at most MAX; with no Track
Circuit in service nothing alarms. In fixed-headway mode no stretch is decided, and an alarm sets HW_ALARM. -/
def EdgeVotes (s : State) (r : Nat) (inp : EdgeIn) (v : Nat) : Prop :=
  let k := s.build.sectionOf r
  let hw := s.on F.SEC_HEADWAY_ACTIVE k
  let play := match (s.rgn r).play with
    | some p => p.stretchAt (p.j + 1)
    | none => 0
  ComesOn s r inp.busBad →
    ((∀ i, inService s r i → (v : Int) ≤ readingOf s r i inp) → (∃ i, inService s r i ∧ readingOf s r i inp = v) →
      Runs (.regionEdge r inp) s fun t =>
        let alarm := decide (v ≤ s.fget F.SB_TC_THR_ALARM r)
        (t.fget F.SB_TC_ALARMS_COUNT r = (s.fget F.SB_TC_ALARMS_COUNT r + alarm.toNat) % 2 ^ F.SB_TC_ALARMS_COUNT.w) ∧
        t.fget F.SB_TC_MIN_LOW r = min v (s.fget F.SB_TC_MIN_LOW r) ∧
        (alarm = true → hw = true → t.on F.SB_TC_STATUS_HW_ALARM r = true) ∧
        (t.rgn r).own =
          (if hw then 0
           else min (min 16 (s.fget F.SB_STRETCH_MAX r)) (play +
            if alarm = true ∧ s.on F.SB_STRETCH_TC_EN r = true then
              min 16 ((s.fget F.SB_TC_THR_ALARM r - v + 1) * max 1 (s.fget F.SB_STRETCH_GAIN r))
            else 0))) ∧
    (s.fget F.SB_TC_STATUS_EXCL r = 255 → Runs (.regionEdge r inp) s fun t =>
      t.fget F.SB_TC_ALARMS_COUNT r = s.fget F.SB_TC_ALARMS_COUNT r ∧ t.fget F.SB_TC_MIN_LOW r = s.fget F.SB_TC_MIN_LOW r ∧
      (t.rgn r).own = if hw then 0 else min (min 16 (s.fget F.SB_STRETCH_MAX r)) play) ∧
    Runs (.regionEdge r inp) s fun t =>
      ∀ i, i < 8 → ∃ x : Nat, (t.rgn r).readings[i]? = some x ∧ (x : Int) = readingOf s r i inp

/-- REGION_EDGE, a lone alarm (R148): the run of edges at which Track Circuit `i` alone of those in service reads at or below
ALARM; with SELFTEST_EN at 1, the 256th asks for its out-of-turn test. Any other edge ends the run. -/
def LoneAlarm (s : State) (r i : Nat) (inp : EdgeIn) : Prop :=
  let low (j : Nat) : Prop := inService s r j ∧ readingOf s r j inp ≤ (s.fget F.SB_TC_THR_ALARM r : Int)
  let run := if (s.rgn r).loneTc = i then (s.rgn r).loneRun + 1 else 1
  ComesOn s r inp.busBad → (s.rgn r).tcTest = none →
    ((∀ j, low j ↔ j = i) → Runs (.regionEdge r inp) s fun t =>
      (t.rgn r).loneTc = i ∧
      (if 256 ≤ run ∧ s.on F.SB_TC_CTRL_SELFTEST_EN r = true then (t.rgn r).tcTurn = some i ∧ (t.rgn r).loneRun = 0
       else (t.rgn r).tcTurn = (s.rgn r).tcTurn ∧ (t.rgn r).loneRun = run)) ∧
    ((∀ j, ¬ ∀ h, low h ↔ h = j) → Runs (.regionEdge r inp) s fun t =>
      (t.rgn r).loneRun = 0 ∧ (t.rgn r).tcTurn = (s.rgn r).tcTurn)

/-- What an edge of region `r` leaves: registers but the region's, its Section's stretch bus, the counts of disturbances,
STN_DEP_STATUS and the states of crossings; what other regions hold; memory and every other unit. -/
def EdgeFrame (s : State) (r : Nat) (inp : EdgeIn) : Prop :=
  let k := s.build.sectionOf r
  ComesOn s r inp.busBad →
    Runs (.regionEdge r inp) s fun t =>
      (∀ q u, ¬ (q.info.cls = .sb ∧ u / q.info.count = r) → q ≠ .SB_CAL_QUAL → q ≠ .SB_CAL_CNT →
        ¬ ((q = .SEC_SYM_STATUS ∨ q = .SEC_SYM_CNT) ∧ u = k) → q ≠ .STN_DEP_STATUS → q ≠ .JCT_STAT → q ≠ .ICH_STAT →
        t.reg q u = s.reg q u) ∧
      OtherBoxes s t r ∧ (∀ j, j ≠ k → t.sec j = s.sec j) ∧ (∀ x, x ≠ r → t.source x = s.source x) ∧
      t = { s with regs := t.regs, fresh := t.fresh, freshMid := t.freshMid, secs := t.secs, rgns := t.rgns
                   calRgns := t.calRgns, xings := t.xings, toks := t.toks, log := t.log }

/-- The scheduled test of Track Circuit `i` that the edge sees as due (R145): with SELFTEST_EN at 1, at the latest of the
counts 200,000 i plus multiples of 1,600,000, not served before. -/
def TestDue (s : State) (r i d : Nat) : Prop :=
  s.on F.SB_TC_CTRL_SELFTEST_EN r = true ∧ (∃ m, d = 200000 * i + 1600000 * m) ∧ d ≤ s.count ∧ s.count < d + 1600000 ∧
    ((s.rgn r).tcServed[i]?).getD 0 < d

/-- A scheduled test of Track Circuit `i` is to be made. -/
def TestWaits (s : State) (r i : Nat) : Prop := (s.rgn r).tcWait.testBit i = true ∨ ∃ d, TestDue s r i d

/-- The region's test starts, with nothing else changed. -/
def TestStarts (s t : State) (r : Nat) (g : Rgn) (ask : TcAsk) (i : Nat) : Prop :=
  t.rgn r = { g with tcTest := some { ask, tc := i } } ∧ OtherBoxes s t r ∧ t = { s with rgns := t.rgns }

/-- TC_OUT_OF_TURN_TEST, TC_READMIT and TC_SELFTEST, at the coming edge, while no test of the region runs (R145, R148, R150,
R151, R600): the out-of-turn test goes first, then READMIT, then the scheduled tests in ascending order; a scheduled one is
skipped while a TRIM step holds the Track Circuits. -/
def TcTests (s : State) (r i : Nat) : Prop :=
  let g := s.rgn r
  Comes s r → i < 8 → g.tcTest = none →
    (g.tcTurn = some i → Runs (.tcOutOfTurnTest r) s fun t => TestStarts s t r { g with tcTurn := none } .outOfTurn i) ∧
    (g.tcTurn = none → (s.fget F.SB_TC_CTRL_READMIT r).testBit i = true → Runs (.tcReadmit r i) s fun t =>
      TestStarts s t r g .readmit i) ∧
    (g.tcTurn = none → s.fget F.SB_TC_CTRL_READMIT r = 0 → TestWaits s r i → (∀ j, j < i → ¬ TestWaits s r j) →
      g.tcServed.length = 8 → Runs (.tcSelftest r i) s fun t =>
        (∀ j, j < 8 → (t.rgn r).tcWait.testBit j = (decide (j ≠ i) && g.tcWait.testBit j)) ∧
        (∀ d, TestDue s r i d → (t.rgn r).tcServed[i]? = some d) ∧
        (∀ j, j ≠ i → (t.rgn r).tcServed[j]? = g.tcServed[j]?) ∧
        (let g' := { g with tcWait := (t.rgn r).tcWait, tcServed := (t.rgn r).tcServed }
         (∀ st, (s.calRgn r).step = some st → st.stage = 1 → st.started = true →
           t.rgn r = g' ∧ OtherBoxes s t r ∧ t = { s with rgns := t.rgns }) ∧
         ((∀ st, (s.calRgn r).step = some st → st.stage = 1 → st.started = false) →
           TestStarts s t r g' .scheduled i)))

/-- The last posting of a source within a command, stamped with the present tick. -/
def PostsLast (s t : State) (src cls code pay : Nat) : Prop :=
  ∃ o : Source, t.source src = (o.placeGap src (!s.logReady)).post
    { tick := s.count, src, cls, code, payload := pay, held := !s.logReady }

/-- REGION_EDGE, a test under way (R146, R149, R150, R152): bypass at the first and block at the second edge of an attempt,
one repeat. Bypass at 30 or above with block at 1 or below passes, which READMIT answers with service; a Track Circuit that
fails twice leaves service, with its fault bit and event 0x14; with none left NONE, a vote of 0 and event 0x15. -/
def TestRuns (s : State) (r : Nat) (inp : EdgeIn) (q : TcRun) : Prop :=
  let x := (inp.raw[q.tc]?).getD 0
  let excl := s.fget F.SB_TC_STATUS_EXCL r
  let pass := 30 ≤ q.bypass ∧ x ≤ 1
  ComesOn s r inp.busBad → (s.rgn r).tcTest = some q → q.tc < 8 → Runs (.regionEdge r inp) s fun t =>
    (q.edges % 2 = 0 → (t.rgn r).tcTest = some { q with edges := q.edges + 1, bypass := x } ∧
      t.fget F.SB_TC_STATUS_EXCL r = excl ∧ t.fget F.SB_TC_CTRL_READMIT r = s.fget F.SB_TC_CTRL_READMIT r) ∧
    (q.edges % 2 = 1 → ¬ pass → q.edges < 3 → (t.rgn r).tcTest = some { q with edges := q.edges + 1 } ∧
      t.fget F.SB_TC_STATUS_EXCL r = excl ∧ t.fget F.SB_TC_CTRL_READMIT r = s.fget F.SB_TC_CTRL_READMIT r) ∧
    (q.edges % 2 = 1 → (pass ∨ 3 ≤ q.edges) → (t.rgn r).tcTest = none ∧
      (∀ j, j < 8 → (t.fget F.SB_TC_CTRL_READMIT r).testBit j =
        ((s.fget F.SB_TC_CTRL_READMIT r).testBit j && !decide (q.ask = .readmit ∧ j = q.tc))) ∧
      (∀ j, j < 8 → (t.fget F.SB_TC_STATUS_EXCL r).testBit j =
        if j = q.tc then (if pass then excl.testBit j && !decide (q.ask = .readmit) else true) else excl.testBit j) ∧
      (¬ pass → excl.testBit q.tc = false →
        (q.bypass < 30 → (t.fget F.SB_TC_STATUS_ALARM_FAIL r).testBit q.tc = true) ∧
        (30 ≤ q.bypass → (t.fget F.SB_TC_STATUS_QUIET_FAIL r).testBit q.tc = true) ∧
        (t.fget F.SB_TC_STATUS_EXCL r ≠ 255 →
          PostsLast s t r 0 0x14 (q.tc * 2 ^ 29 + if q.bypass < 30 then 1 else 2)) ∧
        (t.fget F.SB_TC_STATUS_EXCL r = 255 → t.on F.SB_TC_STATUS_NONE r = true ∧ t.fget F.SB_TC_MIN_VOTE r = 0 ∧
          t.on F.SB_SLIP_RESTORED r = false ∧ PostsLast s t r 0 0x15 0)))

/-- REGION_EDGE, a scheduled test that falls due and is not started at this edge waits (R145, R600), unless a TRIM step holds
the Track Circuits (R151). -/
def TestLeftWaits (s : State) (r i d : Nat) (inp : EdgeIn) : Prop :=
  ComesOn s r inp.busBad → i < 8 → TestDue s r i d →
    (∀ st, (s.calRgn r).step = some st → st.stage = 1 → st.started = false) →
    Runs (.regionEdge r inp) s fun t => (t.rgn r).tcWait.testBit i = true

/-- TC_READ_REFRESH (R173): the readings of one edge, four to a register, and the vote reading, 0 with no Track Circuit in
service. -/
def TcRefresh (s : State) (r a b c d e f g h : Nat) : Prop :=
  s.por = false → r < s.build.nRegions → s.stn.locked = true → s.count % 64 = 0 →
    (s.rgn r).readings = [a, b, c, d, e, f, g, h] → a < 32 → b < 32 → c < 32 → d < 32 → e < 32 → f < 32 → g < 32 → h < 32 →
    Runs (.tcReadRefresh r) s fun t =>
      t.reg .SB_TC_READ_A r = BitVec.ofNat 32 (a + 2 ^ 8 * b + 2 ^ 16 * c + 2 ^ 24 * d) ∧
      t.reg .SB_TC_READ_B r = BitVec.ofNat 32 (e + 2 ^ 8 * f + 2 ^ 16 * g + 2 ^ 24 * h) ∧
      (s.fget F.SB_TC_STATUS_EXCL r = 255 → t.fget F.SB_TC_MIN_VOTE r = 0) ∧
      (s.fget F.SB_TC_STATUS_EXCL r ≠ 255 →
        (∃ i, i < 8 ∧ (s.fget F.SB_TC_STATUS_EXCL r).testBit i = false ∧
          (s.rgn r).readings[i]? = some (t.fget F.SB_TC_MIN_VOTE r)) ∧
        ∀ i x, (s.fget F.SB_TC_STATUS_EXCL r).testBit i = false → (s.rgn r).readings[i]? = some x →
          t.fget F.SB_TC_MIN_VOTE r ≤ x) ∧
      Only s t [({ reg := .SB_TC_READ_A, lo := 0, w := 32 }, r), ({ reg := .SB_TC_READ_B, lo := 0, w := 32 }, r),
        (F.SB_TC_MIN_VOTE, r)]

/-- WHISTLE_STROBE (R154, R155): the strobe is counted; an intensity above 0 starts a playback of the 16 entries, 0 ends
one. -/
def Strobe (s : State) (r i : Nat) : Prop :=
  Comes s r → (s.rgn r).masked = false → s.on F.SEC_HEADWAY_ACTIVE (s.build.sectionOf r) = false → i < 16 →
    Runs (.whistleStrobe r i) s fun t =>
      t.fget F.SB_WHISTLE_STROBES r = (s.fget F.SB_WHISTLE_STROBES r + 1) % 2 ^ F.SB_WHISTLE_STROBES.w ∧
      t.fget F.SB_WHISTLE_LAST_I r = i ∧
      (i = 0 ∨ s.on F.SB_STRETCH_PROFILE_EN r = false → (t.rgn r).play = none) ∧
      (0 < i → s.on F.SB_STRETCH_PROFILE_EN r = true →
        (t.rgn r).play = some { entries := (s.rgn r).weights.map fun w => w / 16 % 256, intensity := i }) ∧
      ((s.rgn r).play ≠ none →
        t.fget F.SB_PROFILE_SEQ_SKIPPED r = (s.fget F.SB_PROFILE_SEQ_SKIPPED r + 1) % 2 ^ F.SB_PROFILE_SEQ_SKIPPED.w) ∧
      (t.rgn r).own = (s.rgn r).own ∧ OtherBoxes s t r ∧
      Only { s with rgns := t.rgns } t [(F.SB_WHISTLE_STROBES, r), (F.SB_WHISTLE_LAST_I, r), (F.SB_PROFILE_SEQ_SKIPPED, r)]

/-- PROFILE_REFIT (R161), with PROFILE not LEARNING: the weight of an entry whose window alarmed grows by MU, that of one
whose lowest vote reading was high shrinks by MU; an entry written since the strobe keeps its own. -/
def Refit (s : State) (r : Nat) (p : Play) : Prop :=
  let mu := s.fget F.SB_PROFILE_CFG_MU r
  Comes s r → (s.rgn r).refit = some p → (s.rgn r).weights.length = 16 → p.lows.length = 16 →
    s.fget F.SB_CAL_STAT_PROFILE r ≠ 1 →
    Runs (.profileRefit r) s fun t =>
      (t.rgn r).refit = none ∧
      t.fget F.SB_PROFILE_SEQ_SEQ r = (s.fget F.SB_PROFILE_SEQ_SEQ r + 1) % 2 ^ F.SB_PROFILE_SEQ_SEQ.w ∧
      (∀ k w low, (s.rgn r).weights[k]? = some w → p.lows[k]? = some low → (t.rgn r).weights[k]? = some
        (if k ∈ p.written then w else if p.alarmed.testBit k then min 4095 (w + mu)
         else if s.fget F.SB_TC_THR_ALARM r + s.fget F.SB_PROFILE_CFG_HI_BAND r ≤ low then w - mu else w)) ∧
      t.rgn r = { s.rgn r with refit := none, weights := (t.rgn r).weights } ∧ OtherBoxes s t r ∧
      Only { s with rgns := t.rgns } t [(F.SB_PROFILE_SEQ_SEQ, r)]

end Sys2Proof.Claim

/-- REGION_EDGE: where the edge is placed and what the ledger holds, how the Track Circuits vote, and what an edge leaves
(R135–R139, R147, R152, R154, R164, R167, R168, R173, R175–R182, R186, R189). -/
def Obligations.RegionEdges : Prop :=
  ∀ (s : State) (r v l : Nat) (inp : EdgeIn),
    EdgePlaced s r inp v l ∧ EdgeAfterWriteOff s r inp ∧ EdgeVotes s r inp v ∧ EdgeFrame s r inp

/-- TC_SELFTEST, TC_OUT_OF_TURN_TEST, TC_READMIT, the tests as region edges run them, and TC_READ_REFRESH (R145–R152, R173,
R600). -/
def Obligations.TrackCircuitTests : Prop :=
  ∀ (s : State) (r i due a b c d e f g h : Nat) (inp : EdgeIn) (q : TcRun),
    TcTests s r i ∧ TestRuns s r inp q ∧ TestLeftWaits s r i due inp ∧ LoneAlarm s r i inp ∧ TcRefresh s r a b c d e f g h

/-- WHISTLE_STROBE and PROFILE_REFIT (R154, R155, R161). -/
def Obligations.WhistlesAndProfiles : Prop := ∀ (s : State) (r i : Nat) (p : Play), Strobe s r i ∧ Refit s r p

namespace Sys2Proof.Claim

/-! ### Control channels of crossings -/

/-- Region `r` has just delivered an edge. -/
def AtEdge (s : State) (r : Nat) : Prop := s.clk r = 1 ∧ (s.rgn r).first = none ∧ 0 < (s.rgn r).sinceStart

/-- A level that changed when its receiver had delivered `a` edges is seen at edge `b`: the second after it, or where the
synchroniser is late the third (R211, R214, R221). -/
def SeenAfter (late : Bool) (a b : Nat) : Prop := (if late then 3 else 2) ≤ (b + 2 ^ 48 - a) % 2 ^ 48

/-- The side that starts the handshake after a flush: the one reset alone, else the reader (R222, R223, R229). -/
def starts (f : Flush) (side : Side) : Prop := if f.cause = 1 then side = .writer else side = .reader

/-- What an earlier flush discarded and has not recorded, which a new one carries on (R603). -/
def carriedOn (q : Chan) : Nat :=
  match q.flush with
  | some g => if g.recorded then 0 else g.n
  | none => 0

/-- The reset input of a side is asserted (R220–R224): a flush starts, of cause 3 where the other input is asserted, with
`n` discarded at once; the other side's flush edge is to come, counted from its edges `m`; of a flush of both sides one that
was to come stays to come. -/
def Asserted (q q' : Chan) (side other : Side) (m n : Nat) : Prop :=
  q'.rst side = true ∧ q'.rst other = q.rst other ∧ q'.hand = none ∧
    ∃ f, q'.flush = some f ∧ f.recorded = false ∧ f.acked = false ∧ f.ackFrom = none ∧ f.n = carriedOn q + n ∧
      f.due other = true ∧
      (if q.rst other then
        f.cause = 3 ∧ (∀ g, q.flush = some g → f.due side = g.due side ∧ f.from_ side = g.from_ side ∧
          f.from_ other = if g.due other then g.from_ other else m)
       else f.cause = (if side = .writer then 1 else 2) ∧ f.due side = false ∧ f.from_ other = m)

/-- The handshake may start at an edge of a side (R222, R223, R229): both reset inputs are deasserted, both flush edges have
passed, the side is the one that starts it, and where one side was reset it has seen the flush acknowledgement. -/
def MayStart (q : Chan) (side : Side) (f : Flush) : Prop :=
  q.hand = none ∧ q.wRst = false ∧ q.rRst = false ∧ q.flush = some f ∧ f.wDue = false ∧ f.rDue = false ∧
    (f.acked = true ∨ 3 ≤ f.cause) ∧ starts f side

/-- An edge of a side in a control channel (R214, R222): `n` that side's edges with this one, `m` the other's. With no
handshake in progress the flush acknowledgement is seen, and the handshake starts once it may; in one, each level changes at
the edge that sees the one before it. -/
def ChanEdge (q q' : Chan) (side : Side) (n m : Nat) (late : Bool) : Prop :=
  q'.wRst = q.wRst ∧ q'.rRst = q.rRst ∧
    (∀ f, q.flush = some f → q.hand = none →
      ∃ f', q'.flush = some f' ∧ f' = { f with acked := f'.acked } ∧
        (f'.acked = true ↔ f.acked = true ∨ (starts f side ∧ ∃ a, f.ackFrom = some a ∧ SeenAfter late a n)) ∧
        (MayStart { q with flush := some f' } side f' → q'.hand = some { starter := side, step := 1, from_ := m }) ∧
        (¬ MayStart { q with flush := some f' } side f' → q'.hand = none)) ∧
    (q.flush = none → q.hand = none → q' = q) ∧
    ∀ h, q.hand = some h → q'.flush = q.flush ∧
      (h.step = 0 → h.starter = side → q'.hand = some { h with step := 1, from_ := m }) ∧
      (h.step = 1 → h.starter ≠ side → SeenAfter late h.from_ n → q'.hand = some { h with step := 2, from_ := m }) ∧
      (h.step = 2 → h.starter = side → SeenAfter late h.from_ n → q'.hand = some { h with step := 3, from_ := m }) ∧
      (¬ ((h.step = 0 ∧ h.starter = side) ∨ (h.step = 1 ∧ h.starter ≠ side ∧ SeenAfter late h.from_ n) ∨
        (h.step = 2 ∧ h.starter = side ∧ SeenAfter late h.from_ n)) → q'.hand = q.hand)

/-- The reset input of a side is deasserted at its edge (R220, R222): the handshake starts where it waited for this. -/
def Deasserted (q q' : Chan) (side : Side) (m : Nat) : Prop :=
  let u : Chan := if side = .writer then { q with wRst := false } else { q with rRst := false }
  ∀ f, (MayStart u side f → q' = { u with hand := some { starter := side, step := 1, from_ := m } }) ∧
    ((∀ g, ¬ MayStart u side g) → q' = u)

/-- The flush edge of a side may be the present edge, its second after the cause or a later one (R221). -/
def FlushMayCome (s : State) (q : Chan) (side : Side) (r : Nat) (f : Flush) : Prop :=
  q.flush = some f ∧ f.due side = true ∧ SeenAfter false (f.from_ side) (s.rgn r).edges ∧ AtEdge s r

/-- What the flush edge of a side leaves in the channel (R221, R222): `n` more discarded; the acknowledgement goes to the
side that starts the handshake, counted from its edges. -/
def FlushPassed (f g : Flush) (side other : Side) (n wEdges rEdges : Nat) : Prop :=
  g.due side = false ∧ g.due other = f.due other ∧ g.n = f.n + n ∧ g.cause = f.cause ∧
    g.ackFrom = some (if f.cause = 1 then wEdges else rEdges) ∧ g.recorded = !f.due other

/-- The step of a handshake that a side sees last: the other side sees the request fall, then the side that started sees the
acknowledge fall, which ends the handshake and its flush (R222, R603). -/
def Ending (q : Chan) (side : Side) (n : Nat) (h : Hand) : Prop :=
  q.hand = some h ∧ SeenAfter false h.from_ n ∧ ((h.step = 3 ∧ h.starter ≠ side) ∨ (h.step = 4 ∧ h.starter = side))

/-- The channel after it: `m` the other side's edges. -/
def Ended (q q' : Chan) (m : Nat) (h : Hand) : Prop :=
  if h.step = 3 then q' = { q with hand := some { h with step := 4, from_ := m } } else q' = { q with hand := none, flush := none }

/-! ### Junctions and Interchanges -/

/-- The instance has the cell, at its number. -/
def HasCell (s : State) (x : XId) (c : Cell) : Prop := s.build.cell x = some c ∧ s.build.junctions.length ≤ 1536

/-- No crossing but the cell changes what it holds. -/
def OtherCells (s t : State) (c : Cell) : Prop := ∀ k, k ≠ c.key → t.xing k = s.xing k

/-- At least 40 ph lie between two edges: in ph of one clock, or across a frequency change or a gating in tk at the slower
FW (R202, R204, R206). -/
def After40 (x y : EdgePt) : Prop :=
  if x.woff = y.woff ∧ x.gateW = y.gateW ∧ x.gateR = y.gateR then x.pos + 40 ≤ y.pos
  else ((163840 * x.time.den * y.time.den : Nat) : Int) ≤
    (y.time.num * (x.time.den : Int) - x.time.num * (y.time.den : Int)) * (min x.fw y.fw : Nat)

/-- An entry written at `w` is readable at the reader edge `e` (R202, R211). -/
def Readable (c : Cell) (late : Bool) (w e : EdgePt) : Prop :=
  if c.isJct then After40 w e else SeenAfter late w.rEdges e.rEdges

/-- A read at `p` is visible at the writer edge `e` (R204, R211). -/
def Visible (c : Cell) (late : Bool) (p e : EdgePt) : Prop :=
  if c.isJct then After40 p e else SeenAfter late p.wEdges e.wEdges

/-- One step toward a strobe offset (R208). -/
def stepTo (p q : Nat) : Nat := if p < q then p + 1 else if q < p then p - 1 else p

/-- REGION_EDGE of a cell's writer (R204, R205, R207, R208, R212): the reads that are visible leave, oldest first; the ready
output is high exactly while the half runs and the writer-seen occupancy leaves room; a Junction's write pointer is to be
sampled 16 + PHASE ph later, by an offset that moves a ph per edge. -/
def WriterEdge (s : State) (x : XId) (c : Cell) (inp : EdgeIn) : Prop :=
  let q := s.xing c.key
  let late := inp.late.contains x
  ComesOn s c.writer inp.busBad → HasCell s x c → c.writer ≠ c.reader → Runs (.regionEdge c.writer inp) s fun t =>
    let y := t.xing c.key
    let e := t.edgePt c c.writer
    y.entries = q.entries ∧
    (∃ l, q.reads = l ++ y.reads ∧ (∀ p ∈ l, Visible c late p e) ∧ ∀ p ∈ y.reads.head?, ¬ Visible c late p e) ∧
    (y.wReady = true ↔ q.wRun = true ∧ q.chan.wRst = false ∧ y.eyeUnit = false ∧
      q.entries.length + y.reads.length + q.gone < c.depth) ∧
    (y.eyeUnit = true → q.eyeUnit = true) ∧ y.wPtr = q.wPtr ∧ y.wRun = q.wRun ∧ y.rValid = q.rValid ∧
    (c.isJct = true → y.liveWp = stepTo q.liveWp (s.fget F.JCT_CFG_PHASE_WP c.idx) ∧
      y.wStrobes.getLast? = some (e.pos + 16 + q.liveWp, q.wPtr) ∧
      y.rSamp = ((q.rStrobes.filter (·.1 ≤ e.pos)).getLast?.map (·.2)).getD q.rSamp ∧
      y.rStrobes = q.rStrobes.filter (e.pos < ·.1)) ∧
    ChanEdge q.chan y.chan .writer e.wEdges (s.rgn c.reader).edges late ∧
    t.xState c = if s.xState c = 2 ∧ y.chan.hand ≠ none then 3 else s.xState c

/-- REGION_EDGE of a cell's reader (R203, R207, R208, R212): the valid output is high exactly while the half runs and the
oldest entry is readable, and the data output carries that entry. -/
def ReaderEdge (s : State) (x : XId) (c : Cell) (inp : EdgeIn) : Prop :=
  let q := s.xing c.key
  let late := inp.late.contains x
  ComesOn s c.reader inp.busBad → HasCell s x c → c.writer ≠ c.reader → Runs (.regionEdge c.reader inp) s fun t =>
    let y := t.xing c.key
    let e := t.edgePt c c.reader
    y.entries = q.entries ∧ y.reads = q.reads ∧
    (y.rValid = true ↔ q.rRun = true ∧ q.chan.rRst = false ∧ ∃ z ∈ q.entries.head?, Readable c late z.2 e) ∧
    (y.rValid = true → ∃ z ∈ q.entries.head?, y.rData = z.1) ∧ y.rPtr = q.rPtr ∧ y.rRun = q.rRun ∧ y.wReady = q.wReady ∧
    (c.isJct = true → y.liveRp = stepTo q.liveRp (s.fget F.JCT_CFG_PHASE_RP c.idx) ∧
      y.rStrobes.getLast? = some (e.pos + 16 + q.liveRp, q.rPtr) ∧
      y.wSamp = ((q.wStrobes.filter (·.1 ≤ e.pos)).getLast?.map (·.2)).getD q.wSamp ∧
      y.wStrobes = q.wStrobes.filter (e.pos < ·.1)) ∧
    ChanEdge q.chan y.chan .reader e.rEdges (s.rgn c.writer).edges late ∧
    t.xState c = if s.xState c = 2 ∧ y.chan.hand ≠ none then 3 else s.xState c

/-- CROSSING_WRITE, the valid input high at a writer edge (R199, R201, R205, R212, R247, R260): while ready is high the entry
joins the end; otherwise nothing is written, and HELD is set, in a Junction only where occupancy holds the writer. It ends an
EYE unit that held ready low, and disturbs an EYE step that measures the Junction. -/
def XWrite (s : State) (x : XId) (c : Cell) (data : Nat) : Prop :=
  let q := s.xing c.key
  let e := s.edgePt c c.writer
  let held : List (Fld × Nat) := if c.isJct then [(F.JCT_STAT_HELD, c.idx)] else [(F.ICH_STAT_HELD, c.idx), (F.ICH_HELD_COUNT, c.idx)]
  s.por = false → HasCell s x c → AtEdge s c.writer → q.wLast ≠ some (s.rgn c.writer).edges →
    Runs (.crossingWrite x data) s fun t =>
      (t.xing c.key).wLast = some (s.rgn c.writer).edges ∧ (t.xing c.key).eyeUnit = false ∧ (t.xing c.key).reads = q.reads ∧
      (q.wReady = true → q.wRun = true →
        (t.xing c.key).entries = q.entries ++ [(data % 2 ^ c.width, e)] ∧
        (t.xing c.key).wPtr = (q.wPtr + 1) % (2 * c.depth) ∧
        Only { s with xings := t.xings, calRgns := t.calRgns } t (distFields c.reader)) ∧
      (q.wReady = false ∨ q.wRun = false →
        (t.xing c.key).entries = q.entries ∧ (t.xing c.key).wPtr = q.wPtr ∧
        (c.isJct = true → q.wRun = true → q.chan.wRst = false → q.eyeUnit = false →
          c.depth ≤ q.entries.length + q.reads.length + q.gone → t.on F.JCT_STAT_HELD c.idx = true) ∧
        (c.isJct = true → q.wRun = false ∨ q.chan.wRst = true ∨ q.eyeUnit = true ∨
          q.entries.length + q.reads.length + q.gone < c.depth →
          t.fget F.JCT_STAT_HELD c.idx = s.fget F.JCT_STAT_HELD c.idx) ∧
        (c.isJct = false → t.on F.ICH_STAT_HELD c.idx = true ∧
          t.fget F.ICH_HELD_COUNT c.idx = (s.fget F.ICH_HELD_COUNT c.idx + 1) % 2 ^ F.ICH_HELD_COUNT.w) ∧
        Only { s with xings := t.xings, calRgns := t.calRgns } t (held ++ distFields c.reader)) ∧
      (c.isJct = false → t.calRgns = s.calRgns) ∧
      ∀ k, k ≠ c.key → t.xing k = { s.xing k with eyeUnit := (t.xing k).eyeUnit }

/-- CROSSING_READ, the ready input high at a reader edge (R199, R200, R212): while valid is high the oldest entry is read;
otherwise nothing is, and an Interchange counts it. -/
def XRead (s : State) (x : XId) (c : Cell) : Prop :=
  let q := s.xing c.key
  let e := s.edgePt c c.reader
  s.por = false → HasCell s x c → AtEdge s c.reader → q.rLast ≠ some (s.rgn c.reader).edges →
    Runs (.crossingRead x) s fun t =>
      (t.xing c.key).rLast = some (s.rgn c.reader).edges ∧ (t.xing c.key).rData = q.rData ∧
      (q.rValid = true → q.rRun = true →
        (t.xing c.key).entries = q.entries.tail ∧ (t.xing c.key).rPtr = (q.rPtr + 1) % (2 * c.depth) ∧
        (t.xing c.key).reads = q.reads ++ [e] ∧ Only { s with xings := t.xings } t []) ∧
      (q.rValid = false ∨ q.rRun = false →
        (t.xing c.key).entries = q.entries ∧ (t.xing c.key).rPtr = q.rPtr ∧ (t.xing c.key).reads = q.reads ∧
        (c.isJct = false →
          t.fget F.ICH_STARVE_COUNT c.idx = (s.fget F.ICH_STARVE_COUNT c.idx + 1) % 2 ^ F.ICH_STARVE_COUNT.w) ∧
        Only { s with xings := t.xings } t (if c.isJct then [] else [(F.ICH_STARVE_COUNT, c.idx)])) ∧
      OtherCells s t c

/-- The half of a side is empty and stopped, its pointer 0, its outputs low (R220). -/
def HalfClear (y : Xing) (side : Side) : Prop :=
  match side with
  | .writer => y.wRun = false ∧ y.wReady = false ∧ y.wPtr = 0 ∧ y.reads = [] ∧ y.gone = 0
  | .reader => y.rRun = false ∧ y.rValid = false ∧ y.rPtr = 0

/-- The half of a side is stopped, its output low; a writer's counts no read (R221). -/
def HalfStopped (y : Xing) (side : Side) : Prop :=
  match side with
  | .writer => y.wRun = false ∧ y.wReady = false ∧ y.reads = []
  | .reader => y.rRun = false ∧ y.rValid = false

/-- The half of a side runs, from a pointer of 0; its output rises at an edge to come (R222). -/
def HalfRuns (y : Xing) (side : Side) : Prop :=
  match side with
  | .writer => y.wRun = true ∧ y.wPtr = 0 ∧ y.wReady = false
  | .reader => y.rRun = true ∧ y.rPtr = 0 ∧ y.rValid = false

/-- CROSSING_RESET_ASSERT (R220, R223, R224, R602): the half of that side is empty. In STATE OFF nothing is flushed and an
alignment is abandoned; in any other STATE reads FLUSHED and a flush starts; with both inputs asserted the cell empties. An
input that is asserted already changes nothing. -/
def XResetAssert (s : State) (x : XId) (c : Cell) (side other : Side) : Prop :=
  let q := s.xing c.key
  s.por = false → HasCell s x c → other ≠ side →
    Runs (.crossingResetAssert x side) s fun t =>
      (q.chan.rst side = true → t = s) ∧
      (q.chan.rst side = false → HalfClear (t.xing c.key) side ∧
        (s.xState c = 0 → t.xState c = 0 ∧ (t.xing c.key).entries = [] ∧ (t.xing c.key).chan.rst side = true ∧
          (t.xing c.key).chan.hand = none ∧ (t.xing c.key).chan.flush = q.chan.flush) ∧
        (s.xState c ≠ 0 → t.xState c = 2 ∧
          (t.xing c.key).entries = (if q.chan.rst other then [] else q.entries) ∧
          Asserted q.chan (t.xing c.key).chan side other (s.rgn (c.side other)).edges
            (if q.chan.rst other then q.entries.length else 0))) ∧
      OtherCells s t c ∧ Only { s with xings := t.xings } t [(c.stateF, c.idx)]

/-- CROSSING_FLUSH (R221, R603): the flush edge of a side empties the cell and stops that half; the later flush edge makes
the record, with the event. -/
def XFlush (s : State) (x : XId) (c : Cell) (side other : Side) (f : Flush) : Prop :=
  let q := s.xing c.key
  let n := f.n + q.entries.length
  s.por = false → HasCell s x c → c.idx < 2048 → other ≠ side → FlushMayCome s q.chan side (c.side side) f →
    f.recorded = false → f.cause < 16 →
    Runs (.crossingFlush x side) s fun t =>
      (t.xing c.key).entries = [] ∧
      HalfStopped (t.xing c.key) side ∧
      (∃ g, (t.xing c.key).chan = { q.chan with flush := some g } ∧
        FlushPassed f g side other q.entries.length (s.rgn c.writer).edges (s.rgn c.reader).edges) ∧
      (f.due other = false →
        t.fget c.flushedF c.idx = min n (2 ^ c.flushedF.w - 1) ∧
        t.fget c.causeF c.idx = f.cause % 2 ^ c.causeF.w ∧ t.on c.flushF c.idx = true ∧
        (if c.isJct then Posted s t c.reader 4 3 (c.idx * 2 ^ 21 + min n 255 * 2 ^ 13 + f.cause)
         else Posted s t c.reader 4 4 (min c.idx 255 * 2 ^ 24 + min n 255 * 2 ^ 16 + f.cause))) ∧
      (f.due other = true → t.log = s.log ∧ Only { s with xings := t.xings } t []) ∧
      OtherCells s t c ∧
      Only { s with xings := t.xings, log := t.log } t [(c.flushedF, c.idx), (c.causeF, c.idx), (c.flushF, c.idx)]

/-- CROSSING_RESET_DEASSERT and CROSSING_HANDSHAKE_DONE (R220, R222, R231, R603): the handshake starts where it waited for
the deassertion; a side's half runs, from a pointer of 0, at the edge after the one at which it sees the last level of the
handshake that concerns it; the second ends the flush, returns STATE to RUN and clears REALIGN. -/
def XRestart (s : State) (x : XId) (c : Cell) (side other : Side) (h : Hand) : Prop :=
  let q := s.xing c.key
  s.por = false → HasCell s x c → other ≠ side → AtEdge s (c.side side) → s.shadow = [] →
    (Runs (.crossingResetDeassert x side) s fun t =>
      Deasserted q.chan (t.xing c.key).chan side (s.rgn (c.side other)).edges ∧
      t.xing c.key = { q with chan := (t.xing c.key).chan } ∧
      t.xState c = (if s.xState c = 2 ∧ (t.xing c.key).chan.hand ≠ none then 3 else s.xState c) ∧
      OtherCells s t c ∧ Only { s with xings := t.xings } t [(c.stateF, c.idx)]) ∧
    (Ending q.chan side (s.rgn (c.side side)).edges h → Runs (.crossingHandshakeDone x side) s fun t =>
      HalfRuns (t.xing c.key) side ∧
      Ended q.chan (t.xing c.key).chan (s.rgn (c.side other)).edges h ∧
      (h.step = 4 → t.xState c = 1 ∧ t.on c.realignF c.idx = false) ∧
      (h.step = 3 → Only { s with xings := t.xings } t []) ∧
      OtherCells s t c ∧ Only { s with xings := t.xings } t [(c.stateF, c.idx), (c.realignF, c.idx)])

/-- A realignment starts (R229, R231): the cell is FLUSHED and both flush edges are to come, each counted from its side's
present edges; a handshake in progress is over. -/
def Realigns (s t : State) (c : Cell) (cause : Nat) : Prop :=
  let q := s.xing c.key
  t.xState c = 2 ∧ t.xing c.key = { q with chan := { q.chan with hand := none, flush := some {
    cause, n := carriedOn q.chan, wDue := true, rDue := true, wFrom := (s.rgn c.writer).edges, rFrom := (s.rgn c.reader).edges } } }

/-- POINTER_PARITY, at an edge of a side that holds the pointer (R228, R229): PARITY, the event, and a realignment of cause 4;
in STATE OFF and under a reset input it merges into the alignment or flush that clears the pointers (log entry 73). -/
def XParity (s : State) (x : XId) (c : Cell) (p side : Side) : Prop :=
  let q := s.xing c.key
  s.por = false → HasCell s x c → c.idx < 2048 → (c.isJct = true ∨ p = side) → AtEdge s (c.side side) →
    Runs (.pointerParity x p side) s fun t =>
      t.on c.parityF c.idx = true ∧
      Posted s t c.reader 4 (if c.isJct then 1 else 2)
        ((if c.isJct then c.idx * 2 ^ 21 else min c.idx 255 * 2 ^ 24) + if p = .writer then 0 else 1) ∧
      (s.xState c ≠ 0 → q.chan.wRst = false → q.chan.rRst = false → Realigns s t c 4) ∧
      (s.xState c = 0 ∨ q.chan.wRst = true ∨ q.chan.rRst = true → t.xings = s.xings ∧ t.xState c = s.xState c) ∧
      OtherCells s t c ∧ Only { s with xings := t.xings, log := t.log } t [(c.parityF, c.idx), (c.stateF, c.idx)]

/-- The host writes the configuration register of a cell. -/
def HostCell (s : State) (x : XId) (c : Cell) : Prop :=
  HostMay s (if c.isJct then .JCT_CFG else .ICH_CFG) c.idx ∧ s.build.cell x = some c ∧
    s.build.junctions.length ≤ 1536 ∧ s.build.interchanges.length ≤ 240

/-- CROSSING_REALIGN and OCC_CLR_MAX (R231, R234). -/
def XWrites (s : State) (x : XId) (c : Cell) : Prop :=
  HostCell s x c →
    (Runs (.crossingRealign x) s fun t =>
      t.on c.realignF c.idx = true ∧
      (s.on c.realignF c.idx = false → s.xState c = 1 → Realigns s t c 5) ∧
      (s.on c.realignF c.idx = true ∨ s.xState c ≠ 1 → t.xings = s.xings ∧ t.xState c = s.xState c) ∧
      OtherCells s t c ∧ HostOnly { s with xings := t.xings } t [(c.realignF, c.idx), (c.stateF, c.idx)]) ∧
    (Runs (.occClrMax x) s fun t =>
      t.fget c.occMaxF c.idx = s.fget c.occF c.idx ∧ HostOnly s t [(c.occMaxF, c.idx)])

/-- CROSSING_ALIGN and OCC_REFRESH (R232, R234): the handshake on the empty halves of a cell in STATE OFF is to start at the
reader's next edge (log entry 73); OCC reads the entries written and not read. -/
def XAlign (s : State) (x : XId) (c : Cell) : Prop :=
  let q := s.xing c.key
  s.por = false → s.build.cell x = some c →
    (s.xState c = 0 → q.chan.hand = none → q.chan.wRst = false → q.chan.rRst = false →
      (s.sec (s.build.sectionOf c.writer)).released = true → (s.sec (s.build.sectionOf c.reader)).released = true →
      Runs (.crossingAlign x) s fun t =>
        t.xing c.key = { q with chan := { q.chan with hand := some { starter := .reader } } } ∧ OtherCells s t c ∧
        t = { s with xings := t.xings }) ∧
    (s.stn.locked = true → s.count % 64 = 0 → q.entries.length < 2 ^ c.occF.w → Runs (.occRefresh x) s fun t =>
      t.fget c.occF c.idx = q.entries.length ∧
      t.fget c.occMaxF c.idx = max q.entries.length (s.fget c.occMaxF c.idx) ∧
      Only s t [(c.occF, c.idx), (c.occMaxF, c.idx)])

/-- Every Junction and Interchange of the instance holds at most as many entries as it has places, and one fewer while its
ready output is high for a write that is yet to come at the writer's latest edge (R29, R199, R205, R212). -/
def Fits (s : State) : Prop :=
  ∀ x c, s.build.cell x = some c → (s.xing c.key).entries.length ≤ c.depth ∧
    ((s.xing c.key).wReady = true → (s.xing c.key).wLast ≠ some (s.rgn c.writer).edges →
      (s.xing c.key).entries.length < c.depth)

/-! ### Token crossings -/

/-- No Token crossing but `k` changes, and nothing else. -/
def TokOnly (s t : State) (k : Nat) : Prop := (∀ j, j ≠ k → t.tok j = s.tok j) ∧ t = { s with toks := t.toks }

/-- The source's half runs, at an edge of its region. -/
def SrcEdge (s : State) (k : Nat) (b : TokBuild) : Prop :=
  s.por = false ∧ s.build.tokens[k]? = some b ∧ AtEdge s b.src ∧ (s.tok k).sRun = true ∧ (s.tok k).chan.wRst = false

/-- The destination's half runs, at an edge of its region. -/
def DstEdge (s : State) (k : Nat) (b : TokBuild) : Prop :=
  s.por = false ∧ s.build.tokens[k]? = some b ∧ AtEdge s b.dst ∧ (s.tok k).dRun = true ∧ (s.tok k).chan.rRst = false

/-- A transfer of `v` launches (R214, R217). -/
def Launched (s t : State) (k : Nat) (b : TokBuild) (v : Nat) : Prop :=
  (t.tok k).out = some v ∧ (t.tok k).arr = some v ∧ (t.tok k).req = true ∧ (t.tok k).reqAt = (s.rgn b.dst).edges ∧
    (t.tok k).seenAt = none

/-- TOKEN_PULSE and TOKEN_WORD_OFFER (R216, R217): pulses add up, at most to 65,535, while a transfer is outstanding; with
none outstanding the count, or the word, launches. -/
def TokSends (s : State) (k : Nat) (b : TokBuild) (data : Nat) : Prop :=
  SrcEdge s k b →
    (b.word = false → Runs (.tokenPulse k) s fun t =>
      let p := min 65535 ((s.tok k).p + 1)
      ((s.tok k).out = none → Launched s t k b p ∧ (t.tok k).p = 0) ∧
      ((s.tok k).out ≠ none → t.tok k = { s.tok k with p }) ∧ TokOnly s t k) ∧
    (b.word = true → (s.tok k).out = none → Runs (.tokenWordOffer k data) s fun t =>
      Launched s t k b (data % 2 ^ b.width) ∧ TokOnly s t k) ∧
    (b.word = true → (s.tok k).out ≠ none → Runs (.tokenWordOffer k data) s fun t => t = s)

/-- A transfer has come to the destination's edge: seen before it, or two edges after the request rose, where this edge need
not be the flush edge (R214, R225). -/
def Arrives (s : State) (k : Nat) (b : TokBuild) (v : Nat) : Prop :=
  (s.tok k).arr = some v ∧ ((s.tok k).seenAt ≠ none ∨
    (SeenAfter false (s.tok k).reqAt (s.rgn b.dst).edges ∧
      ∀ f, (s.tok k).chan.flush = some f → f.rDue = true → ¬ SeenAfter true f.rFrom (s.rgn b.dst).edges))

/-- TOKEN_DELIVER and TOKEN_WORD_DELIVER (R215, R216, R218): the count is delivered, or the word presented, and acknowledged
when taken; a count of 65,535 is reported as saturated. -/
def TokDelivers (s : State) (k : Nat) (b : TokBuild) (v : Nat) (taken : Bool) : Prop :=
  let seen := some ((s.tok k).seenAt.getD (s.rgn b.dst).edges)
  DstEdge s k b → Arrives s k b v →
    (b.word = false → Runs (.tokenDeliver k) s fun t =>
      t.tok k = { s.tok k with seenAt := seen, arr := none, ack := true, ackAt := (s.rgn b.src).edges, last := v, tdValid := false } ∧
      (v ≠ 65535 → TokOnly s t k) ∧
      (v = 65535 → t.fget F.JCT_TOK_CNT_SAT 0 = satU F.JCT_TOK_CNT_SAT.w (s.fget F.JCT_TOK_CNT_SAT 0 + 1) ∧
        Posted s t b.dst 4 6 (min k (2 ^ 32 - 1)) ∧ (∀ j, j ≠ k → t.tok j = s.tok j) ∧
        Only { s with toks := t.toks, log := t.log } t [(F.JCT_TOK_CNT_SAT, 0)])) ∧
    (b.word = true → Runs (.tokenWordDeliver k taken) s fun t =>
      t.tok k = (if taken then { s.tok k with
          seenAt := seen, arr := none, ack := true, ackAt := (s.rgn b.src).edges, last := v, tdValid := false }
        else { s.tok k with seenAt := seen, last := v, tdValid := true }) ∧ TokOnly s t k)

/-- ACKNOWLEDGE_RISE_SEEN, REQUEST_FALL_SEEN and TOKEN_ACKNOWLEDGE (R214, R217): the levels fall one after the other, and
the next transfer launches at the edge that sees the acknowledge fall. -/
def TokCompletes (s : State) (k : Nat) (b : TokBuild) (pulse : Bool) : Prop :=
  (SrcEdge s k b → (s.tok k).req = true → (s.tok k).ack = true → SeenAfter false (s.tok k).ackAt (s.rgn b.src).edges →
    Runs (.acknowledgeRiseSeen k) s fun t =>
      t.tok k = { s.tok k with req := false, reqAt := (s.rgn b.dst).edges } ∧ TokOnly s t k) ∧
  (DstEdge s k b → (s.tok k).req = false → (s.tok k).ack = true → SeenAfter false (s.tok k).reqAt (s.rgn b.dst).edges →
    Runs (.requestFallSeen k) s fun t =>
      t.tok k = { s.tok k with ack := false, ackAt := (s.rgn b.src).edges } ∧ TokOnly s t k) ∧
  (SrcEdge s k b → (s.tok k).out ≠ none → (s.tok k).req = false → (s.tok k).ack = false →
    SeenAfter false (s.tok k).ackAt (s.rgn b.src).edges →
    Runs (.tokenAcknowledge k pulse) s fun t =>
      let p := if pulse then min 65535 ((s.tok k).p + 1) else (s.tok k).p
      (b.word = true ∨ p = 0 → t.tok k = { s.tok k with out := none, p := (t.tok k).p }) ∧
      (b.word = false → (0 < p → Launched s t k b p) ∧ (t.tok k).p = 0) ∧ TokOnly s t k)

/-- What a flush discards of a transfer that is not delivered: its count, or one word. -/
def undelivered (q : Tok) (b : TokBuild) : Nat := match q.arr with | some v => if b.word then 1 else v | none => 0

/-- REGION_EDGE of a side of a Token crossing, in its control channel (R214, R222); no transfer moves by itself. -/
def TokEdge (s : State) (k : Nat) (b : TokBuild) (side : Side) (inp : EdgeIn) : Prop :=
  let r := if side = .writer then b.src else b.dst
  ComesOn s r inp.busBad → s.build.tokens[k]? = some b → b.src ≠ b.dst → Runs (.regionEdge r inp) s fun t =>
    t.tok k = { s.tok k with chan := (t.tok k).chan } ∧
    ChanEdge (s.tok k).chan (t.tok k).chan side (t.rgn r).edges
      (s.rgn (if side = .writer then b.dst else b.src)).edges (inp.late.contains (.tok k))

/-- The half of a side of a Token crossing is empty, its outputs low. -/
def TokClear (q : Tok) (side : Side) : Prop :=
  match side with
  | .writer => q.sRun = false ∧ q.p = 0 ∧ q.out = none ∧ q.req = false
  | .reader => q.dRun = false ∧ q.tdValid = false ∧ q.ack = false

/-- The resets of a Token crossing (R220–R225, R603): the asserted side's half is empty and what it held pending is counted;
a side's flush edge, which is not the edge at which the destination first sees a request, discards what is not delivered; the
later one makes the record; the handshake then runs both halves again. -/
def TokResets (s : State) (k : Nat) (b : TokBuild) (side other : Side) (f : Flush) (h : Hand) : Prop :=
  let q := s.tok k
  let r := if side = .writer then b.src else b.dst
  let m := (s.rgn (if side = .writer then b.dst else b.src)).edges
  let pend := if side = .writer then q.p else 0
  let n := f.n + undelivered q b + pend
  s.por = false → s.build.tokens[k]? = some b → other ≠ side →
    (Runs (.crossingResetAssert (.tok k) side) s fun t =>
      (q.chan.rst side = true → t = s) ∧
      (q.chan.rst side = false → TokClear (t.tok k) side ∧ (t.tok k).arr = (if q.chan.rst other then none else q.arr) ∧
        Asserted q.chan (t.tok k).chan side other m ((if q.chan.rst other then undelivered q b else 0) + pend)) ∧
      TokOnly s t k) ∧
    (FlushMayCome s q.chan side r f → f.recorded = false → f.cause < 16 →
      (side = .reader → q.seenAt ≠ some (s.rgn r).edges) → Runs (.crossingFlush (.tok k) side) s fun t =>
        TokClear (t.tok k) side ∧ (t.tok k).arr = none ∧
        (∃ g, (t.tok k).chan = { q.chan with flush := some g } ∧
          FlushPassed f g side other (undelivered q b + pend) (s.rgn b.src).edges (s.rgn b.dst).edges) ∧
        (f.due other = true → TokOnly s t k) ∧
        (f.due other = false → Posted s t b.dst 4 5 (min k 255 * 2 ^ 24 + min n 255 * 2 ^ 16 + f.cause) ∧
          t.fget F.JCT_TOK_CNT_FLUSHES 0 = satU F.JCT_TOK_CNT_FLUSHES.w (s.fget F.JCT_TOK_CNT_FLUSHES 0 + 1) ∧
          (∀ j, j ≠ k → t.tok j = s.tok j) ∧
          Only { s with toks := t.toks, log := t.log } t [(F.JCT_TOK_CNT_FLUSHES, 0)])) ∧
    (AtEdge s r → Runs (.crossingResetDeassert (.tok k) side) s fun t =>
      t.tok k = { q with chan := (t.tok k).chan } ∧ Deasserted q.chan (t.tok k).chan side m ∧ TokOnly s t k) ∧
    (AtEdge s r → Ending q.chan side (s.rgn r).edges h → Runs (.crossingHandshakeDone (.tok k) side) s fun t =>
      t.tok k = (if side = .writer then { q with chan := (t.tok k).chan, sRun := true, p := 0 }
        else { q with chan := (t.tok k).chan, dRun := true }) ∧ Ended q.chan (t.tok k).chan m h ∧ TokOnly s t k)

end Sys2Proof.Claim

/-- REGION_EDGE at a crossing, CROSSING_WRITE and CROSSING_READ: when ready and valid are high, what a write and a read leave:
entries leave in the order in which they came, none where the cell is full, none before it is readable (R199–R208, R211,
R212, R222). -/
def Obligations.CrossingTransfers : Prop :=
  ∀ (s : State) (x : XId) (c : Cell) (data : Nat) (inp : EdgeIn),
    WriterEdge s x c inp ∧ ReaderEdge s x c inp ∧ XWrite s x c data ∧ XRead s x c

/-- CROSSING_RESET_ASSERT, CROSSING_FLUSH, CROSSING_RESET_DEASSERT, CROSSING_HANDSHAKE_DONE, POINTER_PARITY,
CROSSING_REALIGN, CROSSING_ALIGN, OCC_REFRESH and OCC_CLR_MAX (R220–R234, R602, R603). -/
def Obligations.CrossingResetsAndAlignment : Prop :=
  ∀ (s : State) (x : XId) (c : Cell) (side other : Side) (f : Flush) (h : Hand),
    XResetAssert s x c side other ∧ XFlush s x c side other f ∧ XRestart s x c side other h ∧ XParity s x c side other ∧
      XParity s x c side side ∧ XWrites s x c ∧ XAlign s x c

/-- No step makes a Junction or an Interchange hold more entries than it has places (R29, R199, R205, R212); a block under
test is excepted, whose state is undefined (R575). -/
def Obligations.CrossingsNeverOverfill : Prop :=
  ∀ s t : State, s.build.junctions.length ≤ 1536 → Fits s → step s = .next t → t.test.used = false → Fits t

/-- TOKEN_PULSE, TOKEN_WORD_OFFER, TOKEN_DELIVER, TOKEN_WORD_DELIVER, ACKNOWLEDGE_RISE_SEEN, REQUEST_FALL_SEEN,
TOKEN_ACKNOWLEDGE, an edge in the control channel, and the resets of a Token crossing (R214–R218, R220–R225, R603). -/
def Obligations.TokenCrossings : Prop :=
  ∀ (s : State) (k v data : Nat) (b : TokBuild) (f : Flush) (h : Hand) (side other : Side) (pulse taken : Bool) (inp : EdgeIn),
    TokEdge s k b side inp ∧ TokSends s k b data ∧ TokDelivers s k b v taken ∧ TokCompletes s k b pulse ∧ TokResets s k b side other f h

namespace Sys2Proof.Claim

/-! ### Calibration -/

/-- The registers that a calibration step of region `r` may move: the region's, those of the Junctions it reads, those of
the sequencer, the interrupt sources and the Journal's. -/
def ofCal (b : Build) (r : Nat) (q : Reg) (u : Nat) : Prop :=
  match q.info.cls with
  | .sb => u / q.info.count = r
  | .jct => ∃ j ∈ b.junctions[u]?, j.reader = r
  | _ => q = .CAL_STATUS ∨ q = .CAL_CTRL ∨ q = .CAL_TIME ∨ q = .HIF_IRQ_SRC ∨ q = .JNL_WIDX ∨ q = .JNL_STATUS

/-- What a calibration step of region `r` leaves as it is. -/
def CalKeeps (s t : State) (r : Nat) : Prop :=
  (∀ q u, ¬ ofCal s.build r q u → t.reg q u = s.reg q u) ∧ OtherBoxes s t r ∧
    (∀ x, x ≠ r → t.calRgn x = s.calRgn x) ∧ (∀ x, x ≠ srcCal → x ≠ srcLog → t.source x = s.source x) ∧
    BytesKeep s t (fun a => jnlByte a ∨ (0x20000 + 0x80 * r ≤ a ∧ a < 0x20000 + 0x80 * r + 0x80)) ∧
    t = { s with regs := t.regs, fresh := t.fresh, freshMid := t.freshMid, rgns := t.rgns, calRgns := t.calRgns
                 xings := t.xings, cal := t.cal, log := t.log, mem := t.mem, jnl := t.jnl }

/-- The turn of a step of Section initialisation has come in a region whose clock runs (R242): no shadow bank waits for its
commit, no step of refinement is under way, and EYE waits for its Junctions. -/
def InitDue (s : State) (r : Nat) (step : InitStep) : Prop :=
  s.por = false ∧ r < s.build.nRegions ∧
    (s.secState (s.build.sectionOf r) = 2 ∨ s.secState (s.build.sectionOf r) = 3) ∧ s.clk r = 1 ∧
    (s.calRgn r).init = (match step with | .entry => 0 | .trim => 1 | .deskew => 2 | .eye => 3) ∧
    (s.sec (s.build.sectionOf r)).released = true ∧ (s.calRgn r).bank = none ∧ (s.calRgn r).step = none ∧
    (step = .eye → ∀ j ∈ s.build.jctsRead r, s.fget F.JCT_STAT_STATE j ≠ 0)

/-- The result of the `i`th Junction read in an EYE measurement of all of them (R261): PHASE_WP, PHASE_RP, the narrower eye,
whether the centres agree. -/
def eyeAt (m : CalMeas) (i : Nat) : Nat × Nat × Nat × Bool :=
  eyeResult { a := (m.a.drop (2 * i)).take 2, b := (m.b.drop (2 * i)).take 2 }

/-- An attempt of a step of Section initialisation fails (R242, R243, R248, R258, R259, R262): it was disturbed; or its
measurements do not agree, or give values out of their limits; or the verifying measurement after its commit does. -/
def AttemptFails (s : State) (r : Nat) (step : InitStep) (m : CalMeas) : Prop :=
  let c := s.calRgn r
  m.disturbed = true ∨
  (c.initVerify = true ∧
    ((step = .trim ∧ 1 < tcErr m.verify (unpackTrims c.storeTrim) (s.trimKs r) c.trimMid) ∨
     (step = .deskew ∧ ∃ p : Int, m.verify.head? = some p ∧ 20 < p))) ∨
  (c.initVerify = false ∧
    ((step = .entry ∧ m.ok = false) ∨ (step = .trim ∧ s.trimResult r m = none) ∨
     (step = .deskew ∧ (m.a.length ≠ 120 ∨ agree 5 m.a m.b = false)) ∨
     (step = .eye ∧ ∃ i, i < (s.build.jctsRead r).length ∧
       ((eyeAt m i).2.2.2 = false ∨ (eyeAt m i).2.2.1 < s.fget F.CAL_CFG_EYE_MIN 0))))

/-- A region's shadow bank, filled and complete at this tick edge (R263). -/
def Fills (s t : State) (r : Nat) (b : Bank) : Prop := (t.calRgn r).bank = some { b with doneAt := some s.count }

/-- The stages that fail with a step of Section initialisation. -/
def stagesOf (step : InitStep) : List Nat := match step with | .entry => [0, 1, 2] | .trim => [1] | .deskew => [0] | .eye => [2]

/-- A step of Section initialisation is over with its stages FLAGGED (R242, R246): the next step follows, after Entry none. -/
def InitFlagged (t : State) (r : Nat) (step : InitStep) : Prop :=
  (t.calRgn r).init = (match step with | .entry => 4 | .trim => 2 | .deskew => 3 | .eye => 4) ∧
    (∀ st ∈ stagesOf step, t.fget (stageFld st) r = 3) ∧ t.on F.SB_CAL_STAT_FLAG r = true ∧
    t.on F.CAL_STATUS_FLAG_SEEN 0 = true ∧ (t.calRgn r).initTries = 0 ∧ (t.calRgn r).initVerify = false

/-- SECTION_INIT_STEP (R242, R243, R246, R258–R262): the values of an attempt that passes fill the shadow bank and await
their commit; Entry needs none; TRIM and DESKEW end with the verifying measurement after it. An attempt that fails is made
again, the fourth failure flags the step's stages, a tap above 127 does so at once. -/
def InitSteps (s : State) (r : Nat) (step : InitStep) (m : CalMeas) (mid : Int) (ts : List Int) : Prop :=
  let c := s.calRgn r
  let taps := deskewTaps (meanOf m.a m.b) (s.rgn r).taps
  InitDue s r step →
    (m.disturbed = false → c.initVerify = false →
      (step = .entry → m.ok = true → Runs (.sectionInitStep r step m) s fun t =>
        t.calRgn r = { c with init := 1, initTries := 0 } ∧ t = { s with calRgns := t.calRgns } ∧ CalKeeps s t r) ∧
      (step = .trim → s.trimResult r m = some (mid, ts) → Runs (.sectionInitStep r step m) s fun t =>
        Fills s t r { trim := some (packTrims ts), src := .init } ∧ (t.calRgn r).trimMid = mid ∧ (t.calRgn r).init = 1 ∧
        t.fget F.SB_CAL_FW_FW_TRIM r = s.fwCur (s.build.sectionOf r) % 2 ^ F.SB_CAL_FW_FW_TRIM.w ∧ CalKeeps s t r) ∧
      (step = .deskew → m.a.length = 120 → agree 5 m.a m.b = true → (∀ x ∈ taps, x ≤ 127) →
        Runs (.sectionInitStep r step m) s fun t =>
          Fills s t r { taps := some (taps.map Int.toNat), src := .init } ∧ (t.calRgn r).init = 2 ∧
          t = { s with calRgns := t.calRgns } ∧ CalKeeps s t r) ∧
      (step = .deskew → m.a.length = 120 → agree 5 m.a m.b = true → (∃ i x, i < 120 ∧ taps[i]? = some x ∧ 127 < x) →
        Runs (.sectionInitStep r step m) s fun t =>
          InitFlagged t r step ∧ Fills s t r { taps := some (s.seedTaps r), src := .safe 0 } ∧ CalKeeps s t r) ∧
      (step = .eye → (∀ i, i < (s.build.jctsRead r).length →
          (eyeAt m i).2.2.2 = true ∧ s.fget F.CAL_CFG_EYE_MIN 0 ≤ (eyeAt m i).2.2.1) →
        Runs (.sectionInitStep r step m) s fun t =>
          (∃ b, Fills s t r b ∧ b.src = .init ∧ b.taps = none ∧ b.trim = none ∧
            (∀ i j, (s.build.jctsRead r)[i]? = some j →
              b.phases[i]? = some (j, (eyeAt m i).1, (eyeAt m i).2.1, (eyeAt m i).2.2.1))) ∧
          (t.calRgn r).init = 3 ∧ t = { s with calRgns := t.calRgns } ∧ CalKeeps s t r)) ∧
    (m.disturbed = false → c.initVerify = true →
      (step = .trim → tcErr m.verify (unpackTrims c.storeTrim) (s.trimKs r) c.trimMid ≤ 1 →
        Runs (.sectionInitStep r step m) s fun t =>
          t.fget F.SB_CAL_QUAL_TC_ERR r = tcErr m.verify (unpackTrims c.storeTrim) (s.trimKs r) c.trimMid ∧
          t.calRgn r = { c with init := 2, initTries := 0, initVerify := false } ∧ CalKeeps s t r) ∧
      (step = .deskew → ∀ p : Int, m.verify.head? = some p → p ≤ 20 → Runs (.sectionInitStep r step m) s fun t =>
          t.fget F.SB_CAL_QUAL_SKEW_PS r = p.toNat ∧ t.calRgn r = { c with init := 3, initTries := 0, initVerify := false } ∧
          CalKeeps s t r)) ∧
    (AttemptFails s r step m → Runs (.sectionInitStep r step m) s fun t =>
      (c.initTries < 3 → t.calRgn r = { c with initTries := c.initTries + 1, initVerify := false }) ∧
      (3 ≤ c.initTries → InitFlagged t r step) ∧
      (m.disturbed = true →
        t.on (match step with | .trim => F.SB_CAL_QUAL_TRIM_DIST | .deskew => F.SB_CAL_QUAL_SKEW_DIST | _ => F.SB_CAL_QUAL_EYE_DIST) r
          = true ∧
        t.fget F.SB_CAL_CNT_DISTURBED r = min (2 ^ F.SB_CAL_CNT_DISTURBED.w - 1) (s.fget F.SB_CAL_CNT_DISTURBED r + 1)) ∧
      CalKeeps s t r)

/-- A lane may serve a region (R251, R252): its Section is READY and HOLD does not exclude it. -/
def served (s : State) (r : Nat) : Bool := s.secState (s.build.sectionOf r) == 3 && !s.on F.SB_CAL_CTRL_HOLD r

/-- Refinement may step in a region (R252, R269, R284): served, enabled, no restore, no warm reset, its FW settled. -/
def MayStep (s : State) (r : Nat) : Prop :=
  s.por = false ∧ served s r = true ∧ s.on F.CAL_CTRL_REFINE_EN 0 = true ∧ s.fget F.CAL_STATUS_PHASE 0 ≠ 6 ∧
    s.stn.warm = false ∧
    s.fget F.CAL_CFG_SETTLE 0 * 160000 ≤ s.stn.elapsed - (s.sec (s.build.sectionOf r)).lastChange

/-- The lanes in use: CAL_CTRL.LANES, 0 for 8 (R251). -/
def lanesUsed (s : State) : Nat := if s.fget F.CAL_CTRL_LANES 0 = 0 then 8 else s.fget F.CAL_CTRL_LANES 0

/-- The lanes once the free ones have taken regions from the head of the queue (R251; log entry 74). -/
def lanesFilled (s : State) : List Nat :=
  let stays (r : Nat) : Bool := served s r || (s.calRgn r).step.isSome
  let queue := s.cal.queue ++ s.cal.lanes.filter fun r => !stays r
  s.cal.lanes.filter stays ++ (queue.filter (served s)).take (lanesUsed s - (s.cal.lanes.filter stays).length)

/-- CAL_STEP_START (R251, R252, R262, R285): the lanes fill; a region in a lane takes a step of the stage that is being
served, else of its first stage that is pending or awaits a spot check; EYE of a region that reads no Junction is complete; a
region with none gives its lane up. -/
def StepStart (s : State) (r st : Nat) : Prop :=
  let c := s.calRgn r
  let waits (x : Nat) : Bool := (s.fget F.SB_CAL_STAT_PENDING r).testBit x || c.spots.testBit x
  MayStep s r → r < s.build.nRegions → c.step = none → (∀ b, c.bank = some b → b.doneAt = none) →
    r ∈ (lanesFilled s).take (lanesUsed s) →
    (st < 3 → waits st = true → (c.cur = some st ∨ ((∀ x, c.cur = some x → waits x = false) ∧ ∀ x, x < st → waits x = false)) →
      ¬ (st = 2 ∧ s.build.jctsRead r = []) → Runs (.calStepStart r) s fun t =>
        t.calRgn r = { c with
          step := some { stage := st, spot := !(s.fget F.SB_CAL_STAT_PENDING r).testBit st }, cur := some st
          gapAt := s.stn.elapsed } ∧
        t.cal.lanes = lanesFilled s ∧ t.cal = { s.cal with lanes := t.cal.lanes, queue := t.cal.queue } ∧
        t.fget F.CAL_STATUS_PHASE 0 = (if s.fget F.CAL_STATUS_PHASE 0 = 3 then 4 else s.fget F.CAL_STATUS_PHASE 0) ∧
        (∀ x, x ≠ r → t.calRgn x = s.calRgn x) ∧ Only { s with cal := t.cal, calRgns := t.calRgns } t [(F.CAL_STATUS_PHASE, 0)]) ∧
    (s.build.jctsRead r = [] → waits 0 = false → waits 1 = false → waits 2 = true → Runs (.calStepStart r) s fun t =>
        t.fget F.SB_CAL_STAT_EYE r = 1 ∧ (t.fget F.SB_CAL_STAT_PENDING r).testBit 2 = false ∧ (t.calRgn r).step = none ∧
        r ∉ t.cal.lanes ∧ CalKeeps s t r) ∧
    (waits 0 = false → waits 1 = false → waits 2 = false → s.fget F.SB_CAL_STAT_PENDING r < 8 → c.spots < 8 →
      Runs (.calStepStart r) s fun t =>
        r ∉ t.cal.lanes ∧ r ∉ t.cal.queue ∧ t.calRgns = s.calRgns ∧ t = { s with cal := t.cal })

/-- The Junctions that a step under way measures (R260, R285): EYE one at a time, its spot check all that the region reads. -/
def measured (s : State) (r : Nat) (x : CalStep) : List Nat :=
  if x.stage ≠ 2 then [] else if x.spot then s.build.jctsRead r else ((s.build.jctsRead r)[(s.calRgn r).item]?).toList

/-- CAL_UNIT_START (R249, R250, R260, R269): at an edge of the region that lies in a gap a unit of at most 16 edges starts,
one that ends before a slot does; an EYE unit only with the Junctions it measures empty, whose writers it then holds. -/
def UnitStart (s : State) (r edges : Nat) (x : CalStep) : Prop :=
  let k := s.build.sectionOf r
  let n := (s.rgn r).edges
  let l := (s.rgn r).tLast
  s.por = false → AtEdge s r → (s.rgn r).masked = false → (s.calRgn r).step = some x → 1 ≤ edges → edges ≤ 16 →
    (s.fget F.CAL_CFG_MIN_IDLE 0 < (s.rgn r).idleRun ∨ s.on F.SEC_SLOT_ACTIVE k = true ∨
      (s.on F.CAL_CTRL_FORCE 0 = true ∧ s.secState k = 3)) →
    (x.started = true ∨ MayStep s r) → s.stn.warm = false → r ∈ s.cal.lanes.take (lanesUsed s) → x.left = 0 →
    x.unitEnd ≠ some n →
    (s.on F.SEC_SLOT_ACTIVE k = true →
      l.num * (s.fwCur k : Int) + (((edges - 1) * 65536 * l.den : Nat) : Int) < ((s.sec k).slotEnd * l.den * s.fwCur k : Nat)) →
    (∀ j ∈ measured s r x, (s.xing j).entries = []) → (x.stage = 1 → (s.rgn r).moved = false) →
    Runs (.calUnitStart r edges) s fun t =>
      t.calRgn r = { s.calRgn r with
        step := some { x with started := true, left := edges - 1, unitEnd := if edges = 1 then some n else x.unitEnd } } ∧
      (∀ j, t.xing j = { s.xing j with
        eyeUnit := if 1 < edges ∧ j ∈ measured s r x then true else (s.xing j).eyeUnit }) ∧
      (∀ q, q ≠ r → t.calRgn q = s.calRgn q) ∧ t = { s with calRgns := t.calRgns, xings := t.xings }

/-- REGION_EDGE in a unit (R247, R248, R250, R260): without a disturbance the unit has one edge fewer to come, and its last
edge frees the Junctions measured; activity, or in TRIM an edge that a stretch, a catch-up or a sympathetic value moved,
disturbs the step, which starts anew. -/
def UnitEdge (s : State) (r : Nat) (inp : EdgeIn) (x : CalStep) : Prop :=
  let c := s.calRgn r
  ComesOn s r inp.busBad → c.step = some x → x.started = true → 0 < x.left → x.stage < 3 → Runs (.regionEdge r inp) s fun t =>
    (inp.act ≤ 1 ∨ (s.rgn r).masked = true → (s.rgn r).strobed = false → (x.stage = 1 → (t.rgn r).moved = false) →
      (t.calRgn r).step = some { x with
        left := x.left - 1, unitEnd := if x.left = 1 then some (t.rgn r).edges else x.unitEnd } ∧
      (x.left = 1 → ∀ j ∈ measured s r x, (t.xing j).eyeUnit = false)) ∧
    ((1 < inp.act ∧ (s.rgn r).masked = false) ∨ (x.stage = 1 ∧ (t.rgn r).moved = true) →
      (t.calRgn r).step = some { x with started := false, volt := none, left := 0 } ∧
      t.on (match x.stage with | 0 => F.SB_CAL_QUAL_SKEW_DIST | 1 => F.SB_CAL_QUAL_TRIM_DIST | _ => F.SB_CAL_QUAL_EYE_DIST) r = true ∧
      t.fget F.SB_CAL_CNT_DISTURBED r = min (2 ^ F.SB_CAL_CNT_DISTURBED.w - 1) (s.fget F.SB_CAL_CNT_DISTURBED r + 1))

/-- A step that fails (R246): it is made again, and the fourth failure flags the stage, whose safe values fill the shadow
bank. -/
def StepFails (s t : State) (r : Nat) (x : CalStep) : Prop :=
  let c := s.calRgn r
  (c.tries < 3 → t.calRgn r = { c with tries := c.tries + 1, step := some { x with started := false, volt := none, left := 0 } } ∧
    t.fget F.SB_CAL_CNT_RETRIES r = min 255 (s.fget F.SB_CAL_CNT_RETRIES r + 1)) ∧
  (3 ≤ c.tries → t.fget (stageFld x.stage) r = 3 ∧ t.on F.SB_CAL_STAT_FLAG r = true ∧ t.on F.CAL_STATUS_FLAG_SEEN 0 = true ∧
    (t.fget F.SB_CAL_STAT_PENDING r).testBit x.stage = false ∧ (t.calRgn r).step = none ∧
    (∃ b, (t.calRgn r).bank = some b ∧ b.src = .safe x.stage ∧ b.doneAt = some s.count ∧
      (x.stage = 0 → b.taps = some (s.seedTaps r)) ∧ (x.stage = 1 → b.trim = some 0)))

/-- A stage that completes and passes (R246, R248): DONE, its pending and DIST bits clear. -/
def StageDone (t : State) (r st : Nat) : Prop :=
  t.fget (stageFld st) r = 1 ∧ (t.fget F.SB_CAL_STAT_PENDING r).testBit st = false ∧ t.on (distFld st) r = false ∧
    t.on (redoFld st) r = false ∧ (t.calRgn r).step = none ∧ (t.calRgn r).spots.testBit st = false

/-- CAL_STEP_DONE (R245, R246, R258, R259, R261, R262): the measurements of a step whose units have ended. A DESKEW group
whose four endpoints agree joins the means, and the last one gives the taps; TRIM and EYE that pass fill the shadow bank; a
verifying measurement within its limit ends the stage; what fails is made again, and the fourth failure flags the stage. -/
def StepDone (s : State) (r j : Nat) (m : CalMeas) (x : CalStep) (mid : Int) (ts : List Int) : Prop :=
  let c := s.calRgn r
  let good := m.a.length = 4 ∧ agree 5 m.a m.b = true
  let taps := deskewTaps (c.means ++ meanOf m.a m.b) (s.rgn r).taps
  let e := eyeResult m
  s.por = false → c.step = some x → x.started = true → x.left = 0 → x.spot = false →
    (x.stage = 0 → c.verify = false → good → c.item + 1 < 30 → Runs (.calStepDone r m) s fun t =>
      t.calRgn r = { c with means := c.means ++ meanOf m.a m.b, item := c.item + 1, tries := 0, step := none } ∧
      t = { s with calRgns := t.calRgns } ∧ CalKeeps s t r) ∧
    (x.stage = 0 → c.verify = false → good → c.item + 1 = 30 → (∀ v ∈ taps, v ≤ 127) → Runs (.calStepDone r m) s fun t =>
      (∃ b, (t.calRgn r).bank = some b ∧ b.taps = some (taps.map Int.toNat) ∧ b.src = .stage 0 ∧ b.doneAt = some s.count) ∧
      (t.calRgn r).step = none ∧ t = { s with calRgns := t.calRgns } ∧ CalKeeps s t r) ∧
    (x.stage = 0 → c.verify = false → good → c.item + 1 = 30 → (∃ i v, i < 120 ∧ taps[i]? = some v ∧ 127 < v) →
      Runs (.calStepDone r m) s fun t => t.fget F.SB_CAL_STAT_DESKEW r = 3 ∧ t.on F.SB_CAL_STAT_FLAG r = true ∧
        (∃ b, (t.calRgn r).bank = some b ∧ b.taps = some (s.seedTaps r) ∧ b.src = .safe 0) ∧ CalKeeps s t r) ∧
    (x.stage = 0 → c.verify = false → ¬ good → Runs (.calStepDone r m) s fun t => StepFails s t r x ∧ CalKeeps s t r) ∧
    (x.stage = 1 → c.verify = false → s.trimResult r m = some (mid, ts) → Runs (.calStepDone r m) s fun t =>
      (∃ b, (t.calRgn r).bank = some b ∧ b.trim = some (packTrims ts) ∧ b.src = .stage 1 ∧ b.doneAt = some s.count) ∧
      (t.calRgn r).step = none ∧ (t.calRgn r).trimMid = mid ∧
      t.fget F.SB_CAL_FW_FW_TRIM r = s.fwCur (s.build.sectionOf r) % 2 ^ F.SB_CAL_FW_FW_TRIM.w ∧ CalKeeps s t r) ∧
    (x.stage = 1 → c.verify = false → s.trimResult r m = none → Runs (.calStepDone r m) s fun t =>
      StepFails s t r x ∧ CalKeeps s t r) ∧
    (x.stage = 2 → (s.build.jctsRead r)[c.item]? = some j → e.2.2.2 = true → s.fget F.CAL_CFG_EYE_MIN 0 ≤ e.2.2.1 →
      Runs (.calStepDone r m) s fun t =>
        (∃ b, (t.calRgn r).bank = some b ∧ (j, e.1, e.2.1, e.2.2.1) ∈ b.phases ∧ b.src = .stage 2 ∧
          b.doneAt = if (s.build.jctsRead r).length ≤ c.item + 1 then some s.count else none) ∧
        t.calRgn r = { c with bank := (t.calRgn r).bank, item := c.item + 1, tries := 0, step := none } ∧
        t = { s with calRgns := t.calRgns } ∧ CalKeeps s t r) ∧
    (x.stage = 2 → (s.build.jctsRead r)[c.item]? = some j → (e.2.2.2 = false ∨ e.2.2.1 < s.fget F.CAL_CFG_EYE_MIN 0) →
      Runs (.calStepDone r m) s fun t => StepFails s t r x ∧ CalKeeps s t r) ∧
    (x.stage = 0 → c.verify = true → ∀ p : Int, m.verify.head? = some p → 0 ≤ p → Runs (.calStepDone r m) s fun t =>
      t.fget F.SB_CAL_QUAL_SKEW_PS r = min p.toNat 255 ∧ (p ≤ 6 → StageDone t r 0) ∧
      (6 < p → c.stageTries < 3 → t.calRgn r = { c with
        stageTries := c.stageTries + 1, item := 0, means := [], tries := 0, verify := false, step := none }) ∧
      (6 < p → 3 ≤ c.stageTries → t.fget F.SB_CAL_STAT_DESKEW r = 3) ∧ CalKeeps s t r) ∧
    (x.stage = 1 → c.verify = true →
      let err := tcErr m.verify (unpackTrims c.storeTrim) (s.trimKs r) c.trimMid
      Runs (.calStepDone r m) s fun t =>
        t.fget F.SB_CAL_QUAL_TC_ERR r = min err 7 ∧ (err ≤ 1 → StageDone t r 1) ∧
        (1 < err → c.stageTries < 3 → t.calRgn r = { c with
          stageTries := c.stageTries + 1, item := 0, means := [], tries := 0, verify := false, step := none }) ∧
        (1 < err → 3 ≤ c.stageTries → t.fget F.SB_CAL_STAT_TRIM r = 3) ∧ CalKeeps s t r)

/-- CAL_STEP_ABANDON (R253): after MAX_PAUSE without an edge in a gap the region leaves its lane for the end of the queue. -/
def Abandon (s : State) (r : Nat) : Prop :=
  s.por = false → (s.calRgn r).step ≠ none →
    max 1 (s.fget F.CAL_CFG_MAX_PAUSE 0) * 1600000 ≤ s.stn.elapsed - (s.calRgn r).gapAt →
    Runs (.calStepAbandon r) s fun t =>
      t.calRgn r = { s.calRgn r with step := none } ∧ t.cal.lanes = s.cal.lanes.filter (· ≠ r) ∧
      t.cal.queue = s.cal.queue.filter (· ≠ r) ++ [r] ∧ (∀ q, q ≠ r → t.calRgn q = s.calRgn q) ∧
      t = { s with calRgns := t.calRgns, xings := t.xings, cal := t.cal }

/-- A region's stages are pending afresh (R256): nothing of a stage is in progress, no result of one waits. -/
def Fresh (c c' : CalRgn) : Prop :=
  c' = { c with step := none, cur := none, item := 0, means := [], tries := 0, stageTries := 0, verify := false
                spots := c'.spots, bank := c'.bank }

/-- CAL_FORCE (R255) and CAL_RESTART (R256): every stage of every region that is not held is pending; the queue takes the
regions with work in ascending order. -/
def CalWrites (s : State) : Prop :=
  let refining := if s.fget F.CAL_STATUS_PHASE 0 = 3 ∨ s.fget F.CAL_STATUS_PHASE 0 = 5 then 4 else s.fget F.CAL_STATUS_PHASE 0
  HostMay s .CAL_CTRL 0 →
    (Runs .calForce s fun t => t.on F.CAL_CTRL_FORCE 0 = true ∧
      (s.on F.CAL_CTRL_RESTART 0 = false → HostOnly s t [(F.CAL_CTRL_FORCE, 0)])) ∧
    (Runs .calRestart s fun t =>
      t.on F.CAL_CTRL_RESTART 0 = false ∧
      (∀ r, r < s.build.nRegions →
        (s.on F.SB_CAL_CTRL_HOLD r = false → t.fget F.SB_CAL_STAT_PENDING r = 7 ∧ Fresh (s.calRgn r) (t.calRgn r) ∧
          (t.calRgn r).spots = 0) ∧
        (s.on F.SB_CAL_CTRL_HOLD r = true →
          t.fget F.SB_CAL_STAT_PENDING r = s.fget F.SB_CAL_STAT_PENDING r ∧ t.calRgn r = s.calRgn r)) ∧
      t.fget F.CAL_STATUS_PHASE 0 = refining ∧
      t.cal.queue = (List.range s.build.nRegions).filter (fun r =>
        (t.fget F.SB_CAL_STAT_PENDING r != 0 || (t.calRgn r).spots != 0) && !s.cal.lanes.contains r) ∧
      HostOnly { s with cal := t.cal, calRgns := t.calRgns, xings := t.xings } t
        ([(F.CAL_CTRL_RESTART, 0), (F.CAL_STATUS_PHASE, 0)] ++
          (List.range s.build.nRegions).map fun r => (F.SB_CAL_STAT_PENDING, r)))

/-- REDO_DESKEW, REDO_TRIM and REDO_EYE (R256, R526): the stage is pending, and its region in the queue; a stage that is
pending already stays as it is; a held region is not marked, and the bit clears (log entry 74). -/
def Redo (s : State) (r st : Nat) : Prop :=
  let refining := if s.fget F.CAL_STATUS_PHASE 0 = 3 ∨ s.fget F.CAL_STATUS_PHASE 0 = 5 then 4 else s.fget F.CAL_STATUS_PHASE 0
  let pending := (s.fget F.SB_CAL_STAT_PENDING r).testBit st
  HostBox s .SB_CAL_CTRL r → st < 3 → s.on (redoFld st) r = false →
    Runs (match st with | 0 => .redoDeskew r | 1 => .redoTrim r | _ => .redoEye r) s fun t =>
      (s.on F.SB_CAL_CTRL_HOLD r = true → HostOnly s t []) ∧
      (s.on F.SB_CAL_CTRL_HOLD r = false → pending = true → t.on (redoFld st) r = true ∧ HostOnly s t [(redoFld st, r)]) ∧
      (s.on F.SB_CAL_CTRL_HOLD r = false → pending = false →
        t.on (redoFld st) r = true ∧ t.fget F.SB_CAL_STAT_PENDING r = s.fget F.SB_CAL_STAT_PENDING r ||| 2 ^ st ∧
        ((s.calRgn r).cur = some st → Fresh (s.calRgn r) (t.calRgn r)) ∧
        (s.cal.lanes.contains r = false → r ∈ t.cal.queue) ∧ t.cal.lanes = s.cal.lanes ∧
        t.fget F.CAL_STATUS_PHASE 0 = refining) ∧
      (∀ x, x ≠ r → t.calRgn x = s.calRgn x) ∧
      HostOnly { s with cal := t.cal, calRgns := t.calRgns, xings := t.xings } t
        [(redoFld st, r), (F.SB_CAL_STAT_PENDING, r), (F.CAL_STATUS_PHASE, 0)]

/-- CAL_COMMIT (R243, R246, R258, R259, R262–R264, R266, R272): at a multiple of 64, 32 tk after the bank is complete and
while no save runs, its values become the store, the region's tile is written, and off safe settings they become live; a stage
is then to be verified, EYE has passed. A bank that fails its check is dropped, and its stage runs again. -/
def Commit (s : State) (r d : Nat) (b : Bank) (taps : List Nat) : Prop :=
  let c := s.calRgn r
  let live := s.on F.SEC_CTRL_SAFE (s.build.sectionOf r) = false
  s.por = false → r < 1024 → c.bank = some b → taps = b.taps.getD (s.storeTaps r) → taps.length = 120 →
    (∀ x ∈ taps, x < 128) → s.count % 64 = 0 → b.doneAt = some d → d + 32 ≤ s.count → s.cal.save = none → b.src ≠ .image →
    (∀ a ∈ s.dsp.acts, s.actDue a = false) →
    (Runs (.calCommit r false) s fun t =>
      t.tileTaps r = taps ∧ t.tileOk r = true ∧ (t.calRgn r).bank = none ∧ (t.calRgn r).storeTaps = taps ∧
      (∀ w, b.trim = some w → (t.calRgn r).storeTrim = w ∧ (live → t.reg .SB_TC_TRIM r = BitVec.ofNat 32 w)) ∧
      (t.rgn r).tapTgt = (if live then b.taps.getD (s.rgn r).tapTgt else (s.rgn r).tapTgt) ∧
      (b.trim = none ∨ ¬ live → t.reg .SB_TC_TRIM r = s.reg .SB_TC_TRIM r) ∧
      (∀ j wp rp eye, b.phases = [(j, wp, rp, eye)] → wp < 16 → rp < 16 → eye < 32 →
        (t.xing j).storeWp = wp ∧ (t.xing j).storeRp = rp ∧ t.fget F.JCT_STAT_EYE j = eye ∧
        (live → t.fget F.JCT_CFG_PHASE_WP j = wp ∧ t.fget F.JCT_CFG_PHASE_RP j = rp)) ∧
      (b.src = .stage 0 ∨ b.src = .stage 1 → (t.calRgn r).verify = true) ∧ (b.src = .stage 2 → StageDone t r 2) ∧
      (b.src = .init → c.init = 3 → (t.calRgn r).init = 4 ∧ (t.calRgn r).initTries = 0) ∧
      (b.src = .init → c.init ≠ 3 → (t.calRgn r).initVerify = true ∧ (t.calRgn r).init = c.init) ∧
      ((∀ p ∈ b.phases, p.1 ∈ s.build.jctsRead r) → CalKeeps s t r)) ∧
    (Runs (.calCommit r true) s fun t =>
      t.on F.SB_TAP_CTRL_TILE_ERR r = true ∧ (t.rgn r).tapTgt = (s.rgn r).tapTgt ∧
      t.reg .SB_TC_TRIM r = s.reg .SB_TC_TRIM r ∧
      (∀ n, b.src = .stage n → n < 3 → c.stageTries < 3 → (t.calRgn r).bank = none ∧
        (t.calRgn r).stageTries = c.stageTries + 1 ∧ (t.calRgn r).item = 0) ∧
      (∀ n, b.src = .stage n → n < 3 → 3 ≤ c.stageTries → t.fget (stageFld n) r = 3) ∧
      (b.src = .init → c.initTries < 3 → (t.calRgn r).bank = none ∧ (t.calRgn r).initTries = c.initTries + 1) ∧
      (b.src = .boot ∨ (∃ n, b.src = .safe n) → (t.calRgn r).bank = some { b with doneAt := some s.count }) ∧
      BytesKeep s t (fun _ => False) ∧ CalKeeps s t r)

/-! ### The calibration image -/

/-- CAL_IMG_SAVE (R275, R276, R280): with no other operation in progress the save starts: its address, GEN and tick are
taken, commits are held, SAVING and NOT_READY read 1; while one is in progress it is held. -/
def ImgSave (s : State) : Prop :=
  HostMay s .CAL_IMG_CTRL 0 → s.on F.CAL_IMG_CTRL_SAVE 0 = false →
    Runs .calImgSave s fun t =>
      t.on F.CAL_IMG_CTRL_SAVE 0 = true ∧
      (s.cal.save = none → s.cal.restore = none →
        t.cal = { s.cal with save := some { addr := s.imgAddr, gen := s.imgGen, tick := s.count }, saveHeld := false } ∧
        t.on F.CAL_STATUS_SAVING 0 = true ∧ t.on F.CAL_IMG_SEQ_NOT_READY 0 = true ∧
        HostOnly { s with cal := t.cal } t
          [(F.CAL_IMG_CTRL_SAVE, 0), (F.CAL_STATUS_SAVING, 0), (F.CAL_IMG_SEQ_NOT_READY, 0)]) ∧
      (s.cal.save ≠ none ∨ s.cal.restore ≠ none → t.cal = { s.cal with saveHeld := true } ∧
        HostOnly { s with cal := t.cal } t [(F.CAL_IMG_CTRL_SAVE, 0)])

/-- The transaction of an image tile as R528 attributes it: 16 beats of 16 bytes under the image's ID 4. -/
def imgBurst (s : State) (write : Bool) (addr : Nat) (data : List Nat) : AxiTxn :=
  { write, id := 4, addr, beats := 16, size := 16, data, strb := if write then 2 ^ 16 - 1 else 0
    prot := s.fget F.HIF_AXI_CFG_PROT 0, qos := s.fget F.HIF_AXI_CFG_QOS 0
    cache := if write then s.fget F.HIF_AXI_CFG_AWCACHE 0 else s.fget F.HIF_AXI_CFG_ARCACHE 0 }

/-- What the results of a save (1) or a restore (2) read (R277, R281). -/
def ImgResults (s t : State) (op reason tile gen : Nat) : Prop :=
  t.fget F.CAL_IMG_RESULT_OP 0 = op ∧ t.on F.CAL_IMG_RESULT_FAILED 0 = decide (reason ≠ 0) ∧
    t.fget F.CAL_IMG_RESULT_REASON 0 = reason ∧ t.fget F.CAL_IMG_RESULT_TILE 0 = tile ∧
    t.fget F.CAL_IMG_DONE_LO_GEN 0 = gen % 2 ^ 32 ∧ t.fget F.CAL_IMG_DONE_HI_GEN 0 = gen / 2 ^ 32 % 2 ^ 32 ∧
    t.fget F.CAL_IMG_SEQ_SEQ 0 = (s.fget F.CAL_IMG_SEQ_SEQ 0 + 1) % 2 ^ 31 ∧ t.on F.CAL_IMG_SEQ_NOT_READY 0 = false ∧
    t.on F.HIF_IRQ_SRC_IMG_DONE 0 = true

/-- The fields of those results. -/
def imgFields : List (Fld × Nat) :=
  [(F.CAL_IMG_RESULT_OP, 0), (F.CAL_IMG_RESULT_FAILED, 0), (F.CAL_IMG_RESULT_REASON, 0), (F.CAL_IMG_RESULT_TILE, 0),
   (F.CAL_IMG_DONE_LO_GEN, 0), (F.CAL_IMG_DONE_HI_GEN, 0), (F.CAL_IMG_SEQ_SEQ, 0), (F.CAL_IMG_SEQ_NOT_READY, 0),
   (F.HIF_IRQ_SRC_IMG_DONE, 0)]

/-- CAL_IMG_SAVE_DONE (R276–R278, R531): after the responses of every tile the header goes out, to the address taken at the
start; with the header's response the save succeeds, with event 2/0x07; an error response fails it with REASON 9, and no
header follows. Nothing else waits here: no operation and no commit is held. -/
def ImgSaveDone (s : State) (ok : Bool) (o : ImgOp) : Prop :=
  let after := (imgFields ++ [(F.CAL_STATUS_SAVING, 0), (F.CAL_IMG_CTRL_SAVE, 0)])
  s.por = false → s.cal.save = some o → s.cal.saveHeld = false → s.cal.restoreHeld = false → s.cal.restore = none →
    (∀ k, k < s.build.nSections → (s.sec k).commitHeld = false) → o.gen < 2 ^ 64 →
    (o.err = none → ok = true → o.pos + 1 = s.build.imgTiles → s.axi.held = false → o.hdr = false → o.addr + 256 ≤ 2 ^ 40 →
      Runs (.calImgSaveDone ok) s fun t =>
        t.cal = { s.cal with save := some { o with hdr := true } } ∧
        t.axi = { s.axi with wr := some (imgBurst s true o.addr (s.imgHeader o.gen o.tick)) } ∧
        t = { s with cal := t.cal, axi := t.axi }) ∧
    (o.err = none → ok = true → o.pos + 1 = s.build.imgTiles → s.axi.held = false → o.hdr = true →
      Runs (.calImgSaveDone ok) s fun t =>
        ImgResults s t 1 0 0 o.gen ∧ t.on F.CAL_STATUS_SAVING 0 = false ∧ t.on F.CAL_IMG_CTRL_SAVE 0 = false ∧
        t.cal = { s.cal with save := none, imgLen := 256 * s.build.imgTiles } ∧ Posted s t 1793 2 0x07 (o.gen % 2 ^ 32) ∧
        Only { s with cal := t.cal, log := t.log } t after) ∧
    (o.err ≠ none ∨ (o.pos ≠ 0 ∧ ok = false) → Runs (.calImgSaveDone ok) s fun t =>
        ImgResults s t 1 9 0 o.gen ∧ t.on F.CAL_STATUS_SAVING 0 = false ∧ t.on F.CAL_IMG_CTRL_SAVE 0 = false ∧
        t.cal = { s.cal with save := none, imgLen := 256 * s.build.imgTiles } ∧ Only { s with cal := t.cal } t after)

/-- CAL_IMG_RESTORE (R280, R284): before READY, and while an operation is in progress, it is held; else it starts: its
address is taken, PHASE reads RESTORING, and steps of refinement under way are abandoned. -/
def ImgRestore (s : State) : Prop :=
  HostMay s .CAL_IMG_CTRL 0 → s.on F.CAL_IMG_CTRL_RESTORE 0 = false → s.cal.saveHeld = false →
    Runs .calImgRestore s fun t =>
      t.on F.CAL_IMG_CTRL_RESTORE 0 = true ∧
      (s.fget F.CAL_STATUS_PHASE 0 < 3 ∨ s.cal.save ≠ none ∨ s.cal.restore ≠ none →
        t.cal = { s.cal with restoreHeld := true } ∧ HostOnly { s with cal := t.cal } t [(F.CAL_IMG_CTRL_RESTORE, 0)]) ∧
      (3 ≤ s.fget F.CAL_STATUS_PHASE 0 → s.cal.save = none → s.cal.restore = none →
        t.cal.restore = some { addr := s.imgAddr, tick := s.count } ∧ t.cal.restoreHeld = false ∧
        t.fget F.CAL_STATUS_PHASE 0 = 6 ∧ t.on F.CAL_IMG_SEQ_NOT_READY 0 = true ∧
        (∀ r ∈ s.cal.lanes, (t.calRgn r).step = none) ∧
        HostOnly { s with cal := t.cal, calRgns := t.calRgns, xings := t.xings } t
          [(F.CAL_IMG_CTRL_RESTORE, 0), (F.CAL_STATUS_PHASE, 0), (F.CAL_IMG_SEQ_NOT_READY, 0)])

/-- The reads on which a verdict rests are made (R281): an error response ends them; the header's, the first pass, or both. -/
def VerdictMayCome (s : State) (o : ImgOp) (reason : Nat) : Prop :=
  o.err ≠ none ∨ (if reason ≤ 4 then 1 else if reason ≤ 7 then s.build.imgTiles
    else if reason = 8 then 2 * s.build.imgTiles else 1) ≤ o.pos

/-- CAL_IMG_RESTORE_DONE (R263, R281–R284): an image that fails a check is refused with its REASON and TILE and changes no
store, and every stage is pending. One that passes fills the shadow bank of every region that is not held with what its tile
holds; at a multiple of 64, at least 32 tk later, all commit: a stage saved DONE or RESTORED is RESTORED and awaits a spot
check. -/
def ImgRestoreDone (s : State) (img : ImageIn) (o : ImgOp) (reason tile : Nat) : Prop :=
  let img' := { img with error := img.error.orElse fun _ => o.err }
  let gen := tileFld ((img.tiles.head?).getD []) 16 8
  s.por = false → s.cal.restore = some o → s.build.nRegions ≤ 1024 → s.build.junctions.length ≤ 1536 →
    s.cal.saveHeld = false → s.cal.restoreHeld = false → s.cal.save = none → (∀ a ∈ s.dsp.acts, s.actDue a = false) →
    (o.loaded = none → s.imgCheck img' = some (reason, tile) → VerdictMayCome s o reason →
      Runs (.calImgRestoreDone img) s fun t =>
        ImgResults s t 2 (reason % 16) (tile % 2 ^ 11) gen ∧ t.cal.restore = none ∧ t.on F.CAL_IMG_CTRL_RESTORE 0 = false ∧
        (∀ r, r < s.build.nRegions → s.on F.SB_CAL_CTRL_HOLD r = false → t.fget F.SB_CAL_STAT_PENDING r = 7) ∧
        t.rgns = s.rgns ∧ BytesKeep s t (fun _ => False)) ∧
    (o.loaded = none → s.imgCheck img' = none → 2 * s.build.imgTiles ≤ o.pos → Runs (.calImgRestoreDone img) s fun t =>
        t.cal = { s.cal with restore := some { o with gen, loaded := some s.count } } ∧
        (∀ r x, r < s.build.nRegions → s.on F.SB_CAL_CTRL_HOLD r = false → img.tiles[r + 1]? = some x →
          ∃ b, (t.calRgn r).bank = some b ∧ b.src = .image ∧ b.doneAt = some s.count ∧
            (tileFld x 1 1 % 4 = 1 ∨ tileFld x 1 1 % 4 = 2 → b.taps = some (((x.drop 8).take 120).map (· % 128)))) ∧
        t = { s with cal := t.cal, calRgns := t.calRgns }) ∧
    (∀ d, o.loaded = some d → d + 32 ≤ s.count → s.count % 64 = 0 → Runs (.calImgRestoreDone img) s fun t =>
        ImgResults s t 2 0 0 o.gen ∧ t.cal.restore = none ∧ t.on F.CAL_IMG_CTRL_RESTORE 0 = false ∧
        ∀ r b x, r < s.build.nRegions → s.on F.SB_CAL_CTRL_HOLD r = false → (s.calRgn r).bank = some b → b.src = .image →
          img.tiles[r + 1]? = some x → img.crcBad.contains r = false →
          (t.calRgn r).bank = none ∧
          (∀ taps, b.taps = some taps → taps.length = 120 → (∀ v ∈ taps, v < 128) → t.tileTaps r = taps) ∧
          ((tileFld x 1 1 % 4 = 1 ∨ tileFld x 1 1 % 4 = 2) →
            t.fget F.SB_CAL_STAT_DESKEW r = 2 ∧ (t.calRgn r).spots.testBit 0 = true))

/-- TICK with a save in progress (R276, R529, R531): the next tile's write goes out, or, where the channel has no room, the
save waits. -/
def SaveIssues (s : State) (inp : TickIn) (o : ImgOp) : Prop :=
  let a := o.addr + 256 * (o.pos + 1)
  s.por = false → s.stn.locked = true → s.cal.save = some o → o.err = none → o.pos + 1 < s.build.imgTiles → a + 256 ≤ 2 ^ 40 →
    s.axi.held = false → Runs (.tick inp) s fun t =>
      (t.cal.save = some o ∧ t.axi.wr = s.axi.wr) ∨
      (t.cal.save = some { o with pos := o.pos + 1 } ∧ ∃ x, t.axi.wr = some x ∧
        x = imgBurst s true a x.data ∧ x.data.length = 256)

/-- CAL_SPOT_CHECK (R285, R286): one that passes ends its stage DONE; one that fails is counted and reported, and makes the
stage pending. -/
def SpotCheck (s : State) (r : Nat) (stage : Stage) (m : CalMeas) (x : CalStep) : Prop :=
  let st := stageCode stage
  s.por = false → r < 1024 → (s.calRgn r).step = some x → x.stage = st → x.spot = true → x.started = true → x.left = 0 →
    (s.spotPasses r st m = true → Runs (.calSpotCheck r stage m) s fun t => StageDone t r st ∧ CalKeeps s t r) ∧
    (s.spotPasses r st m = false → Runs (.calSpotCheck r stage m) s fun t =>
      (t.fget F.SB_CAL_STAT_PENDING r).testBit st = true ∧ (t.calRgn r).step = none ∧
      t.fget (stageFld st) r = s.fget (stageFld st) r ∧
      t.fget F.SB_CAL_CNT_SPOT_FAIL r = min 255 (s.fget F.SB_CAL_CNT_SPOT_FAIL r + 1) ∧
      Posted s t 1793 2 0x06 (r * 2 ^ 22 + st) ∧ t.cal.lanes = s.cal.lanes.filter (· ≠ r) ∧ r ∈ t.cal.queue ∧
      CalKeeps s t r)

end Sys2Proof.Claim

/-- SECTION_INIT_STEP, CAL_STEP_START, CAL_UNIT_START, CAL_STEP_DONE, CAL_STEP_ABANDON and CAL_SPOT_CHECK (R242–R262, R285,
R286). -/
def Obligations.CalibrationSteps : Prop :=
  ∀ (s : State) (r st j edges : Nat) (step : InitStep) (stage : Stage) (m : CalMeas) (x : CalStep) (mid : Int) (ts : List Int)
    (inp : EdgeIn),
    InitSteps s r step m mid ts ∧ StepStart s r st ∧ UnitStart s r edges x ∧ UnitEdge s r inp x ∧ StepDone s r j m x mid ts ∧
      Abandon s r ∧ SpotCheck s r stage m x

/-- CAL_FORCE, CAL_RESTART, REDO_DESKEW, REDO_TRIM, REDO_EYE and CAL_COMMIT (R255, R256, R263, R264). -/
def Obligations.CalibrationWritesAndCommits : Prop :=
  ∀ (s : State) (r st d : Nat) (b : Bank) (taps : List Nat), CalWrites s ∧ Redo s r st ∧ Claim.Commit s r d b taps

/-- CAL_IMG_SAVE, CAL_IMG_SAVE_DONE, CAL_IMG_RESTORE, CAL_IMG_RESTORE_DONE, and a tick of a save (R275–R284). -/
def Obligations.CalibrationImages : Prop :=
  ∀ (s : State) (ok : Bool) (reason tile : Nat) (img : ImageIn) (o : ImgOp) (inp : TickIn),
    ImgSave s ∧ ImgSaveDone s ok o ∧ ImgRestore s ∧ ImgRestoreDone s img o reason tile ∧ SaveIssues s inp o

namespace Sys2Proof.Claim

/-! ### The Dispatcher under the host -/

/-- A Desk is STOPPED, and the host is told (R296, R524): its wait is over, STOP and STEP read 0, nothing else of it moves.
A resident load that waited for this may start (R309); else the rest of the Dispatcher stays. -/
def Stopped (s t : State) (d : Nat) : Prop :=
  t.deskState d = 0 ∧ t.on F.DSP_DESK_CTRL_STOP d = false ∧ t.on F.DSP_DESK_CTRL_STEP d = false ∧
    t.on F.HIF_IRQ_SRC_DESK_STOP 0 = true ∧
    t.desk d = { s.desk d with wait := .none, stepping := false, stepDone := false, halting := false, page := none } ∧
    (∀ e, e ≠ d → t.desk e = s.desk e) ∧
    (s.on F.DSP_CTRL_LOAD_RES 0 = false → t.dsp = { s.dsp with desks := t.dsp.desks } ∧
      t.reg .DSP_TILE_OK 0 = s.reg .DSP_TILE_OK 0 ∧ t.reg .DSP_STATUS 0 = s.reg .DSP_STATUS 0) ∧
    HostOnly { s with dsp := t.dsp } t
      [(F.DSP_DESK_STATUS_STATE, d), (F.DSP_DESK_CTRL_STOP, d), (F.DSP_DESK_CTRL_STEP, d), (F.DSP_DESK_PC_PC, d),
       (F.HIF_IRQ_SRC_DESK_STOP, 0), (F.DSP_STATUS_LOADING, 0), (F.DSP_TILE_OK_VALID, 0)]

/-- DESK_START (R295, R298): from STOPPED or FAULTED the Desk runs on with CAUSE 0; before READY the bit is held. -/
def DeskStart (s : State) (d : Nat) : Prop :=
  HostMay s .DSP_DESK_CTRL d → d < 4 → s.on F.DSP_DESK_CTRL_STEP d = false → s.on F.DSP_DESK_CTRL_STOP d = false →
    Runs (.deskStart d) s fun t =>
      (if s.on F.DSP_STATUS_READY 0 = false then
        t.on F.DSP_DESK_CTRL_START d = true ∧ HostOnly s t [(F.DSP_DESK_CTRL_START, d)]
       else
        t.on F.DSP_DESK_CTRL_START d = false ∧
        (if s.deskState d = 0 ∨ s.deskState d = 4 then
          t.deskState d = 1 ∧ t.fget F.DSP_DESK_STATUS_CAUSE d = 0 ∧
          HostOnly s t [(F.DSP_DESK_CTRL_START, d), (F.DSP_DESK_STATUS_STATE, d), (F.DSP_DESK_STATUS_CAUSE, d)]
         else HostOnly s t [(F.DSP_DESK_CTRL_START, d)]))

/-- DESK_STOP (R296, R387): a WAITING or STALLED Desk stops at once, a RUNNING one when its issue cost has run; the PC
holds the instruction that has not issued. -/
def DeskStop (s : State) (d : Nat) : Prop :=
  HostMay s .DSP_DESK_CTRL d → d < 4 → s.on F.DSP_STATUS_READY 0 = true → s.on F.DSP_DESK_CTRL_STEP d = false →
    s.on F.DSP_DESK_CTRL_START d = false →
    Runs (.deskStop d) s fun t =>
      (s.deskShows d = 0 ∨ s.deskShows d = 4 →
        t.on F.DSP_DESK_CTRL_STOP d = false ∧ HostOnly s t [(F.DSP_DESK_CTRL_STOP, d)]) ∧
      (s.deskShows d = 2 → Stopped s t d ∧ t.pc d = (match (s.desk d).wait with
        | .tick _ | .sem _ | .read _ _ _ => (s.desk d).pcWait % 2 ^ 21
        | _ => s.pc d)) ∧
      (s.deskShows d = 3 → Stopped s t d ∧ t.pc d = s.pc d) ∧
      (s.deskShows d = 1 → (s.desk d).readyAt ≤ s.stn.elapsed → (s.desk d).wait = .none → Stopped s t d ∧ t.pc d = s.pc d) ∧
      (s.deskShows d = 1 → s.stn.elapsed < (s.desk d).readyAt →
        t.on F.DSP_DESK_CTRL_STOP d = true ∧ HostOnly s t [(F.DSP_DESK_CTRL_STOP, d)])

/-- DESK_STEP (R297, R298): a STOPPED Desk runs for one instruction; in any other state nothing happens; before READY the
bit is held. -/
def DeskStep (s : State) (d : Nat) : Prop :=
  HostMay s .DSP_DESK_CTRL d → d < 4 → s.on F.DSP_DESK_CTRL_START d = false → s.on F.DSP_DESK_CTRL_STOP d = false →
    (s.desk d).stepping = false →
    Runs (.deskStep d) s fun t =>
      (s.on F.DSP_STATUS_READY 0 = false →
        t.on F.DSP_DESK_CTRL_STEP d = true ∧ HostOnly s t [(F.DSP_DESK_CTRL_STEP, d)]) ∧
      (s.on F.DSP_STATUS_READY 0 = true → s.deskState d = 0 →
        t.on F.DSP_DESK_CTRL_STEP d = true ∧ t.deskState d = 1 ∧
        t.desk d = { s.desk d with stepping := true, stepDone := false } ∧ (∀ e, e ≠ d → t.desk e = s.desk e) ∧
        t.dsp = { s.dsp with desks := t.dsp.desks } ∧
        HostOnly { s with dsp := t.dsp } t [(F.DSP_DESK_CTRL_STEP, d), (F.DSP_DESK_STATUS_STATE, d)]) ∧
      (s.on F.DSP_STATUS_READY 0 = true → s.deskState d ≠ 0 →
        t.on F.DSP_DESK_CTRL_STEP d = false ∧ HostOnly s t [(F.DSP_DESK_CTRL_STEP, d)])

/-- SEM_HOST_RELEASE (R9, R319, R321): a semaphore of the mask that nobody awaits is free; one that a Desk awaits is marked
to pass at the next Dispatcher cycle; one taken at this very edge stays held; no other moves, and those still held keep
their owner bits. -/
def SemHost (s : State) (m : Nat) : Prop :=
  let rel (i : Nat) : Prop := m.testBit i = true ∧ (s.freshBits .DSP_SEM_HELD 0).toNat.testBit i = false
  HostMay s .DSP_SEM_HELD 0 → m < 2 ^ 16 → s.dsp.passes = [] →
    Runs (.semHostRelease m) s fun t =>
      (∀ i, i < 16 → (t.semHeld i = true ↔
        s.semHeld i = true ∧ ¬ (rel i ∧ ∀ d, d < 4 → ¬ (s.deskState d = 2 ∧ (s.desk d).wait = .sem i)))) ∧
      (∀ i, i < 16 → ((i, s.stn.elapsed) ∈ t.dsp.passes ↔
        rel i ∧ s.semHeld i = true ∧ ∃ d, d < 4 ∧ (s.deskState d = 2 ∧ (s.desk d).wait = .sem i))) ∧
      (∀ i, i < 16 → t.semHeld i = true → t.semOwner i = s.semOwner i) ∧
      t.dsp = { s.dsp with passes := t.dsp.passes } ∧
      HostOnly { s with dsp := t.dsp } t [(F.DSP_SEM_HELD_HELD, 0), (F.DSP_SEM_OWNER_OWNER, 0)]

/-- What a write into the resident tiles leaves beside the bytes: the validity of its tile. -/
def TileWritten (s t : State) (n : Nat) : Prop :=
  (∀ k, k < 32 → k ≠ n → t.tileValid k = s.tileValid k) ∧ BitsKeep s t (fields ((F.DSP_TILE_OK_VALID, 0) :: jnlFields)) ∧
    t = { s with regs := t.regs, mem := t.mem, fresh := t.fresh, jnl := t.jnl, log := t.log
                 apb := { s.apb with slverr := false } }

/-- RESIDENT_TILE_WRITE and RESIDENT_CRC_WRITE (R304, R306): a word marks its tile invalid; the CRC word checks it. -/
def TileWrites (s : State) (x n data strb : Nat) : Prop :=
  s.por = false → s.stn.warm = false → s.stn.locked = true → data < 2 ^ 32 →
    (let a := 0x10000 + x % 0x8000 / 4 * 4
     a % 0x400 ≠ 0x3FC → Runs (.residentTileWrite x data strb) s fun t =>
      HostBytes s t a data strb ∧ t.tileValid (x % 0x8000 / 0x400) = false ∧ TileWritten s t (x % 0x8000 / 0x400)) ∧
    (let a := 0x10000 + 0x400 * n
     n < 32 → Runs (.residentCrcWrite n data strb) s fun t =>
      HostBytes s t (a + 0x3FC) data strb ∧
      (t.tileValid n = true ↔ crc32c (t.rdBytes a 1020) = leNat (t.rdBytes (a + 1020) 4)) ∧ TileWritten s t n)

/-- A resident load starts (R309): LOADING reads 1, every tile is invalid until it is checked, the image's address is taken
and no burst has gone out. -/
def LoadBegins (s t : State) : Prop :=
  t.on F.DSP_STATUS_LOADING 0 = true ∧ t.fget F.DSP_TILE_OK_VALID 0 = 0 ∧
    t.dsp = { s.dsp with cycle := t.dsp.cycle, loadBase := s.imgBase, loadSent := 0, loadErr := [] }

/-- RESIDENT_LOAD (R309): LOAD_RES stands. The load starts in a Dispatcher cycle with every Desk STOPPED or FAULTED, also
where that cycle has begun at this edge. -/
def LoadStarts (s : State) : Prop :=
  let quiet := ∀ d, d < 4 → s.deskState d = 0 ∨ s.deskState d = 4
  let inCycle := s.on F.DSP_STATUS_READY 0 = true ∧ s.count % 2 = 0 ∧ s.dsp.cycle = some s.stn.elapsed
  s.on F.DSP_STATUS_LOADING 0 = false →
    (HostMay s .DSP_CTRL 0 → Runs .residentLoad s fun t =>
      t.on F.DSP_CTRL_LOAD_RES 0 = true ∧
      (inCycle ∧ quiet → LoadBegins s t ∧ HostOnly { s with dsp := t.dsp } t
        [(F.DSP_CTRL_LOAD_RES, 0), (F.DSP_STATUS_LOADING, 0), (F.DSP_TILE_OK_VALID, 0)]) ∧
      (¬ (inCycle ∧ quiet) → HostOnly s t [(F.DSP_CTRL_LOAD_RES, 0)])) ∧
    (s.por = false → s.cycleOpen = true → s.dsp.passes = [] → quiet → s.on F.DSP_CTRL_LOAD_RES 0 = true →
      Runs (.dispatchCycle {}) s fun t =>
        LoadBegins s t ∧ Only { s with dsp := t.dsp } t [(F.DSP_STATUS_LOADING, 0), (F.DSP_TILE_OK_VALID, 0)])

/-- The tile's bytes pass their check (R304). -/
def Checks (l : List Nat) (n : Nat) : Prop :=
  crc32c ((l.drop (0x400 * n)).take 1020) = leNat ((l.drop (0x400 * n + 1020)).take 4)

/-- RESIDENT_LOAD_DONE (R309), with all 128 bursts sent: a tile read without an error response holds the bytes read, and is
valid if they pass; a tile with one is invalid; LOAD_ERR tells of either failure. Before its last burst has gone out the load
does not end. -/
def LoadDone (s : State) (l errs : List Nat) : Prop :=
  let bad (n : Nat) : Prop := n ∈ errs ∨ n ∈ s.dsp.loadErr
  s.por = false → s.on F.DSP_STATUS_LOADING 0 = true → (∀ a ∈ s.dsp.acts, s.actDue a = false) →
    (s.dsp.loadSent ≠ 128 → Runs (.residentLoadDone l errs) s fun t => t = s) ∧
    (s.dsp.loadSent = 128 → s.dsp.loadBase + 0x8000 ≤ 2 ^ 40 → l.length = 0x8000 → (∀ x, x ∈ l → x < 256) →
     Runs (.residentLoadDone l errs) s fun t =>
      (∀ n, n < 32 → ¬ bad n → t.rdBytes (0x10000 + 0x400 * n) 0x400 = (l.drop (0x400 * n)).take 0x400 ∧
        (t.tileValid n = true ↔ Checks l n)) ∧
      (∀ n, n < 32 → bad n → t.tileValid n = false) ∧
      (t.on F.DSP_STATUS_LOAD_ERR 0 = true ↔
        s.on F.DSP_STATUS_LOAD_ERR 0 = true ∨ ∃ n, n < 32 ∧ t.tileValid n = false) ∧
      t.on F.DSP_CTRL_LOAD_RES 0 = false ∧ t.on F.DSP_STATUS_LOADING 0 = false ∧
      t.on F.HIF_IRQ_SRC_LOAD_DONE 0 = true ∧
      BytesKeep s t (fun a => jnlByte a ∨ (0x10000 ≤ a ∧ a < 0x18000)) ∧
      BitsKeep s t (fields ([(F.DSP_TILE_OK_VALID, 0), (F.DSP_STATUS_LOAD_ERR, 0), (F.DSP_STATUS_LOADING, 0),
        (F.DSP_CTRL_LOAD_RES, 0), (F.HIF_IRQ_SRC_LOAD_DONE, 0)] ++ jnlFields)) ∧
      t = { s with regs := t.regs, mem := t.mem, fresh := t.fresh, jnl := t.jnl, log := t.log, freeCtr := t.freeCtr })

/-- TILE_SCRUB (R308): the next valid tile from the turn's place is taken; a failure makes it invalid and is reported. -/
def Scrub (s : State) (i : Nat) (bad : Bool) : Prop :=
  let n := (s.dsp.scrub + i) % 64
  s.por = false → s.stn.locked = true → s.on F.DSP_CTRL_SCRUB_EN 0 = true → s.count % 16384 = 0 → i < 64 →
    s.scrubValid n = true → (∀ j, j < i → s.scrubValid ((s.dsp.scrub + j) % 64) = false) →
    Runs (.tileScrub bad) s fun t =>
      t.dsp = { s.dsp with scrub := (n + 1) % 64 } ∧ (bad = false → t = { s with dsp := t.dsp }) ∧
      (bad = true → t.scrubValid n = false ∧ t.on F.DSP_STATUS_SCRUB_ERR 0 = true ∧ Posted s t 1799 5 0x04 n ∧
        (∀ k, k < 32 → k ≠ n → t.tileValid k = s.tileValid k) ∧
        Only { s with dsp := t.dsp, log := t.log } t
          [(F.DSP_STATUS_SCRUB_ERR, 0), if n < 32 then (F.DSP_TILE_OK_VALID, 0) else (F.DSP_FRAME_VALID, (n - 32) / 4)])

/-- The frame to be filled (R312): the lowest that is neither VALID nor FILLING; else the VALID one without PIN whose latest
fetch lies longest ago. -/
def Chosen (s : State) (f : Nat) : Prop :=
  let empty (g : Nat) : Prop := s.on F.DSP_FRAME_VALID g = false ∧ s.on F.DSP_FRAME_FILLING g = false
  let free (g : Nat) : Prop := s.on F.DSP_FRAME_VALID g = true ∧ s.on F.DSP_FRAME_PIN g = false
  f < 8 ∧ ((empty f ∧ ∀ g, g < f → ¬ empty g) ∨
    ((∀ g, g < 8 → ¬ empty g) ∧ free f ∧
      ∀ g, g < 8 → free g → s.frameAge g ≤ s.frameAge f ∧ (g < f → s.frameAge g < s.frameAge f)))

/-- PAGE_FILL_START (R311, R312, R315): a page that a STALLED Desk awaits is FILLING the chosen frame, none of its bursts sent
yet; with PAGE_EN 0 nothing starts. -/
def FillStart (s : State) (p f : Nat) : Prop :=
  s.por = false → (∃ d, d < 4 ∧ (s.deskState d = 3 ∧ (s.desk d).page = some p)) → p < 4096 →
    (s.on F.DSP_CTRL_PAGE_EN 0 = false → Runs (.pageFillStart p) s fun t => t = s) ∧
    (s.on F.DSP_CTRL_PAGE_EN 0 = true → s.dsp.imgs = [] →
      (∀ g, g < 8 → ¬ (s.on F.DSP_FRAME_VALID g = true ∧ s.fget F.DSP_FRAME_PAGE g = p)) → (∀ x, x ∈ s.dsp.fills → x.page ≠ p) →
      Chosen s f →
      Runs (.pageFillStart p) s fun t =>
        t.on F.DSP_FRAME_VALID f = false ∧ t.on F.DSP_FRAME_FILLING f = true ∧ t.fget F.DSP_FRAME_PAGE f = p ∧
        t.fget F.DSP_PAGE_CNT_MISSES 0 = (s.fget F.DSP_PAGE_CNT_MISSES 0 + 1) % 2 ^ F.DSP_PAGE_CNT_MISSES.w ∧
        t.dsp = { s.dsp with fills := s.dsp.fills ++ [{ frame := f, page := p }] } ∧
        Only { s with dsp := t.dsp } t
          [(F.DSP_FRAME_VALID, f), (F.DSP_FRAME_FILLING, f), (F.DSP_FRAME_PAGE, f), (F.DSP_PAGE_CNT_MISSES, 0)])

/-- A fill fails (R313, R314, R386): the frame is invalid and loses its PIN bit; every Desk that waits for the page faults
with cause PAGE. -/
def FillFails (s t : State) (f : Fill) : Prop :=
  t.on F.DSP_FRAME_FILLING f.frame = false ∧ t.on F.DSP_FRAME_VALID f.frame = false ∧ t.on F.DSP_FRAME_PIN f.frame = false ∧
    (∀ d, d < 4 → s.deskState d = 3 → (s.desk d).page = some f.page →
      t.deskState d = 4 ∧ t.fget F.DSP_DESK_STATUS_CAUSE d = 4) ∧
    (∀ d, d < 4 → ¬ (s.deskState d = 3 ∧ (s.desk d).page = some f.page) →
      t.deskState d = s.deskState d ∧ t.pc d = s.pc d ∧ t.desk d = s.desk d) ∧ BytesKeep s t (fun _ => False)

/-- PAGE_FILL_DONE (R313, R314): with its 16 bursts sent, a page whose tiles pass is in its frame and its Desks run; one that
fails is fetched once more from its first burst; a second failure fails the fill, and so does an error response to any burst
sent. -/
def FillDone (s : State) (f : Fill) (l : List Nat) (resp : AxiResp) : Prop :=
  s.por = false → f ∈ s.dsp.fills → (∀ x, x ∈ s.dsp.fills → x.page = f.page → x = f) → f.frame < 8 → f.page < 4096 →
    l.length = 4096 → (∀ x, x ∈ l → x < 256) →
    (f.sent = 16 → resp = .okay → (∀ i, i < 4 → Checks l i) → Runs (.pageFillDone f.page l resp) s fun t =>
      t.rdBytes (0x18000 + 0x1000 * f.frame) 4096 = l ∧
      BytesKeep s t (fun a => 0x18000 + 0x1000 * f.frame ≤ a ∧ a < 0x19000 + 0x1000 * f.frame) ∧
      t.on F.DSP_FRAME_FILLING f.frame = false ∧ t.on F.DSP_FRAME_VALID f.frame = true ∧
      (∀ d, d < 4 → (if s.deskState d = 3 ∧ (s.desk d).page = some f.page then
        t.deskState d = 1 ∧ t.desk d = { s.desk d with page := none } else t.deskState d = s.deskState d ∧ t.desk d = s.desk d)) ∧
      t.dsp = { s.dsp with desks := t.dsp.desks, fills := s.dsp.fills.filter fun x => x.frame != f.frame } ∧
      Only { s with dsp := t.dsp, mem := t.mem } t
        [(F.DSP_FRAME_FILLING, f.frame), (F.DSP_FRAME_VALID, f.frame), (F.DSP_DESK_STATUS_STATE, 0),
         (F.DSP_DESK_STATUS_STATE, 1), (F.DSP_DESK_STATUS_STATE, 2), (F.DSP_DESK_STATUS_STATE, 3)]) ∧
    (f.sent = 16 → resp = .okay → (∃ i, i < 4 ∧ ¬ Checks l i) → f.again = false →
      Runs (.pageFillDone f.page l resp) s fun t =>
        t.fget F.DSP_PAGE_CNT_REFETCH 0 = satU F.DSP_PAGE_CNT_REFETCH.w (s.fget F.DSP_PAGE_CNT_REFETCH 0 + 1) ∧
        Posted s t 1799 5 0x03 f.page ∧
        t.dsp = { s.dsp with fills := s.dsp.fills.map fun x => if x.frame = f.frame then { x with again := true, sent := 0 } else x } ∧
        Only { s with dsp := t.dsp, log := t.log } t [(F.DSP_PAGE_CNT_REFETCH, 0)]) ∧
    (f.sent = 16 → resp = .okay → (∃ i, i < 4 ∧ ¬ Checks l i) → f.again = true → Runs (.pageFillDone f.page l resp) s fun t =>
      FillFails s t f) ∧
    (f.sent = 0 ∨ (f.sent < 16 ∧ resp = .okay) → Runs (.pageFillDone f.page l resp) s fun t => t = s) ∧
    (f.sent ≠ 0 → resp ≠ .okay → Runs (.pageFillDone f.page l resp) s fun t =>
      FillFails s t f ∧ t.on F.HIF_AXI_STATUS_ERR_SEEN 0 = true ∧ t.fget F.HIF_AXI_STATUS_LAST_USER 0 = 0)

/-- A write to DSP_IMG applies: the register takes the bytes written, and every frame is invalid and loses its PIN bit; with no
byte strobe at 1 nothing is written (R512). -/
def ImageMoves (s t : State) (w : ImgReg) (data strb : Nat) : Prop :=
  let m := (imgReg w).info.rw &&& strobeMask strb
  t.reg (imgReg w) 0 = (s.reg (imgReg w) 0 &&& ~~~ m) ||| (BitVec.ofNat 32 data &&& m) ∧
    (∀ f, f < 8 → if strb % 16 = 0 then t.on F.DSP_FRAME_VALID f = s.on F.DSP_FRAME_VALID f ∧
        t.on F.DSP_FRAME_PIN f = s.on F.DSP_FRAME_PIN f
      else t.on F.DSP_FRAME_VALID f = false ∧ t.on F.DSP_FRAME_PIN f = false)

/-- The fields that a change of the image may move. -/
def imageFields (w : ImgReg) : List (Fld × Nat) :=
  (⟨imgReg w, 0, 32⟩, 0) :: (List.range 8).flatMap fun f => [(F.DSP_FRAME_VALID, f), (F.DSP_FRAME_PIN, f)]

/-- DSP_IMG_WRITE and DSP_IMG_APPLY (R394): the write waits while a frame is FILLING, then it applies. -/
def ImageWrites (s : State) (w : ImgReg) (data strb : Nat) : Prop :=
  data < 2 ^ 32 →
    (HostMay s (imgReg w) 0 → Runs (.dspImgWrite w data strb) s fun t =>
      if s.dsp.fills = [] then ImageMoves s t w data strb ∧ HostOnly s t (imageFields w)
      else (∃ x, t.dsp = { s.dsp with imgs := s.dsp.imgs ++ [x] } ∧
          (x.addr = regAddr (imgReg w) 0 ∧ x.val = data ∧ BitVec.ofNat 32 x.mask = strobeMask strb)) ∧
        t = { s with dsp := t.dsp, apb := { s.apb with slverr := false } }) ∧
    (s.por = false → s.regReady (imgReg w) 0 = true →
      (s.dsp.fills = [] →
        s.dsp.imgs = [{ src := 5, addr := regAddr (imgReg w) 0, val := data, mask := (strobeMask strb).toNat }] →
        Runs .dspImgApply s fun t =>
          ImageMoves s t w data strb ∧ t.dsp = { s.dsp with imgs := [] } ∧ BytesKeep s t jnlByte ∧
          BitsKeep s t (fields (imageFields w ++ jnlFields))) ∧
      (s.dsp.fills ≠ [] → Runs .dspImgApply s fun t => t = s))

/-- DMEM_DATA_WRITE and DMEM_DATA_READ (R10, R317): the word at DSP_DMEM_ADDR takes the bytes written and the address goes
on by a word; a read with an uncorrectable error returns the word as stored and sets DMEM_ERR. -/
def DataMemory (s : State) (data strb : Nat) : Prop :=
  let a := 0x100000 + 4 * s.fget F.DSP_DMEM_ADDR_WORD 0
  HostMay s .DSP_DMEM_DATA 0 → data < 2 ^ 32 →
    (Runs (.dmemDataWrite data strb) s fun t =>
      HostBytes s t a data strb ∧ t.fget F.DSP_DMEM_ADDR_WORD 0 = (s.fget F.DSP_DMEM_ADDR_WORD 0 + 1) % 4096 ∧
      BitsKeep s t (fields ((F.DSP_DMEM_ADDR_WORD, 0) :: jnlFields)) ∧
      t = { s with regs := t.regs, mem := t.mem, fresh := t.fresh, jnl := t.jnl, log := t.log
                   apb := { s.apb with slverr := false } }) ∧
    (Runs .dmemDataRead s fun t =>
      t.apb = { rdata := s.rdWord a } ∧ t.on F.DSP_STATUS_DMEM_ERR 0 = true ∧
      Only { s with apb := t.apb } t [(F.DSP_STATUS_DMEM_ERR, 0)])

/-! ### Stamped actions -/

/-- Nothing changes but the listed fields and what belongs to the Journal's entries. -/
def JnlOnly (s t : State) (l : List (Fld × Nat)) : Prop :=
  BitsKeep s t (fields (l ++ jnlFields)) ∧ BytesKeep s t jnlByte ∧ (∀ x, x ≠ srcLog → t.source x = s.source x) ∧
    t = { s with regs := t.regs, mem := t.mem, fresh := t.fresh, jnl := t.jnl, log := t.log }

/-- The one action that waits is due at this tick edge, in a Desk's name. -/
def DueNow (s : State) (x : Act) : Prop := s.por = false ∧ s.dsp.acts = [x] ∧ x.desk < 4 ∧ x.tick = s.count

/-- STAMPED_ACTION_APPLY (R324, R374, R375, R378, R379): what an action at the Station does, its entry gone. PRIO writes its
Section's field of GOV_PRIO, with an entry in the Journal (R26). -/
def StationApplies (s : State) (x : Act) (v k : Nat) : Prop :=
  DueNow s x →
    (x.op = .step v → Runs (.stampedActionApply []) s fun t =>
      t.dsp = { s.dsp with acts := [] } ∧ t.mtr = { s.mtr with marks := s.mtr.marks ++ [(s.stn.elapsed, .step v)] } ∧
      t.on F.MTR_STEP_SEQ_NOT_READY 0 = true ∧ Only { s with dsp := t.dsp, mtr := t.mtr } t [(F.MTR_STEP_SEQ_NOT_READY, 0)]) ∧
    (x.op = .phase v → Runs (.stampedActionApply []) s fun t =>
      t = { s with dsp := { s.dsp with acts := [] }
                   mtr := { s.mtr with marks := s.mtr.marks ++ [(s.stn.elapsed, .phase v)] } }) ∧
    (x.op = .envcap v → Runs (.stampedActionApply []) s fun t =>
      let c := if v.testBit 16 then some (v % 2 ^ 16) else none
      t.dsp = { s.dsp with acts := [] } ∧ t.gov = { s.gov with cap := c } ∧
      t.fget F.GOV_ENV_STATUS_L 0 = min (s.fget F.GOV_ENV_STATUS_IN_FORCE 0) (c.getD (s.fget F.GOV_ENV_STATUS_IN_FORCE 0)) ∧
      Only { s with dsp := t.dsp, gov := t.gov } t [(F.GOV_ENV_STATUS_L, 0)]) ∧
    (x.op = .prio k v → v < 16 → k < 64 → s.stn.locked = true → Runs (.stampedActionApply []) s fun t =>
      t.prio k = v ∧ t.dsp = { s.dsp with acts := [] } ∧
      JnlOnly { s with dsp := t.dsp } t [(⟨.GOV_PRIO, 4 * (k % 8), 4⟩, k / 8)])

/-- STAMPED_ACTION_APPLY of a write to GOV_CFG, as of any Station register whose write starts nothing (R324, R358, R475):
the register takes the word, and the Journal an entry of the Desk; with a lane failed it applies and is counted, with both
failed it is lost and reported (R497). -/
def WriteApplies (s : State) (x : Act) (v : Nat) (lane : Lane) : Prop :=
  let m := Reg.GOV_CFG.info.rw
  let w := (s.reg .GOV_CFG 0 &&& ~~~ m) ||| (BitVec.ofNat 32 v &&& m)
  DueNow s x → s.dsp.held = [] → s.stn.locked = true → x.slot.isSome = true → x.scope = 0 →
    x.addr = regAddr .GOV_CFG 0 → v < 2 ^ 32 → x.op = .write v (2 ^ 32 - 1) false v →
    Runs (.stampedActionApply [(1088, lane)]) s fun t =>
      t.dsp = { s.dsp with acts := [] } ∧
      (lane = .good → t.reg .GOV_CFG 0 = w ∧ JnlOnly { s with dsp := t.dsp } t [(⟨.GOV_CFG, 0, 32⟩, 0)]) ∧
      (lane = .one → t.reg .GOV_CFG 0 = w ∧ t.on F.STN_DEP_STATUS_ACT_LANE 0 = true ∧
        t.fget F.STN_DEP_CNT_ACT_CORR 0 = satU 8 (s.fget F.STN_DEP_CNT_ACT_CORR 0 + 1) ∧
        JnlOnly { s with dsp := t.dsp } t
          [(⟨.GOV_CFG, 0, 32⟩, 0), (F.STN_DEP_STATUS_ACT_LANE, 0), (F.STN_DEP_CNT_ACT_CORR, 0)]) ∧
      (lane = .both → t.on F.STN_DEP_STATUS_ACT_LOST 0 = true ∧ t.on F.STN_DEP_STATUS_ACT_LANE 0 = true ∧
        Posted s t (1800 + x.desk) 0 0x21 (x.t % 2 ^ 16 * 2 ^ 16 + 1088) ∧
        t.fget F.STN_DEP_CNT_ACT_CORR 0 = satU 8 (s.fget F.STN_DEP_CNT_ACT_CORR 0 + 2) ∧
        Only { s with dsp := t.dsp, log := t.log } t
          [(F.STN_DEP_STATUS_ACT_LANE, 0), (F.STN_DEP_STATUS_ACT_LOST, 0), (F.STN_DEP_CNT_ACT_CORR, 0)])

/-- STAMPED_ACTION_APPLY at a region held dark by cause FAULT (R501): the write is held there. Before its tick no action
applies (R324). -/
def ActionWaits (s : State) (x : Act) (r : Nat) : Prop :=
  (DueNow s x → r < 1024 → s.on F.SB_GATE_FAULT r = true → x.scope = 0 → x.addr = regAddr .SB_STRETCH r →
    x.op = .write 0x21 0xFF true 0x21 → Runs (.stampedActionApply []) s fun t =>
      (∃ h, t.dsp.held = s.dsp.held ++ [h] ∧ (h.unit = r ∧ h.addr = x.addr ∧ h.val = 0x21 ∧ h.mask = 0xFF ∧ h.desk = x.desk)) ∧
      t.dsp.acts = [] ∧ t = { s with dsp := t.dsp }) ∧
  (s.por = false → (∀ a, a ∈ s.dsp.acts → s.count < a.tick) → Runs (.stampedActionApply []) s fun t => t = s)

end Sys2Proof.Claim

/-- DESK_START, DESK_STOP, DESK_STEP and SEM_HOST_RELEASE (R295–R298, R319, R321, R387). -/
def Obligations.DesksUnderTheHost : Prop :=
  ∀ (s : State) (d m : Nat), Claim.DeskStart s d ∧ Claim.DeskStop s d ∧ Claim.DeskStep s d ∧ SemHost s m

/-- RESIDENT_TILE_WRITE, RESIDENT_CRC_WRITE, RESIDENT_LOAD, RESIDENT_LOAD_DONE and TILE_SCRUB: the validity of the program
store follows its check words (R304, R306, R308, R309). -/
def Obligations.ResidentTiles : Prop :=
  ∀ (s : State) (x n data strb i : Nat) (l errs : List Nat) (bad : Bool),
    TileWrites s x n data strb ∧ LoadStarts s ∧ LoadDone s l errs ∧ Scrub s i bad

/-- PAGE_FILL_START, PAGE_FILL_DONE, DSP_IMG_WRITE, DSP_IMG_APPLY, DMEM_DATA_WRITE and DMEM_DATA_READ (R311–R317, R386,
R394). -/
def Obligations.PagingAndDataMemory : Prop :=
  ∀ (s : State) (p g data strb : Nat) (f : Fill) (l : List Nat) (resp : AxiResp) (w : ImgReg),
    FillStart s p g ∧ FillDone s f l resp ∧ ImageWrites s w data strb ∧ DataMemory s data strb

/-- STAMPED_ACTION_APPLY: an action applies at its tick and not before, unless both lanes failed or its unit is held dark
(R324, R358, R374, R375, R378, R379, R497, R501). -/
def Obligations.StampedActionsApply : Prop :=
  ∀ (s : State) (x : Act) (v k r : Nat) (lane : Lane),
    StationApplies s x v k ∧ WriteApplies s x v lane ∧ ActionWaits s x r

namespace Sys2Proof.Claim

/-! ### The Governor -/

/-- A write of the host beside which units may post: the listed fields and what belongs to the Journal's entry. -/
def HostFields (s t : State) (l : List (Fld × Nat)) : Prop :=
  BitsKeep s t (fields (l ++ jnlFields)) ∧ BytesKeep s t jnlByte ∧
    t = { s with regs := t.regs, mem := t.mem, fresh := t.fresh, jnl := t.jnl, log := t.log
                 apb := { s.apb with slverr := false } }

/-- The envelope `v` is in force (R401): L is the lesser of it and the cap. -/
def InForce (s t : State) (v : Nat) : Prop :=
  t.fget F.GOV_ENV_STATUS_IN_FORCE 0 = v ∧
    t.fget F.GOV_ENV_STATUS_L 0 = (match s.gov.cap with
      | some c => min v (c % 2 ^ 16)
      | none => v)

/-- GOV_ENV_WRITE (R399, R401): the value written is in force at once; a change is reported. -/
def EnvWrite (s : State) (v : Nat) : Prop :=
  HostMay s .GOV_ENV 0 → v < 2 ^ 16 →
    Runs (.govEnvWrite v) s fun t =>
      t.fget F.GOV_ENV_BUDGET 0 = v ∧ t.gov = { s.gov with budgetAt := some s.stn.elapsed } ∧
      t.fget F.GOV_ENV_STATUS_IN_FORCE 0 = v ∧
      (v ≠ s.fget F.GOV_ENV_STATUS_IN_FORCE 0 → InForce s t v ∧ HostPosted s t 1794 3 0x02 (v * 2 ^ 16)) ∧
      (v = s.fget F.GOV_ENV_STATUS_IN_FORCE 0 → ∀ x, x ≠ srcLog → t.source x = s.source x) ∧
      HostFields { s with gov := t.gov } t [(F.GOV_ENV_BUDGET, 0), (F.GOV_ENV_STATUS_IN_FORCE, 0), (F.GOV_ENV_STATUS_L, 0)]

/-- ENV_SAMPLE (R399–R401): two equal valid samples in a row are accepted, once in a run of equal ones (log entry 76); the
value comes into force unless the register was written at this edge. -/
def EnvSample (s : State) (valid : Bool) (v : Nat) : Prop :=
  let again := valid = true ∧ s.gov.sample = some v
  let accepted := again ∧ s.gov.portRun = false
  s.por = false → s.stn.locked = true → s.count % 64 = 0 → v < 2 ^ 16 →
    Runs (.envSample valid v) s fun t =>
      t.gov = { s.gov with sample := if valid then some v else none, port := if accepted then some v else s.gov.port
                           portRun := decide again } ∧
      (accepted → s.gov.budgetAt ≠ some s.stn.elapsed → v ≠ s.fget F.GOV_ENV_STATUS_IN_FORCE 0 →
        InForce s t v ∧ Posted s t 1794 3 0x02 (v * 2 ^ 16 + 1) ∧
        Only { s with gov := t.gov, log := t.log } t [(F.GOV_ENV_STATUS_IN_FORCE, 0), (F.GOV_ENV_STATUS_L, 0)]) ∧
      (¬ accepted ∨ s.gov.budgetAt = some s.stn.elapsed ∨ v = s.fget F.GOV_ENV_STATUS_IN_FORCE 0 → t = { s with gov := t.gov })

/-- LONG_WHISTLE_DUE (R403): the Whistles whose tick has come stop being pending. -/
def WhistlesDue (s : State) : Prop :=
  s.por = false → Runs .longWhistleDue s fun t =>
    (∀ w, w ∈ t.gov.whistles ↔ w ∈ s.gov.whistles ∧ s.count < w.t) ∧
    t = { s with gov := { s.gov with whistles := t.gov.whistles } }

/-- LOAD_HINT_STROBE and LOAD_HINT_STROBE_END (R431, R562): the strobe rises with the code that comes next, the previous one
low for WIDTH tk and 8 tk, and stands for WIDTH tk; at its end the next code stands already where its strobe may rise 8 tk
later. -/
def Strobes (s : State) (n c at_ : Nat) (q : List (Nat × Nat)) : Prop :=
  let w := if s.fget F.GOV_LH_CFG_WIDTH 0 = 0 then 1 else s.fget F.GOV_LH_CFG_WIDTH 0
  s.por = false →
    ((s.lhRail n).queue = (c, at_) :: q → (s.lhRail n).stb = false → at_ ≤ s.count →
      ((s.lhRail n).fell = none ∨ ∃ f, (s.lhRail n).fell = some f ∧ (f + w ≤ s.stn.elapsed ∧ f + 8 ≤ s.stn.elapsed)) →
      Runs (.loadHintStrobe n) s fun t =>
        t.lhRail n = { s.lhRail n with code := c, stb := true, rose := s.stn.elapsed, queue := q } ∧
        (∀ m, m ≠ n → t.lhRail m = s.lhRail m) ∧ t = { s with gov := { s.gov with lh := t.gov.lh } }) ∧
    ((s.lhRail n).stb = true → (s.lhRail n).rose + w ≤ s.stn.elapsed → Runs (.loadHintStrobeEnd n) s fun t =>
        t.lhRail n = { s.lhRail n with stb := false, fell := some s.stn.elapsed, code := (t.lhRail n).code } ∧
        (t.lhRail n).code = (match (s.lhRail n).queue with
          | x :: _ => if x.2 ≤ s.count + 8 ∧ w ≤ 8 then x.1 else (s.lhRail n).code
          | [] => (s.lhRail n).code) ∧
        (∀ m, m ≠ n → t.lhRail m = s.lhRail m) ∧ t = { s with gov := { s.gov with lh := t.gov.lh } }) ∧
    ((s.lhRail n).stb = true → s.stn.elapsed < (s.lhRail n).rose + w →
      Runs (.loadHintStrobe n) s (fun t => t = s) ∧ Runs (.loadHintStrobeEnd n) s fun t => t = s)

/-- GOVERNOR_CONTROL_TICK (R402, R406, R423, R499): the figures of P_now and P_f against L; with EN 0, or where the duplicate
datapaths disagree, nothing is decided, and after a disagreement this control period sends and changes nothing. -/
def ControlTick (s : State) (mismatch : Bool) : Prop :=
  let exceeds := (Frac.ofInt (100 * s.fget F.GOV_ENV_STATUS_L 0 : Nat)).lt s.powerForecast
  s.por = false → s.stn.locked = true → s.count % 1600 = 0 → (s.on F.GOV_CTRL_EN 0 = false ∨ mismatch = true) →
    Runs (.governorControlTick mismatch) s fun t =>
      t.gov.hush = mismatch ∧ t.fget F.GOV_POWER_P_NOW 0 = tenths s.powerNow ∧
      t.fget F.GOV_POWER_P_F 0 = tenths s.powerForecast ∧
      t.on F.GOV_STATUS_OVER 0 = exceeds ∧ (exceeds = true → t.on F.GOV_STATUS_OVER_SEEN 0 = true) ∧
      t.on F.GOV_STATUS_SLEW_LIM 0 = false ∧ t.on F.GOV_STATUS_AT_FLOOR 0 = false ∧
      t.dsp = s.dsp ∧ t.pmb = s.pmb ∧ t.mtr = s.mtr ∧ t.gov.rails = s.gov.rails ∧ t.gov.whistles = s.gov.whistles ∧
      (mismatch = true → t.on F.STN_DEP_STATUS_GOV_CMP 0 = true) ∧ BytesKeep s t (fun _ => False)

/-- GOVERNOR_CONTROL_TICK over the limit, one Section open to a raise and every other OFF (R406, R407, R411): its DROP_E is
to rise 64 tk later, whatever SLEW is. -/
def TakesAStep (s : State) (k : Nat) : Prop :=
  s.por = false → s.stn.locked = true → s.count % 1600 = 0 → s.on F.GOV_CTRL_EN 0 = true → k < s.build.nSections →
    (Frac.ofInt (100 * s.fget F.GOV_ENV_STATUS_L 0 : Nat)).lt s.powerForecast = true →
    (∀ j, j < s.build.nSections → j ≠ k → s.secState j = 0) → s.secState k = 3 →
    s.on F.SEC_STATUS_SAFE_ACTIVE k = false → s.on F.SEC_CTRL_HEADWAY k = false →
    (∃ r, r ∈ s.build.regionsOf k ∧ s.clk r ≠ 2) → s.fget F.GOV_SEC_STAT_DROP_E k < 31 →
    s.fget F.GOV_LIMITS_FW_FLOOR 0 + 4096 ≤ s.fwGov k → (s.sec k).marginUp = false → s.pmb.started = false → s.dsp.acts = [] →
    Runs (.governorControlTick false) s fun t =>
      (∃ a, t.dsp.acts = [a] ∧ (a.desk = 4 ∧ a.tick = s.count + 64 ∧ a.late = false ∧ a.op = .drop false [(k, 1)])) ∧
      t.on F.GOV_STATUS_OVER 0 = true ∧ t.on F.GOV_STATUS_AT_FLOOR 0 = false ∧ t.on F.GOV_STATUS_SLEW_LIM 0 = false ∧
      t.pmb = s.pmb ∧ t.mtr = s.mtr ∧ BytesKeep s t (fun _ => False)

/-- STEP_COUNT_APPLY (R404, R412, R423, R497, R499): the count moves by 1, and is reported with its reason; a READY Section has
a frequency change to the word it then runs at, with its change edge (HELD_V may change with it, which R441 reports before it).
With one lane failed it applies and is counted, with
both it is lost there and reported. With EN 0 the count is held; in a control period whose datapaths disagree it waits
(log entry 78). -/
def StepApplies (s : State) (a : Act) (k reason x : Nat) (lane : Lane) : Prop :=
  let e (u : State) : Nat := u.fget F.GOV_SEC_STAT_DROP_E k
  let m (u : State) : Nat := u.fget F.GOV_SEC_STAT_DROP_M k
  let stepped (n : Nat) : Nat := if reason % 2 = 1 then min 31 (n + 1) else n - 1
  let pay (t : State) : Nat := k * 2 ^ 26 + e t * 2 ^ 18 + m t * 2 ^ 10 + reason * 2 ^ 6 + a.late.toNat
  s.por = false → s.dsp.acts = [a] → a.desk = 4 → a.tick = s.count → k < s.build.nSections → k < 64 →
    (1 ≤ reason ∧ reason ≤ 4) → a.op = .drop (reason % 2 == 0) [(k, reason)] →
    Runs (.stepCountApply [(1024 + k, lane)]) s fun t =>
      (s.gov.hush = true → t = s) ∧
      (s.gov.hush = false → s.on F.GOV_CTRL_EN 0 = false → t = { s with dsp := { s.dsp with acts := [] } }) ∧
      (s.gov.hush = false → s.on F.GOV_CTRL_EN 0 = true →
        t.dsp = { s.dsp with acts := [] } ∧
        t.fget F.STN_DEP_CNT_ACT_CORR 0 = (match lane with
          | .good => s.fget F.STN_DEP_CNT_ACT_CORR 0
          | .one => satU 8 (s.fget F.STN_DEP_CNT_ACT_CORR 0 + 1)
          | .both => satU 8 (s.fget F.STN_DEP_CNT_ACT_CORR 0 + 2)) ∧
        (lane ≠ .good → t.on F.STN_DEP_STATUS_ACT_LANE 0 = true) ∧
        (lane = .both → t.on F.STN_DEP_STATUS_ACT_LOST 0 = true ∧
          Posted s t (1024 + k) 0 0x21 (a.t % 2 ^ 16 * 2 ^ 16 + (1024 + k)) ∧
          Only { s with dsp := t.dsp, log := t.log } t
            [(F.STN_DEP_STATUS_ACT_LANE, 0), (F.STN_DEP_STATUS_ACT_LOST, 0), (F.STN_DEP_CNT_ACT_CORR, 0)]) ∧
        (lane ≠ .both →
          e t = (if reason ≤ 2 then stepped (e s) else e s) ∧ m t = (if reason ≤ 2 then m s else stepped (m s)) ∧
          (t.on F.GOV_SEC_STAT_HELD_V k = s.on F.GOV_SEC_STAT_HELD_V k → PostedIn s t 1794 3 0x01 (pay t)) ∧
          (s.secState k ≠ 3 → Posted s t 1794 3 0x01 (pay t) ∧
            Only { s with dsp := t.dsp, log := t.log } t
              [(F.GOV_SEC_STAT_DROP_E, k), (F.GOV_SEC_STAT_DROP_M, k), (F.STN_DEP_STATUS_ACT_LANE, 0),
               (F.STN_DEP_CNT_ACT_CORR, 0)]) ∧
          (s.secState k = 3 → lane = .good → (s.sec k).edgeAt ≠ some s.count → runsAt t k (s.sec k).req x →
            Moved s t k x ∧ (t.sec k).req = (s.sec k).req ∧ InSection { s with dsp := t.dsp } t k)))

/-- The window's judgement (R414): 64 × ACT tk of activity on the bus, or a code 0x17. -/
def Pressed (s : State) (k : Nat) : Prop :=
  64 * s.fget F.GOV_MARGIN_ACT 0 ≤ (s.fget F.SEC_SYM_TK_COUNT k + 2 ^ 32 - (s.sec k).symTkAt) % 2 ^ 32 ∨
    (s.sec k).win17 = true

/-- MARGIN_WINDOW (R414, R415): WINS pressure windows in a row ask for a raise of DROP_M, RETRY quiet ones for a lowering, and
the count of quiet windows goes on until that lowering is made; a window that is not judged ends both runs (log entry 34). -/
def MarginWindow (s : State) (k : Nat) : Prop :=
  let c := { s.sec k with symTkAt := s.fget F.SEC_SYM_TK_COUNT k, win17 := false }
  let wins := if s.fget F.GOV_MARGIN_WINS 0 = 0 then 1 else s.fget F.GOV_MARGIN_WINS 0
  s.por = false → s.stn.locked = true → s.count % 16384 = 0 → k < s.build.nSections → (s.sec k).symTkAt < 2 ^ 32 →
    Runs (.marginWindow k) s fun t =>
      (s.on F.GOV_CTRL_MARGIN_EN 0 = false ∨ s.govExcluded k = true → t.sec k = { c with pressRun := 0, quietRun := 0 }) ∧
      (s.on F.GOV_CTRL_MARGIN_EN 0 = true → s.govExcluded k = false → Pressed s k →
        t.sec k = (if wins ≤ c.pressRun + 1 then { c with pressRun := 0, quietRun := 0, marginUp := true, marginDn := false }
          else { c with pressRun := c.pressRun + 1, quietRun := 0 })) ∧
      (s.on F.GOV_CTRL_MARGIN_EN 0 = true → s.govExcluded k = false → ¬ Pressed s k →
        t.sec k = (if s.fget F.GOV_MARGIN_RETRY 0 ≤ c.quietRun + 1 then
            { c with pressRun := 0, quietRun := c.quietRun + 1, marginDn := true, marginUp := false }
          else { c with pressRun := 0, quietRun := c.quietRun + 1 })) ∧
      (∀ j, j ≠ k → t.sec j = s.sec j) ∧ t = { s with secs := t.secs }

/-- No rail but `n` changes what the Governor holds of it. -/
def OtherRails (s t : State) (n : Nat) : Prop := ∀ m, m ≠ n → t.govRail m = s.govRail m

/-- The raise step of a rail is confirmed: by a reading within VTOL of VCMD, or without telemetry by VSETTLE (R419). -/
def Confirmed (s : State) (n since : Nat) : Prop :=
  if s.on F.GOV_RAIL_CFG_TELEM n = true then
    ∃ mv, (s.govRail n).reading = some mv ∧ s.fget F.GOV_RAIL_STAT_VCMD n ≤ mv + s.fget F.GOV_CFG_VTOL 0
  else since + s.settleTk ≤ s.stn.elapsed

/-- A rail may change: its telemetry reads, its VOUT_MODE is supported, PMB_EN is 1 (R422, R425), and the Governor's datapaths
agree in this control period (R499). -/
def MayChange (s : State) (n : Nat) : Prop :=
  s.on F.GOV_RAIL_STAT_TELEM_FAIL n = false ∧ s.on F.GOV_RAIL_STAT_MODE_ERR n = false ∧ s.on F.GOV_CTRL_PMB_EN 0 = true ∧
    s.gov.hush = false

/-- VOLTAGE_RAISE_STEP, VOLTAGE_CONFIRM and VOLTAGE_CONFIRM_TIMEOUT (R419, R422, R499): a step decided takes VCMD and sends its
VOUT_COMMAND; confirmed, it takes VCONF where the rail may change; at the end of VSETTLE without that it ends, and is reported
with the rail's last READ_VOUT. -/
def RaiseSteps (s : State) (n v since : Nat) : Prop :=
  let confirms := Confirmed s n since ∧ MayChange s n
  s.por = false →
    ((s.govRail n).decided = some v → v < 1024 →
      (s.gov.hush = false → Runs (.voltageRaiseStep n) s fun t =>
        t.fget F.GOV_RAIL_STAT_VCMD n = v ∧ t.on F.GOV_RAIL_STAT_RAISING n = true ∧
        t.fget F.GOV_RAIL_STAT_VCONF n = s.fget F.GOV_RAIL_STAT_VCONF n ∧
        t.govRail n = { s.govRail n with decided := none, raising := some s.stn.elapsed, reading := none } ∧
        OtherRails s t n ∧ t.pmb = { s.pmb with vouts := s.pmb.vouts ++ [(n, v)] } ∧
        t.gov = { s.gov with rails := t.gov.rails } ∧
        Only { s with gov := t.gov, pmb := t.pmb } t [(F.GOV_RAIL_STAT_VCMD, n), (F.GOV_RAIL_STAT_RAISING, n)]) ∧
      (s.gov.hush = true → Runs (.voltageRaiseStep n) s fun t => t = s)) ∧
    ((s.govRail n).raising = some since →
      (confirms → Runs (.voltageConfirm n) s fun t =>
        t.fget F.GOV_RAIL_STAT_VCONF n = s.fget F.GOV_RAIL_STAT_VCMD n ∧ t.on F.GOV_RAIL_STAT_RAISING n = false ∧
        t.govRail n = { s.govRail n with raising := none, reading := none } ∧ OtherRails s t n ∧
        t.gov = { s.gov with rails := t.gov.rails } ∧
        Only { s with gov := t.gov } t [(F.GOV_RAIL_STAT_VCONF, n), (F.GOV_RAIL_STAT_RAISING, n)]) ∧
      (¬ confirms → Runs (.voltageConfirm n) s fun t => t = s) ∧
      (¬ (Confirmed s n since ∧ MayChange { s with gov := { s.gov with hush := false } } n) →
        since + s.settleTk ≤ s.stn.elapsed → n < 16 → Runs (.voltageConfirmTimeout n) s fun t =>
        t.fget F.GOV_RAIL_STAT_VCONF n = s.fget F.GOV_RAIL_STAT_VCONF n ∧ t.on F.GOV_RAIL_STAT_RAISING n = false ∧
        t.govRail n = { s.govRail n with raising := none, reading := none, retryAt := s.stn.elapsed + 1600000 } ∧
        OtherRails s t n ∧
        Posted s t 1795 6 0x07 (n * 2 ^ 28 + s.fget F.GOV_RAIL_STAT_VCMD n * 2 ^ 18 + s.fget F.GOV_RAIL_TEL_VOUT n) ∧
        t.gov = { s.gov with rails := t.gov.rails } ∧
        Only { s with gov := t.gov, log := t.log } t [(F.GOV_RAIL_STAT_RAISING, n)]))

/-! ### The PMBus host -/

/-- The PMBus host has started and nothing waits for its bus. -/
def Idle (p : Pmb) : Prop :=
  p.begun = true ∧ p.started = true ∧ p.start = [] ∧ p.service = [] ∧ p.vouts = [] ∧ p.reqs = [] ∧ p.retries = [] ∧
    p.round = [] ∧ p.roundDue = false

/-- ALERT# stands high, as sampled (R560). -/
def NoAlert (p : Pmb) : Prop := p.alertPin.level = true

/-- PMBUS_START (R424, R442): once, from count 96,000 on, with the reads of VOUT_MODE and READ_VOUT of every rail ahead; a write
of PAGE precedes a transaction to a rail with PAGE_EN 1. -/
def PmbStart (s : State) : Prop :=
  s.por = false → s.stn.locked = true → s.on F.GOV_CTRL_PMB_EN 0 = true → s.pmb.begun = false → s.pmb.cur = none →
    0 < s.build.nRails → s.pmb.reqs = [] →
    (96000 ≤ s.count → Runs .pmbusStart s fun t =>
      t.pmb.begun = true ∧ t.pmb.cur = some (.mode 0) ∧
      .mode 0 :: t.pmb.start = (List.range s.build.nRails).flatMap (fun n => [PTxn.mode n, PTxn.startVout n]) ∧
      (t.pmb.paging = true ↔ s.on F.GOV_RAIL_CFG_PAGE_EN 0 = true) ∧
      t = { s with pmb := { s.pmb with begun := true, cur := t.pmb.cur, start := t.pmb.start, paging := t.pmb.paging
                                       fails := 0 } }) ∧
    (s.count < 96000 → Runs .pmbusStart s fun t => t = s)

/-- PMB_EN_WRITE (R422, R425): at 0 the transaction in progress goes on, and the voltage decisions and VOUT_COMMANDs that wait
are dropped; from 0 to 1 after the first start, the start is made again. -/
def PmbEn (s : State) (on : Bool) : Prop :=
  let was := s.on F.GOV_CTRL_PMB_EN 0
  HostMay s .GOV_CTRL 0 →
    Runs (.pmbEnWrite on) s fun t =>
      t.on F.GOV_CTRL_PMB_EN 0 = on ∧
      (on = was ∨ (on = true ∧ s.pmb.begun = false) → HostOnly s t [(F.GOV_CTRL_PMB_EN, 0)]) ∧
      (on = false → was = true →
        (∀ x, x ∈ t.pmb.vouts ↔ x ∈ s.pmb.vouts ∧ s.build.nRails ≤ x.1) ∧ t.pmb = { s.pmb with vouts := t.pmb.vouts } ∧
        (∀ n, n < s.build.nRails → t.govRail n = { s.govRail n with decided := none }) ∧
        (∀ n, s.build.nRails ≤ n → t.govRail n = s.govRail n) ∧ t.gov = { s.gov with rails := t.gov.rails } ∧
        HostOnly { s with pmb := t.pmb, gov := t.gov } t [(F.GOV_CTRL_PMB_EN, 0)]) ∧
      (on = true → was = false → s.pmb.begun = true → 0 < s.build.nRails → s.pmb.reqs = [] →
        t.pmb.started = false ∧ (s.pmb.cur ≠ none → t.pmb.cur = s.pmb.cur) ∧
          (s.pmb.cur = none → t.pmb.cur = some (.mode 0)) ∧ HostOnly { s with pmb := t.pmb } t [(F.GOV_CTRL_PMB_EN, 0)])

/-- A source after one posting of the present tick (R447, R449–R451). -/
def posting (s : State) (o : Source) (src cls code pay : Nat) : Source :=
  (o.placeGap src (!s.logReady)).post { tick := s.count, src, cls, code, payload := pay, held := !s.logReady }

/-- The bus can show the reply (R428, R442): a failed PEC where the rail uses PEC, a clock held low after 25 ms of it. -/
def Shown (s : State) (n : Nat) (reply : PmbReply) : Prop :=
  (reply = .pec → s.on F.GOV_RAIL_CFG_PEC n = true) ∧
    (reply = .clockLow → s.pmb.clkPin.level = false ∧ s.pmb.clkPin.since + 40000000 < s.stn.elapsed)

/-- PMBUS_TRANSACTION_DONE (R428, R442): a failure of a READ_IOUT or of its write of PAGE is retried twice; the third ends the
transaction with an event that names the command, and the third failed telemetry read in a row loses the rail's telemetry, its
voltage decision dropped (R422). A reply that the bus cannot show changes nothing. -/
def TxnFailures (s : State) (n : Nat) (reply : PmbReply) : Prop :=
  let cmd := if s.pmb.paging then 0 else 0x8C
  let failed (o : Source) : Source := posting s o 1795 6 0x01 (n * 2 ^ 28 + cmd * 2 ^ 20 + replyKind reply)
  s.por = false → s.pmb.cur = some (.iout n) → Idle s.pmb → NoAlert s.pmb → s.confirmRail = none → n < 16 →
    (∀ d, reply ≠ .ok d) →
    (¬ Shown s n reply → Runs (.pmbusTransactionDone reply) s fun t => t = s) ∧
    (Shown s n reply → s.pmb.fails < 2 → Runs (.pmbusTransactionDone reply) s fun t =>
      t = { s with pmb := { s.pmb with fails := s.pmb.fails + 1 } }) ∧
    (Shown s n reply → 2 ≤ s.pmb.fails → s.on F.GOV_RAIL_STAT_TELEM_FAIL n = false →
     Runs (.pmbusTransactionDone reply) s fun t =>
      t.pmb = { s.pmb with cur := none, paging := false, rails := t.pmb.rails } ∧
      (t.pmbRail n).fails = (s.pmbRail n).fails + 1 ∧ (∀ m, m ≠ n → t.pmbRail m = s.pmbRail m) ∧
      (t.on F.GOV_RAIL_STAT_TELEM_FAIL n = true ↔ (s.pmbRail n).fails = 2) ∧
      ((s.pmbRail n).fails ≠ 2 → t.source 1795 = failed (s.source 1795) ∧ t.gov = s.gov) ∧
      ((s.pmbRail n).fails = 2 → (t.pmbRail n).retryAt = s.stn.elapsed + 160000000 ∧
        t.source 1795 = posting s (failed (s.source 1795)) 1795 6 0x02 n ∧
        (t.govRail n).decided = none ∧ OtherRails s t n) ∧
      (∀ x, x ≠ 1795 → t.source x = s.source x) ∧ t.gov = { s.gov with rails := t.gov.rails } ∧
      Only { s with pmb := t.pmb, gov := t.gov, log := t.log } t [(F.GOV_RAIL_STAT_TELEM_FAIL, n)])

/-- PMBUS_TRANSACTION_DONE of a success (R427–R430, R442): a write of PAGE leaves its transaction to come; of a read, what the
word read becomes, the bus idle after. -/
def TxnReads (s : State) (n w mv : Nat) : Prop :=
  let done (t : State) : Prop := t.pmb.cur = none ∧ t.dsp = s.dsp ∧ t.secs = s.secs ∧ BytesKeep s t (fun _ => False)
  s.por = false → Idle s.pmb → NoAlert s.pmb → s.confirmRail = none → n < s.build.nRails → n < 16 → w < 2 ^ 16 →
    (s.pmb.cur ≠ none → s.pmb.paging = true → Runs (.pmbusTransactionDone (.ok w)) s fun t =>
      t = { s with pmb := { s.pmb with paging := false, fails := 0 } }) ∧
    (s.pmb.paging = false → s.pmb.cur = some (.iout n) → s.on F.GOV_RAIL_STAT_TELEM_FAIL n = false → Runs (.pmbusTransactionDone (.ok w)) s fun t =>
      t.fget F.GOV_RAIL_TEL_IOUT n = satU 16 ((linear11 w).mul (Frac.ofInt 4)).round.toNat ∧ (t.pmbRail n).fails = 0 ∧
      (t.mtrRail n).samples = (s.mtrRail n).samples ++ [(s.stn.elapsed, w, s.fget F.GOV_RAIL_TEL_VOUT n)] ∧
      Only { s with pmb := t.pmb, mtr := t.mtr } t [(F.GOV_RAIL_TEL_IOUT, n)] ∧ done t) ∧
    (s.pmb.paging = false → s.pmb.cur = some (.retry n) → s.on F.GOV_RAIL_STAT_TELEM_FAIL n = true → Runs (.pmbusTransactionDone (.ok w)) s fun t =>
      t.on F.GOV_RAIL_STAT_TELEM_FAIL n = false ∧ Posted s t 1795 6 0x03 n ∧
      Only { s with pmb := t.pmb, mtr := t.mtr, log := t.log } t [(F.GOV_RAIL_TEL_IOUT, n), (F.GOV_RAIL_STAT_TELEM_FAIL, n)] ∧ done t) ∧
    (s.pmb.paging = false → s.pmb.cur = some (.status n) → Runs (.pmbusTransactionDone (.ok w)) s fun t =>
      t.fget F.GOV_RAIL_SW_STATUS_WORD n = w ∧ t.on F.GOV_RAIL_STAT_ALERT_SEEN n = true ∧
      t.fget F.GOV_RAIL_SW_ALERTS n = satU F.GOV_RAIL_SW_ALERTS.w (s.fget F.GOV_RAIL_SW_ALERTS n + 1) ∧
      Posted s t 1795 6 0x04 (n * 2 ^ 28 + w) ∧
      Only { s with pmb := t.pmb, log := t.log } t
        [(F.GOV_RAIL_SW_STATUS_WORD, n), (F.GOV_RAIL_SW_ALERTS, n), (F.GOV_RAIL_STAT_ALERT_SEEN, n)] ∧ done t) ∧
    (∀ ty c d, s.pmb.paging = false → s.pmb.cur = some (.host ty n c d) → Runs (.pmbusTransactionDone (.ok w)) s fun t =>
      t.fget F.GOV_PMB_RES_DATA 0 = w ∧ t.fget F.GOV_PMB_RES_ERR 0 = 0 ∧ t.on F.GOV_PMB_RES_NOT_READY 0 = false ∧
      t.fget F.GOV_PMB_RES_SEQ 0 = (s.fget F.GOV_PMB_RES_SEQ 0 + 1) % 128 ∧ t.on F.HIF_IRQ_SRC_PMB_DONE 0 = true ∧
      Only { s with pmb := t.pmb } t [(⟨.GOV_PMB_RES, 0, 32⟩, 0), (F.HIF_IRQ_SRC_PMB_DONE, 0)] ∧ done t) ∧
    (s.pmb.paging = false → s.pmb.cur = some (.command n mv) → Runs (.pmbusTransactionDone (.ok w)) s fun t =>
      t = { s with pmb := { t.pmb with cur := none } } ∧ done t)

/-- The order of the transactions that wait (R426): an alert's service before a voltage, a voltage before a request of the host,
a request before telemetry; no voltage in a control period whose datapaths disagree (R499). A voltage below VCMD takes VCMD and
VCONF as it is sent (R420). -/
def Precedence (s : State) (n mv w ty c d : Nat) (l : List (Nat × Nat)) (q : List (Nat × Nat × Nat × Nat)) : Prop :=
  let refused := (c = 0x21 ∨ c = 0) ∧ s.on F.GOV_CTRL_EN 0 = true
  s.por = false → s.pmb.cur = some (.command 0 0) → s.pmb.paging = false → s.pmb.begun = true → s.pmb.started = true →
    s.pmb.start = [] → s.pmb.service = [] → s.on F.GOV_CTRL_PMB_EN 0 = true → s.confirmRail = none → s.pmb.sameAddr < 3 →
    s.pmb.nacks < 3 → s.pmb.reqs = [] ∨ (s.pmb.reqs = (ty, n, c, d) :: q ∧ ¬ refused) →
    Runs (.pmbusTransactionDone (.ok w)) s fun t =>
      (¬ NoAlert s.pmb → t.pmb.cur = some .alert ∧ t.pmb.vouts = s.pmb.vouts ∧ t.pmb.reqs = s.pmb.reqs) ∧
      (NoAlert s.pmb → s.gov.hush = false → s.pmb.vouts = (n, mv) :: l → mv < 1024 →
        t.pmb.cur = some (.command n mv) ∧ t.pmb.vouts = l ∧ t.pmb.reqs = s.pmb.reqs ∧
        (mv < s.fget F.GOV_RAIL_STAT_VCMD n →
          t.fget F.GOV_RAIL_STAT_VCMD n = mv ∧ t.fget F.GOV_RAIL_STAT_VCONF n = mv) ∧
        (s.fget F.GOV_RAIL_STAT_VCMD n ≤ mv → t.reg .GOV_RAIL_STAT n = s.reg .GOV_RAIL_STAT n)) ∧
      (NoAlert s.pmb → s.gov.hush = true ∨ s.pmb.vouts = [] → s.pmb.reqs = (ty, n, c, d) :: q →
        t.pmb.cur = some (.host ty n c d) ∧ t.pmb.reqs = q ∧ (t.on F.GOV_PMB_REQ_GO 0 = true ↔ q ≠ []) ∧
        t.pmb.round = s.pmb.round ∧ t.pmb.vouts = s.pmb.vouts ∧
        (t.pmb.paging = true ↔ s.on F.GOV_RAIL_CFG_PAGE_EN n = true))

/-- TELEMETRY_ROUND and TELEMETRY_RETRY (R427, R428): on a busy bus they wait; on an idle one the first read goes out. -/
def Telemetry (s : State) (n : Nat) : Prop :=
  s.por = false → s.stn.locked = true →
    (s.count % 1600000 = 0 → s.pmb.cur ≠ none → Runs .telemetryRound s fun t =>
      t = { s with pmb := { s.pmb with roundDue := true } }) ∧
    (s.count % 1600000 = 0 → s.pmb.cur = none → Idle s.pmb → NoAlert s.pmb → s.confirmRail = none → s.on F.GOV_CTRL_PMB_EN 0 = true →
      n < s.build.nRails → s.on F.GOV_RAIL_CFG_TELEM n = true → s.on F.GOV_RAIL_STAT_TELEM_FAIL n = false →
      (∀ m, m < n → s.on F.GOV_RAIL_CFG_TELEM m = false ∨ s.on F.GOV_RAIL_STAT_TELEM_FAIL m = true) →
      Runs .telemetryRound s fun t => t.pmb.cur = some (.iout n) ∧ t.pmb.roundDue = false ∧ t = { s with pmb := t.pmb }) ∧
    (s.on F.GOV_RAIL_STAT_TELEM_FAIL n = true → (s.pmbRail n).retryAt ≤ s.stn.elapsed →
      (s.pmb.cur ≠ none → Runs (.telemetryRetry n) s fun t =>
        t.pmb.retries = s.pmb.retries ++ [n] ∧ (t.pmbRail n).retryAt = s.stn.elapsed + 160000000 ∧ t = { s with pmb := t.pmb }) ∧
      (s.pmb.cur = none → Idle s.pmb → NoAlert s.pmb → s.confirmRail = none → s.on F.GOV_CTRL_PMB_EN 0 = true →
        Runs (.telemetryRetry n) s fun t => t.pmb.cur = some (.retry n) ∧ t = { s with pmb := t.pmb }))

/-- ALERT_SERVICE and ALERT_STUCK_CLEAR (R429): a low ALERT# is read at the address of Alert Response as the bus is free,
unless the host has not cleared ALERT_STUCK; a high one is not. -/
def Alerts (s : State) (n : Nat) : Prop :=
  (s.por = false →
    (s.pmb.cur ≠ none ∨ NoAlert s.pmb → Runs .alertService s fun t => t = s) ∧
    (s.pmb.cur = none → Idle s.pmb → ¬ NoAlert s.pmb → s.on F.GOV_CTRL_PMB_EN 0 = true → s.pmb.sameAddr < 3 →
      s.pmb.nacks < 3 →
      Runs .alertService s fun t =>
        t = { s with pmb := { s.pmb with cur := some .alert, paging := false, fails := 0 } }) ∧
    (s.pmb.cur = none → Idle s.pmb → ¬ NoAlert s.pmb → s.confirmRail = none → 3 ≤ s.pmb.sameAddr →
      Runs .alertService s fun t => t = s)) ∧
  (HostMay s .GOV_RAIL_STAT n → n < s.build.nRails → s.build.nRails ≤ 16 → s.on F.GOV_RAIL_STAT_ALERT_STUCK n = true →
    (s.freshBits .GOV_RAIL_STAT n).toNat.testBit 29 = false → s.pmb.cur ≠ none →
    Runs (.alertStuckClear n) s fun t =>
      t.on F.GOV_RAIL_STAT_ALERT_STUCK n = false ∧
      t.pmb = (if ∃ m, m < s.build.nRails ∧ m ≠ n ∧ s.on F.GOV_RAIL_STAT_ALERT_STUCK m = true then s.pmb
        else { s.pmb with sameAddr := 0, nacks := 0, lastAddr := none }) ∧
      HostOnly { s with pmb := t.pmb } t [(F.GOV_RAIL_STAT_ALERT_STUCK, n)])

/-- PMB_REQUEST (R425, R430): refused with ERR 3 while PMB_EN is 0, and for VOUT_COMMAND and PAGE while EN is 1; else the
request waits for the bus, behind those written before it, with NOT_READY. GO reads 1 while a request waits. -/
def Requests (s : State) (ty n c d : Nat) : Prop :=
  let refused := s.on F.GOV_CTRL_PMB_EN 0 = false ∨ ((c = 0x21 ∨ c = 0) ∧ s.on F.GOV_CTRL_EN 0 = true)
  let written (t : State) : Prop :=
    t.fget F.GOV_PMB_REQ_TYPE 0 = ty ∧ t.fget F.GOV_PMB_REQ_RAIL 0 = n ∧ t.fget F.GOV_PMB_REQ_CMD 0 = c ∧
      t.fget F.GOV_PMB_REQ_DATA 0 = d
  HostMay s .GOV_PMB_REQ 0 → ty < 8 → n < 16 → c < 256 → d < 2 ^ 16 →
    Runs (.pmbRequest ty n c d) s fun t =>
      (refused → written t ∧ t.fget F.GOV_PMB_RES_ERR 0 = 3 ∧ (t.on F.GOV_PMB_REQ_GO 0 = true ↔ s.pmb.reqs ≠ []) ∧
        (t.on F.GOV_PMB_RES_NOT_READY 0 = true ↔ s.pmb.reqs ≠ [] ∨ ∃ ty' n' c' d', s.pmb.cur = some (.host ty' n' c' d')) ∧
        t.fget F.GOV_PMB_RES_SEQ 0 = (s.fget F.GOV_PMB_RES_SEQ 0 + 1) % 128 ∧ t.on F.HIF_IRQ_SRC_PMB_DONE 0 = true ∧
        HostOnly s t [(⟨.GOV_PMB_REQ, 0, 32⟩, 0), (F.GOV_PMB_RES_ERR, 0), (F.GOV_PMB_RES_SEQ, 0), (F.GOV_PMB_RES_NOT_READY, 0),
          (F.HIF_IRQ_SRC_PMB_DONE, 0)]) ∧
      (¬ refused → s.pmb.cur ≠ none → written t ∧ t.on F.GOV_PMB_REQ_GO 0 = true ∧ t.on F.GOV_PMB_RES_NOT_READY 0 = true ∧
        t.pmb = { s.pmb with reqs := s.pmb.reqs ++ [(if 5 ≤ ty then 0 else ty, n, c, d)] } ∧
        HostOnly { s with pmb := t.pmb } t [(⟨.GOV_PMB_REQ, 0, 32⟩, 0), (F.GOV_PMB_RES_NOT_READY, 0)])

/-! ### The Meter -/

/-- ENERGY_ESTIMATE (R433): a region's estimate joins its interval. -/
def Estimate (s : State) (r e : Nat) : Prop :=
  s.por = false → s.stn.locked = true → s.count % 64 = 0 → r < s.build.nRegions →
    Runs (.energyEstimate r e) s fun t =>
      (t.mtrRgn r).cur = (s.stn.elapsed, e) :: (s.mtrRgn r).cur ∧ (s.stn.elapsed, e) ∈ (t.mtrRgn r).recent ∧
      (t.mtrRgn r).volts = (s.mtrRgn r).volts + e * s.fget F.SB_VSENSE_MV r ∧ (t.mtrRgn r).shut = (s.mtrRgn r).shut ∧
      (t.mtrRgn r).step = (s.mtrRgn r).step ∧ (∀ q, q ≠ r → t.mtrRgn q = s.mtrRgn q) ∧
      t = { s with mtr := { s.mtr with rgns := t.mtr.rgns } }

/-- RECONCILIATION_CLOSE (R433–R435, R604): the open interval's estimates and marks await their results; a rail keeps its
last K where reconciliation is off or its telemetry is stale. -/
def Close (s : State) (n : Nat) (k : Int) : Prop :=
  let fresh := s.on F.GOV_CTRL_PMB_EN 0 = true ∧ s.on F.GOV_RAIL_CFG_TELEM n = true ∧ (s.mtrRail n).samples ≠ []
  s.por = false → s.stn.locked = true → s.count % 1600000 = 0 → s.mtr.due = none →
    Runs (.reconciliationClose false) s fun t =>
      (∃ un, t.mtr.due = some (s.mtr.start, s.stn.elapsed, un) ∧
        (n < s.build.nRails → s.build.bareRail n = false →
          (s.on F.MTR_CTRL_RECON_EN 0 = false ∨ ¬ fresh → un.testBit n = true ∧ (t.mtrRail n).k = s.fget F.MTR_RAIL_K_K n) ∧
          (s.on F.MTR_CTRL_RECON_EN 0 = true → fresh → s.railK n = some k → 32768 ≤ k → k ≤ 131072 →
            un.testBit n = false ∧ ((t.mtrRail n).k : Int) = k) ∧
          (s.on F.MTR_CTRL_RECON_EN 0 = true → fresh → s.railK n = some k → (k < 32768 ∨ 131072 < k) →
            un.testBit n = true ∧ (t.mtrRail n).k = s.fget F.MTR_RAIL_K_K n ∧ t.on F.MTR_STATUS_CLAMP_SEEN 0 = true))) ∧
      t.mtr.start = s.stn.elapsed ∧ t.mtr.marks = [] ∧ t.mtr.shut = s.mtr.marks ∧
      (∀ r, r < s.build.nRegions → (t.mtrRgn r).cur = [] ∧ (t.mtrRgn r).shut = (s.mtrRgn r).cur ∧ (t.mtrRgn r).volts = 0 ∧
        t.on F.MTR_SEQ_NOT_READY r = true) ∧
      (∀ x, x ≠ 1794 → t.source x = s.source x) ∧ BytesKeep s t (fun _ => False) ∧
      t = { s with regs := t.regs, fresh := t.fresh, log := t.log, mtr := t.mtr, freeCtr := t.freeCtr }

/-- The 64-bit energy of a region's registers. -/
def energyOf (s : State) (r : Nat) : Nat := (s.reg .MTR_E_HI r).toNat * 2 ^ 32 + (s.reg .MTR_E_LO r).toNat

/-- RECONCILIATION_RESULT (R433–R435, R438–R440): each region's reconciled energy joins its count; a step that closed in the
interval gives its results, with its duration and tokens. -/
def Result (s : State) (start stop un at_ n : Nat) : Prop :=
  let add (r : Nat) : Nat :=
    ((s.mtrRgn r).shut.map fun x => x.2 * (s.mtrRail (s.build.railOf (s.build.sectionOf r))).k / 65536).sum
  s.por = false → s.mtr.due = some (start, stop, un) → un < 2 ^ 16 → s.mtr.marks = [] →
    (s.mtr.shut = [] ∨ (s.mtr.shut = [(at_, .step n)] ∧ start ≤ at_ ∧ at_ ≤ stop ∧ s.mtr.stepAt ≤ at_ ∧ at_ < 2 ^ 64)) →
    Runs .reconciliationResult s fun t =>
      (∀ r, r < s.build.nRegions → energyOf t r = (energyOf s r + add r) % 2 ^ 64 ∧ (t.mtrRgn r).shut = [] ∧
        t.fget F.MTR_SEQ_SEQ r = (s.fget F.MTR_SEQ_SEQ r + 1) % 2 ^ 31 ∧ t.on F.MTR_SEQ_NOT_READY r = false) ∧
      (∀ m, m < s.build.nRails → s.build.bareRail m = false → t.fget F.MTR_RAIL_K_K m = (s.mtrRail m).k % 2 ^ 18) ∧
      t.fget F.MTR_STATUS_UNRECON 0 = un ∧ t.on F.MTR_STEP_SEQ_NOT_READY 0 = false ∧ t.mtr.due = none ∧ t.mtr.shut = [] ∧
      (s.mtr.shut = [] → t.fget F.MTR_STEP_SEQ_SEQ 0 = s.fget F.MTR_STEP_SEQ_SEQ 0 ∧ t.reg .MTR_STEP_TOK 0 = s.reg .MTR_STEP_TOK 0) ∧
      (s.mtr.shut ≠ [] → t.fget F.MTR_STEP_SEQ_SEQ 0 = (s.fget F.MTR_STEP_SEQ_SEQ 0 + 1) % 2 ^ 31 ∧
        t.reg .MTR_STEP_TOK 0 = BitVec.ofNat 32 n ∧ t.reg .MTR_STEP_TK_LO 0 = BitVec.ofNat 32 (at_ - s.mtr.stepAt) ∧
        t.reg .MTR_STEP_TK_HI 0 = BitVec.ofNat 32 ((at_ - s.mtr.stepAt) / 2 ^ 32) ∧ t.on F.HIF_IRQ_SRC_STEP_DONE 0 = true ∧
        t.mtr.stepAt = at_ ∧ t.mtr.label = 0) ∧
      t.log = s.log ∧ t.dsp = s.dsp ∧ t.gov = s.gov ∧ BytesKeep s t (fun _ => False)

end Sys2Proof.Claim

/-- GOV_ENV_WRITE, ENV_SAMPLE, LONG_WHISTLE_DUE, LOAD_HINT_STROBE and LOAD_HINT_STROBE_END (R399–R401, R403, R431). -/
def Obligations.EnvelopeAndHints : Prop :=
  ∀ (s : State) (valid : Bool) (v n c at_ : Nat) (q : List (Nat × Nat)),
    EnvWrite s v ∧ Claim.EnvSample s valid v ∧ WhistlesDue s ∧ Strobes s n c at_ q

/-- GOVERNOR_CONTROL_TICK, STEP_COUNT_APPLY and MARGIN_WINDOW (R402, R404, R406, R411, R412, R414, R415, R423, R499). -/
def Obligations.GovernorDecisions : Prop :=
  ∀ (s : State) (mismatch : Bool) (a : Act) (k reason x : Nat) (lane : Lane),
    ControlTick s mismatch ∧ TakesAStep s k ∧ StepApplies s a k reason x lane ∧ Claim.MarginWindow s k

/-- VOLTAGE_RAISE_STEP, VOLTAGE_CONFIRM and VOLTAGE_CONFIRM_TIMEOUT: a rail's raise is confirmed or given up (R419). -/
def Obligations.VoltageRaises : Prop := ∀ (s : State) (n v since : Nat), RaiseSteps s n v since

/-- PMBUS_START, PMB_EN_WRITE and PMBUS_TRANSACTION_DONE: the start, the order of transactions, retries and results
(R424–R430). -/
def Obligations.PmbusTransactions : Prop :=
  ∀ (s : State) (on : Bool) (n w mv ty c d : Nat) (reply : PmbReply) (l : List (Nat × Nat))
      (q : List (Nat × Nat × Nat × Nat)),
    PmbStart s ∧ PmbEn s on ∧ TxnFailures s n reply ∧ TxnReads s n w mv ∧ Precedence s n mv w ty c d l q

/-- TELEMETRY_ROUND, TELEMETRY_RETRY, ALERT_SERVICE, ALERT_STUCK_CLEAR and PMB_REQUEST (R425, R427–R430). -/
def Obligations.PmbusRequests : Prop :=
  ∀ (s : State) (ty n c d : Nat), Telemetry s n ∧ Alerts s n ∧ Requests s ty n c d

/-- ENERGY_ESTIMATE, RECONCILIATION_CLOSE and RECONCILIATION_RESULT: the Meter's interval from estimates to results
(R433–R435, R438–R440, R604). -/
def Obligations.MeterIntervals : Prop :=
  ∀ (s : State) (r e n start stop un at_ tokens : Nat) (k : Int),
    Estimate s r e ∧ Close s n k ∧ Result s start stop un at_ tokens

namespace Sys2Proof.Claim

/-! ### Event sources -/

/-- A posting finds no entry that it may merge into (R450). -/
def NoMatch (e : Entry) (l : List Entry) : Prop :=
  ∀ x, x ∈ l → ¬ (x.cls = e.cls ∧ x.code = e.code ∧ x.mark = false ∧ x.count < 65535)

/-- Where a posting goes among the places of its kind, `cap` of them (R449–R451): it merges into the first entry that
matches, takes a free place, or is discarded and counted. -/
def Placed (e : Entry) (cap : Nat) (old new : List Entry) (lost : Prop) : Prop :=
  (∀ a x b, old = a ++ x :: b → NoMatch e a → x.cls = e.cls → x.code = e.code → x.mark = false → x.count < 65535 →
    new = a ++ { x with count := x.count + 1 } :: b ∧ ¬ lost) ∧
  (NoMatch e old → old.length < cap → new = old ++ [e] ∧ ¬ lost) ∧ (NoMatch e old → cap ≤ old.length → lost)

/-- EVENT_POSTING (R449–R451), with no GAP marker to place: class 0 has places 0 and 1, every other class the six others; a
discard is counted in the source's unsent GAP marker, or starts the next one. -/
def EventPosting (s : State) (src cls code pay : Nat) : Prop :=
  let o := s.source src
  let e : Entry := { tick := s.count, src, cls, code, payload := pay, held := !s.logReady }
  s.por = false → cls < 16 → code < 256 → pay < 2 ^ 32 → o.gap = none → (∀ x, x ∈ o.gen → x.mark = false) →
    Runs (.eventPosting src cls code pay) s fun t =>
      let lost := t.source src = { o with lost := satU 16 (o.lost + 1), gap := some (s.count, 1) }
      (cls = 0 → Placed e 2 o.c0 (t.source src).c0 lost ∧ (t.source src).gen = o.gen) ∧
      (cls ≠ 0 → Placed e 6 o.gen (t.source src).gen lost ∧ (t.source src).c0 = o.c0) ∧
      (∀ x, x ≠ src → t.source x = s.source x) ∧ t = { s with log := { s.log with srcs := t.log.srcs } }

/-- SOURCE_GAP_MARKER (R451, R456): the marker takes a free general place with the source's number, its first tick and its
count; with no place free it waits. -/
def GapMarker (s : State) (src at_ n : Nat) : Prop :=
  let o := s.source src
  s.por = false → o.gap = some (at_, n) →
    Runs (.sourceGapMarker src) s fun t =>
      (o.gen.length < 6 → (t.source src).gap = none ∧ (t.source src).gen = o.gen ++
        [{ tick := at_, src, cls := 0, code := 1, payload := satU 32 n, count := min 65535 n, mark := true, held := !s.logReady }] ∧
        (t.source src).c0 = o.c0 ∧ (t.source src).lost = o.lost) ∧
      (6 ≤ o.gen.length → t.source src = o) ∧ (∀ x, x ≠ src → t.source x = s.source x) ∧
      t = { s with log := { s.log with srcs := t.log.srcs } }

/-- An entry as it arrives: DELAYED where its tick has been committed or a hard alignment came while it waited (R453, R458); it
brings what the network's checks found on it (R498). -/
def arrived (s : State) (e : Entry) (lane : Lane) : Entry :=
  if e.stale = true ∨ (s.log.committed ≠ 0 ∧ e.tick ≤ s.log.committed) then
    { e with tick := s.log.committed + 1, delayed := true, stale := false, lane }
  else { e with lane }

/-- EVENT_NETWORK_TAKE (R452, R455): at most four entries, a waiting class-0 entry before any other; while the log is not
ready none. -/
def NetworkTake (s : State) (src : Nat) (e : Entry) (lane : Lane) (lanes : List Lane) : Prop :=
  s.por = false →
    (s.logReady = false → Runs (.eventNetworkTake (lane :: lanes)) s fun t => t = s) ∧
    (s.logReady = true → s.log.took = 0 → Runs (.eventNetworkTake (lane :: lanes)) s fun t =>
      (∃ l, t.log.received = s.log.received ++ l ∧ l.length ≤ 4 ∧
        (e ∈ (s.source src).c0 → ∃ k x r m, (s.source k).c0 = x :: r ∧ l = arrived s x lane :: m)) ∧
      t = { s with log := { s.log with srcs := t.log.srcs, received := t.log.received, turn := t.log.turn, took := t.log.took } }) ∧
    (s.logReady = true → s.log.took = 0 → s.log.srcs = [(src, { gen := [e] })] →
      Runs (.eventNetworkTake (lane :: lanes)) s fun t =>
        t.log.received = s.log.received ++ [arrived s e lane] ∧ t.source src = {})

/-! ### The log -/

/-- The log stands to write: not full, no overflow, the epoch of `tick` written, nothing written at this edge. -/
def LogOpen (s : State) (tick : Nat) : Prop :=
  s.log.overflow = none ∧ s.unconsumed < 4095 ∧ s.log.lastHi = some (tick / 2 ^ 48) ∧ s.log.wrote = 0

/-- An entry stands in the log at index EVT_WIDX, which goes on by one (R443, R453, R479). -/
def Logged (s t : State) (e : Entry) : Prop :=
  let w := (s.reg .EVT_WIDX 0).toNat
  let a := 0x80000 + 16 * (w % 4096)
  t.reg .EVT_WIDX 0 = BitVec.ofNat 32 (w + 1) ∧ t.rdWord a = BitVec.ofNat 32 e.tick ∧
    t.rdWord (a + 4) = BitVec.ofNat 32 (e.tick / 2 ^ 32 % 2 ^ 16 * 2 ^ 16 + e.cls * 2 ^ 12 + e.src) ∧
    t.rdWord (a + 8) = BitVec.ofNat 32
      (e.code * 2 ^ 24 + e.mark.toNat * 2 ^ 23 + e.delayed.toNat * 2 ^ 22 + e.held.toNat * 2 ^ 21 + e.count) ∧
    t.rdWord (a + 12) = BitVec.ofNat 32 e.payload ∧ BytesKeep s t (fun x => a ≤ x ∧ x < a + 16)

/-- The registers that the writing of an entry of a class may move. -/
def logFields (cls : Nat) : List (Fld × Nat) :=
  [(F.EVT_WIDX_INDEX, 0), (F.EVT_PEND_CLASS, 0), (F.EVT_CLASS_CNT_COUNT, cls), (F.HIF_IRQ_SRC_LOG_HIGH, 0)]

/-- LOG_COMMIT (R453, R463, R464, R498): the one entry received is written when its tick lies 448 tk back, sets its class in
EVT_PEND and counts; with one lane failed a class-0 entry is written all the same, any other is replaced by a GAP marker. -/
def LogCommits (s : State) (e : Entry) : Prop :=
  s.por = false → s.logReady = true → 448 ≤ s.count → s.log.received = [e] → e.cls < 16 → e.src < 2 ^ 11 → e.code < 256 →
    e.count < 2 ^ 16 → e.payload < 2 ^ 32 → e.mark = false →
    (s.count < e.tick + 448 → s.log.overflow = none → Runs .logCommit s fun t =>
      t = { s with log := { s.log with committed := max s.log.committed (s.count - 448) } }) ∧
    (e.tick + 448 ≤ s.count → LogOpen s e.tick → (e.lane = .good ∨ (e.lane = .one ∧ e.cls = 0)) → Runs .logCommit s fun t =>
      Logged s t e ∧ t.log.received = [] ∧ (t.fget F.EVT_PEND_CLASS 0).testBit e.cls = true ∧
      t.fget F.EVT_CLASS_CNT_COUNT e.cls = (s.fget F.EVT_CLASS_CNT_COUNT e.cls + 1) % 2 ^ 32 ∧
      t.log.committed = max s.log.committed (s.count - 448) ∧
      (e.lane = .one → t.on F.STN_DEP_STATUS_EVT_LANE 0 = true ∧
        t.fget F.STN_DEP_CNT_EVT_CORR 0 = satU F.STN_DEP_CNT_EVT_CORR.w (s.fget F.STN_DEP_CNT_EVT_CORR 0 + 1)) ∧
      BitsKeep s t (fields (logFields e.cls ++ if e.lane = .good then [] else
        [(F.STN_DEP_STATUS_EVT_LANE, 0), (F.STN_DEP_CNT_EVT_CORR, 0)]))) ∧
    (e.tick + 448 ≤ s.count → LogOpen s (s.count - 448) → (e.lane = .both ∨ (e.lane = .one ∧ e.cls ≠ 0)) →
      Runs .logCommit s fun t =>
        Logged s t { tick := s.count - 448, src := 2047, cls := 0, code := 1, payload := 0, mark := true } ∧
        t.log.received = [] ∧ t.on F.STN_DEP_STATUS_EVT_LANE 0 = true ∧ t.on F.EVT_STATUS_GAP_SEEN 0 = true ∧
        t.fget F.EVT_PEND_CLASS 0 = s.fget F.EVT_PEND_CLASS 0 ∧
        t.fget F.EVT_LOST_COUNT 0 = satU F.EVT_LOST_COUNT.w (s.fget F.EVT_LOST_COUNT 0 + 1))

/-- LOG_COMMIT and LOG_OVERFLOW_GAP (R457, R462): with 4,095 entries unconsumed the entry due is discarded and counted, a
class-0 entry still setting its bit; at 3,072 or fewer one GAP marker tells of all. -/
def Overflow (s : State) (e : Entry) (at_ n c : Nat) : Prop :=
  s.por = false → s.logReady = true →
    (448 ≤ s.count → s.log.received = [e] → e.mark = false → e.lane = .good → e.cls < 16 → e.tick + 448 ≤ s.count →
      s.log.overflow = none →
      4095 ≤ s.unconsumed → Runs .logCommit s fun t =>
        t.log.overflow = some (e.tick, 1, e.count) ∧ t.reg .EVT_WIDX 0 = s.reg .EVT_WIDX 0 ∧
        t.fget F.EVT_LOST_COUNT 0 = satU F.EVT_LOST_COUNT.w (s.fget F.EVT_LOST_COUNT 0 + 1) ∧
        (t.fget F.EVT_PEND_CLASS 0).testBit e.cls = true ∧
        Only { s with log := t.log } t [(F.EVT_LOST_COUNT, 0), (F.EVT_PEND_CLASS, 0)]) ∧
    (s.log.overflow = some (at_, n, c) → s.unconsumed ≤ 3072 → s.log.lastHi = some (at_ / 2 ^ 48) →
      Runs .logOverflowGap s fun t =>
        Logged s t { tick := at_, src := 2047, cls := 0, code := 1, payload := satU 32 c, count := min 65535 n, mark := true } ∧
        t.log.overflow = none ∧ t.on F.EVT_STATUS_GAP_SEEN 0 = true ∧
        BitsKeep s t (fields [(F.EVT_WIDX_INDEX, 0), (F.EVT_STATUS_GAP_SEEN, 0), (F.HIF_IRQ_SRC_LOG_HIGH, 0)])) ∧
    (s.log.overflow = none ∨ 3072 < s.unconsumed → Runs .logOverflowGap s fun t => t = s)

/-- A RECOVERY marker of a cause, stamped with the tick before this edge, stands in the log (R458). -/
def Recovered (s t : State) (cause : Nat) : Prop :=
  Logged s t { tick := s.count - 1, src := 2047, cls := 0, code := 2, payload := cause, mark := true } ∧
    t.log.committed = s.count - 1

/-- LOG_READY (R455): 4,096 tk after lock the log is up, and causes kept until then are written. -/
def LogReady (s : State) (cause : Nat) : Prop :=
  s.por = false → s.stn.locked = true → 4096 ≤ s.stn.elapsed → s.log.up = false → s.shadow = [] →
    (s.on F.EVT_CTRL_EN 0 = false ∨ s.log.recover = [] → Runs .logReady s fun t => t = { s with log := { s.log with up := true } }) ∧
    (s.on F.EVT_CTRL_EN 0 = true → s.log.recover = [(cause, [])] → cause < 2 ^ 32 → s.log.received = [] →
      LogOpen s (s.count - 1) →
      Runs .logReady s fun t => Recovered s t cause ∧ t.log.up = true ∧ t.log.recover = [])

/-- An entry that waits while the log stops is HELD. -/
def heldAll (l : List Entry) : List Entry := l.map fun e => { e with held := true }

/-- EVT_EN_WRITE and EVT_RECOVER (R455, R458): a stop holds what waits; a start writes the marker of cause 3, RECOVER that
of cause 4. -/
def LogControl (s : State) : Prop :=
  HostMay s .EVT_CTRL 0 → s.on F.EVT_CTRL_RECOVER 0 = false →
    (s.on F.EVT_CTRL_EN 0 = true → Runs (.evtEnWrite false) s fun t =>
      t.on F.EVT_CTRL_EN 0 = false ∧
      (∀ k, k ≠ srcLog → (t.source k).c0 = heldAll (s.source k).c0 ∧ (t.source k).gen = heldAll (s.source k).gen) ∧
      t.log.received = heldAll s.log.received ∧ HostFields s t [(F.EVT_CTRL_EN, 0)]) ∧
    (s.on F.EVT_CTRL_EN 0 = false → s.log.recover = [] → s.log.received = [] → LogOpen s (s.count - 1) →
      Runs (.evtEnWrite true) s fun t =>
        t.on F.EVT_CTRL_EN 0 = true ∧ t.reg .EVT_WIDX 0 = s.reg .EVT_WIDX 0 + 1 ∧
        t.rdWord (0x80000 + 16 * ((s.reg .EVT_WIDX 0).toNat % 4096) + 12) = 3 ∧ t.log.committed = s.count - 1) ∧
    (s.on F.EVT_CTRL_EN 0 = true → s.log.received = [] → LogOpen s (s.count - 1) → Runs .evtRecover s fun t =>
        t.on F.EVT_CTRL_RECOVER 0 = false ∧ t.reg .EVT_WIDX 0 = s.reg .EVT_WIDX 0 + 1 ∧
        t.rdWord (0x80000 + 16 * ((s.reg .EVT_WIDX 0).toNat % 4096) + 12) = 4 ∧ t.log.committed = s.count - 1) ∧
    (s.on F.EVT_CTRL_EN 0 = false → Runs .evtRecover s fun t =>
        t.log.recover = s.log.recover ++ [(4, [])] ∧ t.reg .EVT_WIDX 0 = s.reg .EVT_WIDX 0)

/-- EVT_RIDX_WRITE (R461): in LOCAL mode a value from the present one up to EVT_WIDX consumes entries; any other is
ignored. -/
def Consume (s : State) (v : Nat) : Prop :=
  let d := (v + 2 ^ 32 - (s.reg .EVT_RIDX 0).toNat) % 2 ^ 32
  HostMay s .EVT_RIDX 0 → v < 2 ^ 32 →
    Runs (.evtRidxWrite v) s fun t =>
      t.reg .EVT_RIDX 0 = (if s.on F.EVT_CTRL_MODE 0 = false ∧ s.log.spill.active = false ∧ d ≤ s.unconsumed then BitVec.ofNat 32 v
        else s.reg .EVT_RIDX 0) ∧
      t.log = { s.log with wtimes := t.log.wtimes, srcs := t.log.srcs } ∧ (∀ x, x ≠ srcLog → t.source x = s.source x) ∧
      HostFields s t [(F.EVT_RIDX_INDEX, 0)]

/-- LOG_ENTRY_READ and JOURNAL_ENTRY_READ (R10, R465, R481): the word as the port returns it, with the flag of its copy; an
error is counted, and the first uncorrectable one reported. -/
def LogReads (s : State) (slot word : Nat) (ecc : Ecc) : Prop :=
  s.por = false → slot < 1024 → word < 4 →
    (Runs (.logEntryRead slot word ecc) s fun t =>
      t.apb = { rdata := s.rdWord (0x80000 + 16 * slot + 4 * word) |||
        (if word = 2 then (match ecc with | .clean => 0 | .corrected => 0x100000 | .uncorrectable => 0x80000) else 0) } ∧
      t.fget F.EVT_STATUS_CORR 0 = (if ecc = .corrected then satU F.EVT_STATUS_CORR.w (s.fget F.EVT_STATUS_CORR 0 + 1)
        else s.fget F.EVT_STATUS_CORR 0) ∧
      (ecc = .uncorrectable → s.on F.EVT_STATUS_UNCORR_SEEN 0 = false →
        t.on F.EVT_STATUS_UNCORR_SEEN 0 = true ∧ Posted s t 1796 7 0x04 slot) ∧
      (ecc ≠ .uncorrectable ∨ s.on F.EVT_STATUS_UNCORR_SEEN 0 = true → t.log = s.log) ∧
      Only { s with apb := t.apb, log := t.log } t [(F.EVT_STATUS_CORR, 0), (F.EVT_STATUS_UNCORR_SEEN, 0)]) ∧
    (Runs (.journalEntryRead slot word ecc) s fun t =>
      t.apb = { rdata := s.rdWord (0x90000 + 16 * slot + 4 * word) } ∧
      (ecc = .uncorrectable → s.on F.JNL_STATUS_UNCORR_SEEN 0 = false →
        t.on F.JNL_STATUS_UNCORR_SEEN 0 = true ∧ Posted s t 1796 7 0x12 slot) ∧
      (ecc ≠ .uncorrectable ∨ s.on F.JNL_STATUS_UNCORR_SEEN 0 = true → t.log = s.log) ∧
      Only { s with apb := t.apb, log := t.log } t [(F.JNL_STATUS_UNCORR_SEEN, 0)])

/-! ### The spill -/

/-- The 40-bit address that a pair of registers gives. -/
def pairAddr (s : State) (lo hi : Reg) : Nat := (s.reg lo 0).toNat + (s.reg hi 0).toNat % 256 * 2 ^ 32

/-- EVT_MODE_WRITE (R466, R467): a change to SPILL starts the ring at index 0 with the addresses and the size of that edge; a
change to LOCAL waits for the bursts outstanding. -/
def Mode (s : State) : Prop :=
  HostMay s .EVT_CTRL 0 → s.on F.EVT_CTRL_RECOVER 0 = false →
    (s.on F.EVT_CTRL_MODE 0 = false → s.log.spill.active = false → Runs (.evtModeWrite true) s fun t =>
      t.on F.EVT_CTRL_MODE 0 = true ∧ t.reg .EVT_RING_WR 0 = 0 ∧ t.on F.EVT_STATUS_RING_FULL 0 = false ∧
      t.log.spill = { s.log.spill with
        active := true, stopping := false, base := pairAddr s .EVT_RING_BASE_LO .EVT_RING_BASE_HI
        con := pairAddr s .EVT_RING_CON_LO .EVT_RING_CON_HI, ptr := pairAddr s .EVT_RING_PTR_LO .EVT_RING_PTR_HI
        log2 := max 8 (min 26 (s.fget F.EVT_SPILL_CFG_LOG2 0)), conAt := none } ∧
      t.log = { s.log with spill := t.log.spill, srcs := t.log.srcs } ∧ 
      HostFields s t [(F.EVT_CTRL_MODE, 0), (F.EVT_RING_WR_INDEX, 0), (F.EVT_STATUS_RING_FULL, 0)]) ∧
    (s.on F.EVT_CTRL_MODE 0 = true → Runs (.evtModeWrite false) s fun t =>
      t.on F.EVT_CTRL_MODE 0 = false ∧
      t.log.spill = (if s.log.spill.bursts = [] then { s.log.spill with active := false, stopping := false }
        else { s.log.spill with stopping := true }) ∧
      t.log = { s.log with spill := t.log.spill, srcs := t.log.srcs } ∧ HostFields s t [(F.EVT_CTRL_MODE, 0)])

/-- The spill may issue a burst: SPILL mode in force, no error, no reset. -/
def MaySpill (s : State) : Prop :=
  s.por = false ∧ s.log.up = true ∧ s.log.spill.active = true ∧ s.log.spill.stopping = false ∧
    s.on F.EVT_STATUS_SPILL_ERR 0 = false ∧ s.axi.held = false ∧ s.stn.warm = false

/-- The transaction of the spill with its attributes (R528): `id` 2 a burst, 3 a doorbell or an index. -/
def spillTxn (s : State) (write : Bool) (id addr beats size strb : Nat) (data : List Nat) : AxiTxn :=
  { write, id, addr, beats, size, strb, data, prot := s.fget F.HIF_AXI_CFG_PROT 0, qos := s.fget F.HIF_AXI_CFG_QOS 0
    cache := if write then s.fget F.HIF_AXI_CFG_AWCACHE 0 else s.fget F.HIF_AXI_CFG_ARCACHE 0 }

/-- The words of `n` entries of the log from index EVT_RIDX on. -/
def logSpan (s : State) (n : Nat) : List Nat :=
  (List.range (4 * n)).map fun i =>
    (s.rdWord (0x80000 + 16 * (((s.reg .EVT_RIDX 0).toNat + i / 4) % 4096) + 4 * (i % 4))).toNat

/-- SPILL_BURST (R468, R470, R527, R528): entries enough for BATCH, none outstanding, room in the ring: a burst of at most 16
goes to the ring's next place, across neither a 4 KiB boundary nor the ring's end. While the ring is full none goes out. -/
def Burst (s : State) : Prop :=
  let size := 2 ^ s.log.spill.log2
  let pos := (s.reg .EVT_RING_WR 0).toNat % size
  let a := s.log.spill.base + 16 * pos
  let batch := max 1 (min 16 (s.fget F.EVT_SPILL_CFG_BATCH 0))
  let n := min (min 16 s.unconsumed) (min (256 - a % 4096 / 16) (size - pos))
  MaySpill s →
    (s.on F.EVT_STATUS_RING_FULL 0 = true → Runs (.spillBurst []) s fun t => t = s) ∧
    (s.on F.EVT_STATUS_RING_FULL 0 = false → s.log.spill.bursts = [] → batch ≤ s.unconsumed → s.log.spill.base % 4096 = 0 →
     8 ≤ s.log.spill.log2 → s.log.spill.log2 ≤ 26 → s.log.spill.base + 16 * size ≤ 2 ^ 40 →
     ((s.reg .EVT_RING_WR 0).toNat + 2 ^ 32 - (s.reg .EVT_RING_CONV 0).toNat) % 2 ^ 32 + 16 ≤ size →
     Runs (.spillBurst []) s fun t =>
      t.axi = { s.axi with wr := some (spillTxn s true 2 a n 16 (2 ^ 16 - 1) (logSpan s n)) } ∧
      t = { s with axi := t.axi, log := { s.log with spill := { s.log.spill with bursts := [n] } } })

/-- What an error response leaves of the spill (R472, R532): it stops with no index advanced, and is reported: `what` 0 a
burst, 1 an index read. -/
def SpillStops (s t : State) (what user resp : Nat) : Prop :=
  t.on F.EVT_STATUS_SPILL_ERR 0 = true ∧ t.log.spill.bursts = [] ∧ t.reg .EVT_RING_WR 0 = s.reg .EVT_RING_WR 0 ∧
    t.reg .EVT_RIDX 0 = s.reg .EVT_RIDX 0 ∧ t.on F.HIF_AXI_STATUS_ERR_SEEN 0 = true ∧
    t.fget F.HIF_AXI_STATUS_LAST_RESP 0 = resp ∧ t.fget F.HIF_AXI_STATUS_LAST_USER 0 = user ∧
    t.on F.HIF_IRQ_SRC_AXI_ERR 0 = true ∧
    PostedIn s t 1796 7 0x02 (what * 2 ^ 28 + min (2 ^ 28 - 1) (s.reg .EVT_RING_WR 0).toNat) ∧
    BytesKeep s t (fun _ => False)

/-- SPILL_BURST_DONE (R469, R472): both indices advance by the oldest burst, and the doorbell carries the new one. -/
def BurstDone (s : State) (n : Nat) (l : List Nat) : Prop :=
  s.por = false → s.log.spill.bursts = n :: l → s.log.spill.stopping = false → s.axi.held = false →
    (Runs (.spillBurstDone .okay) s fun t =>
      t.reg .EVT_RING_WR 0 = s.reg .EVT_RING_WR 0 + BitVec.ofNat 32 n ∧
      t.reg .EVT_RIDX 0 = s.reg .EVT_RIDX 0 + BitVec.ofNat 32 n ∧ t.log.spill = { s.log.spill with bursts := l } ∧
      t.on F.HIF_IRQ_SRC_SPILL 0 = true ∧
      (s.on F.EVT_SPILL_CFG_DOORBELL_EN 0 = false → t.axi = s.axi) ∧
      (s.on F.EVT_SPILL_CFG_DOORBELL_EN 0 = true → 
        t.axi = { s.axi with wr := some (spillTxn s true 3 s.log.spill.ptr 1 4 (15 * 2 ^ (s.log.spill.ptr % 16))
          [(s.reg .EVT_RING_WR 0 + BitVec.ofNat 32 n).toNat]) }) ∧
      Only { s with log := t.log, axi := t.axi } t
        [(F.EVT_RING_WR_INDEX, 0), (F.EVT_RIDX_INDEX, 0), (F.HIF_IRQ_SRC_SPILL, 0)]) ∧
    (Runs (.spillBurstDone .slverr) s fun t => SpillStops s t 0 2 2) ∧
    (Runs (.spillBurstDone .decerr) s fun t => SpillStops s t 0 2 3)

/-- A consume index is read (R470–R472): one that leaves the ring within its size is taken, and the ring is full or not; one
beyond is an error of the ring, with no index advanced. -/
def IndexRead (s : State) (v : Nat) (c : AxiResp → Instr) : Prop :=
  let used := ((s.reg .EVT_RING_WR 0).toNat + 2 ^ 32 - v) % 2 ^ 32
  let log := { s.log with spill := { s.log.spill with conAt := some s.stn.elapsed } }
  s.log.spill.bursts = [] → v < 2 ^ 32 → s.log.spill.con + 4 ≤ 2 ^ 40 → s.log.spill.log2 ≤ 26 →
    (Runs (c .okay) s fun t =>
      t.reg .EVT_RING_CONV 0 = BitVec.ofNat 32 v ∧
      (t.on F.EVT_STATUS_RING_FULL 0 = true ↔ 2 ^ s.log.spill.log2 ≤ used) ∧
      (used ≤ 2 ^ s.log.spill.log2 → Only { s with axi := t.axi, log } t [(F.EVT_RING_CONV_INDEX, 0), (F.EVT_STATUS_RING_FULL, 0)]) ∧
      (2 ^ s.log.spill.log2 < used → t.on F.EVT_STATUS_RING_ERR 0 = true ∧ Posted { s with log } t 1796 7 0x05 v ∧
        Only { s with axi := t.axi, log := t.log } t
          [(F.EVT_RING_CONV_INDEX, 0), (F.EVT_STATUS_RING_FULL, 0), (F.EVT_STATUS_RING_ERR, 0)]) ∧
      t.axi = { s.axi with rd := some (spillTxn s false 3 s.log.spill.con 1 4 0 []) }) ∧
    (Runs (c .slverr) s fun t => SpillStops s t 1 3 2) ∧ (Runs (c .decerr) s fun t => SpillStops s t 1 3 3)

/-- CONSUME_INDEX_READ before a burst that the last value read would not allow; RING_FULL_REREAD while the ring stays full,
TIMEOUT after the latest read (R470). -/
def IndexReads (s : State) (v : Nat) : Prop :=
  let timeout := 1600 * (if s.fget F.EVT_SPILL_CFG_TIMEOUT 0 = 0 then 1 else s.fget F.EVT_SPILL_CFG_TIMEOUT 0)
  let due := ∀ at_, s.log.spill.conAt = some at_ → at_ + timeout ≤ s.stn.elapsed
  MaySpill s →
    (s.on F.EVT_STATUS_RING_FULL 0 = false → s.ringRoom < s.burstWant → IndexRead s v (.consumeIndexRead v)) ∧
    (s.on F.EVT_STATUS_RING_FULL 0 = true → due → IndexRead s v (.ringFullReread v)) ∧
    (s.on F.EVT_STATUS_RING_FULL 0 = false ∨ ¬ due → Runs (.ringFullReread v .okay) s fun t => t = s)

/-- SPILL_ERR_CLEAR (R9, R472): the flag clears, unless hardware sets it at this edge; the spill may issue again. -/
def ErrClear (s : State) : Prop :=
  HostMay s .EVT_STATUS 0 → (s.freshBits .EVT_STATUS 0).toNat.testBit 28 = false →
    Runs .spillErrClear s fun t =>
      t.on F.EVT_STATUS_SPILL_ERR 0 = false ∧ t.log.spill = s.log.spill ∧ HostOnly s t [(F.EVT_STATUS_SPILL_ERR, 0)]

/-! ### Mileage -/

/-- MILEAGE_WINDOW_END (R482, R483): a region contributes once its Section has been released; with no edge delivered it adds
to histograms 2, 3, 6 and 7 only; a counter adds whole units and carries the rest. A window ends once. -/
def MileageEnd (s : State) (r : Nat) : Prop :=
  let k := s.build.sectionOf r
  let fw := s.fwCur k
  let b7 := 112 + (if fw < 12288 then 0 else min 15 ((fw - 12288) / 8192))
  let m := s.mile r
  s.por = false → s.stn.locked = true → s.build.optMileage = true → s.count % 1600000 = 0 → r < s.build.nRegions →
   (s.stn.milWin = s.stn.elapsed → Runs .mileageWindowEnd s fun t => t = s) ∧
   (s.stn.milWin ≠ s.stn.elapsed → Runs .mileageWindowEnd s fun t =>
      (t.rgn r).mile = { maxLedger := (s.rgn r).ledA } ∧
      ((s.sec k).everReleased = false → t.mile r = m) ∧
      ((s.sec k).everReleased = true → (s.rgn r).mile.edges = 0 → (∀ i, i < 128 → Store.getD 0 m.bins i < 2 ^ 32 - 2) →
        Store.getD 0 (t.mile r).bins b7 = Store.getD 0 m.bins b7 + 1 ∧
        (∀ i, i < 128 → i / 16 = 0 ∨ i / 16 = 1 ∨ i / 16 = 4 ∨ i / 16 = 5 →
          Store.getD 0 (t.mile r).bins i = Store.getD 0 m.bins i)) ∧
      ((s.sec k).everReleased = true →
        (let x := Store.getD 0 m.carry 0 + (s.rgn r).mile.edges
         Store.getD 0 (t.mile r).cnts 0 = min (2 ^ 48 - 1) (Store.getD 0 m.cnts 0 + x / 65536) ∧
         Store.getD 0 (t.mile r).carry 0 = x % 65536)) ∧
      t = { s with stn := { s.stn with milWin := s.stn.elapsed }, rgns := t.rgns, miles := t.miles, log := t.log })

/-- A window ends at this edge and its end has not run yet (R482). -/
def WindowDue (s : State) : Prop :=
  s.build.optMileage = true ∧ s.stn.locked = true ∧ s.count % 1600000 = 0 ∧ s.stn.milWin ≠ s.stn.elapsed

/-- MIL_SNAP and MIL_SNAP_CLR (R484, R485): a request waits with NOT_READY; a second one while it waits merges with it. -/
def SnapRequest (s : State) (r : Nat) (clear : Bool) : Prop :=
  HostMay s .MIL_CTRL 0 → s.build.optMileage = true → r < 1024 → (s.on F.MIL_CTRL_SNAP 0 = true → s.milSnap ≠ none) →
    (s.on F.MIL_CTRL_SNAP_CLR 0 = true → ∃ q, s.milSnap = some q ∧ q.clear = true) →
    Runs (if clear then .milSnapClr r else .milSnap r) s fun t =>
      t.milSnap = some (match s.milSnap with
        | some q => { q with clear := q.clear || clear }
        | none => { region := r, clear, asked := s.stn.elapsed }) ∧
      (s.milSnap = none → t.fget F.MIL_CTRL_REGION 0 = r) ∧ t.on F.MIL_SEQ_NOT_READY 0 = true ∧ t.miles = s.miles ∧
      HostOnly { s with milSnap := t.milSnap } t
        [(F.MIL_CTRL_REGION, 0), (F.MIL_CTRL_SNAP, 0), (F.MIL_CTRL_SNAP_CLR, 0), (F.MIL_SEQ_NOT_READY, 0)]

/-- MIL_SNAP_DONE (R484, R485, R493): the snapshot is the region's bins and counters, which one that clears sets to 0; a region
that is not there reads zeros; bits that the copy's read corrects are counted. At a window's end the snapshot includes that
window. -/
def Snapshot (s : State) (r corrected asked : Nat) (clear : Bool) : Prop :=
  let m : Mile := if r < s.build.nRegions then s.mile r else {}
  let shows (t : State) (m : Mile) : Prop :=
    (∀ i, i < 128 → t.reg .MIL_HIST i = BitVec.ofNat 32 (Store.getD 0 m.bins i)) ∧
      (∀ c, c < 16 → t.reg .MIL_CNT_LO c = BitVec.ofNat 32 (Store.getD 0 m.cnts c) ∧
        t.reg .MIL_CNT_HI c = BitVec.ofNat 32 (Store.getD 0 m.cnts c / 2 ^ 32)) ∧
      t.fget F.MIL_SAT_HIST 0 = m.satH % 256 ∧ t.fget F.MIL_SAT_CNT 0 = m.satC % 2 ^ 16
  s.por = false → s.milSnap = some { region := r, clear, asked } →
    (¬ WindowDue s → Runs (.milSnapDone corrected) s fun t =>
      shows t m ∧
      t.mile r = (if clear = true ∧ r < s.build.nRegions then { carry := m.carry } else s.mile r) ∧
      (∀ q, q ≠ r → t.mile q = s.mile q) ∧ t.fget F.MIL_SNAP_INFO_REGION 0 = r % 1024 ∧
      (t.on F.MIL_SNAP_INFO_CLEARED 0 = true ↔ clear = true ∧ r < s.build.nRegions) ∧
      t.reg .MIL_SNAP_TICK_LO 0 = BitVec.ofNat 32 s.count ∧
      t.reg .MIL_SNAP_TICK_HI 0 = BitVec.ofNat 32 (s.count / 2 ^ 32) ∧ t.on F.MIL_SEQ_NOT_READY 0 = false ∧
      t.fget F.MIL_SEQ_SEQ 0 = (s.fget F.MIL_SEQ_SEQ 0 + 1) % 2 ^ 31 ∧ t.on F.HIF_IRQ_SRC_MIL_DONE 0 = true ∧
      t.fget F.EVT_STATUS_CORR 0 = satU F.EVT_STATUS_CORR.w (s.fget F.EVT_STATUS_CORR 0 + corrected) ∧
      t.milSnap = none ∧ BytesKeep s t (fun _ => False) ∧
      t = { s with regs := t.regs, fresh := t.fresh, miles := t.miles, milSnap := none }) ∧
    (WindowDue s → r < s.build.nRegions → Runs .mileageWindowEnd s fun w => Runs (.milSnapDone corrected) s fun t =>
      shows t (w.mile r) ∧ t.stn.milWin = s.stn.elapsed ∧ t.milSnap = none)

end Sys2Proof.Claim

/-- EVENT_POSTING, SOURCE_GAP_MARKER and EVENT_NETWORK_TAKE: a source's places, its markers, and what the network takes
(R449–R453, R455, R456). -/
def Obligations.EventSources : Prop :=
  ∀ (s : State) (src cls code pay at_ n : Nat) (e : Entry) (lane : Lane) (lanes : List Lane),
    Claim.EventPosting s src cls code pay ∧ GapMarker s src at_ n ∧ NetworkTake s src e lane lanes

/-- LOG_COMMIT, LOG_OVERFLOW_GAP and LOG_READY: what reaches the log and where it stands there (R443, R453, R455, R457,
R458, R462–R464, R498). -/
def Obligations.EventLogWrites : Prop :=
  ∀ (s : State) (e : Entry) (at_ n c cause : Nat), LogCommits s e ∧ Overflow s e at_ n c ∧ Claim.LogReady s cause

/-- EVT_EN_WRITE, EVT_RECOVER, EVT_RIDX_WRITE, LOG_ENTRY_READ and JOURNAL_ENTRY_READ (R10, R455, R458, R461, R465, R481). -/
def Obligations.EventLogUnderTheHost : Prop :=
  ∀ (s : State) (v slot word : Nat) (ecc : Ecc), LogControl s ∧ Consume s v ∧ LogReads s slot word ecc

/-- EVT_MODE_WRITE, SPILL_BURST, SPILL_BURST_DONE, CONSUME_INDEX_READ, RING_FULL_REREAD and SPILL_ERR_CLEAR: the spill of
the log to the host's ring (R466–R472, R527, R532). -/
def Obligations.SpillToTheRing : Prop :=
  ∀ (s : State) (n v : Nat) (l : List Nat), Mode s ∧ Burst s ∧ BurstDone s n l ∧ IndexReads s v ∧ ErrClear s

/-- MILEAGE_WINDOW_END, MIL_SNAP, MIL_SNAP_CLR and MIL_SNAP_DONE (R482–R485). -/
def Obligations.Mileage : Prop := 
  ∀ (s : State) (r corrected asked : Nat) (clear : Bool), MileageEnd s r ∧ SnapRequest s r clear ∧ Snapshot s r corrected asked clear

namespace Sys2Proof.Claim

/-! ### Register writes of the host -/

/-- Registers whose write does more than store, or whose read shows other state: their own commands state what it does. -/
def busy : List Reg :=
  [.STN_CLK_CFG, .STN_TCAP_CTRL, .STN_SPINE_CTRL, .STN_SYNC_CTRL, .STN_GCTRL, .SB_SPINE_OVR, .SEC_FW, .SEC_HEADWAY, .SEC_CTRL,
   .SEC_SLOT, .SB_GATE, .SB_SENSE_CTRL, .SB_TC_CTRL, .SB_TC_TRIM, .SB_SLIP_CFG, .JCT_CFG, .ICH_CFG, .CAL_CTRL, .SB_CAL_CTRL,
   .CAL_IMG_CTRL, .DSP_IMG_LO, .DSP_IMG_HI, .DSP_IMG_SIZE, .DSP_SEM_HELD, .DSP_DMEM_DATA, .DSP_DESK_CTRL, .DSP_G, .GOV_CTRL,
   .GOV_ENV, .GOV_PMB_REQ, .GOV_RAIL_STAT, .EVT_CTRL, .EVT_RIDX, .MIL_CTRL, .SB_PROFILE0, .SB_PROFILE1, .SB_PROFILE2,
   .SB_PROFILE3, .STN_TICK_LO, .STN_TICK_HI, .STN_SUMMARY, .STN_SEC_FAULT_LO, .STN_SEC_FAULT_HI, .STN_SEC_SAFE_LO,
   .STN_SEC_SAFE_HI, .STN_RFAULT, .STN_SPINE_STATUS, .CAL_STATUS, .EVT_STATUS, .HIF_BOOT, .HIF_IRQ_EN, .HIF_AXI_STATUS,
   .SEC_STATUS, .SEC_SYM_STATUS, .SEC_SLOT_LEFT, .GOV_SEC_STAT, .GOV_STATUS, .GOV_PRIO, .SB_CLK_STATUS, .SB_SLIP, .SB_TAP_CTRL,
   .SB_WHISTLE, .SB_EVT_STAT, .JCT_SUMMARY, .DSP_DESK_STATUS]

/-- The bytes of a word that strobes name. -/
def strobed (strb : Nat) : Word :=
  (if strb.testBit 0 then 0xFF else 0) ||| (if strb.testBit 1 then 0xFF00 else 0) |||
    (if strb.testBit 2 then 0xFF0000 else 0) ||| (if strb.testBit 3 then 0xFF000000 else 0)

/-- The word of a register after a write of the bits of a mask (R8, R9, R512): RW fields take the value, W1C flags written 1
clear but for those set at this edge, W1S bits written 1 are set, every other bit stays. -/
def afterWrite (s : State) (r : Reg) (u : Nat) (v m : Word) : Word :=
  let i := r.info
  let w := (s.reg r u &&& ~~~ (i.rw &&& m)) ||| (v &&& i.rw &&& m)
  (w &&& ~~~ (v &&& m &&& i.w1c &&& ~~~ s.freshBits r u)) ||| (v &&& m &&& i.w1s)

/-- The Journal stands to write one entry at this edge, its RAM not yet full. -/
def JournalOpen (s : State) : Prop :=
  s.jnl.queue = [] ∧ s.jnl.wrote < 4 ∧ s.stn.locked = true ∧ s.jnl.lastHi = some (s.count / 2 ^ 40) ∧ s.jnl.total < 1024 ∧
    (s.reg .JNL_WIDX 0).toNat < 1024

/-- The Journal's entry of one write of the host stands at JNL_WIDX, which goes on by one (R474–R476, R479). -/
def Journaled (s t : State) (defer : Bool) (a : Nat) (old new : Word) : Prop :=
  let w := (s.reg .JNL_WIDX 0).toNat
  let b := 0x90000 + 16 * (w % 1024)
  t.reg .JNL_WIDX 0 = BitVec.ofNat 32 (w + 1) ∧ t.rdWord b = BitVec.ofNat 32 s.count ∧
    t.rdWord (b + 4) = BitVec.ofNat 32 (s.count / 2 ^ 32 % 256 * 2 ^ 24 + 5 * 2 ^ 21 + defer.toNat * 2 ^ 18 + a / 4) ∧
    t.rdWord (b + 8) = old ∧ t.rdWord (b + 12) = new ∧ BytesKeep s t (fun x => b ≤ x ∧ x < b + 16)

/-- HOST_REGISTER_WRITE of a ready register whose write only stores (R8, R9, R25, R474–R476, R512, R513): its new word, and
the Journal's entry with OLD and NEW. -/
def PlainWrite (s : State) (r : Reg) (u data strb : Nat) : Prop :=
  let v := BitVec.ofNat 32 data
  let m := strobed strb
  let sp := r.info.special
  HostMay s r u → s.build.place (regAddr r u) = .reg r u → r ∉ busy → data < 2 ^ 32 →
    Runs (.hostRegisterWrite (regAddr r u) data strb) s fun t =>
      t.reg r u &&& ~~~ fields jnlFields r u = afterWrite s r u v m &&& ~~~ fields jnlFields r u ∧
      HostOnly s t [(⟨r, 0, 32⟩, u)] ∧
      (JournalOpen s → r ≠ .JNL_WIDX →
        Journaled s t false (regAddr r u) (s.reg r u) ((afterWrite s r u v m &&& ~~~ sp) ||| (v &&& m &&& sp)))

/-- HOST_REGISTER_WRITE to a unit that is not ready (R477, R540, R541): it waits in the shadow register, its RW fields read
back, and the Journal records it with DEFER. -/
def ShadowWrite (s : State) (r : Reg) (u data strb : Nat) : Prop :=
  let v := BitVec.ofNat 32 data
  let m := strobed strb
  let sp := r.info.special
  s.por = false → s.stn.warm = false → s.regReady r u = false → s.build.place (regAddr r u) = .reg r u → data < 2 ^ 32 →
   (∀ a ∈ s.dsp.acts, s.actDue a = false) →
    Runs (.hostRegisterWrite (regAddr r u) data strb) s fun t =>
      (∃ x, t.shadow = s.shadow ++ [x] ∧
        (x.key = regAddr r u ∧ x.val = data ∧ BitVec.ofNat 32 x.strb = m ∧ x.src = 5)) ∧
      t.readWord (regAddr r u) = (s.readWord (regAddr r u) &&& ~~~ (r.info.rw &&& m)) ||| (v &&& r.info.rw &&& m) ∧
      HostOnly { s with shadow := t.shadow } t [] ∧
      (JournalOpen s → Journaled s t true (regAddr r u) (s.readWord (regAddr r u))
        ((t.readWord (regAddr r u) &&& ~~~ sp) ||| (v &&& m &&& sp)))

/-- HOST_REGISTER_WRITE to GOV_CFG at the edge at which a Desk's write of that register is due (R25): the Desk's write takes
effect first, the host's after it. -/
def DeskBeforeHost (s : State) (x : Act) (v data strb : Nat) : Prop :=
  let rw := Reg.GOV_CFG.info.rw
  let d := (s.reg .GOV_CFG 0 &&& ~~~ rw) ||| (BitVec.ofNat 32 v &&& rw)
  let m := rw &&& strobed strb
  s.stn.warm = false → s.stn.locked = true → DueNow s x → x.slot.isSome = true → x.scope = 0 →
    x.addr = regAddr .GOV_CFG 0 → v < 2 ^ 32 → x.op = .write v (2 ^ 32 - 1) false v → s.dsp.held = [] → data < 2 ^ 32 →
    Runs (.hostRegisterWrite (regAddr .GOV_CFG 0) data strb) s fun t =>
      t.reg .GOV_CFG 0 = (d &&& ~~~ m) ||| (BitVec.ofNat 32 data &&& m) ∧ t.dsp = { s.dsp with acts := [] } ∧
      HostOnly { s with dsp := t.dsp } t [(⟨.GOV_CFG, 0, 32⟩, 0)]

/-- What an access to an unmapped range leaves (R511): PSLVERR, the address and the direction, the count, the interrupt. -/
def ApbError (s t : State) (a : Nat) (write : Bool) : Prop :=
  t.apb.slverr = true ∧ (write = false → t.apb.rdata = 0) ∧ t.fget F.HIF_APB_ERR_ADDR 0 = a % 2 ^ 20 ∧
    (t.on F.HIF_APB_ERR_WRITE 0 = true ↔ write = true) ∧
    t.fget F.HIF_APB_ERR_COUNT 0 = satU F.HIF_APB_ERR_COUNT.w (s.fget F.HIF_APB_ERR_COUNT 0 + 1) ∧
    t.on F.HIF_IRQ_SRC_APB_ERR 0 = true ∧
    Only { s with apb := t.apb } t
      [(F.HIF_APB_ERR_ADDR, 0), (F.HIF_APB_ERR_WRITE, 0), (F.HIF_APB_ERR_COUNT, 0), (F.HIF_IRQ_SRC_APB_ERR, 0)]

/-- An address lies in an unmapped range of the register map (R543). -/
def Unmapped (a : Nat) : Prop :=
  let x := a % 2 ^ 20
  (0x8000 ≤ x ∧ x < 0x10000) ∨ (0x94000 ≤ x ∧ x < 0xA0000) ∨ 0xC4000 ≤ x

/-- HOST_REGISTER_WRITE elsewhere (R11, R511, R538, R544): a reserved offset takes nothing; an unmapped range answers with an
error; during a warm reset the Dispatcher's range takes nothing. -/
def OtherWrites (s : State) (a data strb : Nat) : Prop :=
  s.por = false →
    (s.stn.warm = false → ¬ Unmapped a → s.build.place (a % 2 ^ 20 / 4 * 4) = .hole →
      (∀ x ∈ s.dsp.acts, s.actDue x = false) →
      Runs (.hostRegisterWrite a data strb) s fun t => HostOnly s t []) ∧
    (Unmapped a → Runs (.hostRegisterWrite a data strb) s fun t => ApbError s t a true) ∧
    (s.stn.warm = true → 0x4000 ≤ a % 2 ^ 20 → a % 2 ^ 20 < 0x8000 →
      Runs (.hostRegisterWrite a data strb) s fun t => t = { s with apb := { s.apb with slverr := false } })

/-- The Journal's entry over one that the host has not consumed (R480, R481): an overrun counts, and the first is reported. -/
def JournalOverrun (s : State) (v : Nat) : Prop :=
  let w := (s.reg .JNL_WIDX 0).toNat
  let n := satU 16 (s.fget F.JNL_STATUS_OVERRUN 0 + 1)
  HostMay s .GOV_CFG 0 → v < 2 ^ 32 → s.jnl.queue = [] → s.jnl.wrote < 4 → s.jnl.lastHi = some (s.count / 2 ^ 40) →
    1024 ≤ w → (s.reg .JNL_RIDX 0).toNat ≤ w - 1024 →
    Runs (.hostRegisterWrite (regAddr .GOV_CFG 0) v 15) s fun t =>
      t.fget F.JNL_STATUS_OVERRUN 0 = n ∧ t.on F.JNL_STATUS_OVERRUN_SEEN 0 = true ∧
      t.reg .JNL_WIDX 0 = BitVec.ofNat 32 (w + 1) ∧
      (s.on F.JNL_STATUS_OVERRUN_SEEN 0 = false → HostPosted s t 1796 7 0x11 n) ∧
      (s.on F.JNL_STATUS_OVERRUN_SEEN 0 = true → t.log = s.log)

/-! ### The APB target and the AXI manager -/

/-- APB_UNMAPPED_ACCESS and APB_RESET (R511, R535). -/
def ApbPort (s : State) (a : Nat) (write : Bool) : Prop :=
  s.por = false →
    (Unmapped a → Runs (.apbUnmappedAccess a write) s fun t => ApbError s t a write) ∧
    (¬ Unmapped a → Runs (.apbUnmappedAccess a write) s fun t => t = s) ∧
    (Runs .apbReset s fun t => t = { s with apb := {} })

/-- AXI_ERROR_RESPONSE and AXI_RANGE (R531, R532): what the manager records; an error response to a transfer of an image marks
the save or the restore in progress with its tile. -/
def AxiRecords (s : State) (user : Nat) (resp : AxiResp) : Prop :=
  let recorded (t : State) : Prop :=
    t.on F.HIF_AXI_STATUS_ERR_SEEN 0 = true ∧ t.fget F.HIF_AXI_STATUS_LAST_RESP 0 = (if resp = .slverr then 2 else 3) ∧
      t.fget F.HIF_AXI_STATUS_LAST_USER 0 = user ∧ t.on F.HIF_IRQ_SRC_AXI_ERR 0 = true ∧
      Only { s with cal := t.cal } t [(F.HIF_AXI_STATUS_ERR_SEEN, 0), (F.HIF_AXI_STATUS_LAST_RESP, 0),
        (F.HIF_AXI_STATUS_LAST_USER, 0), (F.HIF_IRQ_SRC_AXI_ERR, 0)]
  let marked (o : ImgOp) : ImgOp := { o with err := some (o.err.getD ((o.pos - 1) % s.build.imgTiles)) }
  s.por = false → user < 8 →
    (resp ≠ .okay → user ≠ 4 ∨ (s.cal.save = none ∧ s.cal.restore = none) →
      Runs (.axiErrorResponse user resp) s fun t => recorded t ∧ t.cal = s.cal) ∧
    (∀ o, resp ≠ .okay → user = 4 → s.cal.save = some o → s.cal.restore = none → o.pos ≠ 0 → o.loaded = none →
      Runs (.axiErrorResponse user resp) s fun t => recorded t ∧ t.cal = { s.cal with save := some (marked o) }) ∧
    (∀ o, resp ≠ .okay → user = 4 → s.cal.restore = some o → s.cal.save = none → o.pos ≠ 0 → o.loaded = none →
      Runs (.axiErrorResponse user resp) s fun t => recorded t ∧ t.cal = { s.cal with restore := some (marked o) }) ∧
    (Runs (.axiErrorResponse user .okay) s fun t => t = s) ∧
    (Runs (.axiRange user) s fun t =>
      t.on F.HIF_AXI_STATUS_RANGE 0 = true ∧ t.fget F.HIF_AXI_STATUS_LAST_USER 0 = user ∧ t.on F.HIF_IRQ_SRC_AXI_ERR 0 = true ∧
      Only s t [(F.HIF_AXI_STATUS_RANGE, 0), (F.HIF_AXI_STATUS_LAST_USER, 0), (F.HIF_IRQ_SRC_AXI_ERR, 0)])

/-- A burst of a page fill with its attributes: an instruction read of ID 0 (R527, R528). -/
def fillTxn (s : State) (a : Nat) : AxiTxn :=
  { write := false, id := 0, addr := a, beats := 16, size := 16, prot := s.fget F.HIF_AXI_CFG_PROT 0 + 4
    qos := s.fget F.HIF_AXI_CFG_QOS 0, cache := s.fget F.HIF_AXI_CFG_ARCACHE 0 }

/-- TICK (R311, R527–R529): the next of the 16 bursts of a page fill goes out where fewer reads than MAX_RD are outstanding. -/
def FillBursts (s : State) (inp : TickIn) (f : Fill) : Prop :=
  let limit := max 1 (min 8 (s.fget F.HIF_AXI_CFG_MAX_RD 0))
  let a := s.imgBase + 4096 * f.page + 256 * f.sent
  s.por = false → s.stn.locked = true → s.axi.held = false → s.dsp.fills = [f] → f.sent < 16 →
    s.on F.DSP_STATUS_LOADING 0 = false → s.on F.DSP_STATUS_READY 0 = true → s.cal.save = none → s.cal.restore = none →
    s.cal.saveHeld = false → s.cal.restoreHeld = false → s.dsp.held = [] → a + 256 ≤ 2 ^ 40 →
    Runs (.tick inp) s fun t =>
      (t.rdOut < limit → t.dsp.fills = [{ f with sent := f.sent + 1 }] ∧
        t.axi = { s.axi with turn := 0, rd := some (fillTxn s a) }) ∧
      (limit ≤ t.rdOut → t.dsp.fills = [f] ∧ t.axi = s.axi)

/-- AXI_RESET and AXI_RESET_RELEASE (R533): nothing is issued until the release, and what was outstanding meets an error
response: a fill fails, the tile of a load is lost, the spill stops; a fill of which no burst has gone out waits. -/
def AxiResets (s : State) (f : Fill) (n : Nat) (l : List Nat) : Prop :=
  let loading := s.on F.DSP_STATUS_LOADING 0 = true
  s.por = false → s.cal.save = none → s.cal.restore = none →
    (s.axi.held = false →
      ((∀ x, x ∈ s.dsp.fills → x.sent = 0) → s.log.spill.bursts = [] → ¬ loading ∨ s.dsp.loadSent = 0 →
        Runs .axiReset s fun t => t = { s with axi := { s.axi with held := true }, freeCtr := t.freeCtr }) ∧
      (s.dsp.fills = [f] → f.sent ≠ 0 → f.frame < 8 → s.log.spill.bursts = [] → ¬ loading → Runs .axiReset s fun t =>
        t.axi = { s.axi with held := true } ∧ FillFails s t f ∧ t.dsp.fills = [] ∧
        t.on F.HIF_AXI_STATUS_ERR_SEEN 0 = true ∧ t.fget F.HIF_AXI_STATUS_LAST_USER 0 = 0) ∧
      (s.dsp.fills = [] → s.log.spill.bursts = [] → loading → s.dsp.loadSent ≠ 0 → Runs .axiReset s fun t =>
        t.axi = { s.axi with held := true } ∧
        t.dsp = { s.dsp with loadErr := (s.dsp.loadSent - 1) / 4 :: s.dsp.loadErr } ∧
        t.on F.HIF_AXI_STATUS_ERR_SEEN 0 = true ∧ t.fget F.HIF_AXI_STATUS_LAST_USER 0 = 1) ∧
      (s.dsp.fills = [] → s.log.spill.bursts = n :: l → ¬ loading → Runs .axiReset s fun t =>
        t.axi = { s.axi with held := true } ∧ (SpillStops s t 0 2 2 ∨ SpillStops s t 0 2 3))) ∧
    (Runs .axiResetRelease s fun t => t = { s with axi := { s.axi with held := false } })

/-! ### Warm reset -/

/-- WARM_RESET (R299, R536, R537): every Desk is STOPPED at its reset values; actions not launched and long Whistles go;
slots end; a resident load in progress is aborted; clocks, frequencies, ledgers, the Governor's counts, the Meter, the log and
every byte stay. At the release WARM_DONE is set and the log's recovery marker of cause 1 is written, or waits for the log. -/
def WarmReset (s : State) : Prop :=
  (s.por = false → s.stn.locked = true → s.stn.warm = false → s.cal.save = none → s.cal.restore = none →
    Runs .warmReset s fun t =>
      t.stn = { s.stn with warm := true } ∧
      (∀ d, d < 4 → t.deskState d = 0 ∧ t.pc d = 0 ∧ t.fget F.DSP_DESK_STATUS_CAUSE d = 0 ∧ t.depth d = 0 ∧ t.desk d = {} ∧
        (∀ n, n < 32 → t.g d n = 0) ∧ (∀ n, n < 4 → t.t d n = 0) ∧ ∀ n, n < 8 → t.fget F.DSP_STACK_RET (d * 8 + n) = 0) ∧
      t.reg .DSP_SEM_HELD 0 = 0 ∧ t.reg .DSP_SEM_OWNER 0 = 0 ∧
      (∀ a, a ∈ t.dsp.acts ↔ a ∈ s.dsp.acts ∧ (4 ≤ a.desk ∨ a.slot = none ∨ ∃ x, a.slot = some x ∧ x ≤ s.count)) ∧
      t.gov.whistles = [] ∧ (∀ k, k < s.build.nSections → t.on F.SEC_SLOT_ACTIVE k = false) ∧
      (s.on F.DSP_STATUS_LOADING 0 = true → t.on F.DSP_STATUS_LOADING 0 = false ∧ t.on F.DSP_CTRL_LOAD_RES 0 = false ∧
        (t.on F.DSP_STATUS_LOAD_ERR 0 = true ↔
          s.on F.DSP_STATUS_LOAD_ERR 0 = true ∨ ∃ n, n < 32 ∧ s.tileValid n = false)) ∧
      (∀ r u, r.info.cls ≠ .desk → r.info.cls ≠ .win →
        r ∉ [Reg.DSP_SEM_HELD, .DSP_SEM_OWNER, .DSP_STATUS, .DSP_CTRL, .DSP_TILE_OK, .HIF_IRQ_SRC, .SEC_SLOT] → t.reg r u = s.reg r u) ∧
      (s.on F.DSP_CTRL_LOAD_RES 0 = false ∨ s.on F.DSP_STATUS_LOADING 0 = true → t.reg .DSP_TILE_OK 0 = s.reg .DSP_TILE_OK 0) ∧
      t = { s with regs := t.regs, fresh := t.fresh, stn := t.stn, dsp := t.dsp, gov := t.gov, calRgns := t.calRgns }) ∧
  (s.por = false → s.stn.warm = true →
    (s.logReady = true → s.log.received = [] → LogOpen s (s.count - 1) → Runs .warmResetRelease s fun t =>
      t.stn = { s.stn with warm := false } ∧ t.on F.HIF_IRQ_SRC_WARM_DONE 0 = true ∧ Recovered s t 1) ∧
    (s.logReady = false → Runs .warmResetRelease s fun t =>
      t.stn = { s.stn with warm := false } ∧ t.on F.HIF_IRQ_SRC_WARM_DONE 0 = true ∧ t.log.recover = s.log.recover ++ [(1, [])] ∧
      Only { s with stn := t.stn, log := t.log } t [(F.HIF_IRQ_SRC_WARM_DONE, 0)])) ∧
  (s.por = false → s.stn.locked = false → Runs .warmReset s fun t => t = s)

/-! ### Test -/

/-- SCAN_MODE and the wrapper's instructions (R574, R575, R594, R595): the state of the block is undefined from then on, but
the selection itself, the build and the queue; WS_BYPASS leaves the block alone. -/
def Tests (s : State) (c : Instr) (n : Nat) : Prop :=
  s.por = false →
    ((c, n) ∈ [(.wsExtest, 1), (.wsIntest, 2), (.wsClamp, 3), (.tkPlltest, 8), (.tkDlltest, 9), (.tkMbist, 10), (.tkTctest, 11)] →
      Runs c s fun t => t.test.instr = n ∧ t.test.scan = s.test.scan ∧ t.test.used = true ∧ t.build = s.build ∧
        t.pending = s.pending ∧ t.por = false) ∧
    (Runs .scanMode s fun t => t.test = { s.test with scan := true, used := true } ∧ t.build = s.build ∧ t.pending = s.pending ∧
      t.por = false) ∧
    (Runs .wsBypass s fun t => t = { s with test := { s.test with instr := 0, data := 0 } })

end Sys2Proof.Claim

/-- HOST_REGISTER_WRITE: what a write of the host stores, and its entry in the Change Journal (R8, R9, R11, R25,
R474–R481, R511–R513, R538, R540, R541, R544). -/
def Obligations.HostRegisterWrites : Prop :=
  ∀ (s : State) (r : Reg) (u a v data strb : Nat) (x : Act),
    PlainWrite s r u data strb ∧ Claim.ShadowWrite s r u data strb ∧ OtherWrites s a data strb ∧ JournalOverrun s data ∧
      DeskBeforeHost s x v data strb

/-- APB_UNMAPPED_ACCESS, APB_RESET, AXI_ERROR_RESPONSE, AXI_RANGE, AXI_RESET and AXI_RESET_RELEASE, and the bursts of a page
fill at TICK (R311, R511, R527–R529, R531–R533, R535). -/
def Obligations.HostPorts : Prop :=
  ∀ (s : State) (a user n : Nat) (write : Bool) (resp : AxiResp) (f : Fill) (l : List Nat) (inp : TickIn),
    ApbPort s a write ∧ AxiRecords s user resp ∧ FillBursts s inp f ∧ AxiResets s f n l

/-- WARM_RESET, WARM_RESET_RELEASE, SCAN_MODE, WS_BYPASS, WS_EXTEST, WS_INTEST, WS_CLAMP, TK_PLLTEST, TK_DLLTEST, TK_MBIST
and TK_TCTEST: what a warm reset clears and what it keeps, and that the tests complete (R299, R458, R536, R537, R575, R594,
R595). -/
def Obligations.WarmResetsAndTests : Prop := ∀ (s : State) (c : Instr) (n : Nat), Claim.WarmReset s ∧ Tests s c n

/-- An invariant of every step, out of test: the register file and the memory windows keep their one canonical form, so
that equal contents are equal states (the model's data, log entry 1). -/
def Obligations.StorageStaysCanonical : Prop :=
  ∀ s t : State, s.regsOk → s.memOk → step s = .next t → t.test.used = false → t.regsOk ∧ t.memOk

end
end

