-- ==== Sys2Proof/Laws/Store.lean ====
section
/-! SUPPORT. What a sparse store answers after a write, and that a write keeps its canonical form. -/

namespace Sys2Proof.Machine

theorem Store.find?_erase {α : Type} (m : Store α) (k k' : Nat) :
    (m.erase k).find? k' = if k' = k then none else m.find? k' := by
  induction m with
  | nil => simp [Store.erase, Store.find?]
  | cons e m ih =>
    obtain ⟨j, v⟩ := e
    by_cases h : k = j
    · subst h
      simp only [Store.erase, if_true, ih, Store.find?]
      by_cases h' : k' = k <;> simp [h']
    · simp only [Store.erase, h, if_false, Store.find?, ih]
      by_cases h' : k' = k
      · subst h'; simp [h]
      · simp [h']

theorem Store.find?_insert {α : Type} (m : Store α) (k k' : Nat) (v : α) :
    (m.insert k v).find? k' = if k' = k then some v else m.find? k' := by
  induction m with
  | nil => simp [Store.insert, Store.find?]
  | cons e m ih =>
    obtain ⟨j, w⟩ := e
    simp only [Store.insert]
    split
    · simp [Store.find?]
    · split
      · subst_vars; simp only [Store.find?]; by_cases h' : k' = j <;> simp [h']
      · simp only [Store.find?, ih]
        by_cases h' : k' = k
        · subst h'; simp_all
        · simp [h']

/-- A write: the key holds the value, or is unlisted where the value is its default; no other key changes. -/
theorem Store.find?_put {α : Type} (isDef : Nat → α → Bool) (m : Store α) (k k' : Nat) (v : α) :
    (m.put isDef k v).find? k' = if k' = k then (if isDef k v then none else some v) else m.find? k' := by
  unfold Store.put
  by_cases h : isDef k v = true
  · simp [h, Store.find?_erase]
  · simp [h, Store.find?_insert]

theorem Store.getD_setD {α : Type} [DecidableEq α] (d : α) (m : Store α) (k k' : Nat) (v : α) :
    Store.getD d (Store.setD d m k v) k' = if k' = k then v else Store.getD d m k' := by
  unfold Store.getD Store.setD
  rw [Store.find?_put]
  by_cases h : k' = k
  · simp only [h, if_true]
    by_cases hv : v = d <;> simp [hv]
  · simp [h]

@[simp] theorem Store.getD_setD_same {α : Type} [DecidableEq α] (d : α) (m : Store α) (k : Nat) (v : α) :
    Store.getD d (Store.setD d m k v) k = v := by simp [Store.getD_setD]

/-! ### The canonical form -/

theorem Store.above_trans {α : Type} {j k : Nat} (h : j < k) (m : Store α) (hk : Store.above k m = true) :
    Store.above j m = true := by
  cases m with
  | nil => rfl
  | cons e m => simp only [Store.above, decide_eq_true_eq] at hk ⊢; omega

theorem Store.above_erase {α : Type} (j k : Nat) (m : Store α) (hs : m.sorted = true) (h : Store.above j m = true) :
    Store.above j (m.erase k) = true := by
  induction m with
  | nil => rfl
  | cons e m ih =>
    obtain ⟨i, v⟩ := e
    simp only [Store.sorted, Bool.and_eq_true, Store.above, decide_eq_true_eq] at hs h
    simp only [Store.erase]
    split
    · exact ih hs.2 (Store.above_trans h m hs.1)
    · simpa [Store.above] using h

theorem Store.sorted_erase {α : Type} (k : Nat) (m : Store α) (hs : m.sorted = true) : (m.erase k).sorted = true := by
  induction m with
  | nil => rfl
  | cons e m ih =>
    obtain ⟨i, v⟩ := e
    simp only [Store.sorted, Bool.and_eq_true] at hs
    simp only [Store.erase]
    split
    · exact ih hs.2
    · simp only [Store.sorted, Bool.and_eq_true]
      exact ⟨Store.above_erase i k m hs.2 hs.1, ih hs.2⟩

theorem Store.above_insert {α : Type} (j k : Nat) (v : α) (m : Store α) (hjk : j < k) (h : Store.above j m = true) :
    Store.above j (m.insert k v) = true := by
  cases m with
  | nil => simpa [Store.insert, Store.above] using hjk
  | cons e m =>
    obtain ⟨i, w⟩ := e
    simp only [Store.insert]
    split
    · simpa [Store.above] using hjk
    · split
      · simpa [Store.above] using hjk
      · simpa [Store.above] using h

theorem Store.sorted_insert {α : Type} (k : Nat) (v : α) (m : Store α) (hs : m.sorted = true) :
    (m.insert k v).sorted = true := by
  induction m with
  | nil => rfl
  | cons e m ih =>
    obtain ⟨i, w⟩ := e
    have hs' := hs
    simp only [Store.sorted, Bool.and_eq_true] at hs
    simp only [Store.insert]
    split
    · rename_i hlt
      simp only [Store.sorted, Bool.and_eq_true, Store.above, decide_eq_true_eq]
      exact ⟨hlt, hs⟩
    · split
      · subst_vars; simpa [Store.sorted] using hs
      · simp only [Store.sorted, Bool.and_eq_true]
        exact ⟨Store.above_insert i k v m (by omega) hs.1, ih hs.2⟩

theorem Store.all_erase {α : Type} (p : Nat × α → Bool) (k : Nat) (m : Store α) (h : m.all p = true) :
    (m.erase k).all p = true := by
  induction m with
  | nil => rfl
  | cons e m ih =>
    obtain ⟨i, v⟩ := e
    simp only [List.all_cons, Bool.and_eq_true] at h
    simp only [Store.erase]
    split
    · exact ih h.2
    · simp [h.1, ih h.2]

theorem Store.all_insert {α : Type} (p : Nat × α → Bool) (k : Nat) (v : α) (m : Store α) (hp : p (k, v) = true)
    (h : m.all p = true) : (m.insert k v).all p = true := by
  induction m with
  | nil => simp [Store.insert, hp]
  | cons e m ih =>
    obtain ⟨i, w⟩ := e
    have h' := h
    simp only [List.all_cons, Bool.and_eq_true] at h
    simp only [Store.insert]
    split
    · simp [hp, h.1, h.2]
    · split
      · simp [hp, h.2]
      · simp [h.1, ih h.2]

/-- A write keeps the canonical form. -/
theorem Store.wf_put {α : Type} (isDef : Nat → α → Bool) (m : Store α) (k : Nat) (v : α) (h : m.wf isDef = true) :
    (m.put isDef k v).wf isDef = true := by
  simp only [Store.wf, Bool.and_eq_true] at h ⊢
  unfold Store.put
  split
  · exact ⟨Store.sorted_erase k m h.1, Store.all_erase _ k m h.2⟩
  · rename_i hd
    exact ⟨Store.sorted_insert k v m h.1, Store.all_insert _ k v m (by simpa using hd) h.2⟩

end Sys2Proof.Machine
end

