-- ==== Sys2Proof/Laws/Regs.lean ====
section
/-! SUPPORT. Reading a register or a field after a write of it, and what such a write leaves. -/

namespace Sys2Proof.Machine

theorem Reg.ofNum_num (r : Reg) : Reg.ofNum r.num = r := by cases r <;> rfl

theorem Reg.num_lt (r : Reg) : r.num < 512 := by cases r <;> decide

theorem regKey_inj {r r' : Reg} {u u' : Nat} : regKey r u = regKey r' u' ↔ r = r' ∧ u = u' := by
  constructor
  · intro h
    have h1 := Reg.num_lt r
    have h2 := Reg.num_lt r'
    unfold regKey at h
    have hu : u = u' := by omega
    have hn : r.num = r'.num := by omega
    exact ⟨by rw [← Reg.ofNum_num r, hn, Reg.ofNum_num], hu⟩
  · rintro ⟨rfl, rfl⟩; rfl

/-- A register after a write: the written one holds the word, every other is unchanged. -/
theorem State.reg_setReg (s : State) (r r' : Reg) (u u' : Nat) (w : Word) :
    (s.setReg r u w).reg r' u' = if r' = r ∧ u' = u then w else s.reg r' u' := by
  unfold State.reg State.setReg
  simp only [Store.find?_put, regKey_inj]
  by_cases h : r' = r ∧ u' = u
  · obtain ⟨rfl, rfl⟩ := h
    simp only [and_self, if_true]
    have hk : Reg.ofNum (regKey r' u' % 512) = r' := by
      have := Reg.num_lt r'
      have : regKey r' u' % 512 = r'.num := by unfold regKey; omega
      rw [this, Reg.ofNum_num]
    have hu : regKey r' u' / 512 = u' := by
      have := Reg.num_lt r'
      unfold regKey; omega
    by_cases hd : regIsDef s.build (regKey r' u') w = true
    · simp only [hd, if_true, Option.getD_none]
      simp only [regIsDef, hk, hu, beq_iff_eq] at hd
      exact hd.symm
    · simp [hd]
  · simp [h]

@[simp] theorem State.reg_setReg_same (s : State) (r : Reg) (u : Nat) (w : Word) : (s.setReg r u w).reg r u = w := by
  simp [State.reg_setReg]

theorem State.reg_setReg_ne (s : State) {r r' : Reg} {u u' : Nat} (w : Word) (h : r' ≠ r ∨ u' ≠ u) :
    (s.setReg r u w).reg r' u' = s.reg r' u' := by
  rw [State.reg_setReg, if_neg]; tauto

/-! ### Fields -/

theorem getF_testBit (w : Word) (lo n i : Nat) : (getF w lo n).testBit i = (decide (i < n) && w.getLsbD (lo + i)) := by
  unfold getF
  rw [Nat.testBit_mod_two_pow, Nat.testBit_div_two_pow, BitVec.testBit_toNat, Nat.add_comm i lo]

theorem maskF_getLsbD (lo n i : Nat) : (maskF lo n).getLsbD i = decide (lo ≤ i ∧ i < lo + n ∧ i < 32) := by
  unfold maskF
  simp only [BitVec.getLsbD_shiftLeft, BitVec.getLsbD_ofNat, Nat.testBit_two_pow_sub_one]
  by_cases h1 : i < 32 <;> by_cases h2 : lo ≤ i <;> by_cases h3 : i < lo + n <;> simp [h1, h2, h3] <;> omega

/-- A field that was written reads as the value's low bits. -/
theorem getF_putF_same (w : Word) (lo n v : Nat) (h : lo + n ≤ 32) : getF (putF w lo n v) lo n = v % 2 ^ n := by
  apply Nat.eq_of_testBit_eq
  intro i
  rw [getF_testBit, Nat.testBit_mod_two_pow]
  by_cases hi : i < n
  · simp only [putF, BitVec.getLsbD_or, BitVec.getLsbD_and, BitVec.getLsbD_not, maskF_getLsbD,
      BitVec.getLsbD_shiftLeft, BitVec.getLsbD_ofNat]
    have h1 : lo + i < 32 := by omega
    have h2 : lo + i < lo + n := by omega
    have h3 : i < 32 := by omega
    simp [hi, h1, h3]
  · simp [hi]

/-- A field that does not meet the written one keeps its value. -/
theorem getF_putF_disj (w : Word) (lo n v lo' n' : Nat) (h : lo' + n' ≤ lo ∨ lo + n ≤ lo') :
    getF (putF w lo n v) lo' n' = getF w lo' n' := by
  apply Nat.eq_of_testBit_eq
  intro i
  rw [getF_testBit, getF_testBit]
  by_cases hi : i < n'
  · by_cases h32 : lo' + i < 32
    · simp only [putF, BitVec.getLsbD_or, BitVec.getLsbD_and, BitVec.getLsbD_not, maskF_getLsbD,
        BitVec.getLsbD_shiftLeft, BitVec.getLsbD_ofNat]
      rcases h with h | h
      · have h1 : ¬ lo ≤ lo' + i := by omega
        have h2 : lo' + i < lo := by omega
        simp [h1, h2, h32]
      · have h1 : ¬ lo' + i < lo + n := by omega
        simp [h1, h32]
    · simp only [putF, BitVec.getLsbD_or, BitVec.getLsbD_and, BitVec.getLsbD_not, maskF_getLsbD,
        BitVec.getLsbD_shiftLeft]
      simp [h32]
      intro h
      simp [BitVec.getLsbD_of_ge w (lo' + i) (by omega)]
  · simp [hi]

theorem State.fget_setReg (s : State) (r : Reg) (u : Nat) (w : Word) (f : Fld) (u' : Nat) :
    (s.setReg r u w).fget f u' = if f.reg = r ∧ u' = u then getF w f.lo f.w else s.fget f u' := by
  unfold State.fget
  rw [State.reg_setReg]
  split <;> rfl

/-- A field after a write of a field: one of another register or instance keeps its value. -/
theorem State.fget_fset_ne (s : State) (f f' : Fld) (u u' v : Nat) (h : f'.reg ≠ f.reg ∨ u' ≠ u) :
    (s.fset f u v).fget f' u' = s.fget f' u' := by
  unfold State.fset
  rw [State.fget_setReg, if_neg]; tauto

theorem State.fget_fset_disj (s : State) (f f' : Fld) (u u' v : Nat)
    (h : f'.lo + f'.w ≤ f.lo ∨ f.lo + f.w ≤ f'.lo) : (s.fset f u v).fget f' u' = s.fget f' u' := by
  unfold State.fset
  rw [State.fget_setReg]
  split
  · rename_i he
    rw [getF_putF_disj _ _ _ _ _ _ h]
    obtain ⟨h1, rfl⟩ := he
    unfold State.fget; rw [h1]
  · rfl

theorem State.fget_fset_same (s : State) (f : Fld) (u v : Nat) (h : f.lo + f.w ≤ 32) :
    (s.fset f u v).fget f u = v % 2 ^ f.w := by
  unfold State.fset
  rw [State.fget_setReg, if_pos ⟨rfl, rfl⟩, getF_putF_same _ _ _ _ h]

/-- A field after a write of a field, for concrete fields. -/
theorem State.fget_fset (s : State) (f f' : Fld) (u u' v : Nat) :
    (s.fset f u v).fget f' u' =
      if f'.reg = f.reg ∧ u' = u then getF (putF (s.reg f.reg u) f.lo f.w v) f'.lo f'.w else s.fget f' u' := by
  unfold State.fset; exact State.fget_setReg ..

theorem State.reg_fset (s : State) (f : Fld) (u v : Nat) (r : Reg) (u' : Nat) :
    (s.fset f u v).reg r u' = if r = f.reg ∧ u' = u then putF (s.reg f.reg u) f.lo f.w v else s.reg r u' := by
  unfold State.fset; exact State.reg_setReg ..

/-- A register write keeps the registers in canonical form. -/
theorem State.setReg_regsOk (s : State) (r : Reg) (u : Nat) (w : Word)
    (h : Store.wf (regIsDef s.build) s.regs = true) :
    Store.wf (regIsDef (s.setReg r u w).build) (s.setReg r u w).regs = true :=
  Store.wf_put _ _ _ _ h

end Sys2Proof.Machine
end

