-- ==== Sys2Proof/Laws/State.lean ====
section
/-!
SUPPORT. One lemma for each field of State and each update that leaves it, and what registers and bytes read as after an
update of something else: no later proof unfolds a record update.
-/

namespace Sys2Proof.Machine

variable (s : State)

/-! ### setReg -/

@[simp] theorem State.setReg_build (r : Reg) (u : Nat) (w : Word) : (s.setReg r u w).build = s.build := rfl
@[simp] theorem State.setReg_por (r : Reg) (u : Nat) (w : Word) : (s.setReg r u w).por = s.por := rfl
@[simp] theorem State.setReg_mem (r : Reg) (u : Nat) (w : Word) : (s.setReg r u w).mem = s.mem := rfl
@[simp] theorem State.setReg_fresh (r : Reg) (u : Nat) (w : Word) : (s.setReg r u w).fresh = s.fresh := rfl
@[simp] theorem State.setReg_freshMid (r : Reg) (u : Nat) (w : Word) : (s.setReg r u w).freshMid = s.freshMid := rfl
@[simp] theorem State.setReg_shadow (r : Reg) (u : Nat) (w : Word) : (s.setReg r u w).shadow = s.shadow := rfl
@[simp] theorem State.setReg_stn (r : Reg) (u : Nat) (w : Word) : (s.setReg r u w).stn = s.stn := rfl
@[simp] theorem State.setReg_secs (r : Reg) (u : Nat) (w : Word) : (s.setReg r u w).secs = s.secs := rfl
@[simp] theorem State.setReg_rgns (r : Reg) (u : Nat) (w : Word) : (s.setReg r u w).rgns = s.rgns := rfl
@[simp] theorem State.setReg_log (r : Reg) (u : Nat) (w : Word) : (s.setReg r u w).log = s.log := rfl
@[simp] theorem State.setReg_jnl (r : Reg) (u : Nat) (w : Word) : (s.setReg r u w).jnl = s.jnl := rfl
@[simp] theorem State.setReg_miles (r : Reg) (u : Nat) (w : Word) : (s.setReg r u w).miles = s.miles := rfl
@[simp] theorem State.setReg_milSnap (r : Reg) (u : Nat) (w : Word) : (s.setReg r u w).milSnap = s.milSnap := rfl
@[simp] theorem State.setReg_xings (r : Reg) (u : Nat) (w : Word) : (s.setReg r u w).xings = s.xings := rfl
@[simp] theorem State.setReg_toks (r : Reg) (u : Nat) (w : Word) : (s.setReg r u w).toks = s.toks := rfl
@[simp] theorem State.setReg_cal (r : Reg) (u : Nat) (w : Word) : (s.setReg r u w).cal = s.cal := rfl
@[simp] theorem State.setReg_calRgns (r : Reg) (u : Nat) (w : Word) : (s.setReg r u w).calRgns = s.calRgns := rfl
@[simp] theorem State.setReg_dsp (r : Reg) (u : Nat) (w : Word) : (s.setReg r u w).dsp = s.dsp := rfl
@[simp] theorem State.setReg_gov (r : Reg) (u : Nat) (w : Word) : (s.setReg r u w).gov = s.gov := rfl
@[simp] theorem State.setReg_pmb (r : Reg) (u : Nat) (w : Word) : (s.setReg r u w).pmb = s.pmb := rfl
@[simp] theorem State.setReg_mtr (r : Reg) (u : Nat) (w : Word) : (s.setReg r u w).mtr = s.mtr := rfl
@[simp] theorem State.setReg_axi (r : Reg) (u : Nat) (w : Word) : (s.setReg r u w).axi = s.axi := rfl
@[simp] theorem State.setReg_apb (r : Reg) (u : Nat) (w : Word) : (s.setReg r u w).apb = s.apb := rfl
@[simp] theorem State.setReg_test (r : Reg) (u : Nat) (w : Word) : (s.setReg r u w).test = s.test := rfl
@[simp] theorem State.setReg_freeCtr (r : Reg) (u : Nat) (w : Word) : (s.setReg r u w).freeCtr = s.freeCtr := rfl
@[simp] theorem State.setReg_pending (r : Reg) (u : Nat) (w : Word) : (s.setReg r u w).pending = s.pending := rfl
@[simp] theorem State.setReg_rdByte (r : Reg) (u : Nat) (w : Word) (x : Nat) : (s.setReg r u w).rdByte x = s.rdByte x := rfl

/-! ### fset -/

@[simp] theorem State.fset_build (f : Fld) (u v : Nat) : (s.fset f u v).build = s.build := rfl
@[simp] theorem State.fset_por (f : Fld) (u v : Nat) : (s.fset f u v).por = s.por := rfl
@[simp] theorem State.fset_mem (f : Fld) (u v : Nat) : (s.fset f u v).mem = s.mem := rfl
@[simp] theorem State.fset_fresh (f : Fld) (u v : Nat) : (s.fset f u v).fresh = s.fresh := rfl
@[simp] theorem State.fset_freshMid (f : Fld) (u v : Nat) : (s.fset f u v).freshMid = s.freshMid := rfl
@[simp] theorem State.fset_shadow (f : Fld) (u v : Nat) : (s.fset f u v).shadow = s.shadow := rfl
@[simp] theorem State.fset_stn (f : Fld) (u v : Nat) : (s.fset f u v).stn = s.stn := rfl
@[simp] theorem State.fset_secs (f : Fld) (u v : Nat) : (s.fset f u v).secs = s.secs := rfl
@[simp] theorem State.fset_rgns (f : Fld) (u v : Nat) : (s.fset f u v).rgns = s.rgns := rfl
@[simp] theorem State.fset_log (f : Fld) (u v : Nat) : (s.fset f u v).log = s.log := rfl
@[simp] theorem State.fset_jnl (f : Fld) (u v : Nat) : (s.fset f u v).jnl = s.jnl := rfl
@[simp] theorem State.fset_miles (f : Fld) (u v : Nat) : (s.fset f u v).miles = s.miles := rfl
@[simp] theorem State.fset_milSnap (f : Fld) (u v : Nat) : (s.fset f u v).milSnap = s.milSnap := rfl
@[simp] theorem State.fset_xings (f : Fld) (u v : Nat) : (s.fset f u v).xings = s.xings := rfl
@[simp] theorem State.fset_toks (f : Fld) (u v : Nat) : (s.fset f u v).toks = s.toks := rfl
@[simp] theorem State.fset_cal (f : Fld) (u v : Nat) : (s.fset f u v).cal = s.cal := rfl
@[simp] theorem State.fset_calRgns (f : Fld) (u v : Nat) : (s.fset f u v).calRgns = s.calRgns := rfl
@[simp] theorem State.fset_dsp (f : Fld) (u v : Nat) : (s.fset f u v).dsp = s.dsp := rfl
@[simp] theorem State.fset_gov (f : Fld) (u v : Nat) : (s.fset f u v).gov = s.gov := rfl
@[simp] theorem State.fset_pmb (f : Fld) (u v : Nat) : (s.fset f u v).pmb = s.pmb := rfl
@[simp] theorem State.fset_mtr (f : Fld) (u v : Nat) : (s.fset f u v).mtr = s.mtr := rfl
@[simp] theorem State.fset_axi (f : Fld) (u v : Nat) : (s.fset f u v).axi = s.axi := rfl
@[simp] theorem State.fset_apb (f : Fld) (u v : Nat) : (s.fset f u v).apb = s.apb := rfl
@[simp] theorem State.fset_test (f : Fld) (u v : Nat) : (s.fset f u v).test = s.test := rfl
@[simp] theorem State.fset_freeCtr (f : Fld) (u v : Nat) : (s.fset f u v).freeCtr = s.freeCtr := rfl
@[simp] theorem State.fset_pending (f : Fld) (u v : Nat) : (s.fset f u v).pending = s.pending := rfl
@[simp] theorem State.fset_rdByte (f : Fld) (u v : Nat) (x : Nat) : (s.fset f u v).rdByte x = s.rdByte x := rfl

/-! ### fsetB -/

@[simp] theorem State.fsetB_build (f : Fld) (u : Nat) (v : Bool) : (s.fsetB f u v).build = s.build := rfl
@[simp] theorem State.fsetB_por (f : Fld) (u : Nat) (v : Bool) : (s.fsetB f u v).por = s.por := rfl
@[simp] theorem State.fsetB_mem (f : Fld) (u : Nat) (v : Bool) : (s.fsetB f u v).mem = s.mem := rfl
@[simp] theorem State.fsetB_fresh (f : Fld) (u : Nat) (v : Bool) : (s.fsetB f u v).fresh = s.fresh := rfl
@[simp] theorem State.fsetB_freshMid (f : Fld) (u : Nat) (v : Bool) : (s.fsetB f u v).freshMid = s.freshMid := rfl
@[simp] theorem State.fsetB_shadow (f : Fld) (u : Nat) (v : Bool) : (s.fsetB f u v).shadow = s.shadow := rfl
@[simp] theorem State.fsetB_stn (f : Fld) (u : Nat) (v : Bool) : (s.fsetB f u v).stn = s.stn := rfl
@[simp] theorem State.fsetB_secs (f : Fld) (u : Nat) (v : Bool) : (s.fsetB f u v).secs = s.secs := rfl
@[simp] theorem State.fsetB_rgns (f : Fld) (u : Nat) (v : Bool) : (s.fsetB f u v).rgns = s.rgns := rfl
@[simp] theorem State.fsetB_log (f : Fld) (u : Nat) (v : Bool) : (s.fsetB f u v).log = s.log := rfl
@[simp] theorem State.fsetB_jnl (f : Fld) (u : Nat) (v : Bool) : (s.fsetB f u v).jnl = s.jnl := rfl
@[simp] theorem State.fsetB_miles (f : Fld) (u : Nat) (v : Bool) : (s.fsetB f u v).miles = s.miles := rfl
@[simp] theorem State.fsetB_milSnap (f : Fld) (u : Nat) (v : Bool) : (s.fsetB f u v).milSnap = s.milSnap := rfl
@[simp] theorem State.fsetB_xings (f : Fld) (u : Nat) (v : Bool) : (s.fsetB f u v).xings = s.xings := rfl
@[simp] theorem State.fsetB_toks (f : Fld) (u : Nat) (v : Bool) : (s.fsetB f u v).toks = s.toks := rfl
@[simp] theorem State.fsetB_cal (f : Fld) (u : Nat) (v : Bool) : (s.fsetB f u v).cal = s.cal := rfl
@[simp] theorem State.fsetB_calRgns (f : Fld) (u : Nat) (v : Bool) : (s.fsetB f u v).calRgns = s.calRgns := rfl
@[simp] theorem State.fsetB_dsp (f : Fld) (u : Nat) (v : Bool) : (s.fsetB f u v).dsp = s.dsp := rfl
@[simp] theorem State.fsetB_gov (f : Fld) (u : Nat) (v : Bool) : (s.fsetB f u v).gov = s.gov := rfl
@[simp] theorem State.fsetB_pmb (f : Fld) (u : Nat) (v : Bool) : (s.fsetB f u v).pmb = s.pmb := rfl
@[simp] theorem State.fsetB_mtr (f : Fld) (u : Nat) (v : Bool) : (s.fsetB f u v).mtr = s.mtr := rfl
@[simp] theorem State.fsetB_axi (f : Fld) (u : Nat) (v : Bool) : (s.fsetB f u v).axi = s.axi := rfl
@[simp] theorem State.fsetB_apb (f : Fld) (u : Nat) (v : Bool) : (s.fsetB f u v).apb = s.apb := rfl
@[simp] theorem State.fsetB_test (f : Fld) (u : Nat) (v : Bool) : (s.fsetB f u v).test = s.test := rfl
@[simp] theorem State.fsetB_freeCtr (f : Fld) (u : Nat) (v : Bool) : (s.fsetB f u v).freeCtr = s.freeCtr := rfl
@[simp] theorem State.fsetB_pending (f : Fld) (u : Nat) (v : Bool) : (s.fsetB f u v).pending = s.pending := rfl
@[simp] theorem State.fsetB_rdByte (f : Fld) (u : Nat) (v : Bool) (x : Nat) : (s.fsetB f u v).rdByte x = s.rdByte x := rfl

/-! ### faddSat -/

@[simp] theorem State.faddSat_build (f : Fld) (u n : Nat) : (s.faddSat f u n).build = s.build := rfl
@[simp] theorem State.faddSat_por (f : Fld) (u n : Nat) : (s.faddSat f u n).por = s.por := rfl
@[simp] theorem State.faddSat_mem (f : Fld) (u n : Nat) : (s.faddSat f u n).mem = s.mem := rfl
@[simp] theorem State.faddSat_fresh (f : Fld) (u n : Nat) : (s.faddSat f u n).fresh = s.fresh := rfl
@[simp] theorem State.faddSat_freshMid (f : Fld) (u n : Nat) : (s.faddSat f u n).freshMid = s.freshMid := rfl
@[simp] theorem State.faddSat_shadow (f : Fld) (u n : Nat) : (s.faddSat f u n).shadow = s.shadow := rfl
@[simp] theorem State.faddSat_stn (f : Fld) (u n : Nat) : (s.faddSat f u n).stn = s.stn := rfl
@[simp] theorem State.faddSat_secs (f : Fld) (u n : Nat) : (s.faddSat f u n).secs = s.secs := rfl
@[simp] theorem State.faddSat_rgns (f : Fld) (u n : Nat) : (s.faddSat f u n).rgns = s.rgns := rfl
@[simp] theorem State.faddSat_log (f : Fld) (u n : Nat) : (s.faddSat f u n).log = s.log := rfl
@[simp] theorem State.faddSat_jnl (f : Fld) (u n : Nat) : (s.faddSat f u n).jnl = s.jnl := rfl
@[simp] theorem State.faddSat_miles (f : Fld) (u n : Nat) : (s.faddSat f u n).miles = s.miles := rfl
@[simp] theorem State.faddSat_milSnap (f : Fld) (u n : Nat) : (s.faddSat f u n).milSnap = s.milSnap := rfl
@[simp] theorem State.faddSat_xings (f : Fld) (u n : Nat) : (s.faddSat f u n).xings = s.xings := rfl
@[simp] theorem State.faddSat_toks (f : Fld) (u n : Nat) : (s.faddSat f u n).toks = s.toks := rfl
@[simp] theorem State.faddSat_cal (f : Fld) (u n : Nat) : (s.faddSat f u n).cal = s.cal := rfl
@[simp] theorem State.faddSat_calRgns (f : Fld) (u n : Nat) : (s.faddSat f u n).calRgns = s.calRgns := rfl
@[simp] theorem State.faddSat_dsp (f : Fld) (u n : Nat) : (s.faddSat f u n).dsp = s.dsp := rfl
@[simp] theorem State.faddSat_gov (f : Fld) (u n : Nat) : (s.faddSat f u n).gov = s.gov := rfl
@[simp] theorem State.faddSat_pmb (f : Fld) (u n : Nat) : (s.faddSat f u n).pmb = s.pmb := rfl
@[simp] theorem State.faddSat_mtr (f : Fld) (u n : Nat) : (s.faddSat f u n).mtr = s.mtr := rfl
@[simp] theorem State.faddSat_axi (f : Fld) (u n : Nat) : (s.faddSat f u n).axi = s.axi := rfl
@[simp] theorem State.faddSat_apb (f : Fld) (u n : Nat) : (s.faddSat f u n).apb = s.apb := rfl
@[simp] theorem State.faddSat_test (f : Fld) (u n : Nat) : (s.faddSat f u n).test = s.test := rfl
@[simp] theorem State.faddSat_freeCtr (f : Fld) (u n : Nat) : (s.faddSat f u n).freeCtr = s.freeCtr := rfl
@[simp] theorem State.faddSat_pending (f : Fld) (u n : Nat) : (s.faddSat f u n).pending = s.pending := rfl
@[simp] theorem State.faddSat_rdByte (f : Fld) (u n : Nat) (x : Nat) : (s.faddSat f u n).rdByte x = s.rdByte x := rfl

/-! ### faddWrap -/

@[simp] theorem State.faddWrap_build (f : Fld) (u n : Nat) : (s.faddWrap f u n).build = s.build := rfl
@[simp] theorem State.faddWrap_por (f : Fld) (u n : Nat) : (s.faddWrap f u n).por = s.por := rfl
@[simp] theorem State.faddWrap_mem (f : Fld) (u n : Nat) : (s.faddWrap f u n).mem = s.mem := rfl
@[simp] theorem State.faddWrap_fresh (f : Fld) (u n : Nat) : (s.faddWrap f u n).fresh = s.fresh := rfl
@[simp] theorem State.faddWrap_freshMid (f : Fld) (u n : Nat) : (s.faddWrap f u n).freshMid = s.freshMid := rfl
@[simp] theorem State.faddWrap_shadow (f : Fld) (u n : Nat) : (s.faddWrap f u n).shadow = s.shadow := rfl
@[simp] theorem State.faddWrap_stn (f : Fld) (u n : Nat) : (s.faddWrap f u n).stn = s.stn := rfl
@[simp] theorem State.faddWrap_secs (f : Fld) (u n : Nat) : (s.faddWrap f u n).secs = s.secs := rfl
@[simp] theorem State.faddWrap_rgns (f : Fld) (u n : Nat) : (s.faddWrap f u n).rgns = s.rgns := rfl
@[simp] theorem State.faddWrap_log (f : Fld) (u n : Nat) : (s.faddWrap f u n).log = s.log := rfl
@[simp] theorem State.faddWrap_jnl (f : Fld) (u n : Nat) : (s.faddWrap f u n).jnl = s.jnl := rfl
@[simp] theorem State.faddWrap_miles (f : Fld) (u n : Nat) : (s.faddWrap f u n).miles = s.miles := rfl
@[simp] theorem State.faddWrap_milSnap (f : Fld) (u n : Nat) : (s.faddWrap f u n).milSnap = s.milSnap := rfl
@[simp] theorem State.faddWrap_xings (f : Fld) (u n : Nat) : (s.faddWrap f u n).xings = s.xings := rfl
@[simp] theorem State.faddWrap_toks (f : Fld) (u n : Nat) : (s.faddWrap f u n).toks = s.toks := rfl
@[simp] theorem State.faddWrap_cal (f : Fld) (u n : Nat) : (s.faddWrap f u n).cal = s.cal := rfl
@[simp] theorem State.faddWrap_calRgns (f : Fld) (u n : Nat) : (s.faddWrap f u n).calRgns = s.calRgns := rfl
@[simp] theorem State.faddWrap_dsp (f : Fld) (u n : Nat) : (s.faddWrap f u n).dsp = s.dsp := rfl
@[simp] theorem State.faddWrap_gov (f : Fld) (u n : Nat) : (s.faddWrap f u n).gov = s.gov := rfl
@[simp] theorem State.faddWrap_pmb (f : Fld) (u n : Nat) : (s.faddWrap f u n).pmb = s.pmb := rfl
@[simp] theorem State.faddWrap_mtr (f : Fld) (u n : Nat) : (s.faddWrap f u n).mtr = s.mtr := rfl
@[simp] theorem State.faddWrap_axi (f : Fld) (u n : Nat) : (s.faddWrap f u n).axi = s.axi := rfl
@[simp] theorem State.faddWrap_apb (f : Fld) (u n : Nat) : (s.faddWrap f u n).apb = s.apb := rfl
@[simp] theorem State.faddWrap_test (f : Fld) (u n : Nat) : (s.faddWrap f u n).test = s.test := rfl
@[simp] theorem State.faddWrap_freeCtr (f : Fld) (u n : Nat) : (s.faddWrap f u n).freeCtr = s.freeCtr := rfl
@[simp] theorem State.faddWrap_pending (f : Fld) (u n : Nat) : (s.faddWrap f u n).pending = s.pending := rfl
@[simp] theorem State.faddWrap_rdByte (f : Fld) (u n : Nat) (x : Nat) : (s.faddWrap f u n).rdByte x = s.rdByte x := rfl

/-! ### setBits -/

@[simp] theorem State.setBits_build (f : Fld) (u n : Nat) : (s.setBits f u n).build = s.build := rfl
@[simp] theorem State.setBits_por (f : Fld) (u n : Nat) : (s.setBits f u n).por = s.por := rfl
@[simp] theorem State.setBits_mem (f : Fld) (u n : Nat) : (s.setBits f u n).mem = s.mem := rfl
@[simp] theorem State.setBits_freshMid (f : Fld) (u n : Nat) : (s.setBits f u n).freshMid = s.freshMid := rfl
@[simp] theorem State.setBits_shadow (f : Fld) (u n : Nat) : (s.setBits f u n).shadow = s.shadow := rfl
@[simp] theorem State.setBits_stn (f : Fld) (u n : Nat) : (s.setBits f u n).stn = s.stn := rfl
@[simp] theorem State.setBits_secs (f : Fld) (u n : Nat) : (s.setBits f u n).secs = s.secs := rfl
@[simp] theorem State.setBits_rgns (f : Fld) (u n : Nat) : (s.setBits f u n).rgns = s.rgns := rfl
@[simp] theorem State.setBits_log (f : Fld) (u n : Nat) : (s.setBits f u n).log = s.log := rfl
@[simp] theorem State.setBits_jnl (f : Fld) (u n : Nat) : (s.setBits f u n).jnl = s.jnl := rfl
@[simp] theorem State.setBits_miles (f : Fld) (u n : Nat) : (s.setBits f u n).miles = s.miles := rfl
@[simp] theorem State.setBits_milSnap (f : Fld) (u n : Nat) : (s.setBits f u n).milSnap = s.milSnap := rfl
@[simp] theorem State.setBits_xings (f : Fld) (u n : Nat) : (s.setBits f u n).xings = s.xings := rfl
@[simp] theorem State.setBits_toks (f : Fld) (u n : Nat) : (s.setBits f u n).toks = s.toks := rfl
@[simp] theorem State.setBits_cal (f : Fld) (u n : Nat) : (s.setBits f u n).cal = s.cal := rfl
@[simp] theorem State.setBits_calRgns (f : Fld) (u n : Nat) : (s.setBits f u n).calRgns = s.calRgns := rfl
@[simp] theorem State.setBits_dsp (f : Fld) (u n : Nat) : (s.setBits f u n).dsp = s.dsp := rfl
@[simp] theorem State.setBits_gov (f : Fld) (u n : Nat) : (s.setBits f u n).gov = s.gov := rfl
@[simp] theorem State.setBits_pmb (f : Fld) (u n : Nat) : (s.setBits f u n).pmb = s.pmb := rfl
@[simp] theorem State.setBits_mtr (f : Fld) (u n : Nat) : (s.setBits f u n).mtr = s.mtr := rfl
@[simp] theorem State.setBits_axi (f : Fld) (u n : Nat) : (s.setBits f u n).axi = s.axi := rfl
@[simp] theorem State.setBits_apb (f : Fld) (u n : Nat) : (s.setBits f u n).apb = s.apb := rfl
@[simp] theorem State.setBits_test (f : Fld) (u n : Nat) : (s.setBits f u n).test = s.test := rfl
@[simp] theorem State.setBits_freeCtr (f : Fld) (u n : Nat) : (s.setBits f u n).freeCtr = s.freeCtr := rfl
@[simp] theorem State.setBits_pending (f : Fld) (u n : Nat) : (s.setBits f u n).pending = s.pending := rfl
@[simp] theorem State.setBits_rdByte (f : Fld) (u n : Nat) (x : Nat) : (s.setBits f u n).rdByte x = s.rdByte x := rfl

/-! ### setFlag -/

@[simp] theorem State.setFlag_build (f : Fld) (u : Nat) : (s.setFlag f u).build = s.build := rfl
@[simp] theorem State.setFlag_por (f : Fld) (u : Nat) : (s.setFlag f u).por = s.por := rfl
@[simp] theorem State.setFlag_mem (f : Fld) (u : Nat) : (s.setFlag f u).mem = s.mem := rfl
@[simp] theorem State.setFlag_freshMid (f : Fld) (u : Nat) : (s.setFlag f u).freshMid = s.freshMid := rfl
@[simp] theorem State.setFlag_shadow (f : Fld) (u : Nat) : (s.setFlag f u).shadow = s.shadow := rfl
@[simp] theorem State.setFlag_stn (f : Fld) (u : Nat) : (s.setFlag f u).stn = s.stn := rfl
@[simp] theorem State.setFlag_secs (f : Fld) (u : Nat) : (s.setFlag f u).secs = s.secs := rfl
@[simp] theorem State.setFlag_rgns (f : Fld) (u : Nat) : (s.setFlag f u).rgns = s.rgns := rfl
@[simp] theorem State.setFlag_log (f : Fld) (u : Nat) : (s.setFlag f u).log = s.log := rfl
@[simp] theorem State.setFlag_jnl (f : Fld) (u : Nat) : (s.setFlag f u).jnl = s.jnl := rfl
@[simp] theorem State.setFlag_miles (f : Fld) (u : Nat) : (s.setFlag f u).miles = s.miles := rfl
@[simp] theorem State.setFlag_milSnap (f : Fld) (u : Nat) : (s.setFlag f u).milSnap = s.milSnap := rfl
@[simp] theorem State.setFlag_xings (f : Fld) (u : Nat) : (s.setFlag f u).xings = s.xings := rfl
@[simp] theorem State.setFlag_toks (f : Fld) (u : Nat) : (s.setFlag f u).toks = s.toks := rfl
@[simp] theorem State.setFlag_cal (f : Fld) (u : Nat) : (s.setFlag f u).cal = s.cal := rfl
@[simp] theorem State.setFlag_calRgns (f : Fld) (u : Nat) : (s.setFlag f u).calRgns = s.calRgns := rfl
@[simp] theorem State.setFlag_dsp (f : Fld) (u : Nat) : (s.setFlag f u).dsp = s.dsp := rfl
@[simp] theorem State.setFlag_gov (f : Fld) (u : Nat) : (s.setFlag f u).gov = s.gov := rfl
@[simp] theorem State.setFlag_pmb (f : Fld) (u : Nat) : (s.setFlag f u).pmb = s.pmb := rfl
@[simp] theorem State.setFlag_mtr (f : Fld) (u : Nat) : (s.setFlag f u).mtr = s.mtr := rfl
@[simp] theorem State.setFlag_axi (f : Fld) (u : Nat) : (s.setFlag f u).axi = s.axi := rfl
@[simp] theorem State.setFlag_apb (f : Fld) (u : Nat) : (s.setFlag f u).apb = s.apb := rfl
@[simp] theorem State.setFlag_test (f : Fld) (u : Nat) : (s.setFlag f u).test = s.test := rfl
@[simp] theorem State.setFlag_freeCtr (f : Fld) (u : Nat) : (s.setFlag f u).freeCtr = s.freeCtr := rfl
@[simp] theorem State.setFlag_pending (f : Fld) (u : Nat) : (s.setFlag f u).pending = s.pending := rfl
@[simp] theorem State.setFlag_rdByte (f : Fld) (u : Nat) (x : Nat) : (s.setFlag f u).rdByte x = s.rdByte x := rfl

/-! ### setBitsMid -/

@[simp] theorem State.setBitsMid_build (f : Fld) (u n : Nat) : (s.setBitsMid f u n).build = s.build := rfl
@[simp] theorem State.setBitsMid_por (f : Fld) (u n : Nat) : (s.setBitsMid f u n).por = s.por := rfl
@[simp] theorem State.setBitsMid_mem (f : Fld) (u n : Nat) : (s.setBitsMid f u n).mem = s.mem := rfl
@[simp] theorem State.setBitsMid_fresh (f : Fld) (u n : Nat) : (s.setBitsMid f u n).fresh = s.fresh := rfl
@[simp] theorem State.setBitsMid_shadow (f : Fld) (u n : Nat) : (s.setBitsMid f u n).shadow = s.shadow := rfl
@[simp] theorem State.setBitsMid_stn (f : Fld) (u n : Nat) : (s.setBitsMid f u n).stn = s.stn := rfl
@[simp] theorem State.setBitsMid_secs (f : Fld) (u n : Nat) : (s.setBitsMid f u n).secs = s.secs := rfl
@[simp] theorem State.setBitsMid_rgns (f : Fld) (u n : Nat) : (s.setBitsMid f u n).rgns = s.rgns := rfl
@[simp] theorem State.setBitsMid_log (f : Fld) (u n : Nat) : (s.setBitsMid f u n).log = s.log := rfl
@[simp] theorem State.setBitsMid_jnl (f : Fld) (u n : Nat) : (s.setBitsMid f u n).jnl = s.jnl := rfl
@[simp] theorem State.setBitsMid_miles (f : Fld) (u n : Nat) : (s.setBitsMid f u n).miles = s.miles := rfl
@[simp] theorem State.setBitsMid_milSnap (f : Fld) (u n : Nat) : (s.setBitsMid f u n).milSnap = s.milSnap := rfl
@[simp] theorem State.setBitsMid_xings (f : Fld) (u n : Nat) : (s.setBitsMid f u n).xings = s.xings := rfl
@[simp] theorem State.setBitsMid_toks (f : Fld) (u n : Nat) : (s.setBitsMid f u n).toks = s.toks := rfl
@[simp] theorem State.setBitsMid_cal (f : Fld) (u n : Nat) : (s.setBitsMid f u n).cal = s.cal := rfl
@[simp] theorem State.setBitsMid_calRgns (f : Fld) (u n : Nat) : (s.setBitsMid f u n).calRgns = s.calRgns := rfl
@[simp] theorem State.setBitsMid_dsp (f : Fld) (u n : Nat) : (s.setBitsMid f u n).dsp = s.dsp := rfl
@[simp] theorem State.setBitsMid_gov (f : Fld) (u n : Nat) : (s.setBitsMid f u n).gov = s.gov := rfl
@[simp] theorem State.setBitsMid_pmb (f : Fld) (u n : Nat) : (s.setBitsMid f u n).pmb = s.pmb := rfl
@[simp] theorem State.setBitsMid_mtr (f : Fld) (u n : Nat) : (s.setBitsMid f u n).mtr = s.mtr := rfl
@[simp] theorem State.setBitsMid_axi (f : Fld) (u n : Nat) : (s.setBitsMid f u n).axi = s.axi := rfl
@[simp] theorem State.setBitsMid_apb (f : Fld) (u n : Nat) : (s.setBitsMid f u n).apb = s.apb := rfl
@[simp] theorem State.setBitsMid_test (f : Fld) (u n : Nat) : (s.setBitsMid f u n).test = s.test := rfl
@[simp] theorem State.setBitsMid_freeCtr (f : Fld) (u n : Nat) : (s.setBitsMid f u n).freeCtr = s.freeCtr := rfl
@[simp] theorem State.setBitsMid_pending (f : Fld) (u n : Nat) : (s.setBitsMid f u n).pending = s.pending := rfl
@[simp] theorem State.setBitsMid_rdByte (f : Fld) (u n : Nat) (x : Nat) : (s.setBitsMid f u n).rdByte x = s.rdByte x := rfl

/-! ### setFlagMid -/

@[simp] theorem State.setFlagMid_build (f : Fld) (u : Nat) : (s.setFlagMid f u).build = s.build := rfl
@[simp] theorem State.setFlagMid_por (f : Fld) (u : Nat) : (s.setFlagMid f u).por = s.por := rfl
@[simp] theorem State.setFlagMid_mem (f : Fld) (u : Nat) : (s.setFlagMid f u).mem = s.mem := rfl
@[simp] theorem State.setFlagMid_fresh (f : Fld) (u : Nat) : (s.setFlagMid f u).fresh = s.fresh := rfl
@[simp] theorem State.setFlagMid_shadow (f : Fld) (u : Nat) : (s.setFlagMid f u).shadow = s.shadow := rfl
@[simp] theorem State.setFlagMid_stn (f : Fld) (u : Nat) : (s.setFlagMid f u).stn = s.stn := rfl
@[simp] theorem State.setFlagMid_secs (f : Fld) (u : Nat) : (s.setFlagMid f u).secs = s.secs := rfl
@[simp] theorem State.setFlagMid_rgns (f : Fld) (u : Nat) : (s.setFlagMid f u).rgns = s.rgns := rfl
@[simp] theorem State.setFlagMid_log (f : Fld) (u : Nat) : (s.setFlagMid f u).log = s.log := rfl
@[simp] theorem State.setFlagMid_jnl (f : Fld) (u : Nat) : (s.setFlagMid f u).jnl = s.jnl := rfl
@[simp] theorem State.setFlagMid_miles (f : Fld) (u : Nat) : (s.setFlagMid f u).miles = s.miles := rfl
@[simp] theorem State.setFlagMid_milSnap (f : Fld) (u : Nat) : (s.setFlagMid f u).milSnap = s.milSnap := rfl
@[simp] theorem State.setFlagMid_xings (f : Fld) (u : Nat) : (s.setFlagMid f u).xings = s.xings := rfl
@[simp] theorem State.setFlagMid_toks (f : Fld) (u : Nat) : (s.setFlagMid f u).toks = s.toks := rfl
@[simp] theorem State.setFlagMid_cal (f : Fld) (u : Nat) : (s.setFlagMid f u).cal = s.cal := rfl
@[simp] theorem State.setFlagMid_calRgns (f : Fld) (u : Nat) : (s.setFlagMid f u).calRgns = s.calRgns := rfl
@[simp] theorem State.setFlagMid_dsp (f : Fld) (u : Nat) : (s.setFlagMid f u).dsp = s.dsp := rfl
@[simp] theorem State.setFlagMid_gov (f : Fld) (u : Nat) : (s.setFlagMid f u).gov = s.gov := rfl
@[simp] theorem State.setFlagMid_pmb (f : Fld) (u : Nat) : (s.setFlagMid f u).pmb = s.pmb := rfl
@[simp] theorem State.setFlagMid_mtr (f : Fld) (u : Nat) : (s.setFlagMid f u).mtr = s.mtr := rfl
@[simp] theorem State.setFlagMid_axi (f : Fld) (u : Nat) : (s.setFlagMid f u).axi = s.axi := rfl
@[simp] theorem State.setFlagMid_apb (f : Fld) (u : Nat) : (s.setFlagMid f u).apb = s.apb := rfl
@[simp] theorem State.setFlagMid_test (f : Fld) (u : Nat) : (s.setFlagMid f u).test = s.test := rfl
@[simp] theorem State.setFlagMid_freeCtr (f : Fld) (u : Nat) : (s.setFlagMid f u).freeCtr = s.freeCtr := rfl
@[simp] theorem State.setFlagMid_pending (f : Fld) (u : Nat) : (s.setFlagMid f u).pending = s.pending := rfl
@[simp] theorem State.setFlagMid_rdByte (f : Fld) (u : Nat) (x : Nat) : (s.setFlagMid f u).rdByte x = s.rdByte x := rfl

/-! ### wrByte -/

@[simp] theorem State.wrByte_build (a : Nat) (b : Byte) : (s.wrByte a b).build = s.build := rfl
@[simp] theorem State.wrByte_por (a : Nat) (b : Byte) : (s.wrByte a b).por = s.por := rfl
@[simp] theorem State.wrByte_regs (a : Nat) (b : Byte) : (s.wrByte a b).regs = s.regs := rfl
@[simp] theorem State.wrByte_fresh (a : Nat) (b : Byte) : (s.wrByte a b).fresh = s.fresh := rfl
@[simp] theorem State.wrByte_freshMid (a : Nat) (b : Byte) : (s.wrByte a b).freshMid = s.freshMid := rfl
@[simp] theorem State.wrByte_shadow (a : Nat) (b : Byte) : (s.wrByte a b).shadow = s.shadow := rfl
@[simp] theorem State.wrByte_stn (a : Nat) (b : Byte) : (s.wrByte a b).stn = s.stn := rfl
@[simp] theorem State.wrByte_secs (a : Nat) (b : Byte) : (s.wrByte a b).secs = s.secs := rfl
@[simp] theorem State.wrByte_rgns (a : Nat) (b : Byte) : (s.wrByte a b).rgns = s.rgns := rfl
@[simp] theorem State.wrByte_log (a : Nat) (b : Byte) : (s.wrByte a b).log = s.log := rfl
@[simp] theorem State.wrByte_jnl (a : Nat) (b : Byte) : (s.wrByte a b).jnl = s.jnl := rfl
@[simp] theorem State.wrByte_miles (a : Nat) (b : Byte) : (s.wrByte a b).miles = s.miles := rfl
@[simp] theorem State.wrByte_milSnap (a : Nat) (b : Byte) : (s.wrByte a b).milSnap = s.milSnap := rfl
@[simp] theorem State.wrByte_xings (a : Nat) (b : Byte) : (s.wrByte a b).xings = s.xings := rfl
@[simp] theorem State.wrByte_toks (a : Nat) (b : Byte) : (s.wrByte a b).toks = s.toks := rfl
@[simp] theorem State.wrByte_cal (a : Nat) (b : Byte) : (s.wrByte a b).cal = s.cal := rfl
@[simp] theorem State.wrByte_calRgns (a : Nat) (b : Byte) : (s.wrByte a b).calRgns = s.calRgns := rfl
@[simp] theorem State.wrByte_dsp (a : Nat) (b : Byte) : (s.wrByte a b).dsp = s.dsp := rfl
@[simp] theorem State.wrByte_gov (a : Nat) (b : Byte) : (s.wrByte a b).gov = s.gov := rfl
@[simp] theorem State.wrByte_pmb (a : Nat) (b : Byte) : (s.wrByte a b).pmb = s.pmb := rfl
@[simp] theorem State.wrByte_mtr (a : Nat) (b : Byte) : (s.wrByte a b).mtr = s.mtr := rfl
@[simp] theorem State.wrByte_axi (a : Nat) (b : Byte) : (s.wrByte a b).axi = s.axi := rfl
@[simp] theorem State.wrByte_apb (a : Nat) (b : Byte) : (s.wrByte a b).apb = s.apb := rfl
@[simp] theorem State.wrByte_test (a : Nat) (b : Byte) : (s.wrByte a b).test = s.test := rfl
@[simp] theorem State.wrByte_freeCtr (a : Nat) (b : Byte) : (s.wrByte a b).freeCtr = s.freeCtr := rfl
@[simp] theorem State.wrByte_pending (a : Nat) (b : Byte) : (s.wrByte a b).pending = s.pending := rfl
@[simp] theorem State.wrByte_reg (a : Nat) (b : Byte) (r' : Reg) (u' : Nat) : (s.wrByte a b).reg r' u' = s.reg r' u' := rfl
@[simp] theorem State.wrByte_fget (a : Nat) (b : Byte) (f' : Fld) (u' : Nat) : (s.wrByte a b).fget f' u' = s.fget f' u' := rfl
@[simp] theorem State.wrByte_on (a : Nat) (b : Byte) (f' : Fld) (u' : Nat) : (s.wrByte a b).on f' u' = s.on f' u' := rfl

/-! ### setSec -/

@[simp] theorem State.setSec_build (k : Nat) (v : Sec) : (s.setSec k v).build = s.build := rfl
@[simp] theorem State.setSec_por (k : Nat) (v : Sec) : (s.setSec k v).por = s.por := rfl
@[simp] theorem State.setSec_regs (k : Nat) (v : Sec) : (s.setSec k v).regs = s.regs := rfl
@[simp] theorem State.setSec_mem (k : Nat) (v : Sec) : (s.setSec k v).mem = s.mem := rfl
@[simp] theorem State.setSec_fresh (k : Nat) (v : Sec) : (s.setSec k v).fresh = s.fresh := rfl
@[simp] theorem State.setSec_freshMid (k : Nat) (v : Sec) : (s.setSec k v).freshMid = s.freshMid := rfl
@[simp] theorem State.setSec_shadow (k : Nat) (v : Sec) : (s.setSec k v).shadow = s.shadow := rfl
@[simp] theorem State.setSec_stn (k : Nat) (v : Sec) : (s.setSec k v).stn = s.stn := rfl
@[simp] theorem State.setSec_rgns (k : Nat) (v : Sec) : (s.setSec k v).rgns = s.rgns := rfl
@[simp] theorem State.setSec_log (k : Nat) (v : Sec) : (s.setSec k v).log = s.log := rfl
@[simp] theorem State.setSec_jnl (k : Nat) (v : Sec) : (s.setSec k v).jnl = s.jnl := rfl
@[simp] theorem State.setSec_miles (k : Nat) (v : Sec) : (s.setSec k v).miles = s.miles := rfl
@[simp] theorem State.setSec_milSnap (k : Nat) (v : Sec) : (s.setSec k v).milSnap = s.milSnap := rfl
@[simp] theorem State.setSec_xings (k : Nat) (v : Sec) : (s.setSec k v).xings = s.xings := rfl
@[simp] theorem State.setSec_toks (k : Nat) (v : Sec) : (s.setSec k v).toks = s.toks := rfl
@[simp] theorem State.setSec_cal (k : Nat) (v : Sec) : (s.setSec k v).cal = s.cal := rfl
@[simp] theorem State.setSec_calRgns (k : Nat) (v : Sec) : (s.setSec k v).calRgns = s.calRgns := rfl
@[simp] theorem State.setSec_dsp (k : Nat) (v : Sec) : (s.setSec k v).dsp = s.dsp := rfl
@[simp] theorem State.setSec_gov (k : Nat) (v : Sec) : (s.setSec k v).gov = s.gov := rfl
@[simp] theorem State.setSec_pmb (k : Nat) (v : Sec) : (s.setSec k v).pmb = s.pmb := rfl
@[simp] theorem State.setSec_mtr (k : Nat) (v : Sec) : (s.setSec k v).mtr = s.mtr := rfl
@[simp] theorem State.setSec_axi (k : Nat) (v : Sec) : (s.setSec k v).axi = s.axi := rfl
@[simp] theorem State.setSec_apb (k : Nat) (v : Sec) : (s.setSec k v).apb = s.apb := rfl
@[simp] theorem State.setSec_test (k : Nat) (v : Sec) : (s.setSec k v).test = s.test := rfl
@[simp] theorem State.setSec_freeCtr (k : Nat) (v : Sec) : (s.setSec k v).freeCtr = s.freeCtr := rfl
@[simp] theorem State.setSec_pending (k : Nat) (v : Sec) : (s.setSec k v).pending = s.pending := rfl
@[simp] theorem State.setSec_reg (k : Nat) (v : Sec) (r' : Reg) (u' : Nat) : (s.setSec k v).reg r' u' = s.reg r' u' := rfl
@[simp] theorem State.setSec_fget (k : Nat) (v : Sec) (f' : Fld) (u' : Nat) : (s.setSec k v).fget f' u' = s.fget f' u' := rfl
@[simp] theorem State.setSec_on (k : Nat) (v : Sec) (f' : Fld) (u' : Nat) : (s.setSec k v).on f' u' = s.on f' u' := rfl
@[simp] theorem State.setSec_rdByte (k : Nat) (v : Sec) (x : Nat) : (s.setSec k v).rdByte x = s.rdByte x := rfl

/-! ### setRgn -/

@[simp] theorem State.setRgn_build (k : Nat) (v : Rgn) : (s.setRgn k v).build = s.build := rfl
@[simp] theorem State.setRgn_por (k : Nat) (v : Rgn) : (s.setRgn k v).por = s.por := rfl
@[simp] theorem State.setRgn_regs (k : Nat) (v : Rgn) : (s.setRgn k v).regs = s.regs := rfl
@[simp] theorem State.setRgn_mem (k : Nat) (v : Rgn) : (s.setRgn k v).mem = s.mem := rfl
@[simp] theorem State.setRgn_fresh (k : Nat) (v : Rgn) : (s.setRgn k v).fresh = s.fresh := rfl
@[simp] theorem State.setRgn_freshMid (k : Nat) (v : Rgn) : (s.setRgn k v).freshMid = s.freshMid := rfl
@[simp] theorem State.setRgn_shadow (k : Nat) (v : Rgn) : (s.setRgn k v).shadow = s.shadow := rfl
@[simp] theorem State.setRgn_stn (k : Nat) (v : Rgn) : (s.setRgn k v).stn = s.stn := rfl
@[simp] theorem State.setRgn_secs (k : Nat) (v : Rgn) : (s.setRgn k v).secs = s.secs := rfl
@[simp] theorem State.setRgn_log (k : Nat) (v : Rgn) : (s.setRgn k v).log = s.log := rfl
@[simp] theorem State.setRgn_jnl (k : Nat) (v : Rgn) : (s.setRgn k v).jnl = s.jnl := rfl
@[simp] theorem State.setRgn_miles (k : Nat) (v : Rgn) : (s.setRgn k v).miles = s.miles := rfl
@[simp] theorem State.setRgn_milSnap (k : Nat) (v : Rgn) : (s.setRgn k v).milSnap = s.milSnap := rfl
@[simp] theorem State.setRgn_xings (k : Nat) (v : Rgn) : (s.setRgn k v).xings = s.xings := rfl
@[simp] theorem State.setRgn_toks (k : Nat) (v : Rgn) : (s.setRgn k v).toks = s.toks := rfl
@[simp] theorem State.setRgn_cal (k : Nat) (v : Rgn) : (s.setRgn k v).cal = s.cal := rfl
@[simp] theorem State.setRgn_calRgns (k : Nat) (v : Rgn) : (s.setRgn k v).calRgns = s.calRgns := rfl
@[simp] theorem State.setRgn_dsp (k : Nat) (v : Rgn) : (s.setRgn k v).dsp = s.dsp := rfl
@[simp] theorem State.setRgn_gov (k : Nat) (v : Rgn) : (s.setRgn k v).gov = s.gov := rfl
@[simp] theorem State.setRgn_pmb (k : Nat) (v : Rgn) : (s.setRgn k v).pmb = s.pmb := rfl
@[simp] theorem State.setRgn_mtr (k : Nat) (v : Rgn) : (s.setRgn k v).mtr = s.mtr := rfl
@[simp] theorem State.setRgn_axi (k : Nat) (v : Rgn) : (s.setRgn k v).axi = s.axi := rfl
@[simp] theorem State.setRgn_apb (k : Nat) (v : Rgn) : (s.setRgn k v).apb = s.apb := rfl
@[simp] theorem State.setRgn_test (k : Nat) (v : Rgn) : (s.setRgn k v).test = s.test := rfl
@[simp] theorem State.setRgn_freeCtr (k : Nat) (v : Rgn) : (s.setRgn k v).freeCtr = s.freeCtr := rfl
@[simp] theorem State.setRgn_pending (k : Nat) (v : Rgn) : (s.setRgn k v).pending = s.pending := rfl
@[simp] theorem State.setRgn_reg (k : Nat) (v : Rgn) (r' : Reg) (u' : Nat) : (s.setRgn k v).reg r' u' = s.reg r' u' := rfl
@[simp] theorem State.setRgn_fget (k : Nat) (v : Rgn) (f' : Fld) (u' : Nat) : (s.setRgn k v).fget f' u' = s.fget f' u' := rfl
@[simp] theorem State.setRgn_on (k : Nat) (v : Rgn) (f' : Fld) (u' : Nat) : (s.setRgn k v).on f' u' = s.on f' u' := rfl
@[simp] theorem State.setRgn_rdByte (k : Nat) (v : Rgn) (x : Nat) : (s.setRgn k v).rdByte x = s.rdByte x := rfl

/-! ### setXing -/

@[simp] theorem State.setXing_build (k : Nat) (v : Xing) : (s.setXing k v).build = s.build := rfl
@[simp] theorem State.setXing_por (k : Nat) (v : Xing) : (s.setXing k v).por = s.por := rfl
@[simp] theorem State.setXing_regs (k : Nat) (v : Xing) : (s.setXing k v).regs = s.regs := rfl
@[simp] theorem State.setXing_mem (k : Nat) (v : Xing) : (s.setXing k v).mem = s.mem := rfl
@[simp] theorem State.setXing_fresh (k : Nat) (v : Xing) : (s.setXing k v).fresh = s.fresh := rfl
@[simp] theorem State.setXing_freshMid (k : Nat) (v : Xing) : (s.setXing k v).freshMid = s.freshMid := rfl
@[simp] theorem State.setXing_shadow (k : Nat) (v : Xing) : (s.setXing k v).shadow = s.shadow := rfl
@[simp] theorem State.setXing_stn (k : Nat) (v : Xing) : (s.setXing k v).stn = s.stn := rfl
@[simp] theorem State.setXing_secs (k : Nat) (v : Xing) : (s.setXing k v).secs = s.secs := rfl
@[simp] theorem State.setXing_rgns (k : Nat) (v : Xing) : (s.setXing k v).rgns = s.rgns := rfl
@[simp] theorem State.setXing_log (k : Nat) (v : Xing) : (s.setXing k v).log = s.log := rfl
@[simp] theorem State.setXing_jnl (k : Nat) (v : Xing) : (s.setXing k v).jnl = s.jnl := rfl
@[simp] theorem State.setXing_miles (k : Nat) (v : Xing) : (s.setXing k v).miles = s.miles := rfl
@[simp] theorem State.setXing_milSnap (k : Nat) (v : Xing) : (s.setXing k v).milSnap = s.milSnap := rfl
@[simp] theorem State.setXing_toks (k : Nat) (v : Xing) : (s.setXing k v).toks = s.toks := rfl
@[simp] theorem State.setXing_cal (k : Nat) (v : Xing) : (s.setXing k v).cal = s.cal := rfl
@[simp] theorem State.setXing_calRgns (k : Nat) (v : Xing) : (s.setXing k v).calRgns = s.calRgns := rfl
@[simp] theorem State.setXing_dsp (k : Nat) (v : Xing) : (s.setXing k v).dsp = s.dsp := rfl
@[simp] theorem State.setXing_gov (k : Nat) (v : Xing) : (s.setXing k v).gov = s.gov := rfl
@[simp] theorem State.setXing_pmb (k : Nat) (v : Xing) : (s.setXing k v).pmb = s.pmb := rfl
@[simp] theorem State.setXing_mtr (k : Nat) (v : Xing) : (s.setXing k v).mtr = s.mtr := rfl
@[simp] theorem State.setXing_axi (k : Nat) (v : Xing) : (s.setXing k v).axi = s.axi := rfl
@[simp] theorem State.setXing_apb (k : Nat) (v : Xing) : (s.setXing k v).apb = s.apb := rfl
@[simp] theorem State.setXing_test (k : Nat) (v : Xing) : (s.setXing k v).test = s.test := rfl
@[simp] theorem State.setXing_freeCtr (k : Nat) (v : Xing) : (s.setXing k v).freeCtr = s.freeCtr := rfl
@[simp] theorem State.setXing_pending (k : Nat) (v : Xing) : (s.setXing k v).pending = s.pending := rfl
@[simp] theorem State.setXing_reg (k : Nat) (v : Xing) (r' : Reg) (u' : Nat) : (s.setXing k v).reg r' u' = s.reg r' u' := rfl
@[simp] theorem State.setXing_fget (k : Nat) (v : Xing) (f' : Fld) (u' : Nat) : (s.setXing k v).fget f' u' = s.fget f' u' := rfl
@[simp] theorem State.setXing_on (k : Nat) (v : Xing) (f' : Fld) (u' : Nat) : (s.setXing k v).on f' u' = s.on f' u' := rfl
@[simp] theorem State.setXing_rdByte (k : Nat) (v : Xing) (x : Nat) : (s.setXing k v).rdByte x = s.rdByte x := rfl

/-! ### setTok -/

@[simp] theorem State.setTok_build (k : Nat) (v : Tok) : (s.setTok k v).build = s.build := rfl
@[simp] theorem State.setTok_por (k : Nat) (v : Tok) : (s.setTok k v).por = s.por := rfl
@[simp] theorem State.setTok_regs (k : Nat) (v : Tok) : (s.setTok k v).regs = s.regs := rfl
@[simp] theorem State.setTok_mem (k : Nat) (v : Tok) : (s.setTok k v).mem = s.mem := rfl
@[simp] theorem State.setTok_fresh (k : Nat) (v : Tok) : (s.setTok k v).fresh = s.fresh := rfl
@[simp] theorem State.setTok_freshMid (k : Nat) (v : Tok) : (s.setTok k v).freshMid = s.freshMid := rfl
@[simp] theorem State.setTok_shadow (k : Nat) (v : Tok) : (s.setTok k v).shadow = s.shadow := rfl
@[simp] theorem State.setTok_stn (k : Nat) (v : Tok) : (s.setTok k v).stn = s.stn := rfl
@[simp] theorem State.setTok_secs (k : Nat) (v : Tok) : (s.setTok k v).secs = s.secs := rfl
@[simp] theorem State.setTok_rgns (k : Nat) (v : Tok) : (s.setTok k v).rgns = s.rgns := rfl
@[simp] theorem State.setTok_log (k : Nat) (v : Tok) : (s.setTok k v).log = s.log := rfl
@[simp] theorem State.setTok_jnl (k : Nat) (v : Tok) : (s.setTok k v).jnl = s.jnl := rfl
@[simp] theorem State.setTok_miles (k : Nat) (v : Tok) : (s.setTok k v).miles = s.miles := rfl
@[simp] theorem State.setTok_milSnap (k : Nat) (v : Tok) : (s.setTok k v).milSnap = s.milSnap := rfl
@[simp] theorem State.setTok_xings (k : Nat) (v : Tok) : (s.setTok k v).xings = s.xings := rfl
@[simp] theorem State.setTok_cal (k : Nat) (v : Tok) : (s.setTok k v).cal = s.cal := rfl
@[simp] theorem State.setTok_calRgns (k : Nat) (v : Tok) : (s.setTok k v).calRgns = s.calRgns := rfl
@[simp] theorem State.setTok_dsp (k : Nat) (v : Tok) : (s.setTok k v).dsp = s.dsp := rfl
@[simp] theorem State.setTok_gov (k : Nat) (v : Tok) : (s.setTok k v).gov = s.gov := rfl
@[simp] theorem State.setTok_pmb (k : Nat) (v : Tok) : (s.setTok k v).pmb = s.pmb := rfl
@[simp] theorem State.setTok_mtr (k : Nat) (v : Tok) : (s.setTok k v).mtr = s.mtr := rfl
@[simp] theorem State.setTok_axi (k : Nat) (v : Tok) : (s.setTok k v).axi = s.axi := rfl
@[simp] theorem State.setTok_apb (k : Nat) (v : Tok) : (s.setTok k v).apb = s.apb := rfl
@[simp] theorem State.setTok_test (k : Nat) (v : Tok) : (s.setTok k v).test = s.test := rfl
@[simp] theorem State.setTok_freeCtr (k : Nat) (v : Tok) : (s.setTok k v).freeCtr = s.freeCtr := rfl
@[simp] theorem State.setTok_pending (k : Nat) (v : Tok) : (s.setTok k v).pending = s.pending := rfl
@[simp] theorem State.setTok_reg (k : Nat) (v : Tok) (r' : Reg) (u' : Nat) : (s.setTok k v).reg r' u' = s.reg r' u' := rfl
@[simp] theorem State.setTok_fget (k : Nat) (v : Tok) (f' : Fld) (u' : Nat) : (s.setTok k v).fget f' u' = s.fget f' u' := rfl
@[simp] theorem State.setTok_on (k : Nat) (v : Tok) (f' : Fld) (u' : Nat) : (s.setTok k v).on f' u' = s.on f' u' := rfl
@[simp] theorem State.setTok_rdByte (k : Nat) (v : Tok) (x : Nat) : (s.setTok k v).rdByte x = s.rdByte x := rfl

/-! ### setCalRgn -/

@[simp] theorem State.setCalRgn_build (k : Nat) (v : CalRgn) : (s.setCalRgn k v).build = s.build := rfl
@[simp] theorem State.setCalRgn_por (k : Nat) (v : CalRgn) : (s.setCalRgn k v).por = s.por := rfl
@[simp] theorem State.setCalRgn_regs (k : Nat) (v : CalRgn) : (s.setCalRgn k v).regs = s.regs := rfl
@[simp] theorem State.setCalRgn_mem (k : Nat) (v : CalRgn) : (s.setCalRgn k v).mem = s.mem := rfl
@[simp] theorem State.setCalRgn_fresh (k : Nat) (v : CalRgn) : (s.setCalRgn k v).fresh = s.fresh := rfl
@[simp] theorem State.setCalRgn_freshMid (k : Nat) (v : CalRgn) : (s.setCalRgn k v).freshMid = s.freshMid := rfl
@[simp] theorem State.setCalRgn_shadow (k : Nat) (v : CalRgn) : (s.setCalRgn k v).shadow = s.shadow := rfl
@[simp] theorem State.setCalRgn_stn (k : Nat) (v : CalRgn) : (s.setCalRgn k v).stn = s.stn := rfl
@[simp] theorem State.setCalRgn_secs (k : Nat) (v : CalRgn) : (s.setCalRgn k v).secs = s.secs := rfl
@[simp] theorem State.setCalRgn_rgns (k : Nat) (v : CalRgn) : (s.setCalRgn k v).rgns = s.rgns := rfl
@[simp] theorem State.setCalRgn_log (k : Nat) (v : CalRgn) : (s.setCalRgn k v).log = s.log := rfl
@[simp] theorem State.setCalRgn_jnl (k : Nat) (v : CalRgn) : (s.setCalRgn k v).jnl = s.jnl := rfl
@[simp] theorem State.setCalRgn_miles (k : Nat) (v : CalRgn) : (s.setCalRgn k v).miles = s.miles := rfl
@[simp] theorem State.setCalRgn_milSnap (k : Nat) (v : CalRgn) : (s.setCalRgn k v).milSnap = s.milSnap := rfl
@[simp] theorem State.setCalRgn_xings (k : Nat) (v : CalRgn) : (s.setCalRgn k v).xings = s.xings := rfl
@[simp] theorem State.setCalRgn_toks (k : Nat) (v : CalRgn) : (s.setCalRgn k v).toks = s.toks := rfl
@[simp] theorem State.setCalRgn_cal (k : Nat) (v : CalRgn) : (s.setCalRgn k v).cal = s.cal := rfl
@[simp] theorem State.setCalRgn_dsp (k : Nat) (v : CalRgn) : (s.setCalRgn k v).dsp = s.dsp := rfl
@[simp] theorem State.setCalRgn_gov (k : Nat) (v : CalRgn) : (s.setCalRgn k v).gov = s.gov := rfl
@[simp] theorem State.setCalRgn_pmb (k : Nat) (v : CalRgn) : (s.setCalRgn k v).pmb = s.pmb := rfl
@[simp] theorem State.setCalRgn_mtr (k : Nat) (v : CalRgn) : (s.setCalRgn k v).mtr = s.mtr := rfl
@[simp] theorem State.setCalRgn_axi (k : Nat) (v : CalRgn) : (s.setCalRgn k v).axi = s.axi := rfl
@[simp] theorem State.setCalRgn_apb (k : Nat) (v : CalRgn) : (s.setCalRgn k v).apb = s.apb := rfl
@[simp] theorem State.setCalRgn_test (k : Nat) (v : CalRgn) : (s.setCalRgn k v).test = s.test := rfl
@[simp] theorem State.setCalRgn_freeCtr (k : Nat) (v : CalRgn) : (s.setCalRgn k v).freeCtr = s.freeCtr := rfl
@[simp] theorem State.setCalRgn_pending (k : Nat) (v : CalRgn) : (s.setCalRgn k v).pending = s.pending := rfl
@[simp] theorem State.setCalRgn_reg (k : Nat) (v : CalRgn) (r' : Reg) (u' : Nat) : (s.setCalRgn k v).reg r' u' = s.reg r' u' := rfl
@[simp] theorem State.setCalRgn_fget (k : Nat) (v : CalRgn) (f' : Fld) (u' : Nat) : (s.setCalRgn k v).fget f' u' = s.fget f' u' := rfl
@[simp] theorem State.setCalRgn_on (k : Nat) (v : CalRgn) (f' : Fld) (u' : Nat) : (s.setCalRgn k v).on f' u' = s.on f' u' := rfl
@[simp] theorem State.setCalRgn_rdByte (k : Nat) (v : CalRgn) (x : Nat) : (s.setCalRgn k v).rdByte x = s.rdByte x := rfl

/-! ### setMile -/

@[simp] theorem State.setMile_build (k : Nat) (v : Mile) : (s.setMile k v).build = s.build := rfl
@[simp] theorem State.setMile_por (k : Nat) (v : Mile) : (s.setMile k v).por = s.por := rfl
@[simp] theorem State.setMile_regs (k : Nat) (v : Mile) : (s.setMile k v).regs = s.regs := rfl
@[simp] theorem State.setMile_mem (k : Nat) (v : Mile) : (s.setMile k v).mem = s.mem := rfl
@[simp] theorem State.setMile_fresh (k : Nat) (v : Mile) : (s.setMile k v).fresh = s.fresh := rfl
@[simp] theorem State.setMile_freshMid (k : Nat) (v : Mile) : (s.setMile k v).freshMid = s.freshMid := rfl
@[simp] theorem State.setMile_shadow (k : Nat) (v : Mile) : (s.setMile k v).shadow = s.shadow := rfl
@[simp] theorem State.setMile_stn (k : Nat) (v : Mile) : (s.setMile k v).stn = s.stn := rfl
@[simp] theorem State.setMile_secs (k : Nat) (v : Mile) : (s.setMile k v).secs = s.secs := rfl
@[simp] theorem State.setMile_rgns (k : Nat) (v : Mile) : (s.setMile k v).rgns = s.rgns := rfl
@[simp] theorem State.setMile_log (k : Nat) (v : Mile) : (s.setMile k v).log = s.log := rfl
@[simp] theorem State.setMile_jnl (k : Nat) (v : Mile) : (s.setMile k v).jnl = s.jnl := rfl
@[simp] theorem State.setMile_milSnap (k : Nat) (v : Mile) : (s.setMile k v).milSnap = s.milSnap := rfl
@[simp] theorem State.setMile_xings (k : Nat) (v : Mile) : (s.setMile k v).xings = s.xings := rfl
@[simp] theorem State.setMile_toks (k : Nat) (v : Mile) : (s.setMile k v).toks = s.toks := rfl
@[simp] theorem State.setMile_cal (k : Nat) (v : Mile) : (s.setMile k v).cal = s.cal := rfl
@[simp] theorem State.setMile_calRgns (k : Nat) (v : Mile) : (s.setMile k v).calRgns = s.calRgns := rfl
@[simp] theorem State.setMile_dsp (k : Nat) (v : Mile) : (s.setMile k v).dsp = s.dsp := rfl
@[simp] theorem State.setMile_gov (k : Nat) (v : Mile) : (s.setMile k v).gov = s.gov := rfl
@[simp] theorem State.setMile_pmb (k : Nat) (v : Mile) : (s.setMile k v).pmb = s.pmb := rfl
@[simp] theorem State.setMile_mtr (k : Nat) (v : Mile) : (s.setMile k v).mtr = s.mtr := rfl
@[simp] theorem State.setMile_axi (k : Nat) (v : Mile) : (s.setMile k v).axi = s.axi := rfl
@[simp] theorem State.setMile_apb (k : Nat) (v : Mile) : (s.setMile k v).apb = s.apb := rfl
@[simp] theorem State.setMile_test (k : Nat) (v : Mile) : (s.setMile k v).test = s.test := rfl
@[simp] theorem State.setMile_freeCtr (k : Nat) (v : Mile) : (s.setMile k v).freeCtr = s.freeCtr := rfl
@[simp] theorem State.setMile_pending (k : Nat) (v : Mile) : (s.setMile k v).pending = s.pending := rfl
@[simp] theorem State.setMile_reg (k : Nat) (v : Mile) (r' : Reg) (u' : Nat) : (s.setMile k v).reg r' u' = s.reg r' u' := rfl
@[simp] theorem State.setMile_fget (k : Nat) (v : Mile) (f' : Fld) (u' : Nat) : (s.setMile k v).fget f' u' = s.fget f' u' := rfl
@[simp] theorem State.setMile_on (k : Nat) (v : Mile) (f' : Fld) (u' : Nat) : (s.setMile k v).on f' u' = s.on f' u' := rfl
@[simp] theorem State.setMile_rdByte (k : Nat) (v : Mile) (x : Nat) : (s.setMile k v).rdByte x = s.rdByte x := rfl

/-! ### setStn -/

@[simp] theorem State.setStn_build (v : Stn) : (s.setStn v).build = s.build := rfl
@[simp] theorem State.setStn_por (v : Stn) : (s.setStn v).por = s.por := rfl
@[simp] theorem State.setStn_regs (v : Stn) : (s.setStn v).regs = s.regs := rfl
@[simp] theorem State.setStn_mem (v : Stn) : (s.setStn v).mem = s.mem := rfl
@[simp] theorem State.setStn_fresh (v : Stn) : (s.setStn v).fresh = s.fresh := rfl
@[simp] theorem State.setStn_freshMid (v : Stn) : (s.setStn v).freshMid = s.freshMid := rfl
@[simp] theorem State.setStn_shadow (v : Stn) : (s.setStn v).shadow = s.shadow := rfl
@[simp] theorem State.setStn_secs (v : Stn) : (s.setStn v).secs = s.secs := rfl
@[simp] theorem State.setStn_rgns (v : Stn) : (s.setStn v).rgns = s.rgns := rfl
@[simp] theorem State.setStn_log (v : Stn) : (s.setStn v).log = s.log := rfl
@[simp] theorem State.setStn_jnl (v : Stn) : (s.setStn v).jnl = s.jnl := rfl
@[simp] theorem State.setStn_miles (v : Stn) : (s.setStn v).miles = s.miles := rfl
@[simp] theorem State.setStn_milSnap (v : Stn) : (s.setStn v).milSnap = s.milSnap := rfl
@[simp] theorem State.setStn_xings (v : Stn) : (s.setStn v).xings = s.xings := rfl
@[simp] theorem State.setStn_toks (v : Stn) : (s.setStn v).toks = s.toks := rfl
@[simp] theorem State.setStn_cal (v : Stn) : (s.setStn v).cal = s.cal := rfl
@[simp] theorem State.setStn_calRgns (v : Stn) : (s.setStn v).calRgns = s.calRgns := rfl
@[simp] theorem State.setStn_dsp (v : Stn) : (s.setStn v).dsp = s.dsp := rfl
@[simp] theorem State.setStn_gov (v : Stn) : (s.setStn v).gov = s.gov := rfl
@[simp] theorem State.setStn_pmb (v : Stn) : (s.setStn v).pmb = s.pmb := rfl
@[simp] theorem State.setStn_mtr (v : Stn) : (s.setStn v).mtr = s.mtr := rfl
@[simp] theorem State.setStn_axi (v : Stn) : (s.setStn v).axi = s.axi := rfl
@[simp] theorem State.setStn_apb (v : Stn) : (s.setStn v).apb = s.apb := rfl
@[simp] theorem State.setStn_test (v : Stn) : (s.setStn v).test = s.test := rfl
@[simp] theorem State.setStn_freeCtr (v : Stn) : (s.setStn v).freeCtr = s.freeCtr := rfl
@[simp] theorem State.setStn_pending (v : Stn) : (s.setStn v).pending = s.pending := rfl
@[simp] theorem State.setStn_reg (v : Stn) (r' : Reg) (u' : Nat) : (s.setStn v).reg r' u' = s.reg r' u' := rfl
@[simp] theorem State.setStn_fget (v : Stn) (f' : Fld) (u' : Nat) : (s.setStn v).fget f' u' = s.fget f' u' := rfl
@[simp] theorem State.setStn_on (v : Stn) (f' : Fld) (u' : Nat) : (s.setStn v).on f' u' = s.on f' u' := rfl
@[simp] theorem State.setStn_rdByte (v : Stn) (x : Nat) : (s.setStn v).rdByte x = s.rdByte x := rfl

/-! ### setDsp -/

@[simp] theorem State.setDsp_build (v : Dsp) : (s.setDsp v).build = s.build := rfl
@[simp] theorem State.setDsp_por (v : Dsp) : (s.setDsp v).por = s.por := rfl
@[simp] theorem State.setDsp_regs (v : Dsp) : (s.setDsp v).regs = s.regs := rfl
@[simp] theorem State.setDsp_mem (v : Dsp) : (s.setDsp v).mem = s.mem := rfl
@[simp] theorem State.setDsp_fresh (v : Dsp) : (s.setDsp v).fresh = s.fresh := rfl
@[simp] theorem State.setDsp_freshMid (v : Dsp) : (s.setDsp v).freshMid = s.freshMid := rfl
@[simp] theorem State.setDsp_shadow (v : Dsp) : (s.setDsp v).shadow = s.shadow := rfl
@[simp] theorem State.setDsp_stn (v : Dsp) : (s.setDsp v).stn = s.stn := rfl
@[simp] theorem State.setDsp_secs (v : Dsp) : (s.setDsp v).secs = s.secs := rfl
@[simp] theorem State.setDsp_rgns (v : Dsp) : (s.setDsp v).rgns = s.rgns := rfl
@[simp] theorem State.setDsp_log (v : Dsp) : (s.setDsp v).log = s.log := rfl
@[simp] theorem State.setDsp_jnl (v : Dsp) : (s.setDsp v).jnl = s.jnl := rfl
@[simp] theorem State.setDsp_miles (v : Dsp) : (s.setDsp v).miles = s.miles := rfl
@[simp] theorem State.setDsp_milSnap (v : Dsp) : (s.setDsp v).milSnap = s.milSnap := rfl
@[simp] theorem State.setDsp_xings (v : Dsp) : (s.setDsp v).xings = s.xings := rfl
@[simp] theorem State.setDsp_toks (v : Dsp) : (s.setDsp v).toks = s.toks := rfl
@[simp] theorem State.setDsp_cal (v : Dsp) : (s.setDsp v).cal = s.cal := rfl
@[simp] theorem State.setDsp_calRgns (v : Dsp) : (s.setDsp v).calRgns = s.calRgns := rfl
@[simp] theorem State.setDsp_gov (v : Dsp) : (s.setDsp v).gov = s.gov := rfl
@[simp] theorem State.setDsp_pmb (v : Dsp) : (s.setDsp v).pmb = s.pmb := rfl
@[simp] theorem State.setDsp_mtr (v : Dsp) : (s.setDsp v).mtr = s.mtr := rfl
@[simp] theorem State.setDsp_axi (v : Dsp) : (s.setDsp v).axi = s.axi := rfl
@[simp] theorem State.setDsp_apb (v : Dsp) : (s.setDsp v).apb = s.apb := rfl
@[simp] theorem State.setDsp_test (v : Dsp) : (s.setDsp v).test = s.test := rfl
@[simp] theorem State.setDsp_freeCtr (v : Dsp) : (s.setDsp v).freeCtr = s.freeCtr := rfl
@[simp] theorem State.setDsp_pending (v : Dsp) : (s.setDsp v).pending = s.pending := rfl
@[simp] theorem State.setDsp_reg (v : Dsp) (r' : Reg) (u' : Nat) : (s.setDsp v).reg r' u' = s.reg r' u' := rfl
@[simp] theorem State.setDsp_fget (v : Dsp) (f' : Fld) (u' : Nat) : (s.setDsp v).fget f' u' = s.fget f' u' := rfl
@[simp] theorem State.setDsp_on (v : Dsp) (f' : Fld) (u' : Nat) : (s.setDsp v).on f' u' = s.on f' u' := rfl
@[simp] theorem State.setDsp_rdByte (v : Dsp) (x : Nat) : (s.setDsp v).rdByte x = s.rdByte x := rfl

/-! ### setDesk -/

@[simp] theorem State.setDesk_build (d : Nat) (v : Desk) : (s.setDesk d v).build = s.build := rfl
@[simp] theorem State.setDesk_por (d : Nat) (v : Desk) : (s.setDesk d v).por = s.por := rfl
@[simp] theorem State.setDesk_regs (d : Nat) (v : Desk) : (s.setDesk d v).regs = s.regs := rfl
@[simp] theorem State.setDesk_mem (d : Nat) (v : Desk) : (s.setDesk d v).mem = s.mem := rfl
@[simp] theorem State.setDesk_fresh (d : Nat) (v : Desk) : (s.setDesk d v).fresh = s.fresh := rfl
@[simp] theorem State.setDesk_freshMid (d : Nat) (v : Desk) : (s.setDesk d v).freshMid = s.freshMid := rfl
@[simp] theorem State.setDesk_shadow (d : Nat) (v : Desk) : (s.setDesk d v).shadow = s.shadow := rfl
@[simp] theorem State.setDesk_stn (d : Nat) (v : Desk) : (s.setDesk d v).stn = s.stn := rfl
@[simp] theorem State.setDesk_secs (d : Nat) (v : Desk) : (s.setDesk d v).secs = s.secs := rfl
@[simp] theorem State.setDesk_rgns (d : Nat) (v : Desk) : (s.setDesk d v).rgns = s.rgns := rfl
@[simp] theorem State.setDesk_log (d : Nat) (v : Desk) : (s.setDesk d v).log = s.log := rfl
@[simp] theorem State.setDesk_jnl (d : Nat) (v : Desk) : (s.setDesk d v).jnl = s.jnl := rfl
@[simp] theorem State.setDesk_miles (d : Nat) (v : Desk) : (s.setDesk d v).miles = s.miles := rfl
@[simp] theorem State.setDesk_milSnap (d : Nat) (v : Desk) : (s.setDesk d v).milSnap = s.milSnap := rfl
@[simp] theorem State.setDesk_xings (d : Nat) (v : Desk) : (s.setDesk d v).xings = s.xings := rfl
@[simp] theorem State.setDesk_toks (d : Nat) (v : Desk) : (s.setDesk d v).toks = s.toks := rfl
@[simp] theorem State.setDesk_cal (d : Nat) (v : Desk) : (s.setDesk d v).cal = s.cal := rfl
@[simp] theorem State.setDesk_calRgns (d : Nat) (v : Desk) : (s.setDesk d v).calRgns = s.calRgns := rfl
@[simp] theorem State.setDesk_gov (d : Nat) (v : Desk) : (s.setDesk d v).gov = s.gov := rfl
@[simp] theorem State.setDesk_pmb (d : Nat) (v : Desk) : (s.setDesk d v).pmb = s.pmb := rfl
@[simp] theorem State.setDesk_mtr (d : Nat) (v : Desk) : (s.setDesk d v).mtr = s.mtr := rfl
@[simp] theorem State.setDesk_axi (d : Nat) (v : Desk) : (s.setDesk d v).axi = s.axi := rfl
@[simp] theorem State.setDesk_apb (d : Nat) (v : Desk) : (s.setDesk d v).apb = s.apb := rfl
@[simp] theorem State.setDesk_test (d : Nat) (v : Desk) : (s.setDesk d v).test = s.test := rfl
@[simp] theorem State.setDesk_freeCtr (d : Nat) (v : Desk) : (s.setDesk d v).freeCtr = s.freeCtr := rfl
@[simp] theorem State.setDesk_pending (d : Nat) (v : Desk) : (s.setDesk d v).pending = s.pending := rfl
@[simp] theorem State.setDesk_reg (d : Nat) (v : Desk) (r' : Reg) (u' : Nat) : (s.setDesk d v).reg r' u' = s.reg r' u' := rfl
@[simp] theorem State.setDesk_fget (d : Nat) (v : Desk) (f' : Fld) (u' : Nat) : (s.setDesk d v).fget f' u' = s.fget f' u' := rfl
@[simp] theorem State.setDesk_on (d : Nat) (v : Desk) (f' : Fld) (u' : Nat) : (s.setDesk d v).on f' u' = s.on f' u' := rfl
@[simp] theorem State.setDesk_rdByte (d : Nat) (v : Desk) (x : Nat) : (s.setDesk d v).rdByte x = s.rdByte x := rfl

/-! ### setSource -/

@[simp] theorem State.setSource_build (n : Nat) (o : Source) : (s.setSource n o).build = s.build := rfl
@[simp] theorem State.setSource_por (n : Nat) (o : Source) : (s.setSource n o).por = s.por := rfl
@[simp] theorem State.setSource_regs (n : Nat) (o : Source) : (s.setSource n o).regs = s.regs := rfl
@[simp] theorem State.setSource_mem (n : Nat) (o : Source) : (s.setSource n o).mem = s.mem := rfl
@[simp] theorem State.setSource_fresh (n : Nat) (o : Source) : (s.setSource n o).fresh = s.fresh := rfl
@[simp] theorem State.setSource_freshMid (n : Nat) (o : Source) : (s.setSource n o).freshMid = s.freshMid := rfl
@[simp] theorem State.setSource_shadow (n : Nat) (o : Source) : (s.setSource n o).shadow = s.shadow := rfl
@[simp] theorem State.setSource_stn (n : Nat) (o : Source) : (s.setSource n o).stn = s.stn := rfl
@[simp] theorem State.setSource_secs (n : Nat) (o : Source) : (s.setSource n o).secs = s.secs := rfl
@[simp] theorem State.setSource_rgns (n : Nat) (o : Source) : (s.setSource n o).rgns = s.rgns := rfl
@[simp] theorem State.setSource_jnl (n : Nat) (o : Source) : (s.setSource n o).jnl = s.jnl := rfl
@[simp] theorem State.setSource_miles (n : Nat) (o : Source) : (s.setSource n o).miles = s.miles := rfl
@[simp] theorem State.setSource_milSnap (n : Nat) (o : Source) : (s.setSource n o).milSnap = s.milSnap := rfl
@[simp] theorem State.setSource_xings (n : Nat) (o : Source) : (s.setSource n o).xings = s.xings := rfl
@[simp] theorem State.setSource_toks (n : Nat) (o : Source) : (s.setSource n o).toks = s.toks := rfl
@[simp] theorem State.setSource_cal (n : Nat) (o : Source) : (s.setSource n o).cal = s.cal := rfl
@[simp] theorem State.setSource_calRgns (n : Nat) (o : Source) : (s.setSource n o).calRgns = s.calRgns := rfl
@[simp] theorem State.setSource_dsp (n : Nat) (o : Source) : (s.setSource n o).dsp = s.dsp := rfl
@[simp] theorem State.setSource_gov (n : Nat) (o : Source) : (s.setSource n o).gov = s.gov := rfl
@[simp] theorem State.setSource_pmb (n : Nat) (o : Source) : (s.setSource n o).pmb = s.pmb := rfl
@[simp] theorem State.setSource_mtr (n : Nat) (o : Source) : (s.setSource n o).mtr = s.mtr := rfl
@[simp] theorem State.setSource_axi (n : Nat) (o : Source) : (s.setSource n o).axi = s.axi := rfl
@[simp] theorem State.setSource_apb (n : Nat) (o : Source) : (s.setSource n o).apb = s.apb := rfl
@[simp] theorem State.setSource_test (n : Nat) (o : Source) : (s.setSource n o).test = s.test := rfl
@[simp] theorem State.setSource_freeCtr (n : Nat) (o : Source) : (s.setSource n o).freeCtr = s.freeCtr := rfl
@[simp] theorem State.setSource_pending (n : Nat) (o : Source) : (s.setSource n o).pending = s.pending := rfl
@[simp] theorem State.setSource_reg (n : Nat) (o : Source) (r' : Reg) (u' : Nat) : (s.setSource n o).reg r' u' = s.reg r' u' := rfl
@[simp] theorem State.setSource_fget (n : Nat) (o : Source) (f' : Fld) (u' : Nat) : (s.setSource n o).fget f' u' = s.fget f' u' := rfl
@[simp] theorem State.setSource_on (n : Nat) (o : Source) (f' : Fld) (u' : Nat) : (s.setSource n o).on f' u' = s.on f' u' := rfl
@[simp] theorem State.setSource_rdByte (n : Nat) (o : Source) (x : Nat) : (s.setSource n o).rdByte x = s.rdByte x := rfl

/-! ### postRaw -/

@[simp] theorem State.postRaw_build (a b c d e : Nat) : (s.postRaw a b c d e).build = s.build := rfl
@[simp] theorem State.postRaw_por (a b c d e : Nat) : (s.postRaw a b c d e).por = s.por := rfl
@[simp] theorem State.postRaw_regs (a b c d e : Nat) : (s.postRaw a b c d e).regs = s.regs := rfl
@[simp] theorem State.postRaw_mem (a b c d e : Nat) : (s.postRaw a b c d e).mem = s.mem := rfl
@[simp] theorem State.postRaw_fresh (a b c d e : Nat) : (s.postRaw a b c d e).fresh = s.fresh := rfl
@[simp] theorem State.postRaw_freshMid (a b c d e : Nat) : (s.postRaw a b c d e).freshMid = s.freshMid := rfl
@[simp] theorem State.postRaw_shadow (a b c d e : Nat) : (s.postRaw a b c d e).shadow = s.shadow := rfl
@[simp] theorem State.postRaw_stn (a b c d e : Nat) : (s.postRaw a b c d e).stn = s.stn := rfl
@[simp] theorem State.postRaw_secs (a b c d e : Nat) : (s.postRaw a b c d e).secs = s.secs := rfl
@[simp] theorem State.postRaw_rgns (a b c d e : Nat) : (s.postRaw a b c d e).rgns = s.rgns := rfl
@[simp] theorem State.postRaw_jnl (a b c d e : Nat) : (s.postRaw a b c d e).jnl = s.jnl := rfl
@[simp] theorem State.postRaw_miles (a b c d e : Nat) : (s.postRaw a b c d e).miles = s.miles := rfl
@[simp] theorem State.postRaw_milSnap (a b c d e : Nat) : (s.postRaw a b c d e).milSnap = s.milSnap := rfl
@[simp] theorem State.postRaw_xings (a b c d e : Nat) : (s.postRaw a b c d e).xings = s.xings := rfl
@[simp] theorem State.postRaw_toks (a b c d e : Nat) : (s.postRaw a b c d e).toks = s.toks := rfl
@[simp] theorem State.postRaw_cal (a b c d e : Nat) : (s.postRaw a b c d e).cal = s.cal := rfl
@[simp] theorem State.postRaw_calRgns (a b c d e : Nat) : (s.postRaw a b c d e).calRgns = s.calRgns := rfl
@[simp] theorem State.postRaw_dsp (a b c d e : Nat) : (s.postRaw a b c d e).dsp = s.dsp := rfl
@[simp] theorem State.postRaw_gov (a b c d e : Nat) : (s.postRaw a b c d e).gov = s.gov := rfl
@[simp] theorem State.postRaw_pmb (a b c d e : Nat) : (s.postRaw a b c d e).pmb = s.pmb := rfl
@[simp] theorem State.postRaw_mtr (a b c d e : Nat) : (s.postRaw a b c d e).mtr = s.mtr := rfl
@[simp] theorem State.postRaw_axi (a b c d e : Nat) : (s.postRaw a b c d e).axi = s.axi := rfl
@[simp] theorem State.postRaw_apb (a b c d e : Nat) : (s.postRaw a b c d e).apb = s.apb := rfl
@[simp] theorem State.postRaw_test (a b c d e : Nat) : (s.postRaw a b c d e).test = s.test := rfl
@[simp] theorem State.postRaw_freeCtr (a b c d e : Nat) : (s.postRaw a b c d e).freeCtr = s.freeCtr := rfl
@[simp] theorem State.postRaw_pending (a b c d e : Nat) : (s.postRaw a b c d e).pending = s.pending := rfl
@[simp] theorem State.postRaw_reg (a b c d e : Nat) (r' : Reg) (u' : Nat) : (s.postRaw a b c d e).reg r' u' = s.reg r' u' := rfl
@[simp] theorem State.postRaw_fget (a b c d e : Nat) (f' : Fld) (u' : Nat) : (s.postRaw a b c d e).fget f' u' = s.fget f' u' := rfl
@[simp] theorem State.postRaw_on (a b c d e : Nat) (f' : Fld) (u' : Nat) : (s.postRaw a b c d e).on f' u' = s.on f' u' := rfl
@[simp] theorem State.postRaw_rdByte (a b c d e : Nat) (x : Nat) : (s.postRaw a b c d e).rdByte x = s.rdByte x := rfl

/-! ### post -/

@[simp] theorem State.post_build (a b c : Nat) (l : List PItem) : (s.post a b c l).build = s.build := rfl
@[simp] theorem State.post_por (a b c : Nat) (l : List PItem) : (s.post a b c l).por = s.por := rfl
@[simp] theorem State.post_regs (a b c : Nat) (l : List PItem) : (s.post a b c l).regs = s.regs := rfl
@[simp] theorem State.post_mem (a b c : Nat) (l : List PItem) : (s.post a b c l).mem = s.mem := rfl
@[simp] theorem State.post_fresh (a b c : Nat) (l : List PItem) : (s.post a b c l).fresh = s.fresh := rfl
@[simp] theorem State.post_freshMid (a b c : Nat) (l : List PItem) : (s.post a b c l).freshMid = s.freshMid := rfl
@[simp] theorem State.post_shadow (a b c : Nat) (l : List PItem) : (s.post a b c l).shadow = s.shadow := rfl
@[simp] theorem State.post_stn (a b c : Nat) (l : List PItem) : (s.post a b c l).stn = s.stn := rfl
@[simp] theorem State.post_secs (a b c : Nat) (l : List PItem) : (s.post a b c l).secs = s.secs := rfl
@[simp] theorem State.post_rgns (a b c : Nat) (l : List PItem) : (s.post a b c l).rgns = s.rgns := rfl
@[simp] theorem State.post_jnl (a b c : Nat) (l : List PItem) : (s.post a b c l).jnl = s.jnl := rfl
@[simp] theorem State.post_miles (a b c : Nat) (l : List PItem) : (s.post a b c l).miles = s.miles := rfl
@[simp] theorem State.post_milSnap (a b c : Nat) (l : List PItem) : (s.post a b c l).milSnap = s.milSnap := rfl
@[simp] theorem State.post_xings (a b c : Nat) (l : List PItem) : (s.post a b c l).xings = s.xings := rfl
@[simp] theorem State.post_toks (a b c : Nat) (l : List PItem) : (s.post a b c l).toks = s.toks := rfl
@[simp] theorem State.post_cal (a b c : Nat) (l : List PItem) : (s.post a b c l).cal = s.cal := rfl
@[simp] theorem State.post_calRgns (a b c : Nat) (l : List PItem) : (s.post a b c l).calRgns = s.calRgns := rfl
@[simp] theorem State.post_dsp (a b c : Nat) (l : List PItem) : (s.post a b c l).dsp = s.dsp := rfl
@[simp] theorem State.post_gov (a b c : Nat) (l : List PItem) : (s.post a b c l).gov = s.gov := rfl
@[simp] theorem State.post_pmb (a b c : Nat) (l : List PItem) : (s.post a b c l).pmb = s.pmb := rfl
@[simp] theorem State.post_mtr (a b c : Nat) (l : List PItem) : (s.post a b c l).mtr = s.mtr := rfl
@[simp] theorem State.post_axi (a b c : Nat) (l : List PItem) : (s.post a b c l).axi = s.axi := rfl
@[simp] theorem State.post_apb (a b c : Nat) (l : List PItem) : (s.post a b c l).apb = s.apb := rfl
@[simp] theorem State.post_test (a b c : Nat) (l : List PItem) : (s.post a b c l).test = s.test := rfl
@[simp] theorem State.post_freeCtr (a b c : Nat) (l : List PItem) : (s.post a b c l).freeCtr = s.freeCtr := rfl
@[simp] theorem State.post_pending (a b c : Nat) (l : List PItem) : (s.post a b c l).pending = s.pending := rfl
@[simp] theorem State.post_reg (a b c : Nat) (l : List PItem) (r' : Reg) (u' : Nat) : (s.post a b c l).reg r' u' = s.reg r' u' := rfl
@[simp] theorem State.post_fget (a b c : Nat) (l : List PItem) (f' : Fld) (u' : Nat) : (s.post a b c l).fget f' u' = s.fget f' u' := rfl
@[simp] theorem State.post_on (a b c : Nat) (l : List PItem) (f' : Fld) (u' : Nat) : (s.post a b c l).on f' u' = s.on f' u' := rfl
@[simp] theorem State.post_rdByte (a b c : Nat) (l : List PItem) (x : Nat) : (s.post a b c l).rdByte x = s.rdByte x := rfl

theorem State.sec_setSec (k k' : Nat) (v : Sec) : (s.setSec k v).sec k' = if k' = k then v else s.sec k' :=
  Store.getD_setD _ _ _ _ _
@[simp] theorem State.sec_setSec_same (k : Nat) (v : Sec) : (s.setSec k v).sec k = v := by simp [State.sec_setSec]
theorem State.rgn_setRgn (k k' : Nat) (v : Rgn) : (s.setRgn k v).rgn k' = if k' = k then v else s.rgn k' :=
  Store.getD_setD _ _ _ _ _
@[simp] theorem State.rgn_setRgn_same (k : Nat) (v : Rgn) : (s.setRgn k v).rgn k = v := by simp [State.rgn_setRgn]
theorem State.xing_setXing (k k' : Nat) (v : Xing) : (s.setXing k v).xing k' = if k' = k then v else s.xing k' :=
  Store.getD_setD _ _ _ _ _
@[simp] theorem State.xing_setXing_same (k : Nat) (v : Xing) : (s.setXing k v).xing k = v := by simp [State.xing_setXing]
theorem State.tok_setTok (k k' : Nat) (v : Tok) : (s.setTok k v).tok k' = if k' = k then v else s.tok k' :=
  Store.getD_setD _ _ _ _ _
@[simp] theorem State.tok_setTok_same (k : Nat) (v : Tok) : (s.setTok k v).tok k = v := by simp [State.tok_setTok]
theorem State.calRgn_setCalRgn (k k' : Nat) (v : CalRgn) : (s.setCalRgn k v).calRgn k' = if k' = k then v else s.calRgn k' :=
  Store.getD_setD _ _ _ _ _
@[simp] theorem State.calRgn_setCalRgn_same (k : Nat) (v : CalRgn) : (s.setCalRgn k v).calRgn k = v := by simp [State.calRgn_setCalRgn]
theorem State.mile_setMile (k k' : Nat) (v : Mile) : (s.setMile k v).mile k' = if k' = k then v else s.mile k' :=
  Store.getD_setD _ _ _ _ _
@[simp] theorem State.mile_setMile_same (k : Nat) (v : Mile) : (s.setMile k v).mile k = v := by simp [State.mile_setMile]
theorem State.desk_setDesk (k k' : Nat) (v : Desk) : (s.setDesk k v).desk k' = if k' = k then v else s.desk k' :=
  Store.getD_setD _ _ _ _ _
@[simp] theorem State.desk_setDesk_same (k : Nat) (v : Desk) : (s.setDesk k v).desk k = v := by simp [State.desk_setDesk]
theorem State.source_setSource (k k' : Nat) (v : Source) :
    (s.setSource k v).source k' = if k' = k then v else s.source k' := Store.getD_setD _ _ _ _ _
@[simp] theorem State.source_setSource_same (k : Nat) (v : Source) : (s.setSource k v).source k = v := by
  simp [State.source_setSource]
@[simp] theorem State.setStn_stn (v : Stn) : (s.setStn v).stn = v := rfl
@[simp] theorem State.setDsp_dsp (v : Dsp) : (s.setDsp v).dsp = v := rfl

end Sys2Proof.Machine
end

