-- ==== Sys2Proof/Laws/Host.lean ====
section
/-!
SUPPORT. What a host write reaches, said once by where its address lies and whether the reset port stands, and what the AXI
manager holds after an issue.
-/

namespace Sys2Proof.Machine

/-- With no Desk's action due nothing precedes the host (R25). -/
theorem State.desksFirst_idle (s : State) (h : ∀ a ∈ s.dsp.acts, s.actDue a = false) : s.desksFirst = s := by
  have : s.dsp.acts.any s.actDue = false := by simpa using h
  simp [State.desksFirst, this]

/-- A host write to an unmapped range (R511). -/
theorem State.hostWord_unmapped (s : State) (a : Nat) (v m : Word) (p : Option Bool) (h : mapped a = false) :
    s.hostWord a v m p = s.apbUnmapped a true := by
  simp [State.hostWord, h]

/-- A host write of the Dispatcher's range while a warm reset is in effect (R538). -/
theorem State.hostWord_warm (s : State) (a : Nat) (v m : Word) (p : Option Bool) (h : mapped a = true)
    (hw : s.stn.warm = true) (lo : 0x4000 ≤ wordAddr a) (hi : wordAddr a < 0x8000) :
    s.hostWord a v m p = { s with apb := { s.apb with slverr := false } } := by
  simp [State.hostWord, h, hw, lo, hi]

/-- A host write outside a warm reset with no Desk's action due is the write of R25 by the APB target. -/
theorem State.hostWord_writes (s : State) (a : Nat) (v m : Word) (p : Option Bool) (h : mapped a = true)
    (hw : s.stn.warm = false) (hd : ∀ x ∈ s.dsp.acts, s.actDue x = false) :
    s.hostWord a v m p = { s with apb := { s.apb with slverr := false } }.writeWord wApb a v m p := by
  have hd' : { s with apb := { s.apb with slverr := false } }.desksFirst = { s with apb := { s.apb with slverr := false } } :=
    State.desksFirst_idle _ hd
  simp [State.hostWord, h, hw, hd']

/-- While `ARESETn` is low nothing is issued (R533). -/
theorem State.axiIssue_held (s : State) (w : Bool) (id a n z : Nat) (l : List Nat) (h : s.axi.held = true) :
    s.axiIssue w id a n z l = s := by
  simp [State.axiIssue, h]

/-- An issue moves the manager's ports alone. -/
theorem State.axiIssue_frame (s : State) (w : Bool) (id a n z : Nat) (l : List Nat) :
    s.axiIssue w id a n z l = { s with axi := (s.axiIssue w id a n z l).axi } := by
  unfold State.axiIssue
  dsimp only
  split
  · rfl
  · split <;> rfl

end Sys2Proof.Machine
end

