-- ==== Sys2Proof/Laws/Ops.lean ====
section
/-!
SUPPORT. What every command's wrapper does, said once: `act`, `iff` and `each`, and the step on the queue.
-/

namespace Sys2Proof.Machine

/-- A command answers a next state, which keeps the build, the level of `po_rst_n` and the queue. -/
theorem State.act_next (s : State) (f : State → State) :
    ∃ t, s.act f = .next t ∧ t.build = s.build ∧ t.por = s.por ∧ t.pending = s.pending := by
  by_cases h : s.por = true
  · exact ⟨s, by simp [State.act, h], rfl, rfl, rfl⟩
  · have hp : s.por = false := by simpa using h
    exact ⟨{ f s with build := s.build, por := false, pending := s.pending }, by simp [State.act, hp], rfl, hp.symm, rfl⟩

/-- While `po_rst_n` is low nothing changes. -/
theorem State.act_of_por (s : State) (f : State → State) (h : s.por = true) : s.act f = .next s := by
  simp [State.act, h]

/-- With `po_rst_n` high the effect takes place. -/
theorem State.act_live (s : State) (f : State → State) (h : s.por = false) :
    s.act f = .next { f s with build := s.build, por := false, pending := s.pending } := by
  simp [State.act, h]

/-- An effect that itself keeps the build, the pin and the queue is what the command answers. -/
theorem State.act_keeps (s : State) (f : State → State) (h : s.por = false) (hb : (f s).build = s.build)
    (hr : (f s).por = s.por) (hq : (f s).pending = s.pending) : s.act f = .next (f s) := by
  rw [State.act_live s f h, ← hb, ← h, ← hr, ← hq]

@[simp] theorem State.iff_true (s : State) (f : State → State) : s.iff true f = f s := rfl
@[simp] theorem State.iff_false (s : State) (f : State → State) : s.iff false f = s := rfl

/-- What holds of the state and of the effect holds of a conditional effect. -/
theorem State.iff_keeps (P : State → Prop) (s : State) (c : Bool) (f : State → State) (h : P s)
    (hf : c = true → P (f s)) : P (s.iff c f) := by
  cases c
  · exact h
  · exact hf rfl

@[simp] theorem State.each_nil {α : Type} (s : State) (f : State → α → State) : s.each [] f = s := rfl
@[simp] theorem State.each_cons {α : Type} (s : State) (a : α) (l : List α) (f : State → α → State) :
    s.each (a :: l) f = (f s a).each l f := rfl

/-- What one effect keeps, a list of effects keeps. -/
theorem State.each_keeps {α : Type} (P : State → Prop) (l : List α) (f : State → α → State)
    (hf : ∀ s a, a ∈ l → P s → P (f s a)) (s : State) (h : P s) : P (s.each l f) := by
  induction l generalizing s with
  | nil => exact h
  | cons a l ih =>
    exact ih (fun s b hb => hf s b (List.mem_cons_of_mem _ hb)) _ (hf s a (List.mem_cons_self ..) h)

/-- What one effect leaves of the state, a list of effects leaves. -/
theorem State.each_eq {α β : Type} (g : State → β) (l : List α) (f : State → α → State)
    (hf : ∀ s a, a ∈ l → g (f s a) = g s) (s : State) : g (s.each l f) = g s :=
  State.each_keeps (fun t => g t = g s) l f (fun t a ha ht => (hf t a ha).trans ht) s rfl

/-! ### The step -/

theorem step_nil (s : State) (h : s.pending = []) : step s = .next s := by simp [step, h]

theorem step_cons (s : State) (c : Instr) (l : List Instr) (h : s.pending = c :: l) :
    step s = exec c { s with pending := l } := by simp [step, h]

/-- A step that answers a state ran the front command on the queue's rest, or idled. -/
theorem step_next_cases (s t : State) (h : step s = .next t) :
    (s.pending = [] ∧ t = s) ∨ ∃ c l, s.pending = c :: l ∧ exec c { s with pending := l } = .next t := by
  cases hq : s.pending with
  | nil =>
    rw [step_nil s hq] at h
    exact .inl ⟨rfl, by cases h; rfl⟩
  | cons c l => exact .inr ⟨c, l, rfl, by rw [← step_cons s c l hq, h]⟩

/-! ### Flags -/

/-- A flag that hardware sets reads 1. -/
theorem State.on_setFlag (s : State) (f : Fld) (u : Nat) (hw : f.w = 1) (hl : f.lo < 32) : (s.setFlag f u).on f u = true := by
  have h : (s.setFlag f u).fget f u = (s.fget f u ||| 1) % 2 ^ f.w :=
    State.fget_fset_same s f u _ (by omega)
  have h1 : s.fget f u < 2 := by
    have := Nat.mod_lt ((s.reg f.reg u).toNat / 2 ^ f.lo) (show 2 ^ f.w > 0 by positivity)
    rw [hw] at this
    simpa [State.fget, getF, hw] using this
  have h2 : s.fget f u = 0 ∨ s.fget f u = 1 := by omega
  unfold State.on
  rw [h, hw]
  rcases h2 with h2 | h2 <;> rw [h2] <;> rfl

/-- Setting a flag leaves every other register. -/
theorem State.reg_setFlag_ne (s : State) (f : Fld) (u : Nat) (r : Reg) (v : Nat) (h : r ≠ f.reg ∨ v ≠ u) :
    (s.setFlag f u).reg r v = s.reg r v := by
  have : (s.setFlag f u).reg r v = (s.fset f u (s.fget f u ||| 1)).reg r v := rfl
  rw [this, State.reg_fset, if_neg]
  tauto

end Sys2Proof.Machine
end

