-- ==== Sys2Proof/Laws/Issue.lean ====
section
/-!
SUPPORT. What a row of a Clopor instruction answers, said once: the row in its own Dispatcher cycle by the outcome of
its instruction, and the row at any other moment.
-/

namespace Sys2Proof.Machine

/-- A row at a moment that is not its Desk's cycle changes nothing. -/
theorem State.issueRow_idle (s : State) (d : Nat) (f : State → Issue)
    (h : s.cycleOpen = false ∨ s.cycleBegin.issuer ≠ some d) : s.issueRow d f = s := by
  unfold State.issueRow State.iff
  rcases h with h | h
  · simp [h]
  · simp [h]

/-- A row in its Desk's cycle issues the instruction on the state after the cycle's start. -/
theorem State.issueRow_issues (s : State) (d : Nat) (f : State → Issue) (h : s.cycleOpen = true)
    (hi : s.cycleBegin.issuer = some d) :
    s.issueRow d f = (s.cycleBegin.cycleTaken.fetched d).issue d f := by
  simp [State.issueRow, State.iff, h, hi]

/-- An instruction that takes effect: the Desk's PC, its cost and its count move. -/
theorem State.issue_done (b b' : State) (d : Nat) (f : State → Issue) (next : Option Nat) (cost : Nat)
    (h : f b = .done b' next cost) :
    b.issue d f = ((b'.setDesk d { b'.desk d with
        pcWait := b.pc d, readyAt := b.stn.elapsed + cost, stepDone := (b'.desk d).stepping }).setPc d
        (next.getD (nextPc (b.pc d)))).faddWrap F.DSP_DESK_ISSUED_COUNT d 1 := by
  simp only [State.issue, h]

/-- An instruction that faults. -/
theorem State.issue_fault (b : State) (d : Nat) (f : State → Issue) (cause : Nat) (h : f b = .fault cause false) :
    b.issue d f = b.deskFault d cause := by
  simp [State.issue, h]

/-- A read of data memory that meets an uncorrectable error also marks it (R316). -/
theorem State.issue_fault_dmem (b : State) (d : Nat) (f : State → Issue) (cause : Nat) (h : f b = .fault cause true) :
    b.issue d f = (b.setFlag F.DSP_STATUS_DMEM_ERR 0).deskFault d cause := by
  simp [State.issue, h]

/-- An instruction that waits before it issues leaves everything but its Desk's state. -/
theorem State.issue_retry (b : State) (d : Nat) (f : State → Issue) (w : Wait) (h : f b = .retry w) :
    b.issue d f = (b.setDesk d { b.desk d with wait := w }).setDeskState d 2 := by
  simp [State.issue, h]

/-! ### Registers of a Desk -/

/-- g0 reads 0 whatever is written; another register reads what was written, modulo 2³². -/
theorem State.g_setG_same (s : State) (d n v : Nat) : (s.setG d n v).g d n = if n % 32 = 0 then 0 else v % 2 ^ 32 := by
  unfold State.g State.setG
  split
  · rfl
  · simp

end Sys2Proof.Machine
end

