-- ==== Sys2Proof/Laws/Memory.lean ====
section
/-! SUPPORT. Reading bytes and words after a write, and that every memory operation keeps the canonical form. -/

namespace Sys2Proof.Machine

/-- A byte after a write: the written one holds the value, every other is unchanged. -/
theorem State.rdByte_wrByte (s : State) (a a' : Nat) (b : Byte) :
    (s.wrByte a b).rdByte a' = if a' = a then b else s.rdByte a' := by
  unfold State.rdByte State.wrByte
  simp only [Store.find?_put]
  by_cases h : a' = a
  · subst h
    simp only [if_true]
    by_cases hd : memIsDef a' b = true
    · simp only [hd, if_true]
      simp only [memIsDef, Bool.and_eq_true, Bool.not_eq_true', beq_iff_eq] at hd
      simp [hd.1, hd.2]
    · simp [hd]
  · simp [h]

@[simp] theorem State.rdByte_wrByte_same (s : State) (a : Nat) (b : Byte) : (s.wrByte a b).rdByte a = b := by
  simp [State.rdByte_wrByte]

theorem State.rdByte_wrByte_ne (s : State) (a a' : Nat) (b : Byte) (h : a' ≠ a) :
    (s.wrByte a b).rdByte a' = s.rdByte a' := by simp [State.rdByte_wrByte, h]

/-- One strobed byte of a word write. -/
def State.putStrobed (a : Nat) (w : Word) (strb : Nat) (s : State) (i : Nat) : State :=
  if strb.testBit i then s.wrByte (a + i) (BitVec.ofNat 8 (w.toNat / 2 ^ (8 * i))) else s

theorem State.wrWord_eq (s : State) (a : Nat) (w : Word) (strb : Nat) :
    s.wrWord a w strb = State.putStrobed a w strb (State.putStrobed a w strb (State.putStrobed a w strb
      (State.putStrobed a w strb s 0) 1) 2) 3 := rfl

theorem State.rdByte_putStrobed (s : State) (a : Nat) (w : Word) (strb i a' : Nat) :
    (State.putStrobed a w strb s i).rdByte a' =
      if a' = a + i ∧ strb.testBit i = true then BitVec.ofNat 8 (w.toNat / 2 ^ (8 * i)) else s.rdByte a' := by
  unfold State.putStrobed
  by_cases hs : strb.testBit i = true
  · simp [hs, State.rdByte_wrByte]
  · simp [hs]

/-- A byte after a word write: a strobed byte of the word holds its part of the value, every other byte is unchanged. -/
theorem State.rdByte_wrWord (s : State) (a : Nat) (w : Word) (strb a' : Nat) :
    (s.wrWord a w strb).rdByte a' =
      if a ≤ a' ∧ a' < a + 4 ∧ strb.testBit (a' - a) = true then BitVec.ofNat 8 (w.toNat / 2 ^ (8 * (a' - a)))
      else s.rdByte a' := by
  rw [State.wrWord_eq]
  simp only [State.rdByte_putStrobed]
  by_cases h : a ≤ a' ∧ a' < a + 4
  · obtain ⟨i, rfl⟩ := Nat.exists_eq_add_of_le h.1
    have : i = 0 ∨ i = 1 ∨ i = 2 ∨ i = 3 := by omega
    rcases this with rfl | rfl | rfl | rfl <;> simp
  · have h0 : a' ≠ a + 0 := by omega
    have h1 : a' ≠ a + 1 := by omega
    have h2 : a' ≠ a + 2 := by omega
    have h3 : a' ≠ a + 3 := by omega
    have hn : ¬ (a ≤ a' ∧ a' < a + 4 ∧ strb.testBit (a' - a) = true) := fun hh => h ⟨hh.1, hh.2.1⟩
    rw [if_neg hn]
    simp only [h0, h1, h2, h3, false_and, if_false]

/-- Bytes outside the word keep their values. -/
theorem State.rdByte_wrWord_out (s : State) (a : Nat) (w : Word) (strb a' : Nat) (h : a' < a ∨ a + 4 ≤ a') :
    (s.wrWord a w strb).rdByte a' = s.rdByte a' := by
  rw [State.rdByte_wrWord, if_neg]; omega

/-- The bytes of a word, put together, are the word. -/
theorem bytes_of_word (w : Word) :
    BitVec.ofNat 8 (w.toNat / 2 ^ 24) ++ BitVec.ofNat 8 (w.toNat / 2 ^ 16) ++ BitVec.ofNat 8 (w.toNat / 2 ^ 8)
      ++ BitVec.ofNat 8 w.toNat = w := by
  apply BitVec.eq_of_getLsbD_eq
  intro i hi
  have ht : ∀ k j, k + j = i → (w.toNat / 2 ^ k).testBit j = w.getLsbD i := by
    rintro k j rfl
    rw [Nat.testBit_div_two_pow, BitVec.testBit_toNat, Nat.add_comm]
  simp only [BitVec.getLsbD_append, BitVec.getLsbD_ofNat, BitVec.testBit_toNat]
  by_cases h0 : i < 8
  · simp [h0]
  by_cases h1 : i < 16
  · rw [if_neg h0, if_pos (by omega), ht 8 _ (by omega)]
    simp [show i - 8 < 8 by omega]
  by_cases h2 : i < 24
  · rw [if_neg h0, if_neg (by omega), if_pos (by omega), ht 16 _ (by omega)]
    simp [show i - 8 - 8 < 8 by omega]
  · rw [if_neg h0, if_neg (by omega), if_neg (by omega), ht 24 _ (by omega)]
    simp [show i - 8 - 8 - 8 < 8 by omega]

/-- A whole word that was written reads back. -/
@[simp] theorem State.rdWord_wrWord (s : State) (a : Nat) (w : Word) : (s.wrWord a w).rdWord a = w := by
  unfold State.rdWord
  simp only [State.rdByte_wrWord]
  have t0 : Nat.testBit 15 0 = true := by decide
  have t1 : Nat.testBit 15 1 = true := by decide
  have t2 : Nat.testBit 15 2 = true := by decide
  have t3 : Nat.testBit 15 3 = true := by decide
  simpa [t0, t1, t2, t3] using bytes_of_word w

/-- A word that does not meet the written one keeps its value. -/
theorem State.rdWord_wrWord_out (s : State) (a : Nat) (w : Word) (strb a' : Nat) (h : a' + 4 ≤ a ∨ a + 4 ≤ a') :
    (s.wrWord a w strb).rdWord a' = s.rdWord a' := by
  unfold State.rdWord
  rw [State.rdByte_wrWord_out _ _ _ _ _ (by omega), State.rdByte_wrWord_out _ _ _ _ _ (by omega),
    State.rdByte_wrWord_out _ _ _ _ _ (by omega), State.rdByte_wrWord_out _ _ _ _ _ (by omega)]

/-! ### The canonical form -/

theorem State.wrByte_memOk (s : State) (a : Nat) (b : Byte) (h : Memory.wf s.mem = true) :
    Memory.wf (s.wrByte a b).mem = true := Store.wf_put _ _ _ _ h

theorem State.putStrobed_memOk (s : State) (a : Nat) (w : Word) (strb i : Nat) (h : Memory.wf s.mem = true) :
    Memory.wf (State.putStrobed a w strb s i).mem = true := by
  unfold State.putStrobed; split
  · exact State.wrByte_memOk _ _ _ h
  · exact h

theorem State.wrWord_memOk (s : State) (a : Nat) (w : Word) (strb : Nat) (h : Memory.wf s.mem = true) :
    Memory.wf (s.wrWord a w strb).mem = true := by
  rw [State.wrWord_eq]
  exact State.putStrobed_memOk _ _ _ _ _ (State.putStrobed_memOk _ _ _ _ _ (State.putStrobed_memOk _ _ _ _ _
    (State.putStrobed_memOk _ _ _ _ _ h)))

theorem State.wrBytes_memOk (l : List Nat) (s : State) (a : Nat) (h : Memory.wf s.mem = true) :
    Memory.wf (s.wrBytes a l).mem = true := by
  induction l generalizing s a with
  | nil => exact h
  | cons b t ih => exact ih _ _ (State.wrByte_memOk _ _ _ h)

/-- The memory of a machine right after reset has the form. -/
theorem State.resetOf_memOk (b : Build) : Memory.wf (State.resetOf b).mem = true := rfl

theorem State.reset_memOk : Memory.wf State.reset.mem = true := rfl

/-! ### What a word write leaves -/

theorem State.wrWord_frame (s : State) (a : Nat) (w : Word) (strb : Nat) :
    s.wrWord a w strb = { s with mem := (s.wrWord a w strb).mem } := by
  have hp : ∀ (s : State) i, State.putStrobed a w strb s i = { s with mem := (State.putStrobed a w strb s i).mem } := by
    intro s i; unfold State.putStrobed; split <;> rfl
  rw [State.wrWord_eq]
  rw [hp (State.putStrobed a w strb (State.putStrobed a w strb (State.putStrobed a w strb s 0) 1) 2) 3,
    hp (State.putStrobed a w strb (State.putStrobed a w strb s 0) 1) 2, hp (State.putStrobed a w strb s 0) 1, hp s 0]

@[simp] theorem State.wrWord_reg (s : State) (a : Nat) (w : Word) (strb : Nat) (r : Reg) (u : Nat) :
    (s.wrWord a w strb).reg r u = s.reg r u := by rw [State.wrWord_frame]; rfl
@[simp] theorem State.wrWord_fget (s : State) (a : Nat) (w : Word) (strb : Nat) (f : Fld) (u : Nat) :
    (s.wrWord a w strb).fget f u = s.fget f u := by rw [State.wrWord_frame]; rfl
@[simp] theorem State.wrWord_on (s : State) (a : Nat) (w : Word) (strb : Nat) (f : Fld) (u : Nat) :
    (s.wrWord a w strb).on f u = s.on f u := by rw [State.wrWord_frame]; rfl
@[simp] theorem State.wrWord_build (s : State) (a : Nat) (w : Word) (strb : Nat) : (s.wrWord a w strb).build = s.build := by
  rw [State.wrWord_frame]
@[simp] theorem State.wrWord_regs (s : State) (a : Nat) (w : Word) (strb : Nat) : (s.wrWord a w strb).regs = s.regs := by
  rw [State.wrWord_frame]
@[simp] theorem State.wrWord_stn (s : State) (a : Nat) (w : Word) (strb : Nat) : (s.wrWord a w strb).stn = s.stn := by
  rw [State.wrWord_frame]
@[simp] theorem State.wrWord_dsp (s : State) (a : Nat) (w : Word) (strb : Nat) : (s.wrWord a w strb).dsp = s.dsp := by
  rw [State.wrWord_frame]
@[simp] theorem State.wrWord_log (s : State) (a : Nat) (w : Word) (strb : Nat) : (s.wrWord a w strb).log = s.log := by
  rw [State.wrWord_frame]
@[simp] theorem State.wrWord_jnl (s : State) (a : Nat) (w : Word) (strb : Nat) : (s.wrWord a w strb).jnl = s.jnl := by
  rw [State.wrWord_frame]

end Sys2Proof.Machine
end

