-- ==== Sys2Proof/Laws/Journal.lean ====
section
/-!
SUPPORT. What an entry of the Change Journal may move: its registers, its window, its own record, and the event of an
overrun. Every write is journaled, so this frame is part of every frame of a write.
-/

namespace Sys2Proof.Machine

/-- Nothing moved but what belongs to the Journal. -/
structure JnlFrame (s t : State) : Prop where
  regs : ∀ r u, r ≠ .JNL_WIDX → r ≠ .JNL_STATUS → r ≠ .HIF_IRQ_SRC → t.reg r u = s.reg r u
  bytes : ∀ a, a < 0x90000 ∨ 0x94000 ≤ a → t.rdByte a = s.rdByte a
  srcs : ∀ x, x ≠ srcLog → t.source x = s.source x
  rest : t = { s with regs := t.regs, mem := t.mem, fresh := t.fresh, jnl := t.jnl, log := t.log }

theorem JnlFrame.refl (s : State) : JnlFrame s s := ⟨fun _ _ _ _ _ => rfl, fun _ _ => rfl, fun _ _ => rfl, rfl⟩

theorem JnlFrame.trans {s t u : State} (h : JnlFrame s t) (k : JnlFrame t u) : JnlFrame s u where
  regs r v h1 h2 h3 := (k.regs r v h1 h2 h3).trans (h.regs r v h1 h2 h3)
  bytes a ha := (k.bytes a ha).trans (h.bytes a ha)
  srcs x hx := (k.srcs x hx).trans (h.srcs x hx)
  rest := by
    have e := h.rest
    have k' := k.rest
    rw [e] at k'
    exact k'

/-- An update of the Journal's own record. -/
theorem JnlFrame.setJnl (s : State) (j : Jnl) : JnlFrame s { s with jnl := j } :=
  ⟨fun _ _ _ _ _ => rfl, fun _ _ => rfl, fun _ _ => rfl, rfl⟩

/-- A write of one of the Journal's registers. -/
theorem JnlFrame.setReg (s : State) (r : Reg) (u : Nat) (w : Word)
    (h : r = .JNL_WIDX ∨ r = .JNL_STATUS ∨ r = .HIF_IRQ_SRC) : JnlFrame s (s.setReg r u w) where
  regs r' u' h1 h2 h3 := State.reg_setReg_ne s w (.inl (by rintro rfl; tauto))
  bytes _ _ := rfl
  srcs _ _ := rfl
  rest := rfl

theorem JnlFrame.fset (s : State) (f : Fld) (u v : Nat)
    (h : f.reg = .JNL_WIDX ∨ f.reg = .JNL_STATUS ∨ f.reg = .HIF_IRQ_SRC) : JnlFrame s (s.fset f u v) :=
  JnlFrame.setReg s _ _ _ h

theorem JnlFrame.setFlag (s : State) (f : Fld) (u : Nat)
    (h : f.reg = .JNL_WIDX ∨ f.reg = .JNL_STATUS ∨ f.reg = .HIF_IRQ_SRC) : JnlFrame s (s.setFlag f u) :=
  (JnlFrame.fset s f u _ h).trans ⟨fun _ _ _ _ _ => rfl, fun _ _ => rfl, fun _ _ => rfl, rfl⟩

/-- A word in the Journal's window. -/
theorem JnlFrame.wrWord (s : State) (a : Nat) (w : Word) (h : 0x90000 ≤ a ∧ a + 4 ≤ 0x94000) :
    JnlFrame s (s.wrWord a w) where
  regs _ _ _ _ _ := by simp
  bytes x hx := State.rdByte_wrWord_out s a w 15 x (by omega)
  srcs _ _ := by unfold State.source; simp
  rest := by rw [State.wrWord_frame]

/-- A posting of the log's own source. -/
theorem JnlFrame.post (s : State) (cls code : Nat) (l : List PItem) : JnlFrame s (s.post srcLog cls code l) where
  regs _ _ _ _ _ := rfl
  bytes _ _ := rfl
  srcs x hx := by
    show ((s.setSource srcLog _).source x) = s.source x
    rw [State.source_setSource, if_neg hx]
  rest := rfl

theorem State.jnlOverrun_frame (s : State) : JnlFrame s s.jnlOverrun := by
  unfold State.jnlOverrun
  have h1 : JnlFrame s (s.faddSat F.JNL_STATUS_OVERRUN 0 1) := JnlFrame.fset s _ _ _ (.inr (.inl rfl))
  dsimp only
  split
  · exact h1
  · exact h1.trans ((JnlFrame.setFlag _ _ _ (.inr (.inl rfl))).trans (JnlFrame.post _ _ _ _))

theorem State.jnlHigh_frame (s : State) (w : Nat) : JnlFrame s (s.jnlHigh w) := by
  unfold State.jnlHigh
  dsimp only
  split
  · exact JnlFrame.setFlag _ _ _ (.inr (.inr rfl))
  · exact JnlFrame.refl s

/-- Storing one entry. -/
theorem State.jnlStore_frame (s : State) (tick : Nat) (e : JEntry) : JnlFrame s (s.jnlStore tick e) := by
  have h0 : JnlFrame s (if (s.reg .JNL_WIDX 0).toNat < 1024 && s.jnl.total < 1024 then s
      else if signed 32 ((s.reg .JNL_WIDX 0).toNat + 2 ^ 32 - 1024 + 2 ^ 32 - (s.reg .JNL_RIDX 0).toNat) ≥ 0 then s.jnlOverrun
      else s) := by
    split
    · exact JnlFrame.refl s
    · split
      · exact State.jnlOverrun_frame s
      · exact JnlFrame.refl s
  have hb : ∀ n : Nat, n ≤ 12 → 0x90000 ≤ jnlBase + 16 * ((s.reg .JNL_WIDX 0).toNat % 1024) + n ∧
      jnlBase + 16 * ((s.reg .JNL_WIDX 0).toNat % 1024) + n + 4 ≤ 0x94000 := by
    intro n hn
    have := Nat.mod_lt (s.reg .JNL_WIDX 0).toNat (show 1024 > 0 by decide)
    unfold jnlBase; omega
  unfold State.jnlStore
  dsimp only
  refine (((((h0.trans (JnlFrame.wrWord _ _ _ (hb 0 (by decide)))).trans (JnlFrame.wrWord _ _ _ (hb 4 (by decide)))).trans
    (JnlFrame.wrWord _ _ _ (hb 8 (by decide)))).trans (JnlFrame.wrWord _ _ _ (hb 12 (by decide)))).trans
    (JnlFrame.setReg _ _ _ _ (.inl rfl))).trans ((State.jnlHigh_frame _ _).trans (JnlFrame.setJnl _ _))

/-- Writing the waiting entries. -/
theorem State.jnlDrain_frame (n : Nat) (s : State) : JnlFrame s (State.jnlDrain n s) := by
  induction n generalizing s with
  | zero => exact JnlFrame.refl s
  | succ n ih =>
    unfold State.jnlDrain
    split
    · exact JnlFrame.refl s
    · dsimp only
      split
      · exact JnlFrame.refl s
      · split
        · exact ((JnlFrame.setJnl s _).trans (State.jnlStore_frame _ _ _)).trans (ih _)
        · exact ((JnlFrame.setJnl s _).trans (State.jnlStore_frame _ _ _)).trans (ih _)

/-- Recording one write. -/
theorem State.journal_frame (s : State) (src kind : Nat) (defer : Bool) (addr old new : Nat) :
    JnlFrame s (s.journal src kind defer addr old new) :=
  (JnlFrame.setJnl s _).trans (State.jnlDrain_frame _ _)

/-! ### What the frame gives -/

theorem JnlFrame.fget {s t : State} (h : JnlFrame s t) (f : Fld) (u : Nat) (h1 : f.reg ≠ .JNL_WIDX)
    (h2 : f.reg ≠ .JNL_STATUS) (h3 : f.reg ≠ .HIF_IRQ_SRC) : t.fget f u = s.fget f u := by
  unfold State.fget; rw [h.regs _ _ h1 h2 h3]

theorem JnlFrame.stn {s t : State} (h : JnlFrame s t) : t.stn = s.stn := by rw [h.rest]
theorem JnlFrame.build {s t : State} (h : JnlFrame s t) : t.build = s.build := by rw [h.rest]
theorem JnlFrame.secs {s t : State} (h : JnlFrame s t) : t.secs = s.secs := by rw [h.rest]
theorem JnlFrame.rgns {s t : State} (h : JnlFrame s t) : t.rgns = s.rgns := by rw [h.rest]
theorem JnlFrame.xings {s t : State} (h : JnlFrame s t) : t.xings = s.xings := by rw [h.rest]
theorem JnlFrame.toks {s t : State} (h : JnlFrame s t) : t.toks = s.toks := by rw [h.rest]
theorem JnlFrame.cal {s t : State} (h : JnlFrame s t) : t.cal = s.cal := by rw [h.rest]
theorem JnlFrame.calRgns {s t : State} (h : JnlFrame s t) : t.calRgns = s.calRgns := by rw [h.rest]
theorem JnlFrame.dsp {s t : State} (h : JnlFrame s t) : t.dsp = s.dsp := by rw [h.rest]
theorem JnlFrame.gov {s t : State} (h : JnlFrame s t) : t.gov = s.gov := by rw [h.rest]
theorem JnlFrame.pmb {s t : State} (h : JnlFrame s t) : t.pmb = s.pmb := by rw [h.rest]
theorem JnlFrame.mtr {s t : State} (h : JnlFrame s t) : t.mtr = s.mtr := by rw [h.rest]
theorem JnlFrame.axi {s t : State} (h : JnlFrame s t) : t.axi = s.axi := by rw [h.rest]
theorem JnlFrame.shadow {s t : State} (h : JnlFrame s t) : t.shadow = s.shadow := by rw [h.rest]
theorem JnlFrame.por {s t : State} (h : JnlFrame s t) : t.por = s.por := by rw [h.rest]
theorem JnlFrame.pending {s t : State} (h : JnlFrame s t) : t.pending = s.pending := by rw [h.rest]
theorem JnlFrame.count {s t : State} (h : JnlFrame s t) : t.count = s.count := by unfold State.count; rw [h.stn]

end Sys2Proof.Machine
end

