-- ==== Sys2Proof/Tests/Slice0.lean ====
section
/-!
SUPPORT. Tests of the model, and witnesses for the hypotheses of the obligations.

A theorem `test_…` checks the model against a value worked out from the manual. A theorem `witness_<claim>` names the
claim of Certificates/Slice0/Obligations.lean whose hypotheses it meets: each of its conjuncts is one choice of states and
operands, at the ends of their ranges where there is one, and lists every hypothesis that the choice meets, those before
a clause's conclusion and those inside it. Together the conjuncts of a witness meet the hypotheses of every clause.
-/

namespace Sys2Proof.Tests

set_option maxRecDepth 100000
set_option Elab.async false

open Sys2Proof.Machine Sys2Proof.Claim

/-! ## Well-formed commands: an ill-formed term for each check, and the same commands with every operand in range -/

/-- Four regions, two Sections, two rails, three Junctions, an Interchange, two Token Crossings. -/
def sizes : Sizes := ⟨4, 2, 2, 3, 1, 2⟩

theorem test_ill_formed_1 : (
    [.refSelWrite 4, .spineCalibration [], .spineParityMismatch 4 0, .spineReload 4, .spineFrameCheck 4 0,
      .syncRoleWrite 4, .secFwWrite 2 0, .secFwWrite 0 262144, .frequencyChange 2, .writeOff 4, .rampStep 2,
      .sectionRelease 2, .dllLock 4 0 0 0, .regionClockStart 2, .sectionReady 2, .safeSet 2, .safeClear 2,
      .sectionPeriodCheck 2 0 0, .sectionRestart 2, .gateRequest 4, .gatingWriteOff 4, .wakeInput 4 0,
      .gateWakeWrite 4, .gateForceWrite 4 false, .regionRestart 4, .regionPeriodCheck 4 0, .dllLockLoss 4 0,
      .gateFaultClear 4 false, .resetRequestLower 4, .inputUnmask 4, .regionEdge 4 {}, .regionEdge 0 { raw := [31] },
      .regionEdge 0 { raw := [31, 31, 31, 31, 31, 31, 31, 32] }, .regionEdge 0 { upA := 128 },
      .regionEdge 0 { upB := 128 }, .regionEdge 0 { upC := 128 }, .eventPortPosting 4 0 0 0,
      .eventPortPosting 0 16 0 0, .eventPortPosting 0 0 256 0, .eventPortPosting 0 0 0 4294967296] : List Instr).all
      (fun c => !wellFormed sizes c) = true := by
  decide +kernel

theorem test_ill_formed_2 : (
    [.tapTileLoad 4, .tapReload 4, .tapTableWrite 1048576 0 0, .tapTableWrite 0 4294967296 0, .tapTableWrite 0 0 16,
      .tapTableSeedLoad [4], .thermalReading 4 0, .voltageSenseUpdate 4 0, .clrTempMax 4, .clrVMin 4, .actSnapshot 4,
      .actSnapshotDone 4, .tcSelftest 4 0, .tcSelftest 0 8, .tcOutOfTurnTest 4, .tcReadmit 4 0, .tcReadmit 0 8,
      .tcClrLow 4, .tcReadRefresh 4, .whistleStrobe 4 0, .profileRefit 4, .profileWrite 4 0 0 0,
      .profileWrite 0 4 0 0, .profileWrite 0 0 4294967296 0, .profileWrite 0 0 0 16, .headwayOn 2, .headwayOff 2,
      .fwHwWrite 2 0, .fwHwWrite 0 262144, .symEnClear 2, .slipClrMax 4, .crossingWrite (.jct 3) 0,
      .crossingWrite (.ich 1) 0, .crossingWrite (.tok 2) 0, .crossingRead (.ich 1), .tokenPulse 2, .tokenDeliver 2,
      .tokenWordDeliver 2 false, .tokenAcknowledge 2 false, .crossingResetAssert (.ich 1) .writer] : List Instr).all
      (fun c => !wellFormed sizes c) = true := by
  decide +kernel

theorem test_ill_formed_3 : (
    [.crossingFlush (.ich 1) .writer, .crossingResetDeassert (.ich 1) .writer,
      .crossingHandshakeDone (.ich 1) .writer, .pointerParity (.ich 1) .writer .writer, .crossingRealign (.ich 1),
      .crossingAlign (.ich 1), .occRefresh (.ich 1), .occClrMax (.ich 1), .sectionInitStep 4 .trim {},
      .calStepStart 4, .calUnitStart 4 1, .calUnitStart 0 0, .calUnitStart 0 17, .calStepDone 4 {}, .calStepAbandon 4,
      .redoDeskew 4, .redoTrim 4, .redoEye 4, .calCommit 4 false, .calSpotCheck 4 .trim {}, .slotLenWrite 2 0,
      .slotLenWrite 0 1048576, .slotEnd 2, .deskStart 4, .deskStop 4, .deskStep 4, .br 4 0 0 0 0, .br 0 16 0 0 0,
      .br 0 0 32 0 0, .br 0 0 0 32 0, .br 0 0 0 0 4294967296, .call 4 0, .call 0 4294967296, .ret 4, .jr 4 0 0,
      .jr 0 32 0, .jr 0 0 4294967296, .halt 4, .nop 4, .alu 4 0 0 0 0] : List Instr).all
      (fun c => !wellFormed sizes c) = true := by
  decide +kernel

theorem test_ill_formed_4 : (
    [.alu 0 512 0 0 0, .alu 0 0 32 0 0, .alu 0 0 0 32 0, .alu 0 0 0 0 32, .alui 4 0 0 0 0, .alui 0 512 0 0 0,
      .alui 0 0 32 0 0, .alui 0 0 0 32 0, .alui 0 0 0 0 4294967296, .movi 4 0 0, .movi 0 32 0, .movi 0 0 4294967296,
      .cmp 4 0 0 0 0, .cmp 0 512 0 0 0, .cmp 0 0 32 0 0, .cmp 0 0 0 32 0, .cmp 0 0 0 0 32, .cmpi 4 0 0 0 0,
      .cmpi 0 512 0 0 0, .cmpi 0 0 32 0 0, .cmpi 0 0 0 32 0, .cmpi 0 0 0 0 4294967296, .ld 4 0 0 0 .clean,
      .ld 0 32 0 0 .clean, .ld 0 0 32 0 .clean, .ld 0 0 0 4294967296 .clean, .st 4 0 0 0, .st 0 32 0 0, .st 0 0 32 0,
      .st 0 0 0 4294967296, .ldt 4 0 0 0 .clean, .ldt 0 4 0 0 .clean, .ldt 0 0 32 0 .clean,
      .ldt 0 0 0 4294967296 .clean, .stt 4 0 0 0, .stt 0 4 0 0, .stt 0 0 32 0, .stt 0 0 0 4294967296, .rdt 4 0,
      .rdt 0 4] : List Instr).all
      (fun c => !wellFormed sizes c) = true := by
  decide +kernel

theorem test_ill_formed_5 : (
    [.taddi 4 0 0 0, .taddi 0 4 0 0, .taddi 0 0 4 0, .taddi 0 0 0 4294967296, .taddg 4 0 0 0 0, .taddg 0 4 0 0 0,
      .taddg 0 0 4 0 0, .taddg 0 0 0 32 0, .taddg 0 0 0 0 4294967296, .tdiff 4 0 0 0, .tdiff 0 32 0 0, .tdiff 0 0 4 0,
      .tdiff 0 0 0 4, .tlo 4 0 0, .tlo 0 32 0, .tlo 0 0 4, .thi 4 0 0, .thi 0 32 0, .thi 0 0 4, .tsetlo 4 0 0,
      .tsetlo 0 4 0, .tsetlo 0 0 32, .tsethi 4 0 0, .tsethi 0 4 0, .tsethi 0 0 32, .wait 4 0 0, .wait 0 4 0,
      .wait 0 0 4294967296, .waitEnd 4, .freq 4 0 {}, .freq 0 32 {}, .freq 0 0 { ts := 4 },
      .freq 0 0 { offs := 65536 }, .freq 0 0 { scope := 4 }, .freq 0 0 { index := 1024 },
      .freq 0 0 { addr := 1048576 }, .freqhw 4 0 {}, .freqhw 0 32 {}, .freqhw 0 0 { ts := 4 }, .headway 4 0 {}] : List Instr).all
      (fun c => !wellFormed sizes c) = true := by
  decide +kernel

theorem test_ill_formed_6 : (
    [.headway 0 32 {}, .headway 0 0 { ts := 4 }, .strpol 4 0 {}, .strpol 0 32 {}, .strpol 0 0 { ts := 4 },
      .gate 4 0 {}, .gate 0 32 {}, .gate 0 0 { ts := 4 }, .freeze 4 0 {}, .freeze 0 32 {}, .freeze 0 0 { ts := 4 },
      .thaw 4 0 {}, .thaw 0 32 {}, .thaw 0 0 { ts := 4 }, .woff 4 0 {}, .woff 0 32 {}, .woff 0 0 { ts := 4 },
      .cslot 4 0 {}, .cslot 0 32 {}, .cslot 0 0 { ts := 4 }, .lwh 4 0 {}, .lwh 0 32 {}, .lwh 0 0 { ts := 4 },
      .step 4 0 {}, .step 0 32 {}, .step 0 0 { ts := 4 }, .phase 4 0 {}, .phase 0 32 {}, .phase 0 0 { ts := 4 },
      .post 4 0 0 0, .post 0 512 0 0, .post 0 0 32 0, .post 0 0 0 4294967296, .envcap 4 0 {}, .envcap 0 32 {},
      .envcap 0 0 { ts := 4 }, .prio 4 0 0, .prio 0 32 0, .prio 0 0 4294967296, .wr 4 0 {}] : List Instr).all
      (fun c => !wellFormed sizes c) = true := by
  decide +kernel

theorem test_ill_formed_7 : (
    [.wr 0 32 {}, .wr 0 0 { ts := 4 }, .rd 4 0 0 0, .rd 0 32 0 0, .rd 0 0 32 0, .rd 0 0 0 4294967296, .rdReturn 4,
      .pref 4 0 0, .pref 0 32 0, .pref 0 0 4294967296, .pin 4 0 0, .pin 0 32 0, .pin 0 0 4294967296, .unpin 4 0 0,
      .unpin 0 32 0, .unpin 0 0 4294967296, .acq 4 0, .acq 0 4294967296, .rel 4 0, .rel 0 4294967296, .try 4 0 0,
      .try 0 32 0, .try 0 0 4294967296, .semaphorePass 16, .actionEntryFree 4, .whistleEntryFree 4,
      .semHostRelease 65536, .residentTileWrite 1048576 0 0, .residentTileWrite 0 4294967296 0,
      .residentTileWrite 0 0 16, .residentCrcWrite 32 0 0, .residentCrcWrite 0 4294967296 0, .residentCrcWrite 0 0 16,
      .residentLoadDone [256] [], .residentLoadDone [] [32], .pageFillStart 4096, .pageFillDone 4096 [] .okay,
      .pageFillDone 0 [256] .okay, .dspImgWrite .lo 4294967296 0, .dspImgWrite .lo 0 16] : List Instr).all
      (fun c => !wellFormed sizes c) = true := by
  decide +kernel

theorem test_ill_formed_8 : (
    [.dmemDataWrite 4294967296 0, .dmemDataWrite 0 16, .envSample false 65536, .govEnvWrite 65536, .marginWindow 2,
      .voltageRaiseStep 2, .voltageConfirm 2, .voltageConfirmTimeout 2, .loadHintStrobe 2, .loadHintStrobeEnd 2,
      .telemetryRetry 2, .alertStuckClear 2, .pmbRequest 8 0 0 0, .pmbRequest 0 16 0 0, .pmbRequest 0 0 256 0,
      .pmbRequest 0 0 0 65536, .energyEstimate 4 0, .eventPosting 2048 0 0 0, .eventPosting 0 16 0 0,
      .eventPosting 0 0 256 0, .eventPosting 0 0 0 4294967296, .sourceGapMarker 2048, .evtRidxWrite 4294967296,
      .consumeIndexRead 4294967296 .okay, .ringFullReread 4294967296 .okay, .logEntryRead 4096 0 .clean,
      .logEntryRead 0 4 .clean, .journalEntryRead 1024 0 .clean, .journalEntryRead 0 4 .clean, .milSnap 1024,
      .milSnapClr 1024, .hostRegisterWrite 1048576 0 0, .hostRegisterWrite 0 4294967296 0, .hostRegisterWrite 0 0 16,
      .apbUnmappedAccess 1048576 false, .axiErrorResponse 8 .okay, .axiRange 8, .tokenWordOffer 2 0,
      .acknowledgeRiseSeen 2, .requestFallSeen 2] : List Instr).all
      (fun c => !wellFormed sizes c) = true := by
  decide +kernel

/-- The same sizes' last units are well-formed. -/
theorem test_well_formed : (
    [.writeOff 3, .rampStep 1, .telemetryRetry 1, .crossingRealign (.jct 2), .crossingRealign (.ich 0), .tokenPulse 1,
      .secFwWrite 1 262143, .regionEdge 3 { raw := [31, 31, 31, 31, 31, 31, 31, 0] }, .milSnap 1023,
      .calUnitStart 3 16, .freq 3 31 { ts := 3, offs := 65535, scope := 3, index := 1023 }, .alu 3 511 31 31 31,
      .pageFillStart 4095, .hostRegisterWrite 0xFFFFF 4294967295 15, .syncHoldTimeout] : List Instr).all
        (wellFormed sizes) = true := by decide +kernel

/-- The table gives no row any bits, so no word spells a command. -/
theorem test_no_words : decodeTableWord 32 0 = none ∧ decodeTableWord 0 0 = none := by decide +kernel

/-! ## The hypotheses of the obligations are met -/

/-! ### The machine -/

/-- A small instance: four regions, two Sections, two rails, three Junctions, an Interchange and two Token Crossings. -/
def small : Build := { lomvy896 with
  nRegions := 4
  nSections := 2
  nRails := 2
  regionRuns := [(2, 0), (2, 1)]
  sectionRail := [0, 1]
  junctions := [⟨0, 1, 64⟩, ⟨1, 0, 64⟩, ⟨2, 1, 64⟩]
  interchanges := [⟨0, 2, 64⟩]
  tokens := [⟨0, 1, false, 16⟩, ⟨1, 2, true, 16⟩] }

/-- The Station of a die that has locked, at a count. -/
def lockedStn (n : Nat) : Stn :=
  { locked := true, cntA := BitVec.ofNat 64 n, cntB := BitVec.ofNat 64 n, cntC := BitVec.ofNat 64 n, elapsed := n }

/-- The small instance, locked, at a count, all else as after power-on. -/
def live (n : Nat) : State := { State.resetOf small with por := false, stn := lockedStn n }

/-- A command waits behind another. -/
def queued : State := { live 1000 with pending := [.nop 1, .tcapCapture] }

/-- The hypotheses of StepsAlwaysComplete and of PowerOnInvariantIsKept. -/
theorem witness_StepsAlwaysComplete : (live 1000).pending = [] ∧ queued.pending = [.nop 1, .tcapCapture] := by
  decide +kernel

theorem witness_PowerOnInvariantIsKept : State.reset.porHolds ∧ step State.reset = .next State.reset :=
  ⟨by unfold State.porHolds; decide +kernel, rfl⟩

theorem witness_PowerOnResets :
    State.reset.por = true ∧ Instr.tick { : TickIn } ≠ Instr.poRstRelease ∧
      Instr.tick { : TickIn } ≠ Instr.poRstAssert := by
  (repeat' apply And.intro) <;> decide +kernel

/-- AddressesNameTheirRegisters: the last unit of every class. -/
theorem witness_AddressesNameTheirRegisters :
    small.nRails ≤ 16 ∧ small.nSections ≤ 64 ∧ small.nRegions ≤ 1024 ∧ small.junctions.length ≤ 1536 ∧
    small.interchanges.length ≤ 240 ∧ small.optMileage = true ∧
    (Reg.STN_ID.info.cls = .abs ∧ 0 < Reg.STN_ID.info.count) ∧
    (Reg.GOV_RAIL_CFG.info.cls = .rail ∧ 1 / Reg.GOV_RAIL_CFG.info.count < small.nRails) ∧
    (Reg.SEC_FW.info.cls = .sec ∧ 1 / Reg.SEC_FW.info.count < small.nSections) ∧
    (Reg.DSP_DESK_PC.info.cls = .desk ∧ 3 / Reg.DSP_DESK_PC.info.count < 4) ∧
    (Reg.SB_GATE.info.cls = .sb ∧ 3 / Reg.SB_GATE.info.count < small.nRegions) ∧
    (Reg.JCT_CFG.info.cls = .jct ∧ 2 < small.junctions.length) ∧
    (Reg.ICH_CFG.info.cls = .ich ∧ 0 < small.interchanges.length) := by
  decide +kernel

/-! ### Clopor: arithmetic, control flow, data memory -/

/-- Desk 1 runs and is ready, with g1 at the last word of data memory and g2 at 7. -/
def desk1 : State :=
  ((((live 1000).fset F.DSP_STATUS_READY 0 1).setDeskState 1 1).setG 1 1 0x3FFC).setG 1 2 7
def desk1b : State := desk1.cycleBegin.cycleTaken.fetched 1
/-- Its stack holds 7 returns, the last at word 126; its PC is word 126 of a tile. -/
def stack7 : State := ((desk1.fset F.DSP_DESK_STATUS_DEPTH 1 7).fset F.DSP_STACK_RET 14 126).setPc 1 126
def stack7b : State := stack7.cycleBegin.cycleTaken.fetched 1
/-- Its stack is full, the last return at word 127. -/
def stack8 : State := (desk1.fset F.DSP_DESK_STATUS_DEPTH 1 8).fset F.DSP_STACK_RET 15 127
def stack8b : State := stack8.cycleBegin.cycleTaken.fetched 1

theorem witness_Alu :
    Issues desk1 1 desk1b ∧ 17 < 18 ∧ (16 ≤ 17 → gw desk1b 1 2 ≠ 0) := by
  unfold Issues; (repeat' apply And.intro) <;> decide +kernel

theorem witness_Alui :
    Issues desk1 1 desk1b ∧ 7 < 18 ∧ 31 < 2 ^ 32 ∧ (16 ≤ 7 → 31 ≠ 0) ∧ (5 ≤ 7 → 7 ≤ 7 → 31 < 32) := by
  unfold Issues; (repeat' apply And.intro) <;> decide +kernel

theorem witness_Movi :
    Issues desk1 1 desk1b := by
  unfold Issues; (repeat' apply And.intro) <;> decide +kernel

theorem witness_Cmp :
    Issues desk1 1 desk1b ∧ 8 < 9 ∧ (8 = 0 → 1 % 32 = 0 ∧ 0 % 32 = 0) ∧ (7 ≤ 8 → 0 % 32 = 0) := by
  unfold Issues; (repeat' apply And.intro) <;> decide +kernel

theorem witness_Cmpi :
    Issues desk1 1 desk1b ∧ 6 < 9 ∧ 4294967295 < 2 ^ 32 ∧ (6 = 0 → 1 % 32 = 0 ∧ 4294967295 = 0) ∧
      (7 ≤ 6 → 4294967295 = 0) := by
  unfold Issues; (repeat' apply And.intro) <;> decide +kernel

theorem witness_Rdt :
    Issues desk1 1 desk1b := by
  unfold Issues; (repeat' apply And.intro) <;> decide +kernel

theorem witness_Taddi :
    Issues desk1 1 desk1b := by
  unfold Issues; (repeat' apply And.intro) <;> decide +kernel

theorem witness_Taddg :
    Issues desk1 1 desk1b := by
  unfold Issues; (repeat' apply And.intro) <;> decide +kernel

theorem witness_Tdiff :
    Issues desk1 1 desk1b := by
  unfold Issues; (repeat' apply And.intro) <;> decide +kernel

theorem witness_Tlo :
    Issues desk1 1 desk1b := by
  unfold Issues; (repeat' apply And.intro) <;> decide +kernel

theorem witness_Thi :
    Issues desk1 1 desk1b := by
  unfold Issues; (repeat' apply And.intro) <;> decide +kernel

theorem witness_Tsetlo :
    Issues desk1 1 desk1b := by
  unfold Issues; (repeat' apply And.intro) <;> decide +kernel

theorem witness_Tsethi :
    Issues desk1 1 desk1b := by
  unfold Issues; (repeat' apply And.intro) <;> decide +kernel

theorem witness_ArithFaults :
    (Issues desk1 1 desk1b ∧ (desk1b.desk 1).wait = Wait.none ∧ 18 ≤ 18 ∧ 9 ≤ 18 ∧ (1 % 32 ≠ 0 ∨ 2 % 32 ≠ 0) ∧
      (1 % 32 ≠ 0 ∨ 5 % 2 ^ 32 ≠ 0)) ∧
    (Issues desk1 1 desk1b ∧ (desk1b.desk 1).wait = Wait.none ∧ (16 = 16 ∨ 16 = 17) ∧ gw desk1b 1 0 = 0) ∧
    (Issues desk1 1 desk1b ∧ (desk1b.desk 1).wait = Wait.none ∧ 5 ≤ 5 ∧ 5 ≤ 7 ∧ 32 ≤ 32 ∧ 32 < 2 ^ 32) ∧
    (Issues desk1 1 desk1b ∧ (desk1b.desk 1).wait = Wait.none ∧ (7 = 7 ∨ 7 = 8) ∧ 0 < 1 ∧ 1 < 32 ∧
      1 < 2 ^ 32) := by
  unfold Issues; (repeat' apply And.intro) <;> decide +kernel

theorem witness_Br :
    Issues stack7 1 stack7b ∧ 0 < 9 ∧ (0 = 0 → 0 % 32 = 0 ∧ 0 % 32 = 0) ∧ (7 ≤ 0 → 0 % 32 = 0) ∧ 2097150 < 2 ^ 21 ∧
      2097150 % 128 ≠ 127 := by
  unfold Issues; (repeat' apply And.intro) <;> decide +kernel

theorem witness_Call :
    Issues stack7 1 stack7b ∧ 2097150 < 2 ^ 21 ∧ 2097150 % 128 ≠ 127 ∧ stack7b.depth 1 < 8 := by
  unfold Issues; (repeat' apply And.intro) <;> decide +kernel

theorem witness_Ret :
    Issues stack7 1 stack7b ∧ stack7b.depth 1 ≠ 0 ∧
      stack7b.fget F.DSP_STACK_RET (1 * 8 + (stack7b.depth 1 - 1)) % 128 ≠ 127 := by
  unfold Issues; (repeat' apply And.intro) <;> decide +kernel

theorem witness_Jr :
    Issues desk1 1 desk1b ∧ (desk1b.g 1 1 + 4294967295) % 2 ^ 21 % 128 ≠ 127 := by
  unfold Issues; (repeat' apply And.intro) <;> decide +kernel

theorem witness_Nop :
    Issues stack7 1 stack7b := by
  unfold Issues; (repeat' apply And.intro) <;> decide +kernel

theorem witness_Halt :
    Issues desk1 1 desk1b := by
  unfold Issues; (repeat' apply And.intro) <;> decide +kernel

theorem witness_BranchFaults :
    (Issues desk1 1 desk1b ∧ (desk1b.desk 1).wait = Wait.none ∧ 9 ≤ 9 ∧ 7 ≤ 9 ∧ 0 < 1 ∧ 1 < 32 ∧ 127 % 128 = 127 ∧
      desk1b.depth 1 = 0) ∧
    (Issues desk1 1 desk1b ∧ (desk1b.desk 1).wait = Wait.none ∧ (desk1b.g 1 0 + 127) % 2 ^ 21 % 128 = 127) ∧
    (Issues stack8 1 stack8b ∧ (stack8b.desk 1).wait = Wait.none ∧ 2097150 < 2 ^ 21 ∧ 2097150 % 128 ≠ 127 ∧
      stack8b.depth 1 = 8 ∧ stack8b.depth 1 ≠ 0 ∧
      stack8b.fget F.DSP_STACK_RET (1 * 8 + (stack8b.depth 1 - 1)) % 128 = 127) := by
  unfold Issues; (repeat' apply And.intro) <;> decide +kernel

theorem witness_Ld :
    Issues desk1 1 desk1b ∧ dmemAt desk1b 1 1 0 % 4 = 0 ∧ dmemAt desk1b 1 1 0 < 16384 := by
  unfold Issues; (repeat' apply And.intro) <;> decide +kernel

theorem witness_St :
    Issues desk1 1 desk1b ∧ dmemAt desk1b 1 1 0 % 4 = 0 ∧ dmemAt desk1b 1 1 0 < 16384 := by
  unfold Issues; (repeat' apply And.intro) <;> decide +kernel

theorem witness_Ldt :
    Issues desk1 1 desk1b ∧ 3 < 4 ∧ dmemAt desk1b 1 1 4294967292 % 4 = 0 ∧
      dmemAt desk1b 1 1 4294967292 + 4 < 16384 := by
  unfold Issues; (repeat' apply And.intro) <;> decide +kernel

theorem witness_Stt :
    Issues desk1 1 desk1b ∧ 3 < 4 ∧ dmemAt desk1b 1 1 4294967292 % 4 = 0 ∧
      dmemAt desk1b 1 1 4294967292 + 4 < 16384 := by
  unfold Issues; (repeat' apply And.intro) <;> decide +kernel

theorem witness_AccessFaults :
    Issues desk1 1 desk1b ∧ (desk1b.desk 1).wait = Wait.none ∧ 3 < 4 ∧
      (dmemAt desk1b 1 1 4 % 4 ≠ 0 ∨ 16384 ≤ dmemAt desk1b 1 1 4) ∧
      (dmemAt desk1b 1 1 4 % 4 ≠ 0 ∨ 16384 ≤ dmemAt desk1b 1 1 4 + 4) := by
  unfold Issues; (repeat' apply And.intro) <;> decide +kernel

/-! ### Clopor: waits, units, the Station, semaphores, paging, the cycle -/

/-- Desk 1 waits, for a tick that is reached, for room in a table, for a value, for a semaphore. -/
def waiting (w : Machine.Wait) : State := (desk1.setDeskState 1 2).setDesk 1 { wait := w }
/-- g2 holds a word, of which g5 is another; t2 is 96 tk ahead; a Section list at its last place names both Sections. -/
def acting (v : Nat) : State := ((desk1.setG 1 2 v).setT 1 2 1096).dmemWrite 8184 3
def actingb (v : Nat) : State := (acting v).cycleBegin.cycleTaken.fetched 1
/-- The same with the load-hint port disabled. -/
def lhOff : State := (acting 0xFFFF0001).fset F.GOV_CTRL_LH_EN 0 0
def lhOffb : State := lhOff.cycleBegin.cycleTaken.fetched 1
/-- 64 actions of the Desk are pending. -/
def fullActs : State :=
  { desk1 with dsp := { desk1.dsp with
      acts := (List.range 64).map fun i => { desk := 1, seq := i, t := 2000, tick := 2000, slot := some (1900 + i), op := .woff } } }
def fullActsb : State := fullActs.cycleBegin.cycleTaken.fetched 1
/-- Semaphore 15 is Desk 1's, semaphore 3 Desk 2's. -/
def sems : State := (desk1.semTake 1 15).semTake 2 3
def semsb : State := sems.cycleBegin.cycleTaken.fetched 1
/-- Desk 2 and Desk 3 wait for semaphore 15, which Desk 1 owns. -/
def semsWaited : State :=
  (((sems.setDeskState 2 2).setDesk 2 { wait := .sem 15 }).setDeskState 3 2).setDesk 3 { wait := .sem 15 }
def semsWaitedb : State := semsWaited.cycleBegin.cycleTaken.fetched 1
/-- It has been released at count 998. -/
def semsPassing : State := { semsWaited with dsp := { semsWaited.dsp with passes := [(15, 998)] } }
/-- An image of ten pages is named, paging is on, frame 0 is the first eligible one. -/
def paged : State := ((desk1.fset F.DSP_IMG_SIZE_PAGES 0 10).fset F.DSP_CTRL_PAGE_EN 0 1)
def pagedb : State := paged.cycleBegin.cycleTaken.fetched 1
/-- The same with paging off. -/
def pagingOff : State := paged.fset F.DSP_CTRL_PAGE_EN 0 0
def pagingOffb : State := pagingOff.cycleBegin.cycleTaken.fetched 1
/-- Frame 2 holds page 9. -/
def pageHeld : State := (paged.fset F.DSP_FRAME_PAGE 2 9).fset F.DSP_FRAME_VALID 2 1
def pageHeldb : State := pageHeld.cycleBegin.cycleTaken.fetched 1
/-- Page 9 is being filled into frame 1. -/
def pageFilling : State := { paged with dsp := { paged.dsp with fills := [{ frame := 1, page := 9 }] } }
def pageFillingb : State := pageFilling.cycleBegin.cycleTaken.fetched 1
/-- The word at Desk 1's PC, in tile 0, which is valid. -/
def program (hi lo : Nat) : State :=
  ((paged.wrWord 0x10000 (BitVec.ofNat 32 lo)).wrWord 0x10004 (BitVec.ofNat 32 hi)).fset F.DSP_TILE_OK_VALID 0 1
/-- Desk 1 at a PC of a page. -/
def outside : State := desk1.setPc 1 0x1000
/-- Desk 1 at the last word of a resident page, of an invalid tile; at a page of the image that no frame holds. -/
def fetching : State := (paged.setPc 1 0xFFE).fset F.DSP_TILE_OK_VALID 0 1
def outsidePaged : State := paged.setPc 1 0x13FE
/-- Desk 1's HALT has issued. -/
def halting1 : State := desk1.setDesk 1 { halting := true, readyAt := 1000 }
/-- Desk 0 at a PC outside the resident area. -/
def desk0Outside : State := (((live 1000).fset F.DSP_STATUS_READY 0 1).setDeskState 0 1).setPc 0 0x1000

theorem witness_Wait :
    (Issues desk1 1 desk1b ∧ (tw desk1b 1 3 + BitVec.signExtend 64 1002#32).toNat ≤ desk1b.count + 2) ∧
    (Issues desk1 1 desk1b ∧ ¬(tw desk1b 1 3 + BitVec.signExtend 64 1003#32).toNat ≤ desk1b.count + 2) := by
  unfold Issues; (repeat' apply And.intro) <;> decide +kernel

theorem witness_WaitEnd :
    let s : State := waiting (Wait.tick 1000);
      s.por = false ∧ s.cycleOpen = true ∧ 1 < 4 ∧ s.deskState 1 = 2 ∧ (s.desk 1).wait = Wait.tick 1000 ∧
      1000 ≤ s.count ∧ (s.desk 1).readyAt ≤ s.stn.elapsed ∧ s.on F.DSP_DESK_CTRL_STOP 1 = false ∧
      (s.desk 1).halting = false ∧ (s.desk 1).stepping = false := by
  dsimp only; (repeat' apply And.intro) <;> decide +kernel

theorem witness_ActionEntryFree :
    (waiting Wait.entry).por = false ∧ (waiting Wait.entry).cycleOpen = true ∧ 1 < 4 ∧
      (waiting Wait.entry).deskState 1 = 2 ∧ ((waiting Wait.entry).desk 1).wait = Wait.entry ∧
      (waiting Wait.entry).pendingOf 1 < 64 ∧
      ((waiting Wait.entry).desk 1).readyAt ≤ (waiting Wait.entry).stn.elapsed ∧
      (waiting Wait.entry).on F.DSP_DESK_CTRL_STOP 1 = false ∧ ((waiting Wait.entry).desk 1).halting = false ∧
      ((waiting Wait.entry).desk 1).stepping = false := by
  (repeat' apply And.intro) <;> decide +kernel

theorem witness_WhistleEntryFree :
    (waiting Wait.whistle).por = false ∧ (waiting Wait.whistle).cycleOpen = true ∧ 1 < 4 ∧
      (waiting Wait.whistle).deskState 1 = 2 ∧ ((waiting Wait.whistle).desk 1).wait = Wait.whistle ∧
      (waiting Wait.whistle).gov.whistles.length < 32 ∧
      ((waiting Wait.whistle).desk 1).readyAt ≤ (waiting Wait.whistle).stn.elapsed ∧
      (waiting Wait.whistle).on F.DSP_DESK_CTRL_STOP 1 = false ∧ ((waiting Wait.whistle).desk 1).halting = false ∧
      ((waiting Wait.whistle).desk 1).stepping = false := by
  (repeat' apply And.intro) <;> decide +kernel

theorem witness_Rd :
    (Issues desk1 1 desk1b ∧ (desk1b.g 1 0 + 4) % 2 ^ 20 % 4 = 0 ∧ mapped ((desk1b.g 1 0 + 4) % 2 ^ 20) = true ∧
      isStation ((desk1b.g 1 0 + 4) % 2 ^ 20) = true) ∧
    (Issues desk1 1 desk1b ∧ (desk1b.g 1 0 + 8196) % 2 ^ 20 % 4 = 0 ∧
      mapped ((desk1b.g 1 0 + 8196) % 2 ^ 20) = true ∧ ¬isStation ((desk1b.g 1 0 + 8196) % 2 ^ 20) = true) := by
  unfold Issues; (repeat' apply And.intro) <;> decide +kernel

theorem witness_RdFaults :
    (Issues desk1 1 desk1b ∧ (desk1b.desk 1).wait = Wait.none ∧ (desk1b.g 1 0 + 5) % 2 ^ 20 % 4 ≠ 0) ∧
    (Issues desk1 1 desk1b ∧ (desk1b.desk 1).wait = Wait.none ∧ (desk1b.g 1 0 + 1048572) % 2 ^ 20 % 4 = 0 ∧
      mapped ((desk1b.g 1 0 + 1048572) % 2 ^ 20) = false) := by
  unfold Issues; (repeat' apply And.intro) <;> decide +kernel

theorem witness_RdReturn :
    let s : State := waiting (Wait.read 8196 31 952);
      s.por = false ∧ s.deskState 1 = 2 ∧ (s.desk 1).wait = Wait.read 8196 31 952 ∧ s.stn.elapsed ≤ 952 + 48 := by
  dsimp only; (repeat' apply And.intro) <;> decide +kernel

theorem witness_SecAction :
    (let f : SForm := { stamp := true, ts := 2, offs := 65535, scope := 3, index := 1023, addr := 4 : SForm };
      Issues (acting 7) 1 (actingb 7) ∧ (actingb 7).pendingOf 1 < 64 ∧ NamesSecs (actingb 7) f [0, 1] ∧
      Names f false 4 [0, 3]) ∧
    (let f : SForm := { scope := 3, index := 1023, addr := 32 : SForm };
      Issues (acting 7) 1 (actingb 7) ∧ (actingb 7).pendingOf 1 < 64 ∧ NamesSecs (actingb 7) f [0, 1] ∧
      Names f false 32 [0, 3]) ∧
    (let f : SForm := { scope := 3, index := 1023, addr := 12 : SForm };
      Issues (acting 7) 1 (actingb 7) ∧ (actingb 7).pendingOf 1 < 64 ∧ NamesSecs (actingb 7) f [0, 1] ∧
      Names f false 12 [0, 3]) ∧
    (let f : SForm := { scope := 3, index := 1023, addr := 56 : SForm };
      Issues (acting 7) 1 (actingb 7) ∧ (actingb 7).pendingOf 1 < 64 ∧ NamesSecs (actingb 7) f [0, 1] ∧
      Names f false 56 [0, 3]) := by
  unfold Issues NamesSecs Names; dsimp only; (repeat' apply And.intro) <;> decide +kernel

theorem witness_SbAction :
    (let f : SForm := { scope := 1, index := 1, addr := 68 : SForm };
      Issues (acting 3877568513) 1 (actingb 3877568513) ∧ (actingb 3877568513).pendingOf 1 < 64 ∧
      NamesSecs (actingb 3877568513) f [1] ∧ Names f true 68 [0, 1, 2] ∧
      (actingb 3877568513).g 1 2 / 2 ^ 16 &&& 6368 = 0) ∧
    (let f : SForm := { scope := 2, addr := 12 : SForm };
      Issues (acting 7) 1 (actingb 7) ∧ (actingb 7).pendingOf 1 < 64 ∧ NamesSecs (actingb 7) f [] ∧
      Names f true 12 [0, 1, 2]) ∧
    (let f : SForm := { scope := 1, index := 1, addr := 12 : SForm };
      Issues (acting 7) 1 (actingb 7) ∧ (actingb 7).pendingOf 1 < 64 ∧ NamesSecs (actingb 7) f [1] ∧
      Names f true 12 [1, 2]) := by
  unfold Issues NamesSecs Names; dsimp only; (repeat' apply And.intro) <;> decide +kernel

theorem witness_Wr :
    let f : SForm := { scope := 1, index := 1, addr := 252 : SForm };
      Issues (acting 7) 1 (actingb 7) ∧ (actingb 7).pendingOf 1 < 64 ∧ NamesSecs (actingb 7) f [1] ∧
      sformLegal f = true ∧ f.scope ≠ 0 := by
  unfold Issues NamesSecs; dsimp only; (repeat' apply And.intro) <;> decide +kernel

theorem witness_UnitFaults :
    (Issues desk1 1 desk1b ∧ (desk1b.desk 1).wait = Wait.none ∧ sformLegal { ts := 1 : SForm } = false ∧ 2 ≠ 0) ∧
    (let f : SForm := { scope := 1, index := 2 : SForm };
      Issues desk1 1 desk1b ∧ (desk1b.desk 1).wait = Wait.none ∧ sformLegal f = true ∧ f.scope = 1 ∧
      desk1b.build.nSections ≤ f.index ∧ (f.scope = 1 ∨ f.scope = 2)) ∧
    (let f : SForm := { scope := 3, index := 1023, addr := 4 : SForm };
      Issues desk1 1 desk1b ∧ (desk1b.desk 1).wait = Wait.none ∧ sformLegal f = true ∧ f.scope = 3) := by
  unfold Issues; dsimp only; (repeat' apply And.intro) <;> decide +kernel

theorem witness_FullTable :
    let f : SForm := { scope := 2, addr := 4 : SForm };
      Issues fullActs 1 fullActsb ∧ fullActsb.pendingOf 1 = 64 ∧ NamesSecs fullActsb f [] ∧ sformLegal f = true ∧
      f.scope ≠ 0 := by
  unfold Issues NamesSecs; dsimp only; (repeat' apply And.intro) <;> decide +kernel

theorem witness_StationAction :
    let f : SForm := { stamp := true, ts := 2, offs := 65535 : SForm };
      Issues (acting 255) 1 (actingb 255) ∧ (actingb 255).pendingOf 1 < 64 ∧ sformBare f = true ∧ f.stamp = true ∧
      (actingb 255).g 1 2 < 256 ∧ (actingb 255).g 1 2 < 2 ^ 17 := by
  unfold Issues; dsimp only; (repeat' apply And.intro) <;> decide +kernel

theorem witness_StationNow :
    Issues (acting 15) 1 (actingb 15) ∧ sformBare { : SForm } = true ∧ { : SForm }.stamp = false ∧
      (actingb 15).g 1 2 < 256 ∧ (actingb 15).g 1 2 < 2 ^ 17 ∧ 1 < 64 ∧ 1 < (actingb 15).build.nSections ∧
      (actingb 15).g 1 2 < 16 := by
  unfold Issues; (repeat' apply And.intro) <;> decide +kernel

theorem witness_Lwh :
    (let f : SForm := { stamp := true, ts := 2, offs := 65535 : SForm };
      Issues (acting 4294901761) 1 (actingb 4294901761) ∧ sformBare f = true ∧ f.stamp = true ∧
      (actingb 4294901761).g 1 2 / 256 % 256 = 0 ∧
      (actingb 4294901761).g 1 2 % 16 < (actingb 4294901761).build.nRails ∧
      (actingb 4294901761).gov.whistles.length < 32 ∧
      3200 ≤ ((((actingb 4294901761).t 1 f.ts + f.offs) % 2 ^ 64 : ℕ) : ℤ) - (↑(actingb 4294901761).count : ℤ) ∧
      (actingb 4294901761).on F.GOV_CTRL_LH_EN 0 = true ∧ (actingb 4294901761).build.optLoadhint = true) ∧
    (let f : SForm := { stamp := true : SForm };
      Issues (acting 4294901761) 1 (actingb 4294901761) ∧ sformBare f = true ∧ f.stamp = true ∧
      (actingb 4294901761).g 1 2 / 256 % 256 = 0 ∧
      (actingb 4294901761).g 1 2 % 16 < (actingb 4294901761).build.nRails ∧
      (actingb 4294901761).gov.whistles.length < 32 ∧
      ((((actingb 4294901761).t 1 f.ts + f.offs) % 2 ^ 64 : ℕ) : ℤ) - (↑(actingb 4294901761).count : ℤ) < 3200) ∧
    (let f : SForm := { stamp := true, ts := 2, offs := 65535 : SForm };
      Issues lhOff 1 lhOffb ∧ sformBare f = true ∧ f.stamp = true ∧ lhOffb.g 1 2 / 256 % 256 = 0 ∧
      lhOffb.g 1 2 % 16 < lhOffb.build.nRails ∧ lhOffb.gov.whistles.length < 32 ∧
      3200 ≤ (((lhOffb.t 1 f.ts + f.offs) % 2 ^ 64 : ℕ) : ℤ) - (↑lhOffb.count : ℤ) ∧
      ¬(lhOffb.on F.GOV_CTRL_LH_EN 0 = true ∧ lhOffb.build.optLoadhint = true)) := by
  unfold Issues; dsimp only; (repeat' apply And.intro) <;> decide +kernel

theorem witness_Post :
    Issues desk1 1 desk1b ∧ 128 ≤ 255 ∧ 255 < 256 := by
  unfold Issues; (repeat' apply And.intro) <;> decide +kernel

theorem witness_StationFaults :
    (let f : SForm := { addr := 4 : SForm };
      Issues (acting 15) 1 (actingb 15) ∧ ((actingb 15).desk 1).wait = Wait.none ∧ 2 < 2 ^ 32 ∧
      sformBare f = false ∧ 127 < 128 ∧ ((actingb 15).build.nSections ≤ 2 ∨ 16 ≤ (actingb 15).g 1 2)) ∧
    (let f : SForm := { stamp := true : SForm };
      Issues (acting 256) 1 (actingb 256) ∧ ((actingb 256).desk 1).wait = Wait.none ∧ 1 < 2 ^ 32 ∧
      sformBare f = true ∧
      (f.stamp = false ∨ (actingb 256).g 1 2 / 256 % 256 ≠ 0 ∨ (actingb 256).build.nRails ≤ (actingb 256).g 1 2 %
        16) ∧ 256 ≤ (actingb 256).g 1 2) ∧
    (Issues (acting 131072) 1 (actingb 131072) ∧ ((actingb 131072).desk 1).wait = Wait.none ∧ 1 < 2 ^ 32 ∧
      sformBare { : SForm } = true ∧ 2 ^ 17 ≤ (actingb 131072).g 1 2) := by
  unfold Issues; dsimp only; (repeat' apply And.intro) <;> decide +kernel

theorem witness_Semaphores :
    (Issues desk1 1 desk1b ∧ 15 < 16 ∧ desk1b.semHeld 15 = false) ∧
    (Issues sems 1 semsb ∧ 15 < 16 ∧ semsb.semMine 1 15 = true ∧ semsb.semWaiters 15 = []) ∧
    (Issues sems 1 semsb ∧ 3 < 16 ∧ semsb.semHeld 3 = true ∧ semsb.semMine 1 3 = false) ∧
    (Issues semsWaited 1 semsWaitedb ∧ 15 < 16 ∧ semsWaitedb.semMine 1 15 = true ∧
      semsWaitedb.semWaiters 15 ≠ []) := by
  unfold Issues; (repeat' apply And.intro) <;> decide +kernel

theorem witness_SemFaults :
    (Issues desk1 1 desk1b ∧ (desk1b.desk 1).wait = Wait.none ∧ 16 < 2 ^ 32 ∧ 16 ≤ 16) ∧
    (Issues sems 1 semsb ∧ (semsb.desk 1).wait = Wait.none ∧ 15 < 2 ^ 32 ∧ 15 < 16 ∧ semsb.semMine 1 15 = true) ∧
    (Issues sems 1 semsb ∧ (semsb.desk 1).wait = Wait.none ∧ 3 < 2 ^ 32 ∧ 3 < 16 ∧
      semsb.semMine 1 3 = false) := by
  unfold Issues; (repeat' apply And.intro) <;> decide +kernel

theorem witness_SemaphorePass :
    semsPassing.por = false ∧ semsPassing.cycleOpen = true ∧ 15 < 16 ∧ (15, 998) ∈ semsPassing.dsp.passes ∧
      998 < semsPassing.stn.elapsed ∧ semsPassing.semWaiters 15 = [2, 3] := by
  (repeat' apply And.intro) <;> decide +kernel

theorem witness_PageHints :
    (Issues paged 1 pagedb ∧ 8 ≤ (gw pagedb 1 0 + 9#32).toNat ∧ (gw pagedb 1 0 + 9#32).toNat < pagedb.imgPages ∧
      pagedb.frameOf (gw pagedb 1 0 + 9#32).toNat = none ∧ pagedb.fillOf (gw pagedb 1 0 + 9#32).toNat = none ∧
      pagedb.on F.DSP_CTRL_PAGE_EN 0 = true ∧ pagedb.dsp.imgs = [] ∧ pagedb.frameFor = some 0) ∧
    (Issues pageHeld 1 pageHeldb ∧ 8 ≤ (gw pageHeldb 1 0 + 9#32).toNat ∧
      (gw pageHeldb 1 0 + 9#32).toNat < pageHeldb.imgPages ∧
      pageHeldb.frameOf (gw pageHeldb 1 0 + 9#32).toNat = some 2) := by
  unfold Issues; (repeat' apply And.intro) <;> decide +kernel

theorem witness_IdleHints :
    (Issues desk1 1 desk1b ∧ (desk1b.desk 1).wait = Wait.none ∧
      ((gw desk1b 1 0 + 7#32).toNat < 8 ∨ desk1b.imgPages ≤ (gw desk1b 1 0 + 7#32).toNat)) ∧
    (Issues pagingOff 1 pagingOffb ∧ (pagingOffb.desk 1).wait = Wait.none ∧ 8 ≤ (gw pagingOffb 1 0 + 9#32).toNat ∧
      (gw pagingOffb 1 0 + 9#32).toNat < pagingOffb.imgPages ∧
      pagingOffb.frameOf (gw pagingOffb 1 0 + 9#32).toNat = none ∧
      pagingOffb.fillOf (gw pagingOffb 1 0 + 9#32).toNat = none ∧
      (pagingOffb.frameFor = none ∨ pagingOffb.on F.DSP_CTRL_PAGE_EN 0 = false)) ∧
    (let f : Fill := { frame := 1, page := 9 : Fill };
      Issues pageFilling 1 pageFillingb ∧ (pageFillingb.desk 1).wait = Wait.none ∧
      8 ≤ (gw pageFillingb 1 0 + 9#32).toNat ∧ (gw pageFillingb 1 0 + 9#32).toNat < pageFillingb.imgPages ∧
      pageFillingb.frameOf (gw pageFillingb 1 0 + 9#32).toNat = none ∧
      pageFillingb.fillOf (gw pageFillingb 1 0 + 9#32).toNat = some f) := by
  unfold Issues; dsimp only; (repeat' apply And.intro) <;> decide +kernel

theorem witness_DispatchCycle :
    ((program 100663296 0).por = false ∧ (program 100663296 0).cycleOpen = true ∧
      (program 100663296 0).cycleBegin.cycleTaken.issuer = some 1 ∧
      (program 100663296 0).cycleBegin.cycleTaken.pc 1 < 4096 ∧
      (program 100663296 0).cycleBegin.cycleTaken.pc 1 / 512 < (program 100663296 0).cycleBegin.cycleTaken.imgPages
        ∧
      (program 100663296 0).cycleBegin.cycleTaken.tileValid ((program 100663296 0).cycleBegin.cycleTaken.pc 1 /
        128) = true ∧
      (program 100663296 0).cycleBegin.cycleTaken.progWord (65536 + 8 * (program 100663296
        0).cycleBegin.cycleTaken.pc 1) = 6 * 2 ^ 56) ∧
    (let s : State := program 553123840 4294967295;
      s.por = false ∧ s.cycleOpen = true ∧ s.cycleBegin.cycleTaken.issuer = some 1 ∧
      s.cycleBegin.cycleTaken.pc 1 < 4096 ∧ s.cycleBegin.cycleTaken.pc 1 / 512 < s.cycleBegin.cycleTaken.imgPages ∧
      s.cycleBegin.cycleTaken.tileValid (s.cycleBegin.cycleTaken.pc 1 / 128) = true ∧ 31 < 32 ∧
      4294967295 < 2 ^ 32 ∧
      s.cycleBegin.cycleTaken.progWord (65536 + 8 * s.cycleBegin.cycleTaken.pc 1) = 32 * 2 ^ 56 + 31 * 2 ^ 51 +
        4294967295) ∧
    (let s : State := (live 1000).fset F.DSP_STATUS_READY 0 1;
      s.por = false ∧ s.cycleOpen = true ∧ s.cycleBegin.cycleTaken.issuer = none) ∧
    (halting1.por = false ∧ halting1.cycleOpen = true ∧ 1 < 4 ∧ halting1.deskState 1 = 1 ∧
      (halting1.desk 1).halting = true ∧ (halting1.desk 1).readyAt ≤ halting1.stn.elapsed) := by
  dsimp only; (repeat' apply And.intro) <;> decide +kernel

theorem witness_FetchFaults :
    (fetching.por = false ∧ fetching.cycleOpen = true ∧ { : CycleIn }.upsets = [] ∧
      fetching.cycleBegin.cycleTaken.issuer = some 1 ∧ (fetching.cycleBegin.cycleTaken.desk 1).wait = Wait.none ∧
      { : CycleIn }.parity = false ∧ fetching.cycleBegin.cycleTaken.pc 1 < 4096 ∧
      fetching.cycleBegin.cycleTaken.pc 1 / 512 < fetching.cycleBegin.cycleTaken.imgPages ∧
      ({ : CycleIn }.fetch = true ∨ fetching.cycleBegin.cycleTaken.tileValid (fetching.cycleBegin.cycleTaken.pc 1 /
        128) = false)) ∧
    (desk0Outside.por = false ∧ desk0Outside.cycleOpen = true ∧ { : CycleIn }.upsets = [] ∧
      desk0Outside.cycleBegin.cycleTaken.issuer = some 0 ∧
      (desk0Outside.cycleBegin.cycleTaken.desk 0).wait = Wait.none ∧
      4096 ≤ desk0Outside.cycleBegin.cycleTaken.pc 0) ∧
    (let inp : CycleIn := { parity := true : CycleIn };
      desk1.por = false ∧ desk1.cycleOpen = true ∧ inp.upsets = [] ∧ desk1.cycleBegin.cycleTaken.issuer = some 1 ∧
      (desk1.cycleBegin.cycleTaken.desk 1).wait = Wait.none ∧ inp.parity = true ∧ 1 ≠ 0) ∧
    (outsidePaged.por = false ∧ outsidePaged.cycleOpen = true ∧ { : CycleIn }.upsets = [] ∧
      outsidePaged.cycleBegin.cycleTaken.issuer = some 1 ∧
      (outsidePaged.cycleBegin.cycleTaken.desk 1).wait = Wait.none ∧ { : CycleIn }.parity = false ∧ 1 ≠ 0 ∧
      4096 ≤ outsidePaged.cycleBegin.cycleTaken.pc 1 ∧
      outsidePaged.cycleBegin.cycleTaken.pc 1 / 512 < outsidePaged.cycleBegin.cycleTaken.imgPages ∧
      outsidePaged.cycleBegin.cycleTaken.frameOf (outsidePaged.cycleBegin.cycleTaken.pc 1 / 512) = none) ∧
    (let s : State := outsidePaged.setPc 1 5120;
      s.por = false ∧ s.cycleOpen = true ∧ { : CycleIn }.upsets = [] ∧ s.cycleBegin.cycleTaken.issuer = some 1 ∧
      (s.cycleBegin.cycleTaken.desk 1).wait = Wait.none ∧ { : CycleIn }.parity = false ∧
      (1 ≠ 0 ∨ s.cycleBegin.cycleTaken.pc 1 < 4096) ∧
      s.cycleBegin.cycleTaken.imgPages ≤ s.cycleBegin.cycleTaken.pc 1 / 512) := by
  dsimp only; (repeat' apply And.intro) <;> decide +kernel

/-! ### The Station Clock, the Time Spine, alignment across dies -/

/-- Before lock, in an attempt that has classified its reference or not. -/
def attempting (classified : Bool) : State :=
  { State.resetOf small with por := false, stn := { attempt := true, classified } }
/-- The attempt with REF_SEL 1. -/
def attempting1 : State := (attempting false).fset F.STN_CLK_CFG_REF_SEL 0 1
/-- STN_CLK_STATUS.STATE at a count that is a multiple of 64: 1 LOCKED, 2 HOLDOVER, 3 REACQUIRE; REF_SEL 1. -/
def clock (state : Nat) : State := ((live 64000).fset F.STN_CLK_STATUS_STATE 0 state).fset F.STN_CLK_CFG_REF_SEL 0 1
/-- Holdover with REF_SEL 0, and forced with the reference present. -/
def holdAuto : State := (clock 2).fset F.STN_CLK_CFG_REF_SEL 0 0
def holdForced : State := ((clock 2).fset F.STN_CLK_CFG_HOLD_FORCE 0 1).fset F.STN_CLK_STATUS_REF_PRESENT 0 1
/-- Reacquisition after 2³¹ − 1 tk. -/
def heldLong : State := { clock 3 with stn := { lockedStn 64000 with holdTk := 2147483647 } }
/-- Forced holdover with the reference qualified. -/
def holdQualified : State := { holdForced with stn := { holdForced.stn with qualified := true } }
/-- A capture is pending. -/
def capturing : State := { live 1000 with stn := { lockedStn 1000 with tcapPend := true } }
/-- The die slews. -/
def slewing (dir : Int) : State :=
  { (live 1000).fset F.STN_SYNC_STATUS_SLEWING 0 1 with stn := { lockedStn 1000 with slewDir := dir } }
/-- Calibrated at PHASE SECTION, with the turn at the Station tap and 1,024 tk since the last measurement. -/
def spineUp : State :=
  { (((live 64000).fset F.CAL_STATUS_PHASE 0 3).fset F.STN_SPINE_CTRL_TRACK_EN 0 1) with
      stn := { lockedStn 64000 with trackIdx := 4, trackAt := 62976 } }
def spineDone : State := spineUp.fset F.STN_SPINE_STATUS_CAL_DONE 0 1
def spineBad : State := spineDone.setRgn 3 { mismatch := true }
/-- The turn at region 2, whose override is on, as is region 3's, with or without the tap left of a RECAL round. -/
def spineOver (recal left : Nat) : State :=
  let s := ((spineDone.fset F.SB_SPINE_OVR_EN 2 1).fset F.SB_SPINE_OVR_EN 3 1).fset F.STN_SPINE_CTRL_RECAL 0 recal
  { s with stn := { lockedStn 64000 with trackIdx := 2, trackAt := 62976, recalLeft := left } }
/-- A leaf measured well, and one whose fourth attempt fails as the others. -/
def leafGood (r : Nat) : LeafMeas := { region := r, attempts := [(0, 9), (0, 4), (0, -4), (3, 0)], fine := 511, residual := 7 }
def leafBad (r : Nat) : LeafMeas := { region := r, attempts := [(0, 4), (0, -4), (4, 0), (4, 0), (0, 0)], fine := 0, residual := 0 }
def leaves (bad : List Nat) : List LeafMeas :=
  (List.range 5).map fun r => if bad.contains r then leafBad r else leafGood r
/-- Section 1 in a state of SEC_STATUS, at a word, its regions clocked. -/
def sec1 (state fw : Nat) : State :=
  ((((((live 64000).fset F.SEC_STATUS_STATE 1 state).fset F.SEC_FW_STATUS_FW_CUR 1 fw).fset F.SB_CLK_STATUS_STATE 2 1).fset
    F.SB_CLK_STATUS_STATE 3 1).fset F.GOV_CTRL_EN 0 0).setSec 1
      { released := true, everReleased := true, readSeen := true, t0 := 40000, acc := 65536 * 9 }
/-- A leader, a follower, a die that echoes, at a count that is a multiple of 65,536. -/
def die (role : Nat) : State := (live 655360).fset F.STN_SYNC_CTRL_ROLE 0 role
/-- A follower that has received a frame of 56 cells, its marker detected at a count in half ticks. -/
def framed (s : State) (cells cdet : Nat) : State :=
  { s with stn := { s.stn with syncRx := { s.stn.syncRx with frame := some (cells, cdet) } } }
/-- A frame of count 655,360 with its CRC, and with another; the half-tick count at which it shows no error. -/
def cellsGood : Nat := 10 * 256 + crc8 10
def cellsBad : Nat := 10 * 256 + (crc8 10 + 1) % 256
def onTime : Nat := 1310720 + 4 + (die 2).fget F.STN_SYNC_DLY_DELAY 0
def noSlew : State := (die 2).fset F.STN_SYNC_CTRL_AUTO_SLEW 0 0
/-- A follower aligned once, with code 0x05 posted and 0x06 not. -/
def was2 : State :=
  { (die 2).fset F.STN_SYNC_STATUS_HARD_DONE 0 1 with stn := { lockedStn 655360 with above2 := true } }
/-- A follower with a hard alignment pending, with a release hold. -/
def following : State :=
  { die 2 with stn := { lockedStn 655360 with hardPend := some (-6), relHold := true, spineEnd := some 393216 } }
/-- The same with the log ready. -/
def followingLogged : State :=
  { following.fset F.EVT_CTRL_EN 0 1 with log := { up := true, lastHi := some 0 } }
/-- A leader in a frame that measures: its marker has not returned, and has, after 2,048 tk. -/
def measuring : State :=
  { (die 1).fset F.STN_SYNC_CTRL_MEASURE 0 1 with
      stn := { lockedStn 657408 with frameN := some 655360, measN := some 655360, syncOut := true } }
def measured : State :=
  { measuring with stn := { measuring.stn with syncRx := { rise := some 1314816, marker := true } } }
/-- A leader at cell 55 of its frame; a die whose echo is due. -/
def sendingFrame : State :=
  { die 1 with stn := { lockedStn 657230 with frameN := some 655360, syncOut := true } }
def echoing : State :=
  { die 3 with stn := { lockedStn 655360 with syncRx := { pipe := [false, false, false, false, false, false, true] } } }

theorem witness_Detection :
    (attempting false).por = false ∧
      ((attempting false).fget F.STN_CLK_CFG_REF_SEL 0 = 0 ∨ (attempting false).fget F.STN_CLK_CFG_REF_SEL 0 = 3) ∧
      (attempting false).stn.classified = false ∧ ((attempting false).stn.locked = false ∧
      (attempting false).stn.attempt = true ∨ (attempting false).stn.locked = true ∧
      (attempting false).clkState = 2) := by
  (repeat' apply And.intro) <;> decide +kernel

theorem witness_Lock :
    (attempting true).por = false ∧ (attempting true).stn.locked = false ∧ (attempting true).stn.attempt = true ∧
      ((attempting true).fget F.STN_CLK_CFG_REF_SEL 0 % 3 ≠ 0 ∨ (attempting true).stn.classified = true) ∧
      (attempting true).on F.STN_CLK_STATUS_LOCK_FAIL 0 = false ∧
      (attempting true).on F.STN_CLK_CFG_HOLD_FORCE 0 = false ∧ (attempting true).shadow = [] ∧
      (attempting true).jnl.queue = [] := by
  (repeat' apply And.intro) <;> decide +kernel

theorem witness_LockFail :
    (attempting false).por = false ∧ (attempting false).stn.locked = false ∧
      (attempting false).stn.attempt = true := by
  (repeat' apply And.intro) <;> decide +kernel

theorem witness_Loss :
    ((clock 1).por = false ∧ (clock 1).stn.locked = true ∧ ((clock 1).clkState = 1 ∨ (clock 1).clkState = 3)) ∧
    ((clock 2).por = false ∧ (clock 2).stn.locked = true ∧ (clock 2).clkState = 2) := by
  (repeat' apply And.intro) <;> decide +kernel

theorem witness_Qualified :
    ((clock 2).por = false ∧ (clock 2).clkState = 2 ∧
      ((clock 2).fget F.STN_CLK_CFG_REF_SEL 0 % 3 ≠ 0 ∨ (clock 2).stn.classified = true) ∧
      (clock 2).on F.STN_CLK_CFG_HOLD_FORCE 0 = false) ∧
    (holdForced.por = false ∧ holdForced.clkState = 2 ∧
      (holdForced.fget F.STN_CLK_CFG_REF_SEL 0 % 3 ≠ 0 ∨ holdForced.stn.classified = true) ∧
      holdForced.on F.STN_CLK_CFG_HOLD_FORCE 0 = true) := by
  (repeat' apply And.intro) <;> decide +kernel

theorem witness_Restored :
    heldLong.por = false ∧ heldLong.clkState = 3 ∧ heldLong.fget F.STN_CLK_CFG_REF_SEL 0 = 1 ∧
      heldLong.stn.holdTk < 2 ^ 31 ∧ 16 * 134217727 < 2 ^ 31 := by
  (repeat' apply And.intro) <;> decide +kernel

theorem witness_RefSel :
    (HostMay (clock 1) Reg.STN_CLK_CFG 0 ∧ (clock 1).build.nSections ≤ 64 ∧ 1 < 4 ∧
      1 = (clock 1).fget F.STN_CLK_CFG_REF_SEL 0) ∧
    (HostMay (clock 1) Reg.STN_CLK_CFG 0 ∧ (clock 1).build.nSections ≤ 64 ∧ 3 < 4 ∧
      3 ≠ (clock 1).fget F.STN_CLK_CFG_REF_SEL 0 ∧ (clock 1).stn.locked = true ∧
      ((clock 1).clkState = 1 ∨ (clock 1).clkState = 3)) ∧
    (HostMay (clock 2) Reg.STN_CLK_CFG 0 ∧ (clock 2).build.nSections ≤ 64 ∧ 3 < 4 ∧
      3 ≠ (clock 2).fget F.STN_CLK_CFG_REF_SEL 0 ∧ (clock 2).stn.locked = true ∧ (clock 2).clkState = 2) ∧
    (HostMay (attempting true) Reg.STN_CLK_CFG 0 ∧ (attempting true).build.nSections ≤ 64 ∧ 3 < 4 ∧
      3 ≠ (attempting true).fget F.STN_CLK_CFG_REF_SEL 0 ∧ (attempting true).stn.locked = false ∧
      (attempting true).stn.attempt = true) := by
  unfold HostMay; (repeat' apply And.intro) <;> decide +kernel

theorem witness_HoldForce :
    (HostMay (clock 3) Reg.STN_CLK_CFG 0 ∧ (clock 3).on F.STN_CLK_CFG_HOLD_FORCE 0 = false ∧
      (clock 3).stn.locked = true ∧ ((clock 3).clkState = 1 ∨ (clock 3).clkState = 3)) ∧
    (HostMay holdQualified Reg.STN_CLK_CFG 0 ∧ holdQualified.on F.STN_CLK_CFG_HOLD_FORCE 0 = true ∧
      holdQualified.clkState = 2 ∧ holdQualified.stn.qualified = true) ∧
    (HostMay holdForced Reg.STN_CLK_CFG 0 ∧ holdForced.on F.STN_CLK_CFG_HOLD_FORCE 0 = true ∧
      (holdForced.clkState ≠ 2 ∨ holdForced.stn.qualified = false)) ∧
    (HostMay (clock 1) Reg.STN_CLK_CFG 0 ∧ false = (clock 1).on F.STN_CLK_CFG_HOLD_FORCE 0) := by
  unfold HostMay; (repeat' apply And.intro) <;> decide +kernel

theorem witness_Copies :
    (let s : State := live 18446744073709551615;
      s.por = false ∧ s.stn.locked = true) ∧
    ((attempting false).por = false ∧ (attempting false).stn.locked = false) := by
  dsimp only; (repeat' apply And.intro) <;> decide +kernel

theorem witness_Tick :
    (let u : TickIn := { a := 1, b := 2, c := 4, syncIn := true : TickIn };
      (live 1000).por = false ∧ (live 1000).stn.locked = true ∧ (live 1000).fget F.CAL_STATUS_PHASE 0 ≠ 2 ∧
      (live 1000).dsp.held = [] ∧ u.fw = [] ∧ (live 1000).stn.cntA ^^^ u.a ≠ (live 1000).stn.cntB ^^^ u.b ∧
      (live 1000).stn.cntA ^^^ u.a ≠ (live 1000).stn.cntC ^^^ u.c ∧
      (live 1000).stn.cntB ^^^ u.b ≠ (live 1000).stn.cntC ^^^ u.c ∧ (live 1000).build.optSync = true) ∧
    (let u : TickIn := { smbClk := false : TickIn };
      (slewing (-1)).por = false ∧ (slewing (-1)).stn.locked = true ∧
      (slewing (-1)).fget F.CAL_STATUS_PHASE 0 ≠ 2 ∧ (slewing (-1)).dsp.held = [] ∧ u.fw = [] ∧
      ¬((slewing (-1)).stn.cntA ^^^ u.a ≠ (slewing (-1)).stn.cntB ^^^ u.b ∧
      (slewing (-1)).stn.cntA ^^^ u.a ≠ (slewing (-1)).stn.cntC ^^^ u.c ∧
      (slewing (-1)).stn.cntB ^^^ u.b ≠ (slewing (-1)).stn.cntC ^^^ u.c)) := by
  dsimp only; (repeat' apply And.intro) <;> decide +kernel

theorem witness_FwCopies :
    (let u : TickIn := { fw := [{ sec := 1, item := FwItem.secFw, a := 1, b := 2, c := 4 : FwUpset }] : TickIn };
      (sec1 3 49152).por = false ∧ (sec1 3 49152).stn.locked = true ∧
      (sec1 3 49152).fget F.CAL_STATUS_PHASE 0 ≠ 2 ∧ (sec1 3 49152).dsp.held = [] ∧
      1 < (sec1 3 49152).build.nSections ∧ (sec1 3 49152).build.nSections ≤ 64 ∧
      u.fw = [{ sec := 1, item := FwItem.secFw, a := 1, b := 2, c := 4 : FwUpset }] ∧
      (sec1 3 49152).fget F.SEC_FW_FW 1 ^^^ 1 % 2 ^ 18 ≠ (sec1 3 49152).fget F.SEC_FW_FW 1 ^^^ 2 % 2 ^ 18 ∧
      (sec1 3 49152).fget F.SEC_FW_FW 1 ^^^ 1 % 2 ^ 18 ≠ (sec1 3 49152).fget F.SEC_FW_FW 1 ^^^ 4 % 2 ^ 18 ∧
      (sec1 3 49152).fget F.SEC_FW_FW 1 ^^^ 2 % 2 ^ 18 ≠ (sec1 3 49152).fget F.SEC_FW_FW 1 ^^^ 4 % 2 ^ 18) ∧
    (let u : TickIn :=
        { fw := [{ sec := 1, item := FwItem.secFw, a := 262143, b := 0, c := 0 : FwUpset }] : TickIn };
      (sec1 3 49152).por = false ∧ (sec1 3 49152).stn.locked = true ∧
      (sec1 3 49152).fget F.CAL_STATUS_PHASE 0 ≠ 2 ∧ (sec1 3 49152).dsp.held = [] ∧
      1 < (sec1 3 49152).build.nSections ∧ (sec1 3 49152).build.nSections ≤ 64 ∧
      u.fw = [{ sec := 1, item := FwItem.secFw, a := 262143, b := 0, c := 0 : FwUpset }] ∧
      ¬((sec1 3 49152).fget F.SEC_FW_FW 1 ^^^ 262143 % 2 ^ 18 ≠ (sec1 3 49152).fget F.SEC_FW_FW 1 ^^^ 0 % 2 ^ 18 ∧
      (sec1 3 49152).fget F.SEC_FW_FW 1 ^^^ 262143 % 2 ^ 18 ≠ (sec1 3 49152).fget F.SEC_FW_FW 1 ^^^ 0 % 2 ^ 18 ∧
      (sec1 3 49152).fget F.SEC_FW_FW 1 ^^^ 0 % 2 ^ 18 ≠ (sec1 3 49152).fget F.SEC_FW_FW 1 ^^^ 0 % 2 ^ 18)) := by
  dsimp only; (repeat' apply And.intro) <;> decide +kernel

theorem witness_Capture :
    HostMay capturing Reg.STN_TCAP_CTRL 0 := by
  unfold HostMay; (repeat' apply And.intro) <;> decide +kernel

theorem witness_Latch :
    capturing.por = false ∧ capturing.stn.locked = true ∧ capturing.stn.tcapPend = true := by
  (repeat' apply And.intro) <;> decide +kernel

theorem witness_SpineCal :
    (spineUp.por = false ∧ spineUp.stn.locked = true ∧ spineUp.on F.STN_SPINE_STATUS_CAL_DONE 0 = false ∧
      spineUp.count % 64 = 0 ∧ spineUp.build.nRegions ≤ 1024 ∧ 2 ≤ spineUp.fget F.CAL_STATUS_PHASE 0 ∧
      List.map (fun x ↦ x.region) (leaves []) = List.range (spineUp.build.nRegions + 1) ∧
      (∀ m ∈ leaves [], m.fine < 512 ∧ m.attempts ≠ []) ∧ (∀ m ∈ leaves [], LeafOk m)) ∧
    (spineUp.por = false ∧ spineUp.stn.locked = true ∧ spineUp.on F.STN_SPINE_STATUS_CAL_DONE 0 = false ∧
      spineUp.count % 64 = 0 ∧ spineUp.build.nRegions ≤ 1024 ∧ 2 ≤ spineUp.fget F.CAL_STATUS_PHASE 0 ∧
      List.map (fun x ↦ x.region) (leaves [3]) = List.range (spineUp.build.nRegions + 1) ∧
      (∀ m ∈ leaves [3], m.fine < 512 ∧ m.attempts ≠ []) ∧ (∃ m ∈ leaves [3], ¬LeafOk m)) := by
  unfold LeafOk; (repeat' apply And.intro) <;> decide +kernel

theorem witness_SpineTrack :
    (spineDone.por = false ∧ spineDone.on F.STN_SPINE_STATUS_CAL_DONE 0 = true ∧
      (spineDone.on F.STN_SPINE_CTRL_RECAL 0 = true ∨ spineDone.on F.STN_SPINE_CTRL_TRACK_EN 0 = true) ∧
      (spineDone.stn.trackAt + if spineDone.on F.STN_SPINE_CTRL_RECAL 0 = true then 96 * ([] : List (ℤ × ℤ)).length
        else 1024) ≤ spineDone.stn.elapsed ∧ 0 < spineDone.build.nRegions + 1 ∧
      (∀ i < 0, (fun i ↦ i % (spineDone.build.nRegions + 1) < spineDone.build.nRegions ∧
      spineDone.on F.SB_SPINE_OVR_EN (i % (spineDone.build.nRegions + 1)) = true) (spineDone.stn.trackIdx + i)) ∧
      ¬(fun i ↦ i % (spineDone.build.nRegions + 1) < spineDone.build.nRegions ∧
      spineDone.on F.SB_SPINE_OVR_EN (i % (spineDone.build.nRegions + 1)) = true) (spineDone.stn.trackIdx + 0) ∧
      (spineDone.on F.STN_SPINE_CTRL_RECAL 0 = false ∨ ∃ p ∈ List.take 4 ([] : List (ℤ × ℤ)), (p.1 - p.2).natAbs ≤
        3) ∧ (spineDone.stn.trackIdx + 0) % (spineDone.build.nRegions + 1) = spineDone.build.nRegions ∧
      (¬(spineDone.on F.STN_SPINE_CTRL_RECAL 0 = false ∨ ∃ p ∈ List.take 4 ([] : List (ℤ × ℤ)), (p.1 - p.2).natAbs
        ≤ 3) ∨ (spineDone.stn.trackIdx + 0) % (spineDone.build.nRegions + 1) = spineDone.build.nRegions) ∧
      (∀ i < spineDone.stn.recalLeft - (0 + 1), (fun i ↦ i % (spineDone.build.nRegions + 1) <
        spineDone.build.nRegions ∧
      spineDone.on F.SB_SPINE_OVR_EN (i % (spineDone.build.nRegions + 1)) = true) ((spineDone.stn.trackIdx + 0) %
        (spineDone.build.nRegions + 1) + 1 + i))) ∧
    ((spineOver 1 4).por = false ∧ (spineOver 1 4).on F.STN_SPINE_STATUS_CAL_DONE 0 = true ∧
      ((spineOver 1 4).on F.STN_SPINE_CTRL_RECAL 0 = true ∨ (spineOver 1 4).on F.STN_SPINE_CTRL_TRACK_EN 0 = true)
        ∧
      ((spineOver 1 4).stn.trackAt + if (spineOver 1 4).on F.STN_SPINE_CTRL_RECAL 0 = true then 96 * ([] : List (ℤ
        × ℤ)).length else 1024) ≤ (spineOver 1 4).stn.elapsed ∧ 2 < (spineOver 1 4).build.nRegions + 1 ∧
      (∀ i < 2, (fun i ↦ i % ((spineOver 1 4).build.nRegions + 1) < (spineOver 1 4).build.nRegions ∧
      (spineOver 1 4).on F.SB_SPINE_OVR_EN (i % ((spineOver 1 4).build.nRegions + 1)) = true) ((spineOver 1
        4).stn.trackIdx + i)) ∧
      ¬(fun i ↦ i % ((spineOver 1 4).build.nRegions + 1) < (spineOver 1 4).build.nRegions ∧
      (spineOver 1 4).on F.SB_SPINE_OVR_EN (i % ((spineOver 1 4).build.nRegions + 1)) = true) ((spineOver 1
        4).stn.trackIdx + 2) ∧
      (¬((spineOver 1 4).on F.STN_SPINE_CTRL_RECAL 0 = false ∨ ∃ p ∈ List.take 4 ([] : List (ℤ × ℤ)), (p.1 -
        p.2).natAbs ≤ 3) ∨ ((spineOver 1 4).stn.trackIdx + 2) % ((spineOver 1 4).build.nRegions + 1) < (spineOver 1
        4).build.nRegions) ∧
      ¬∀ i < (spineOver 1 4).stn.recalLeft - (2 + 1), (fun i ↦ i % ((spineOver 1 4).build.nRegions + 1) <
        (spineOver 1 4).build.nRegions ∧
      (spineOver 1 4).on F.SB_SPINE_OVR_EN (i % ((spineOver 1 4).build.nRegions + 1)) = true) (((spineOver 1
        4).stn.trackIdx + 2) % ((spineOver 1 4).build.nRegions + 1) + 1 + i)) ∧
    (let s : State := (spineOver 1 5).fset F.SB_SPINE_OVR_EN 2 0;
      s.por = false ∧ s.on F.STN_SPINE_STATUS_CAL_DONE 0 = true ∧
      (s.on F.STN_SPINE_CTRL_RECAL 0 = true ∨ s.on F.STN_SPINE_CTRL_TRACK_EN 0 = true) ∧
      (s.stn.trackAt + if s.on F.STN_SPINE_CTRL_RECAL 0 = true then 96 * [(0, 0)].length else 1024) ≤ s.stn.elapsed
        ∧ 0 < s.build.nRegions + 1 ∧ (∀ i < 0, (fun i ↦ i % (s.build.nRegions + 1) < s.build.nRegions ∧
      s.on F.SB_SPINE_OVR_EN (i % (s.build.nRegions + 1)) = true) (s.stn.trackIdx + i)) ∧
      ¬(fun i ↦ i % (s.build.nRegions + 1) < s.build.nRegions ∧
      s.on F.SB_SPINE_OVR_EN (i % (s.build.nRegions + 1)) = true) (s.stn.trackIdx + 0) ∧
      (s.on F.STN_SPINE_CTRL_RECAL 0 = false ∨ ∃ p ∈ List.take 4 [((0 : ℤ), (0 : ℤ))], (p.1 - p.2).natAbs ≤ 3) ∧
      (s.stn.trackIdx + 0) % (s.build.nRegions + 1) < s.build.nRegions) := by
  dsimp only; (repeat' apply And.intro) <;> decide +kernel

theorem witness_SpineRecal :
    (HostMay spineDone Reg.STN_SPINE_CTRL 0 ∧ spineDone.on F.STN_SPINE_CTRL_RECAL 0 = false) ∧
    (let s : State := spineDone.fset F.STN_SPINE_CTRL_RECAL 0 1;
      HostMay s Reg.STN_SPINE_CTRL 0 ∧ s.on F.STN_SPINE_CTRL_RECAL 0 = true) := by
  unfold HostMay; dsimp only; (repeat' apply And.intro) <;> decide +kernel

theorem witness_SpineFaults :
    (spineDone.por = false ∧ 3 < spineDone.build.nRegions ∧ spineDone.on F.STN_SPINE_STATUS_CAL_DONE 0 = true ∧
      (spineDone.rgn 3).mismatch = false ∧ spineDone.count % 64 = 0 ∧ 63999 ≠ BitVec.ofNat 64 spineDone.count) ∧
    (spineDone.por = false ∧ 3 < spineDone.build.nRegions ∧ spineDone.on F.STN_SPINE_STATUS_CAL_DONE 0 = true ∧
      spineDone.count % 64 = 0 ∧ 64000 = BitVec.ofNat 64 spineDone.count) ∧
    (spineBad.por = false ∧ 3 < spineBad.build.nRegions ∧ spineBad.on F.STN_SPINE_STATUS_CAL_DONE 0 = true ∧
      (spineBad.rgn 3).mismatch = true ∧ spineBad.count % 64 = 0) := by
  (repeat' apply And.intro) <;> decide +kernel

theorem witness_FrameSend :
    ((die 1).por = false ∧ (die 1).build.optSync = true ∧ (die 1).stn.locked = true ∧
      (die 1).fget F.STN_SYNC_CTRL_ROLE 0 = 1 ∧ (die 1).count % 65536 = 0) ∧
    (let u : TickIn := { syncIn := true : TickIn };
      sendingFrame.por = false ∧ sendingFrame.stn.locked = true ∧ sendingFrame.stn.frameN = some 655360 ∧
      sendingFrame.fget F.CAL_STATUS_PHASE 0 ≠ 2 ∧ sendingFrame.dsp.held = [] ∧ u.fw = [] ∧
      655360 ≤ sendingFrame.count ∧ sendingFrame.count + 1 < 2 ^ 64 ∧ u.a = 0 ∧ u.b = 0 ∧ u.c = 0) := by
  dsimp only; (repeat' apply And.intro) <;> decide +kernel

theorem witness_FrameReceive :
    (let s : State := framed (die 2) cellsBad onTime;
      s.por = false ∧ s.build.optSync = true ∧ s.stn.locked = true ∧ s.fget F.STN_SYNC_CTRL_ROLE 0 = 2 ∧
      cellsBad < 2 ^ 56 ∧ s.stn.syncRx.frame = some (cellsBad, onTime) ∧
      cellsBad % 256 ≠ crc8 (BitVec.ofNat 48 (cellsBad / 256))) ∧
    (let s : State := framed (die 2) cellsGood (onTime - 6);
      s.por = false ∧ s.build.optSync = true ∧ s.stn.locked = true ∧ s.fget F.STN_SYNC_CTRL_ROLE 0 = 2 ∧
      cellsGood < 2 ^ 56 ∧ s.stn.syncRx.frame = some (cellsGood, onTime - 6) ∧
      cellsGood % 256 = crc8 (BitVec.ofNat 48 (cellsGood / 256)) ∧ -2 ^ 64 ≤ 6 ∧ 6 < 2 ^ 64 ∧
      2 ^ 65 ∣ ((onTime - 6 : ℕ) : ℤ) + 6 - ((2 * (cellsGood / 256 * 65536) + s.fget F.STN_SYNC_DLY_DELAY 0 + 4 :
        ℕ) : ℤ) ∧ 4 < Int.natAbs 6 ∧ ¬(s.on F.STN_SYNC_CTRL_AUTO_SLEW 0 = true ∧
      (s.stn.relCount ≠ 0 ∨ s.on F.STN_SYNC_STATUS_HARD_DONE 0 = true)) ∧ s.stn.relCount = 0 ∧
      s.on F.STN_SYNC_STATUS_HARD_DONE 0 = false ∧ s.stn.hardPend = none) ∧
    (let s : State := framed was2 cellsGood (onTime + 4);
      s.por = false ∧ s.build.optSync = true ∧ s.stn.locked = true ∧ s.fget F.STN_SYNC_CTRL_ROLE 0 = 2 ∧
      cellsGood < 2 ^ 56 ∧ s.stn.syncRx.frame = some (cellsGood, onTime + 4) ∧
      cellsGood % 256 = crc8 (BitVec.ofNat 48 (cellsGood / 256)) ∧ -2 ^ 64 ≤ -4 ∧ -4 < 2 ^ 64 ∧
      2 ^ 65 ∣ ((onTime + 4 : ℕ) : ℤ) + -4 - ((2 * (cellsGood / 256 * 65536) + s.fget F.STN_SYNC_DLY_DELAY 0 + 4 :
        ℕ) : ℤ) ∧ (-4).natAbs ≤ 4 ∧ s.stn.above2 = true ∧ s.on F.STN_SYNC_CTRL_AUTO_SLEW 0 = true ∧
      (s.stn.relCount ≠ 0 ∨ s.on F.STN_SYNC_STATUS_HARD_DONE 0 = true) ∧ ¬(s.stn.relCount = 0 ∧
      s.on F.STN_SYNC_STATUS_HARD_DONE 0 = false ∧ s.stn.hardPend = none)) ∧
    (let s : State := framed noSlew cellsGood onTime;
      s.por = false ∧ s.build.optSync = true ∧ s.stn.locked = true ∧ s.fget F.STN_SYNC_CTRL_ROLE 0 = 2 ∧
      cellsGood < 2 ^ 56 ∧ s.stn.syncRx.frame = some (cellsGood, onTime) ∧
      cellsGood % 256 = crc8 (BitVec.ofNat 48 (cellsGood / 256)) ∧ -2 ^ 64 ≤ 0 ∧ 0 < 2 ^ 64 ∧
      2 ^ 65 ∣ (↑onTime : ℤ) + 0 - ((2 * (cellsGood / 256 * 65536) + s.fget F.STN_SYNC_DLY_DELAY 0 + 4 : ℕ) : ℤ) ∧
      Int.natAbs 0 ≤ 4 ∧ ¬s.stn.above2 = true) := by
  dsimp only; (repeat' apply And.intro) <;> decide +kernel

theorem witness_FramesLost :
    (die 2).por = false ∧ (die 2).build.optSync = true ∧ (die 2).stn.locked = true ∧
      (die 2).fget F.STN_SYNC_CTRL_ROLE 0 = 2 ∧ (die 2).stn.syncLast + 196608 ≤ (die 2).stn.elapsed ∧
      (die 2).on F.STN_SYNC_STATUS_LOST 0 = false := by
  (repeat' apply And.intro) <;> decide +kernel

theorem witness_HardAlign :
    following.por = false ∧ following.stn.hardPend = some (-6) ∧ following.count % 64 = 0 ∧
      following.stn.relCount = 0 ∧ following.logReady = false := by
  (repeat' apply And.intro) <;> decide +kernel

theorem witness_HoldTimeout :
    following.por = false ∧ following.stn.relHold = true ∧ following.stn.spineEnd = some 393216 ∧
      393216 + 262144 ≤ following.stn.elapsed := by
  (repeat' apply And.intro) <;> decide +kernel

theorem witness_RoleWrite :
    (HostMay following Reg.STN_SYNC_CTRL 0 ∧ 1 < 4 ∧ 1 ≠ following.fget F.STN_SYNC_CTRL_ROLE 0 ∧
      (following.on F.STN_SYNC_CTRL_AUTO_SLEW 0 = false ∨ 1 ≠ 2)) ∧
    (HostMay measuring Reg.STN_SYNC_CTRL 0 ∧ 2 < 4 ∧ 2 ≠ measuring.fget F.STN_SYNC_CTRL_ROLE 0 ∧
      measuring.on F.STN_SYNC_CTRL_AUTO_SLEW 0 = true ∧ measuring.on F.STN_SYNC_CTRL_MEASURE 0 = true) := by
  unfold HostMay; (repeat' apply And.intro) <;> decide +kernel

theorem witness_RoundTrip :
    (HostMay measured Reg.STN_SYNC_CTRL 0 ∧ measured.por = false ∧ measured.build.optSync = true ∧
      measured.fget F.STN_SYNC_CTRL_ROLE 0 = 1 ∧ measured.stn.measN = some 655360 ∧
      measured.stn.syncRx.rise = some 1314816 ∧ measured.stn.syncRx.marker = true ∧ 2 * 655360 ≤ 1314816 ∧
      1314816 ≤ 2 * (655360 + 2048)) ∧
    (measuring.por = false ∧ measuring.build.optSync = true ∧ measuring.fget F.STN_SYNC_CTRL_ROLE 0 = 1 ∧
      measuring.stn.measN = some 655360 ∧ measuring.stn.syncRx.rise = none ∧
      655360 + 2048 ≤ measuring.count) := by
  unfold HostMay; (repeat' apply And.intro) <;> decide +kernel

theorem witness_Echo :
    echoing.por = false ∧ echoing.build.optSync = true ∧ echoing.fget F.STN_SYNC_CTRL_ROLE 0 = 3 ∧
      echoing.stn.syncRx.pipe[6]? = some true := by
  (repeat' apply And.intro) <;> decide +kernel

/-! ### Section Roots -/

def safe1 : State := (sec1 3 49152).fset F.SEC_CTRL_SAFE 1 1
def headway1 : State := (sec1 3 49152).fset F.SEC_CTRL_HEADWAY 1 1
/-- A change of Section 1 waits, due now. -/
def due1 (p : SecPend) : State :=
  let s := sec1 3 139264
  s.setSec 1 { s.sec 1 with pend := [p] }
/-- The same in a ramp, on safe settings, with the Governor on at a confirmed voltage of rail 1. -/
def dueRamp (p : SecPend) : State := (due1 p).fset F.SEC_FW_STATUS_RAMPING 1 1
def dueSafe (p : SecPend) : State := (due1 p).fset F.SEC_CTRL_SAFE 1 1
def dueGov (p : SecPend) (mv : Nat) : State := ((due1 p).fset F.GOV_CTRL_EN 0 1).fset F.GOV_RAIL_STAT_VCONF 1 mv
def ramp1 : State :=
  let s := (sec1 3 139264).fset F.SEC_FW_STATUS_RAMPING 1 1
  s.setSec 1 { s.sec 1 with target := 49152, rampNext := 64000 }
def slot1 : State :=
  let s := (sec1 3 49152).fset F.SEC_SLOT_ACTIVE 1 1
  s.setSec 1 { s.sec 1 with slotEnd := 64000 }
/-- The die is calibrated, Section 0 released 12,800 tk before. -/
def releasing : State :=
  { ((live 64000).fset F.STN_SPINE_STATUS_CAL_DONE 0 1).setSec 0 { released := true, everReleased := true, t0 := 51200 } with
      cal := { loaded := true } }
def releasingFailed : State := releasing.fset F.SB_SPINE_FAILED 3 1
/-- Section 1 is released, its regions' clocks to start; region 3 is forced off. -/
def starting1 : State :=
  let s := ((sec1 1 49152).fset F.SB_GATE_FORCE 3 1)
  s.setSec 1 { s.sec 1 with t0 := 62976 }
/-- Section 1 runs, its crossings aligned. -/
def aligned1 (safe hw : Nat) : State :=
  (((((sec1 2 49152).fset F.JCT_STAT_STATE 0 1).fset F.JCT_STAT_STATE 1 1).fset F.JCT_STAT_STATE 2 1).fset
    F.SEC_CTRL_SAFE 1 safe).fset F.SEC_CTRL_HEADWAY 1 hw
/-- The edge at which the Station set SAFE everywhere. -/
def safedNow : State := { safe1 with stn := { lockedStn 64000 with safeEdge := some 64000 } }
/-- A request stands in region 3. -/
def asked3 : State := (sec1 3 49152).fset F.SB_SLIP_REQ 3 1
/-- A change that is due one tick later; 192 quiet ticks since a change. -/
def notDue : State := { due1 { due := 64000 } with stn := lockedStn 63999 }
def quiet192 : State := { sec1 3 49152 with stn := { lockedStn 64000 with elapsed := 192 } }
/-- SAFE_ALL is pending; a fault of Desk 0 is due. -/
def safing : State := { live 64000 with stn := { lockedStn 64000 with safeAllAt := some 64000 }, dsp := { safeAt := [64000] } }

theorem witness_FwWrite :
    (HostSec (sec1 3 49152) Reg.SEC_FW 1 ∧ 262143 < 2 ^ 18 ∧ (sec1 3 49152).secState 1 = 3 ∧
      (sec1 3 49152).on F.SEC_CTRL_SAFE 1 = false ∧ (sec1 3 49152).on F.SEC_CTRL_HEADWAY 1 = false) ∧
    (HostSec safe1 Reg.SEC_FW 1 ∧ 0 < 2 ^ 18 ∧ ¬(safe1.secState 1 = 3 ∧ safe1.on F.SEC_CTRL_SAFE 1 = false ∧
      safe1.on F.SEC_CTRL_HEADWAY 1 = false)) := by
  unfold HostSec HostMay; (repeat' apply And.intro) <;> decide +kernel

theorem witness_HwWrite :
    (HostSec headway1 Reg.SEC_HEADWAY 1 ∧ 262143 < 2 ^ 18 ∧ headway1.secState 1 = 3 ∧
      headway1.on F.SEC_CTRL_SAFE 1 = false ∧ headway1.on F.SEC_CTRL_HEADWAY 1 = true) ∧
    (HostSec (sec1 3 49152) Reg.SEC_HEADWAY 1 ∧ 0 < 2 ^ 18 ∧ ¬((sec1 3 49152).secState 1 = 3 ∧
      (sec1 3 49152).on F.SEC_CTRL_SAFE 1 = false ∧ (sec1 3 49152).on F.SEC_CTRL_HEADWAY 1 = true)) := by
  unfold HostSec HostMay; (repeat' apply And.intro) <;> decide +kernel

theorem witness_SafeSet :
    HostCtl (sec1 3 139264) 1 ∧ (sec1 3 139264).on F.SEC_CTRL_SAFE 1 = false ∧
      (sec1 3 139264).on F.SEC_CTRL_RESTART 1 = false := by
  unfold HostCtl HostSec HostMay; (repeat' apply And.intro) <;> decide +kernel

theorem witness_SafeClear :
    (HostCtl safe1 1 ∧ safe1.on F.SEC_CTRL_SAFE 1 = true ∧ safe1.on F.SEC_CTRL_RESTART 1 = false ∧
      (safe1.sec 1).readSeen = true ∧ safe1.secState 1 = 3) ∧
    (let s : State := (sec1 2 49152).fset F.SEC_CTRL_SAFE 1 1;
      HostCtl s 1 ∧ s.on F.SEC_CTRL_SAFE 1 = true ∧ s.on F.SEC_CTRL_RESTART 1 = false ∧
      ((s.sec 1).readSeen = false ∨ s.secState 1 ≠ 3)) := by
  unfold HostCtl HostSec HostMay; dsimp only; (repeat' apply And.intro) <;> decide +kernel

theorem witness_SafeStays :
    HostSec safedNow Reg.SEC_CTRL 1 ∧ safedNow.stn.safeEdge = some safedNow.stn.elapsed ∧
      safedNow.on F.SEC_CTRL_SAFE 1 = true ∧ safedNow.on F.SEC_CTRL_RESTART 1 = false := by
  unfold HostSec HostMay; (repeat' apply And.intro) <;> decide +kernel

theorem witness_Restart :
    (HostCtl (sec1 4 49152) 1 ∧ (sec1 4 49152).secState 1 = 4) ∧
    (HostCtl (sec1 3 49152) 1 ∧ (sec1 3 49152).secState 1 ≠ 4) := by
  unfold HostCtl HostSec HostMay; (repeat' apply And.intro) <;> decide +kernel

theorem witness_HeadwayWrite :
    (HostCtl (sec1 3 49152) 1 ∧ (sec1 3 49152).on F.SEC_CTRL_HEADWAY 1 ≠ true ∧
      (sec1 3 49152).on F.SEC_CTRL_RESTART 1 = false ∧ (sec1 3 49152).secState 1 = 3) ∧
    (HostCtl (sec1 2 49152) 1 ∧ (sec1 2 49152).on F.SEC_CTRL_HEADWAY 1 ≠ true ∧
      (sec1 2 49152).on F.SEC_CTRL_RESTART 1 = false ∧ (sec1 2 49152).secState 1 ≠ 3) := by
  unfold HostCtl HostSec HostMay; (repeat' apply And.intro) <;> decide +kernel

theorem witness_SymEnClear :
    HostSec asked3 Reg.SEC_SYM_CFG 1 := by
  unfold HostSec HostMay; (repeat' apply And.intro) <;> decide +kernel

theorem witness_Slots :
    HostSec slot1 Reg.SEC_SLOT 1 ∧ 1048575 < 2 ^ 20 ∧ slot1.por = false ∧ slot1.on F.SEC_SLOT_ACTIVE 1 = true ∧
      (slot1.sec 1).slotEnd ≤ slot1.count := by
  unfold HostSec HostMay; (repeat' apply And.intro) <;> decide +kernel

theorem witness_NoChangeDue :
    notDue.por = false ∧ (∀ p ∈ (notDue.sec 1).pend, notDue.count < p.due) := by
  (repeat' apply And.intro) <;> decide +kernel

theorem witness_RampStep :
    ramp1.por = false ∧ ramp1.on F.SEC_FW_STATUS_RAMPING 1 = true ∧ (ramp1.sec 1).rampNext ≤ ramp1.count ∧
      (ramp1.sec 1).edgeAt ≠ some ramp1.count := by
  (repeat' apply And.intro) <;> decide +kernel

theorem witness_Release :
    releasing.por = false ∧ 1 < releasing.build.nSections ∧ (releasing.sec 1).everReleased = false ∧
      releasing.stn.locked = true ∧ releasing.on F.STN_SPINE_STATUS_CAL_DONE 0 = true ∧
      releasing.stn.relHold = false ∧ releasing.cal.loaded = true ∧
      (∀ j < 1, (releasing.sec j).everReleased = true) ∧
      (1 = 0 ∨ (releasing.sec (1 - 1)).t0 + 12800 ≤ releasing.count) ∧
      (∀ r ∈ releasing.build.regionsOf 1, (releasing.calRgn r).bank = none) ∧ releasing.shadow = [] := by
  (repeat' apply And.intro) <;> decide +kernel

theorem witness_ClockStart :
    starting1.por = false ∧ 1 < starting1.build.nSections ∧ starting1.secState 1 = 1 ∧
      (starting1.sec 1).t0 + 1024 ≤ starting1.count ∧ (starting1.sec 1).acc % 65536 = 0 ∧
      starting1.dsp.held = [] := by
  (repeat' apply And.intro) <;> decide +kernel

theorem witness_PeriodCheck :
    (quiet192.por = false ∧ 1 < quiet192.build.nSections ∧ 1 < 64 ∧ quiet192.count % 64 = 0 ∧
      (quiet192.secState 1 = 1 ∨ quiet192.secState 1 = 2 ∨ quiet192.secState 1 = 3) ∧ (-255).natAbs < 256 ∧
      ¬((quiet192.sec 1).lastChange + 192 ≤ quiet192.stn.elapsed ∧
      2048 < (1024 * (↑142 : ℤ) - 3 * ((quiet192.fwCur 1 : ℕ) : ℤ)).natAbs)) ∧
    ((sec1 3 49152).por = false ∧ 1 < (sec1 3 49152).build.nSections ∧ 1 < 64 ∧ (sec1 3 49152).count % 64 = 0 ∧
      ((sec1 3 49152).secState 1 = 1 ∨ (sec1 3 49152).secState 1 = 2 ∨ (sec1 3 49152).secState 1 = 3) ∧
      Int.natAbs 255 < 256 ∧ ((sec1 3 49152).sec 1).lastChange + 192 ≤ (sec1 3 49152).stn.elapsed ∧
      2048 < (1024 * (↑147 : ℤ) - 3 * (((sec1 3 49152).fwCur 1 : ℕ) : ℤ)).natAbs) := by
  (repeat' apply And.intro) <;> decide +kernel

theorem witness_SafeAll :
    (HostMay (live 64000) Reg.STN_GCTRL 0 ∧ (live 64000).stn.safeAllAt = none) ∧
    (HostMay safing Reg.STN_GCTRL 0 ∧ safing.stn.safeAllAt ≠ none ∧ safing.por = false ∧
      (∀ x ∈ safing.dsp.acts, safing.actDue x = false) ∧ safing.stn.safeAllAt = some 64000 ∧
      64000 ≤ safing.stn.elapsed ∧ 64000 ∈ safing.dsp.safeAt) := by
  unfold HostMay; (repeat' apply And.intro) <;> decide +kernel

/-- The word that a Section runs at, with the Governor off. -/
theorem runsAt_off (s : State) (k : Nat) (req : Option Nat) (h : s.on F.GOV_CTRL_EN 0 = false) :
    runsAt s k req (max 14336 (min 139264 (match req with
      | none => 49152
      | some r => max (r - 4096 * (s.fget F.GOV_SEC_STAT_DROP_E k + s.fget F.GOV_SEC_STAT_DROP_M k))
          (min r (s.fget F.GOV_LIMITS_FW_FLOOR 0))))) := by
  unfold runsAt
  exact (if_neg (by rw [h]; decide)).mpr (by cases req <;> rfl)

/-- The same with the Governor on, at a supported word `v`. -/
theorem runsAt_on (s : State) (k v : Nat) (req : Option Nat) (h : s.on F.GOV_CTRL_EN 0 = true) (hv : supported s k v) :
    runsAt s k req (max 14336 (min 139264 (min (match req with
      | none => 49152
      | some r => max (r - 4096 * (s.fget F.GOV_SEC_STAT_DROP_E k + s.fget F.GOV_SEC_STAT_DROP_M k))
          (min r (s.fget F.GOV_LIMITS_FW_FLOOR 0))) v))) := by
  unfold runsAt
  rw [if_pos h]
  exact ⟨v, hv, by cases req <;> rfl⟩

/-- The hypotheses of SafeSet's change, out of a ramp and in one. -/
theorem witness_SafeSet_step :
    (∀ s ∈ [sec1 3 139264, ramp1], s.secState 1 = 3 ∧ (s.sec 1).edgeAt ≠ some s.count ∧
      (s.fwCur 1 ≠ 49152 ∨ s.on F.SEC_FW_STATUS_RAMPING 1 = true)) ∧
      runsAt (sec1 3 139264) 1 none 49152 ∧ runsAt ramp1 1 none 49152 :=
  ⟨by decide +kernel, runsAt_off _ 1 none (by decide +kernel), runsAt_off _ 1 none (by decide +kernel)⟩

/-- FreqChange: a host's word, the word held at the edge with a commit, in a ramp, with the Governor on where the confirmed
voltage supports no entry of the table and where it supports the last. -/
theorem witness_FreqChange :
    (∀ x ∈ [(due1 { due := 64000, word := some 14335 }, ({ due := 64000, word := some 14335 } : SecPend)),
        (due1 { due := 64000, commit := true }, { due := 64000, commit := true }),
        (dueRamp { due := 63999 }, { due := 63999 }), (dueGov { due := 64000 } 0, { due := 64000 }),
        (dueGov { due := 64000 } 1023, { due := 64000 })],
      x.1.por = false ∧ 1 < x.1.build.nSections ∧ x.2.due ≤ x.1.count ∧ (x.1.sec 1).pend = [x.2] ∧
        x.1.on F.SEC_CTRL_SAFE 1 = false ∧ (x.1.sec 1).edgeAt ≠ some x.1.count) ∧
      runsAt (due1 { due := 64000, word := some 14335 }) 1 (some 14335) 14336 ∧
      runsAt (due1 { due := 64000, commit := true }) 1 (some 49152) 49152 ∧
      runsAt (dueRamp { due := 63999 }) 1 (some 49152) 49152 ∧
      runsAt (dueGov { due := 64000 } 0) 1 (some 131072) 49152 ∧ runsAt (dueGov { due := 64000 } 1023) 1 (some 262143) 139264 := by
  refine ⟨by decide +kernel, runsAt_off _ 1 (some 14335) (by decide +kernel), runsAt_off _ 1 (some 49152) (by decide +kernel),
    runsAt_off _ 1 (some 49152) (by decide +kernel), ?_, ?_⟩
  · refine runsAt_on _ 1 49152 (some 131072) (by decide +kernel) ⟨fun _ => rfl, ?_⟩
    rintro ⟨n, h, hn⟩
    exact absurd hn (by interval_cases n <;> decide +kernel)
  · exact runsAt_on _ 1 139264 (some 262143) (by decide +kernel)
      ⟨fun h => absurd (h 7 (by decide)) (by decide +kernel), fun _ => ⟨⟨7, by decide +kernel⟩, by decide +kernel⟩⟩

/-- HeadwayChange: to the mode with a commit, from it in a ramp, and to it on safe settings. -/
theorem witness_HeadwayChange :
    (∀ x ∈ [(due1 { due := 64000, hw := some true, commit := true }, ({ due := 64000, hw := some true, commit := true } : SecPend)),
        (dueRamp { due := 63999, hw := some false }, { due := 63999, hw := some false }),
        (dueSafe { due := 64000, hw := some true }, { due := 64000, hw := some true })],
      x.1.por = false ∧ 1 < x.1.build.nSections ∧ x.2.due ≤ x.1.count ∧ (x.1.sec 1).pend = [x.2] ∧
        (x.1.sec 1).edgeAt ≠ some x.1.count) ∧
      runsAt (due1 { due := 64000, hw := some true, commit := true }) 1 (some 49152) 49152 ∧
      runsAt (dueRamp { due := 63999, hw := some false }) 1 (some 49152) 49152 ∧
      runsAt (dueSafe { due := 64000, hw := some true }) 1 none 49152 :=
  ⟨by decide +kernel, runsAt_off _ 1 (some 49152) (by decide +kernel), runsAt_off _ 1 (some 49152) (by decide +kernel),
    runsAt_off _ 1 none (by decide +kernel)⟩

theorem witness_Ready (safe hw : Nat) (h : safe < 2 ∧ hw < 2) :
    (aligned1 safe hw).por = false ∧ 1 < (aligned1 safe hw).build.nSections ∧ (aligned1 safe hw).secState 1 = 2 ∧
      (∀ j b, (aligned1 safe hw).build.junctions[j]? = some b →
        ((aligned1 safe hw).build.sectionOf b.writer = 1 ∨ (aligned1 safe hw).build.sectionOf b.reader = 1) →
        (aligned1 safe hw).fget F.JCT_STAT_STATE j ≠ 0 ∨ (aligned1 safe hw).on F.SB_GATE_FAULT b.writer = true ∨
          (aligned1 safe hw).on F.SB_GATE_FAULT b.reader = true) ∧
      (aligned1 safe hw).fget F.CAL_STATUS_PHASE 0 ≠ 2 := by
  obtain ⟨hs, hh⟩ := h
  have hk : ∀ j b, small.junctions[j]? = some b → j < 3 := fun j b hj => by
    have := (List.getElem?_eq_some_iff.mp hj).1
    exact this
  interval_cases safe <;> interval_cases hw <;>
    refine ⟨by decide +kernel, by decide +kernel, by decide +kernel, fun j b hj _ => .inl ?_, by decide +kernel⟩ <;>
    (have := hk j b hj; interval_cases j <;> decide +kernel)

/-! ### Signal Boxes -/

/-- Region 3 of Section 1, which is in a state, with what the region holds. -/
def box (state : Nat) (g : Rgn) : State := (sec1 state 49152).setRgn 3 g
/-- The region's last edge came at place 130, less than an edge before the next tick edge, at a ledger of 48 ph. -/
def ledger48 : Rgn := { pos := 130, ledA := 48, ledB := 48, ledC := 48, ledWin := [96, 0, 0, 0] }
def writingOff : Rgn := { ledger48 with woff := some 49152 }
def granted : Rgn := { ledger48 with grant := 3 }
def stopping : Rgn := { ledger48 with stopDue := true, stopTk := 64000, ackOut := true }
def aligning : Rgn := { writingOff with alignTgt := some (16, 127) }
def counters : ActSnap :=
  { edges := 1, act := 2, gated := 3, str := 4, sym := 5, cu := 6, woff := 7, denied := 8, ledger := 9 }
/-- Gated with cause PORT, with FORCE, with no cause left and a restart set. -/
def gated (g : Rgn) : State := (box 3 g).fset F.SB_CLK_STATUS_STATE 3 2
def gatedPort : State := (gated {}).fset F.SB_GATE_PORT 3 1
def gatedForce : State := (gated {}).fset F.SB_GATE_FORCE 3 1
/-- In cause FAULT, with a reason. -/
def faulted (cause : Nat) : State := ((gated {}).fset F.SB_GATE_FAULT 3 1).fset F.SB_GATE_FAULT_CAUSE 3 cause
def leafFailed : State := (faulted 3).fset F.SB_SPINE_FAILED 3 1
/-- Region 3 runs, locked, with 192 quiet ticks since a change and a write-off. -/
def quietBox : State :=
  { (box 3 { ledger48 with lastWoff := 400 }).fset F.SB_CLK_STATUS_DLL_LOCKED 3 1 with
      stn := { lockedStn 64000 with elapsed := 592 } }
/-- A tile of zeros whose CRC is right. -/
def tiled : State :=
  ((box 3 {}).fset F.SB_TAP_CTRL_RELOAD 3 1).wrWord 0x201FC (BitVec.ofNat 32 (crc32c (List.replicate 124 0)))
/-- A ledger of 48 ph, unmasked; its first edge delivered. -/
def open48 : Rgn := { ledger48 with masked := false }
def moved48 : Rgn := { ledger48 with sinceStart := 1 }

theorem witness_Wakes :
    (HostBox gatedPort Reg.SB_GATE 3 ∧ gatedPort.on F.SB_GATE_PORT 3 = true ∧ gatedPort.por = false ∧
      3 < gatedPort.build.nRegions ∧ (gatedPort.sec (gatedPort.build.sectionOf 3)).acc ≤ 65536 * 9 ∧
      65536 * 9 < (gatedPort.sec (gatedPort.build.sectionOf 3)).acc + gatedPort.fwCur (gatedPort.build.sectionOf
        3)) ∧
    (HostBox (gated { : Rgn }) Reg.SB_GATE 3 ∧ (gated { : Rgn }).on F.SB_GATE_PORT 3 = false ∧
      (gated { : Rgn }).por = false ∧ 3 < (gated { : Rgn }).build.nRegions ∧
      ((gated { : Rgn }).sec ((gated { : Rgn }).build.sectionOf 3)).acc ≤ 65536 * 9 ∧
      65536 * 9 < ((gated { : Rgn }).sec ((gated { : Rgn }).build.sectionOf 3)).acc + (gated { : Rgn }).fwCur
        ((gated { : Rgn }).build.sectionOf 3)) := by
  unfold HostBox HostMay; (repeat' apply And.intro) <;> decide +kernel

theorem witness_Force :
    (HostBox (box 3 { : Rgn }) Reg.SB_GATE 3 ∧ (box 3 { : Rgn }).on F.SB_GATE_FORCE 3 = false) ∧
    (HostBox gatedForce Reg.SB_GATE 3 ∧ true = gatedForce.on F.SB_GATE_FORCE 3) := by
  unfold HostBox HostMay; (repeat' apply And.intro) <;> decide +kernel

theorem witness_FaultClear :
    (HostBox (faulted 1) Reg.SB_GATE 3 ∧ (faulted 1).on F.SB_GATE_FAULT 3 = true ∧
      (BitVec.toNat ((faulted 1).freshBits Reg.SB_GATE 3)).testBit 31 = false ∧
      (true = true ∨ (faulted 1).fget F.SB_GATE_FAULT_CAUSE 3 = 3 ∧ (faulted 1).on F.SB_SPINE_FAILED 3 = true ∧
      (faulted 1).on F.SB_SPINE_OVR_EN 3 = false)) ∧
    (HostBox (faulted 7) Reg.SB_GATE 3 ∧ (faulted 7).on F.SB_GATE_FAULT 3 = true ∧
      (BitVec.toNat ((faulted 7).freshBits Reg.SB_GATE 3)).testBit 31 = false ∧
      ¬((faulted 7).fget F.SB_GATE_FAULT_CAUSE 3 = 3 ∧ (faulted 7).on F.SB_SPINE_FAILED 3 = true ∧
      (faulted 7).on F.SB_SPINE_OVR_EN 3 = false)) := by
  unfold HostBox HostMay; (repeat' apply And.intro) <;> decide +kernel

theorem witness_BoxBits :
    HostBox (box 3 { : Rgn }) Reg.SB_TAP_CTRL 3 ∧ HostBox (box 3 { : Rgn }) Reg.SB_SENSE_CTRL 3 ∧
      HostBox (box 3 { : Rgn }) Reg.SB_TC_CTRL 3 ∧ HostBox (box 3 { : Rgn }) Reg.SB_SLIP_CFG 3 := by
  unfold HostBox HostMay; (repeat' apply And.intro) <;> decide +kernel

theorem witness_TapWrite :
    (box 3 { : Rgn }).por = false ∧ (box 3 { : Rgn }).stn.warm = false ∧ (box 3 { : Rgn }).stn.locked = true ∧
      508 % 131072 / 128 < (box 3 { : Rgn }).build.nRegions ∧ 4294967295 < 2 ^ 32 := by
  (repeat' apply And.intro) <;> decide +kernel

theorem witness_ProfileWrite :
    HostBox (box 3 { : Rgn }) Reg.SB_PROFILE0 3 ∧ 3 < 4 ∧ 4294967295 < 2 ^ 32 ∧
      ((box 3 { : Rgn }).rgn 3).weights.length = 16 := by
  unfold HostBox HostMay; (repeat' apply And.intro) <;> decide +kernel

theorem witness_WriteOff :
    (Comes (box 3 aligning) 3 ∧ ((box 3 aligning).rgn 3).woff = some 49152 ∧ 0 < 49152 ∧
      0 < (box 3 aligning).fwCur ((box 3 aligning).build.sectionOf 3) ∧ 0 < ((box 3 aligning).rgn 3).tLast.den) ∧
    (let s : State := (box 3 writingOff).fset F.SB_SLIP_REQ 3 1;
      Comes s 3 ∧ (s.rgn 3).woff = some 49152 ∧ 0 < 49152 ∧ 0 < s.fwCur (s.build.sectionOf 3) ∧
      0 < (s.rgn 3).tLast.den ∧ s.on F.SB_SLIP_REQ 3 = true) := by
  unfold Comes ComesOn; dsimp only; (repeat' apply And.intro) <;> decide +kernel

theorem witness_GateRequest :
    (Comes (box 3 open48) 3 ∧ ((box 3 open48).rgn 3).reqHigh = false ∧ ((box 3 open48).rgn 3).masked = false ∧
      ((box 3 open48).rgn 3).grant = 0 ∧ ((box 3 open48).rgn 3).ackLeft = 0 ∧
      (box 3 open48).secState ((box 3 open48).build.sectionOf 3) = 3) ∧
    (let s : State := box 2 { masked := false : Rgn };
      Comes s 3 ∧ (s.rgn 3).reqHigh = false ∧ (s.rgn 3).masked = false ∧ (s.rgn 3).grant = 0 ∧
      (s.rgn 3).ackLeft = 0 ∧ ¬s.secState (s.build.sectionOf 3) = 3) := by
  unfold Comes ComesOn; dsimp only; (repeat' apply And.intro) <;> decide +kernel

theorem witness_GatingWriteOff :
    ((box 3 granted).por = false ∧ 3 < (box 3 granted).build.nRegions ∧ (box 3 granted).clk 3 = 1 ∧
      (((box 3 granted).rgn 3).stopDue = true ∨ ((box 3 granted).rgn 3).grant = 3) ∧
      ((box 3 granted).rgn 3).grant ≠ 0) ∧
    ((box 3 stopping).por = false ∧ 3 < (box 3 stopping).build.nRegions ∧ (box 3 stopping).clk 3 = 1 ∧
      (((box 3 stopping).rgn 3).stopDue = true ∨ ((box 3 stopping).rgn 3).grant = 3) ∧
      ((box 3 stopping).rgn 3).grant = 0) := by
  (repeat' apply And.intro) <;> decide +kernel

theorem witness_Restarts :
    let s : State := gated { restartMin := some 640 : Rgn };
      s.por = false ∧ 3 < s.build.nRegions ∧ s.clk 3 = 2 ∧ s.gateCause 3 = false ∧
      (s.secState (s.build.sectionOf 3) = 2 ∨ s.secState (s.build.sectionOf 3) = 3) ∧
      (s.rgn 3).restartMin = some 640 ∧ s.dsp.held = [] := by
  dsimp only; (repeat' apply And.intro) <;> decide +kernel

theorem witness_DllLock :
    (let s : State := (box 1 { : Rgn }).fset F.SB_CLK_STATUS_STATE 3 0;
      s.por = false ∧ 3 < s.build.nRegions ∧ (s.sec (s.build.sectionOf 3)).released = true ∧ 15 < 16 ∧ 127 < 128 ∧
      (-127).natAbs < 128 ∧ (s.clk 3 ≠ 1 ∨ s.fget F.SB_ROT_ALIGN_PH 3 = 15 ∧ s.fget F.SB_ROT_ALIGN_FINE 3 = 127)) ∧
    ((box 3 { : Rgn }).por = false ∧ 3 < (box 3 { : Rgn }).build.nRegions ∧
      ((box 3 { : Rgn }).sec ((box 3 { : Rgn }).build.sectionOf 3)).released = true ∧ 15 < 16 ∧ 127 < 128 ∧
      Int.natAbs 15 < 128 ∧ ¬((box 3 { : Rgn }).clk 3 ≠ 1 ∨ (box 3 { : Rgn }).fget F.SB_ROT_ALIGN_PH 3 = 15 ∧
      (box 3 { : Rgn }).fget F.SB_ROT_ALIGN_FINE 3 = 127)) := by
  dsimp only; (repeat' apply And.intro) <;> decide +kernel

theorem witness_BoxFaults :
    (quietBox.por = false ∧ 3 < quietBox.build.nRegions ∧ quietBox.count % 64 = 0 ∧ quietBox.clk 3 ≠ 0 ∧
      (quietBox.secState (quietBox.build.sectionOf 3) = 2 ∨ quietBox.secState (quietBox.build.sectionOf 3) = 3) ∧
      (quietBox.sec (quietBox.build.sectionOf 3)).lastChange + 192 ≤ quietBox.stn.elapsed ∧
      (quietBox.rgn 3).lastWoff + 192 ≤ quietBox.stn.elapsed ∧ (quietBox.rgn 3).ledWin[0]? = some 96 ∧
      (quietBox.rgn 3).ledWin[3]? = some 0 ∧
      ((16 * (↑131 : ℤ) + (↑96 : ℤ) - (↑0 : ℤ)) * 64 - 3 * ((quietBox.fwCur (quietBox.build.sectionOf 3) : ℕ) :
        ℤ)).natAbs < 2 ^ 36 ∧ quietBox.on F.SB_CLK_STATUS_DLL_LOCKED 3 = true) ∧
    (quietBox.por = false ∧ 3 < quietBox.build.nRegions ∧ quietBox.count % 64 = 0 ∧ quietBox.clk 3 ≠ 0 ∧
      (quietBox.secState (quietBox.build.sectionOf 3) = 2 ∨ quietBox.secState (quietBox.build.sectionOf 3) = 3) ∧
      (quietBox.sec (quietBox.build.sectionOf 3)).lastChange + 192 ≤ quietBox.stn.elapsed ∧
      (quietBox.rgn 3).lastWoff + 192 ≤ quietBox.stn.elapsed ∧ (quietBox.rgn 3).ledWin[0]? = some 96 ∧
      (quietBox.rgn 3).ledWin[3]? = some 0 ∧
      ((16 * (↑139 : ℤ) + (↑96 : ℤ) - (↑0 : ℤ)) * 64 - 3 * ((quietBox.fwCur (quietBox.build.sectionOf 3) : ℕ) :
        ℤ)).natAbs < 2 ^ 36 ∧
      ((16 * (↑139 : ℤ) + (↑96 : ℤ) - (↑0 : ℤ)) * 64 - 3 * ((quietBox.fwCur (quietBox.build.sectionOf 3) : ℕ) :
        ℤ)).natAbs ≤ 64 * 24) := by
  (repeat' apply And.intro) <;> decide +kernel

theorem witness_Ports :
    (Comes (box 3 moved48) 3 ∧ ((box 3 moved48).rgn 3).rstReq = true ∧ ((box 3 moved48).rgn 3).first = none ∧
      1 ≤ ((box 3 moved48).rgn 3).sinceStart ∧ ((box 3 moved48).rgn 3).masked = true) ∧
    (let s : State := box 3 { rstReq := false : Rgn };
      Comes s 3 ∧ (s.rgn 3).rstReq = false ∧ (s.rgn 3).masked = true) ∧
    (let s : State := box 3 { rstReq := false, masked := false : Rgn };
      Comes s 3 ∧ (s.rgn 3).masked = false ∧ 8 ≤ 15 ∧ 15 < 16 ∧ 255 < 256 ∧ 4294967295 < 2 ^ 32) ∧
    (let s : State := box 3 { rstReq := false, masked := false : Rgn };
      Comes s 3 ∧ (s.rgn 3).masked = false ∧ 7 < 8) := by
  unfold Comes ComesOn; dsimp only; (repeat' apply And.intro) <;> decide +kernel

theorem witness_TileLoad :
    (tiled.por = false ∧ 3 < tiled.build.nRegions ∧ tiled.on F.SB_TAP_CTRL_RELOAD 3 = true ∧
      crc32c (tiled.rdBytes (131072 + 128 * 3) 124) = leNat (tiled.rdBytes (131072 + 128 * 3 + 124) 4)) ∧
    (let s : State := (box 3 { : Rgn }).fset F.SB_TAP_CTRL_RELOAD 3 1;
      s.por = false ∧ 3 < s.build.nRegions ∧ s.on F.SB_TAP_CTRL_RELOAD 3 = true ∧
      crc32c (s.rdBytes (131072 + 128 * 3) 124) ≠ leNat (s.rdBytes (131072 + 128 * 3 + 124) 4)) := by
  dsimp only; (repeat' apply And.intro) <;> decide +kernel

theorem witness_SeedLoad :
    (live 1000).por = false ∧ (live 1000).stn.locked = true ∧ (live 1000).cal.loaded = false ∧
      (∀ r < (live 1000).build.nRegions, ((live 1000).build.seedTapsOf r).length = 120 ∧
      ∀ x ∈ (live 1000).build.seedTapsOf r, x < 128) := by
  (repeat' apply And.intro) <;> decide +kernel

theorem witness_Senses :
    ((live 1000).por = false ∧ 3 < (live 1000).build.nRegions ∧ (live 1000).stn.locked = true ∧ -32768 ≤ -32768 ∧
      -32768 < 32768 ∧ 1023 < 1024 ∧ -32768 ≤ (((live 1000).fget F.SB_SENSE_CTRL_TEMP_LIMIT 3 : ℕ) : ℤ)) ∧
    ((live 1000).por = false ∧ 3 < (live 1000).build.nRegions ∧ (live 1000).stn.locked = true ∧ -32768 ≤ 32767 ∧
      32767 < 32768 ∧ 0 < 1024 ∧ (((live 1000).fget F.SB_SENSE_CTRL_TEMP_LIMIT 3 : ℕ) : ℤ) < 32767) := by
  (repeat' apply And.intro) <;> decide +kernel

theorem witness_Snapshots :
    ((live 16384).por = false ∧ 3 < (live 16384).build.nRegions ∧ (live 16384).stn.locked = true ∧
      (live 16384).count % 16384 = 0) ∧
    (let s : State := box 3 { snap := some counters : Rgn };
      s.por = false ∧ (s.rgn 3).snap = some counters) := by
  dsimp only; (repeat' apply And.intro) <;> decide +kernel

/-! ### Region edges, Track Circuits, Whistles -/

/-- An edge with readings of its Track Circuits, the last one the lowest. -/
def lowReading (n : Nat) : EdgeIn := { raw := [31, 31, 31, 31, 31, 31, 31, n] }
/-- Region 3 with its stretch of the last edge and a bus value of 16 due, at its coming edge at place 152. -/
def stretching : State :=
  let s := box 3 { ledger48 with pos := 120, own := 16, duePrev := 7, str := 5 }
  s.setSec 1 { s.sec 1 with bus := [(5, 7), (6, 16)] }
/-- Region 3 with the same bus value due on an edge of no stretch of its own. -/
def sympathetic : State :=
  let s := box 3 { ledger48 with pos := 120, duePrev := 7 }
  s.setSec 1 { s.sec 1 with bus := [(5, 7), (6, 16)] }
/-- Region 3 restored, with a balance at its top and nothing to wait for; with a stretch that the bound denies; at its
clock's first edge. -/
def catchUp : State := (box 3 { ledger48 with ledA := 96, ledB := 96, ledC := 96 }).fset F.SB_SLIP_RESTORED 3 1
def denied16 : State := box 3 { pos := 120, ledA := 96, ledB := 96, ledC := 96, own := 16 }
def firstEdge : State := box 3 { first := some 155 }
def headwayEdge : State := stretching.fset F.SEC_HEADWAY_ACTIVE 1 1
/-- Out-of-turn test, readmission, scheduled test of Track Circuit 7; the last is due, those of the others are served. -/
def testing7 (g : Rgn) (readmit : Nat) : State :=
  { ((box 3 { g with loneRun := 9, loneTc := 7 }).fset F.SB_TC_CTRL_SELFTEST_EN 3 1).fset F.SB_TC_CTRL_READMIT 3 readmit with
      stn := lockedStn 3000000 }
def served7 : Rgn := { tcServed := [3000000, 3000000, 3000000, 3000000, 3000000, 3000000, 3000000, 1400000] }
/-- A TRIM step holds the Track Circuits. -/
def trimHolds : State := (testing7 served7 0).setCalRgn 3 { step := some { stage := 1, started := true } }
/-- A test of Track Circuit 7 under way. -/
def underTest (q : TcRun) : State := (testing7 { served7 with tcTest := some q } 128).fset F.SB_TC_STATUS_EXCL 3 127
def run7 (n bypass : Nat) : TcRun := { ask := .readmit, tc := 7, edges := n, bypass }
def read8 : State := box 3 { readings := [31, 0, 7, 8, 9, 10, 11, 12] }
/-- Region 3 takes a strobe, with and without its profile. -/
def strobed3 (on : Nat) (p : Option Play) : State :=
  (box 3 { masked := false, play := p }).fset F.SB_STRETCH_PROFILE_EN 3 on
/-- None in service; a playback runs. -/
def noneLeft : State := (box 3 { play := some { entries := [56, 0], intensity := 12 } }).fset F.SB_TC_STATUS_EXCL 3 255
/-- A run of a lone alarm of Track Circuit 7 at its 255th edge. -/
def lone255 : State := (box 3 { loneTc := 7, loneRun := 255 }).fset F.SB_TC_CTRL_SELFTEST_EN 3 1

/-- A copy of the ledger that differs is outvoted. -/
theorem outvoted (x l i : Nat) : l.testBit i = decide (2 ≤ ([x, l, l].filter (·.testBit i)).length) := by
  cases hx : x.testBit i <;> cases hl : l.testBit i <;> simp [List.filter, hx, hl]

/-- EdgePlaced: a stretch and a bus value with an upset copy, bad parity on the bus, a bus value alone, a catch-up step, a
stretch that the bound denies, the first edge, fixed-headway mode. -/
theorem witness_EdgePlaced :
    ∀ x ∈ [(stretching, ({ upA := 127 } : EdgeIn), 16, 48), (stretching, { busBad := true }, 16, 48), (sympathetic, {}, 16, 48),
        (catchUp, {}, 0, 96), (denied16, {}, 0, 96), (firstEdge, {}, 0, 0), (headwayEdge, {}, 16, 48)],
      ComesOn x.1 3 x.2.1.busBad ∧ (x.1.rgn 3).woff = none ∧ x.2.2.2 ≤ 96 ∧
        (∀ i, x.2.2.2.testBit i = decide (2 ≤
          ([(x.1.rgn 3).ledA ^^^ x.2.1.upA, (x.1.rgn 3).ledB ^^^ x.2.1.upB, (x.1.rgn 3).ledC ^^^ x.2.1.upC].filter
            (·.testBit i)).length)) ∧
        BusValue x.1 (x.1.build.sectionOf 3) (x.1.rgn 3).duePrev (((x.1.rgn 3).pos + 16) / 16) x.2.2.1 := by
  have h : ∀ x ∈ [(stretching, ({ upA := 127 } : EdgeIn), 16, 48), (stretching, { busBad := true }, 16, 48), (sympathetic, {}, 16, 48),
        (catchUp, {}, 0, 96), (denied16, {}, 0, 96), (firstEdge, {}, 0, 0), (headwayEdge, {}, 16, 48)],
      (ComesOn x.1 3 x.2.1.busBad ∧ (x.1.rgn 3).woff = none ∧ x.2.2.2 ≤ 96 ∧
        BusValue x.1 (x.1.build.sectionOf 3) (x.1.rgn 3).duePrev (((x.1.rgn 3).pos + 16) / 16) x.2.2.1) ∧
        (x.1.rgn 3).ledB ^^^ x.2.1.upB = x.2.2.2 ∧ (x.1.rgn 3).ledC ^^^ x.2.1.upC = x.2.2.2 := by
    unfold ComesOn BusValue
    decide +kernel
  intro x hx
  obtain ⟨⟨h1, h2, h3, h4⟩, h5, h6⟩ := h x hx
  refine ⟨h1, h2, h3, fun i => ?_, h4⟩
  rw [h5, h6]
  exact outvoted _ _ _

/-- EdgeVotes and LoneAlarm, with a vote: a reading of 0 alone at or below ALARM, at the 256th edge of its run too, and in fixed-headway
mode; none at or below it; none in service, with a playback. -/
theorem witness_EdgeVotes_votes :
    ∀ x ∈ [(box 3 {}, lowReading 0, 0), (headwayEdge, lowReading 0, 0), (lone255, lowReading 0, 0), (box 3 {}, ({} : EdgeIn), 31)],
      ComesOn x.1 3 x.2.1.busBad ∧ (x.1.rgn 3).tcTest = none ∧
        (∀ i, inService x.1 3 i → (x.2.2 : Int) ≤ readingOf x.1 3 i x.2.1) ∧
        (inService x.1 3 7 ∧ readingOf x.1 3 7 x.2.1 = x.2.2) ∧
        (x.2.2 = 0 → ∀ j, inService x.1 3 j ∧ readingOf x.1 3 j x.2.1 ≤ (x.1.fget F.SB_TC_THR_ALARM 3 : Int) ↔ j = 7) ∧
        (x.2.2 = 31 → ∀ j, ¬ ∀ h,
          (inService x.1 3 h ∧ readingOf x.1 3 h x.2.1 ≤ (x.1.fget F.SB_TC_THR_ALARM 3 : Int)) ↔ h = j) := by
  have h : ∀ x ∈ [(box 3 {}, lowReading 0, 0), (headwayEdge, lowReading 0, 0), (lone255, lowReading 0, 0), (box 3 {}, ({} : EdgeIn), 31)],
      (ComesOn x.1 3 x.2.1.busBad ∧ (x.1.rgn 3).tcTest = none ∧ inService x.1 3 7 ∧ readingOf x.1 3 7 x.2.1 = x.2.2) ∧
        (∀ i, i < 8 → (x.2.2 : Int) ≤ readingOf x.1 3 i x.2.1) ∧
        (∀ j, j < 8 → (readingOf x.1 3 j x.2.1 ≤ (x.1.fget F.SB_TC_THR_ALARM 3 : Int) ↔ j = 7 ∧ x.2.2 = 0)) := by
    unfold ComesOn inService
    decide +kernel
  intro x hx
  obtain ⟨⟨h1, h2, h3, h4⟩, h5, h6⟩ := h x hx
  refine ⟨h1, h2, fun i hi => h5 i hi.1, ⟨h3, h4⟩, fun h0 j => ⟨fun hj => ((h6 j hj.1.1).mp hj.2).1, ?_⟩, fun h31 j hj => ?_⟩
  · rintro rfl
    exact ⟨h3, (h6 7 (by decide)).mpr ⟨rfl, h0⟩⟩
  · have hl := (hj j).mpr rfl
    have := ((h6 j hl.1.1).mp hl.2).2
    omega

/-- The alarm of that reading in fixed-headway mode. -/
theorem witness_EdgeVotes_headway :
    decide (0 ≤ headwayEdge.fget F.SB_TC_THR_ALARM 3) = true ∧
      headwayEdge.on F.SEC_HEADWAY_ACTIVE (headwayEdge.build.sectionOf 3) = true := by decide +kernel

theorem witness_EdgeVotes :
    ComesOn noneLeft 3 { : EdgeIn }.busBad ∧ noneLeft.fget F.SB_TC_STATUS_EXCL 3 = 255 := by
  unfold ComesOn; (repeat' apply And.intro) <;> decide +kernel

theorem witness_EdgeAfterWriteOff :
    Comes (box 3 aligning) 3 ∧ ComesOn (box 3 aligning) 3 { : EdgeIn }.busBad ∧
      ((box 3 aligning).rgn 3).woff ≠ none := by
  unfold Comes ComesOn; (repeat' apply And.intro) <;> decide +kernel

theorem witness_EdgeFrame :
    ComesOn stretching 3 (lowReading 0).busBad := by
  unfold ComesOn; (repeat' apply And.intro) <;> decide +kernel

/-- TcTests: out of turn, readmission, and scheduled, with and without a TRIM step. -/
theorem witness_TcTests :
    (∀ s ∈ [testing7 { tcTurn := some 7 } 0, testing7 {} 128, testing7 served7 0, trimHolds], Comes s 3 ∧ (s.rgn 3).tcTest = none) ∧
      ((testing7 { tcTurn := some 7 } 0).rgn 3).tcTurn = some 7 ∧
      (((testing7 {} 128).rgn 3).tcTurn = none ∧ ((testing7 {} 128).fget F.SB_TC_CTRL_READMIT 3).testBit 7 = true) ∧
      ∀ s ∈ [testing7 served7 0, trimHolds], (s.rgn 3).tcTurn = none ∧ s.fget F.SB_TC_CTRL_READMIT 3 = 0 ∧
        (s.rgn 3).tcServed.length = 8 ∧ TestDue s 3 7 3000000 ∧ ∀ j, j < 7 → ¬ TestWaits s 3 j := by
  refine ⟨by unfold Comes ComesOn; decide +kernel, by decide +kernel, by decide +kernel, fun s hs => ?_⟩
  have h : ∀ s ∈ [testing7 served7 0, trimHolds], ((s.rgn 3).tcTurn = none ∧ s.fget F.SB_TC_CTRL_READMIT 3 = 0 ∧
      (s.rgn 3).tcServed.length = 8 ∧ s.on F.SB_TC_CTRL_SELFTEST_EN 3 = true ∧ s.count = 3000000 ∧
      ((s.rgn 3).tcServed[7]?).getD 0 < 3000000) ∧ ∀ j, j < 7 → (s.rgn 3).tcWait.testBit j = false ∧
        ((s.rgn 3).tcServed[j]?).getD 0 = 3000000 := by decide +kernel
  obtain ⟨⟨h1, h2, h3, h4, h5, h6⟩, h7⟩ := h s hs
  refine ⟨h1, h2, h3, ⟨h4, ⟨1, by decide⟩, by omega, by omega, h6⟩, fun j hj => ?_⟩
  obtain ⟨h8, h9⟩ := h7 j hj
  rintro (hw | ⟨d, -, -, hd, -, hs⟩)
  · rw [h8] at hw
    exact Bool.false_ne_true hw
  · omega

theorem witness_TcTests_trim :
    (∀ st, (trimHolds.calRgn 3).step = some st → st.stage = 1 ∧ st.started = true) ∧
      ∀ st, ((testing7 served7 0).calRgn 3).step = some st → st.stage = 1 → st.started = false := by
  constructor
  · intro st h
    have e : (trimHolds.calRgn 3).step = some { stage := 1, started := true } := by decide +kernel
    obtain rfl := Option.some.inj (e.symm.trans h)
    exact ⟨rfl, rfl⟩
  · intro st h
    have e : ((testing7 served7 0).calRgn 3).step = none := by decide +kernel
    exact nomatch e.symm.trans h

theorem witness_TestRuns :
    (ComesOn (underTest (run7 0 0)) 3 (lowReading 0).busBad ∧
      ((underTest (run7 0 0)).rgn 3).tcTest = some (run7 0 0) ∧ (run7 0 0).tc < 8 ∧ (run7 0 0).edges % 2 = 0) ∧
    (let s : State := underTest (run7 1 29);
      ComesOn s 3 (lowReading 0).busBad ∧ (s.rgn 3).tcTest = some (run7 1 29) ∧ (run7 1 29).tc < 8 ∧
      (run7 1 29).edges % 2 = 1 ∧ ¬(30 ≤ (run7 1 29).bypass ∧ (lowReading 0).raw[(run7 1 29).tc]?.getD 0 ≤ 1) ∧
      (run7 1 29).edges < 3) ∧
    (let s : State := underTest (run7 1 30);
      ComesOn s 3 (lowReading 1).busBad ∧ (s.rgn 3).tcTest = some (run7 1 30) ∧ (run7 1 30).tc < 8 ∧
      (run7 1 30).edges % 2 = 1 ∧ (30 ≤ (run7 1 30).bypass ∧
      (lowReading 1).raw[(run7 1 30).tc]?.getD 0 ≤ 1 ∨ 3 ≤ (run7 1 30).edges)) ∧
    (let s : State := underTest (run7 3 30);
      ComesOn s 3 (lowReading 2).busBad ∧ (s.rgn 3).tcTest = some (run7 3 30) ∧ (run7 3 30).tc < 8 ∧
      (run7 3 30).edges % 2 = 1 ∧ (30 ≤ (run7 3 30).bypass ∧
      (lowReading 2).raw[(run7 3 30).tc]?.getD 0 ≤ 1 ∨ 3 ≤ (run7 3 30).edges) ∧ ¬(30 ≤ (run7 3 30).bypass ∧
      (lowReading 2).raw[(run7 3 30).tc]?.getD 0 ≤ 1) ∧
      (s.fget F.SB_TC_STATUS_EXCL 3).testBit (run7 3 30).tc = false ∧ 30 ≤ (run7 3 30).bypass) ∧
    (let s : State := underTest (run7 3 29);
      ComesOn s 3 (lowReading 2).busBad ∧ (s.rgn 3).tcTest = some (run7 3 29) ∧ (run7 3 29).tc < 8 ∧
      (run7 3 29).edges % 2 = 1 ∧ (30 ≤ (run7 3 29).bypass ∧
      (lowReading 2).raw[(run7 3 29).tc]?.getD 0 ≤ 1 ∨ 3 ≤ (run7 3 29).edges) ∧ ¬(30 ≤ (run7 3 29).bypass ∧
      (lowReading 2).raw[(run7 3 29).tc]?.getD 0 ≤ 1) ∧
      (s.fget F.SB_TC_STATUS_EXCL 3).testBit (run7 3 29).tc = false ∧ (run7 3 29).bypass < 30) := by
  unfold ComesOn; dsimp only; (repeat' apply And.intro) <;> decide +kernel

/-- TestLeftWaits: the test that `witness_TcTests` shows as due, at a region edge. -/
theorem witness_TestLeftWaits : ComesOn (testing7 served7 0) 3 false := by unfold ComesOn; decide +kernel

theorem witness_TcRefresh :
    (read8.por = false ∧ 3 < read8.build.nRegions ∧ read8.stn.locked = true ∧ read8.count % 64 = 0 ∧
      (read8.rgn 3).readings = [31, 0, 7, 8, 9, 10, 11, 12] ∧ 31 < 32 ∧ 0 < 32 ∧ 7 < 32 ∧ 8 < 32 ∧ 9 < 32 ∧
      10 < 32 ∧ 11 < 32 ∧ 12 < 32 ∧ read8.fget F.SB_TC_STATUS_EXCL 3 ≠ 255) ∧
    (let s : State := read8.fset F.SB_TC_STATUS_EXCL 3 255;
      s.por = false ∧ 3 < s.build.nRegions ∧ s.stn.locked = true ∧ s.count % 64 = 0 ∧
      (s.rgn 3).readings = [31, 0, 7, 8, 9, 10, 11, 12] ∧ 31 < 32 ∧ 0 < 32 ∧ 7 < 32 ∧ 8 < 32 ∧ 9 < 32 ∧ 10 < 32 ∧
      11 < 32 ∧ 12 < 32 ∧ s.fget F.SB_TC_STATUS_EXCL 3 = 255) := by
  dsimp only; (repeat' apply And.intro) <;> decide +kernel

theorem witness_Strobe :
    (Comes (strobed3 0 none) 3 ∧ ((strobed3 0 none).rgn 3).masked = false ∧
      (strobed3 0 none).on F.SEC_HEADWAY_ACTIVE ((strobed3 0 none).build.sectionOf 3) = false ∧ 15 < 16 ∧
      (15 = 0 ∨ (strobed3 0 none).on F.SB_STRETCH_PROFILE_EN 3 = false)) ∧
    (let s : State := strobed3 1 (some { entries := [1], intensity := 1 : Play });
      Comes s 3 ∧ (s.rgn 3).masked = false ∧ s.on F.SEC_HEADWAY_ACTIVE (s.build.sectionOf 3) = false ∧ 15 < 16 ∧
      0 < 15 ∧ s.on F.SB_STRETCH_PROFILE_EN 3 = true ∧ (s.rgn 3).play ≠ none) := by
  unfold Comes ComesOn; dsimp only; (repeat' apply And.intro) <;> decide +kernel

theorem witness_Refit :
    let s : State := box 3 { refit := some { entries := [], intensity := 15 : Play } : Rgn };
      let p : Play := { entries := [], intensity := 15 : Play };
      Comes s 3 ∧ (s.rgn 3).refit = some p ∧ (s.rgn 3).weights.length = 16 ∧ p.lows.length = 16 ∧
      s.fget F.SB_CAL_STAT_PROFILE 3 ≠ 1 := by
  unfold Comes ComesOn; dsimp only; (repeat' apply And.intro) <;> decide +kernel

/-! ### Junctions and Interchanges -/

def jct0 : Cell := { isJct := true, key := 0, idx := 0, writer := 0, reader := 1, depth := 16, width := 64 }
def ich0 : Cell := { isJct := false, key := 4096, idx := 0, writer := 0, reader := 2, depth := 16, width := 64 }
/-- Both Sections are READY; regions 0, 1 and 2 have just delivered an edge, region 0 its tenth, the others their twelfth,
and the next comes before the next tick edge. -/
def edges : State :=
  let run (s : State) (k : Nat) : State :=
    (s.fset F.SEC_STATUS_STATE k 3).setSec k { released := true, everReleased := true, readSeen := true, t0 := 40000, acc := 65536 * 9 }
  let at_ (s : State) (r n pos : Nat) : State :=
    (s.fset F.SB_CLK_STATUS_STATE r 1).setRgn r { sinceStart := 1, edges := n, pos }
  at_ (at_ (at_ (run (run (live 64000) 0) 1) 0 10 130) 1 12 135) 2 12 135
/-- An entry that region 0 wrote three edges ago. -/
def entry0 : Nat × EdgePt := (7, { edges.edgePt jct0 0 with pos := 82 })
def entryI : Nat × EdgePt := (7, { edges.edgePt ich0 0 with rEdges := 10 })
/-- Junction 0 or Interchange 0 in a STATE, with what it holds. -/
def cell (c : Cell) (state : Nat) (x : Xing) : State := (edges.fset c.stateF c.idx state).setXing c.key x
def running : Xing := { wRun := true, rRun := true }
def holds (n : Nat) (e : Nat × EdgePt) : Xing := { running with entries := List.replicate n e }
def flush1 : Flush := { cause := 1, wDue := false, rDue := true, rFrom := 10 }
def flush2 : Flush := { cause := 2, n := 255, wDue := true, rDue := false, wFrom := 7 }
def flush4 : Flush := { cause := 4, wDue := true, rDue := true, wFrom := 8, rFrom := 9 }
/-- Both flush edges have passed, the acknowledgement not seen, and seen; a flush of both sides. -/
def passed1 : Flush := { cause := 1, wDue := false, rDue := false, ackFrom := some 8 }
def acked1 : Flush := { passed1 with acked := true }
def passed3 : Flush := { cause := 3, wDue := false, rDue := false, recorded := true }
/-- The levels of a handshake, changed when the side that is to see them had delivered two edges fewer. -/
def hand (step : Nat) (starter : Side) : Hand := { starter, step, from_ := if (step % 2 == 1) = (starter == .writer) then 10 else 8 }
/-- Crossings with a ready pin, an EYE unit, a valid pin, a flush. -/
def readyCell : Xing := { holds 15 entry0 with wReady := true }
def eyeCell : Xing := { running with eyeUnit := true }
def validCell : Xing := { holds 1 entry0 with rValid := true }
def flushCell : Xing := { holds 3 entry0 with chan := { flush := some flush1 } }

theorem witness_WriterEdge :
    let s : State := cell jct0 1 (holds 15 entry0);
      ComesOn s jct0.writer { : EdgeIn }.busBad ∧ HasCell s (XId.jct 0) jct0 ∧ jct0.writer ≠ jct0.reader ∧
      jct0.isJct = true := by
  unfold ComesOn HasCell; dsimp only; (repeat' apply And.intro) <;> decide +kernel

theorem witness_ReaderEdge :
    let s : State := cell jct0 1 (holds 1 entry0);
      ComesOn s jct0.reader { : EdgeIn }.busBad ∧ HasCell s (XId.jct 0) jct0 ∧ jct0.writer ≠ jct0.reader ∧
      jct0.isJct = true := by
  unfold ComesOn HasCell; dsimp only; (repeat' apply And.intro) <;> decide +kernel

theorem witness_XWrite :
    (let s : State := cell jct0 1 readyCell;
      s.por = false ∧ HasCell s (XId.jct 0) jct0 ∧ AtEdge s jct0.writer ∧
      (s.xing jct0.key).wLast ≠ some (s.rgn jct0.writer).edges ∧ (s.xing jct0.key).wReady = true ∧
      (s.xing jct0.key).wRun = true) ∧
    (let s : State := cell jct0 1 (holds 16 entry0);
      s.por = false ∧ HasCell s (XId.jct 0) jct0 ∧ AtEdge s jct0.writer ∧
      (s.xing jct0.key).wLast ≠ some (s.rgn jct0.writer).edges ∧
      ((s.xing jct0.key).wReady = false ∨ (s.xing jct0.key).wRun = false) ∧ jct0.isJct = true ∧
      (s.xing jct0.key).wRun = true ∧ (s.xing jct0.key).chan.wRst = false ∧ (s.xing jct0.key).eyeUnit = false ∧
      jct0.depth ≤ (s.xing jct0.key).entries.length + (s.xing jct0.key).reads.length + (s.xing jct0.key).gone) ∧
    ((cell jct0 1 eyeCell).por = false ∧ HasCell (cell jct0 1 eyeCell) (XId.jct 0) jct0 ∧
      AtEdge (cell jct0 1 eyeCell) jct0.writer ∧
      ((cell jct0 1 eyeCell).xing jct0.key).wLast ≠ some ((cell jct0 1 eyeCell).rgn jct0.writer).edges ∧
      (((cell jct0 1 eyeCell).xing jct0.key).wReady = false ∨ ((cell jct0 1 eyeCell).xing jct0.key).wRun = false) ∧
      jct0.isJct = true ∧
      (((cell jct0 1 eyeCell).xing jct0.key).wRun = false ∨ ((cell jct0 1 eyeCell).xing jct0.key).chan.wRst = true
        ∨ ((cell jct0 1 eyeCell).xing jct0.key).eyeUnit = true ∨ ((cell jct0 1 eyeCell).xing
        jct0.key).entries.length + ((cell jct0 1 eyeCell).xing jct0.key).reads.length + ((cell jct0 1 eyeCell).xing
        jct0.key).gone < jct0.depth)) ∧
    (let s : State := cell ich0 1 (holds 16 entryI);
      s.por = false ∧ HasCell s (XId.ich 0) ich0 ∧ AtEdge s ich0.writer ∧
      (s.xing ich0.key).wLast ≠ some (s.rgn ich0.writer).edges ∧
      ((s.xing ich0.key).wReady = false ∨ (s.xing ich0.key).wRun = false) ∧ ich0.isJct = false) := by
  unfold HasCell AtEdge; dsimp only; (repeat' apply And.intro) <;> decide +kernel

theorem witness_XRead :
    (let s : State := cell jct0 1 validCell;
      s.por = false ∧ HasCell s (XId.jct 0) jct0 ∧ AtEdge s jct0.reader ∧
      (s.xing jct0.key).rLast ≠ some (s.rgn jct0.reader).edges ∧ (s.xing jct0.key).rValid = true ∧
      (s.xing jct0.key).rRun = true) ∧
    ((cell jct0 1 running).por = false ∧ HasCell (cell jct0 1 running) (XId.jct 0) jct0 ∧
      AtEdge (cell jct0 1 running) jct0.reader ∧
      ((cell jct0 1 running).xing jct0.key).rLast ≠ some ((cell jct0 1 running).rgn jct0.reader).edges ∧
      (((cell jct0 1 running).xing jct0.key).rValid = false ∨ ((cell jct0 1 running).xing jct0.key).rRun = false))
        ∧
    (let s : State := cell ich0 1 (holds 1 entryI);
      s.por = false ∧ HasCell s (XId.ich 0) ich0 ∧ AtEdge s ich0.reader ∧
      (s.xing ich0.key).rLast ≠ some (s.rgn ich0.reader).edges ∧
      ((s.xing ich0.key).rValid = false ∨ (s.xing ich0.key).rRun = false) ∧ ich0.isJct = false) := by
  unfold HasCell AtEdge; dsimp only; (repeat' apply And.intro) <;> decide +kernel

theorem witness_XResetAssert :
    (let s : State := cell jct0 0 { : Xing };
      s.por = false ∧ HasCell s (XId.jct 0) jct0 ∧ Side.reader ≠ Side.writer ∧
      (s.xing jct0.key).chan.rst Side.writer = false ∧ s.xState jct0 = 0) ∧
    (let s : State := cell ich0 1 (holds 16 entryI);
      s.por = false ∧ HasCell s (XId.ich 0) ich0 ∧ Side.writer ≠ Side.reader ∧
      (s.xing ich0.key).chan.rst Side.reader = false ∧ s.xState ich0 ≠ 0) ∧
    (let s : State := cell jct0 2 { chan := { wRst := true, flush := some flush1 : Chan } : Xing };
      s.por = false ∧ HasCell s (XId.jct 0) jct0 ∧ Side.reader ≠ Side.writer ∧
      (s.xing jct0.key).chan.rst Side.writer = true) := by
  unfold HasCell; dsimp only; (repeat' apply And.intro) <;> decide +kernel

theorem witness_XFlush :
    (let s : State := cell jct0 2 flushCell;
      s.por = false ∧ HasCell s (XId.jct 0) jct0 ∧ jct0.idx < 2048 ∧ Side.writer ≠ Side.reader ∧
      FlushMayCome s (s.xing jct0.key).chan Side.reader (jct0.side Side.reader) flush1 ∧ flush1.recorded = false ∧
      flush1.cause < 16 ∧ flush1.due Side.writer = false ∧ jct0.isJct = true) ∧
    (let s : State := cell ich0 2 { chan := { flush := some flush4 : Chan } : Xing };
      s.por = false ∧ HasCell s (XId.ich 0) ich0 ∧ ich0.idx < 2048 ∧ Side.reader ≠ Side.writer ∧
      FlushMayCome s (s.xing ich0.key).chan Side.writer (ich0.side Side.writer) flush4 ∧ flush4.recorded = false ∧
      flush4.cause < 16 ∧ flush4.due Side.reader = true) ∧
    (let s : State := cell ich0 2 { chan := { flush := some flush2 : Chan } : Xing };
      s.por = false ∧ HasCell s (XId.ich 0) ich0 ∧ ich0.idx < 2048 ∧ Side.reader ≠ Side.writer ∧
      FlushMayCome s (s.xing ich0.key).chan Side.writer (ich0.side Side.writer) flush2 ∧ flush2.recorded = false ∧
      flush2.cause < 16 ∧ flush2.due Side.reader = false ∧ ¬ich0.isJct = true) := by
  unfold HasCell FlushMayCome SeenAfter AtEdge; dsimp only; (repeat' apply And.intro) <;> decide +kernel

theorem witness_XRestart :
    (let s : State := cell jct0 3
        { chan := { flush := some passed1, hand := some (hand 3 Side.writer) : Chan } : Xing };
      s.por = false ∧ HasCell s (XId.jct 0) jct0 ∧ Side.writer ≠ Side.reader ∧ AtEdge s (jct0.side Side.reader) ∧
      s.shadow = [] ∧
      Ending (s.xing jct0.key).chan Side.reader (s.rgn (jct0.side Side.reader)).edges (hand 3 Side.writer) ∧
      (hand 3 Side.writer).step = 3) ∧
    (let s : State := cell ich0 3
        { chan := { flush := some passed3, hand := some (hand 4 Side.reader) : Chan } : Xing };
      s.por = false ∧ HasCell s (XId.ich 0) ich0 ∧ Side.writer ≠ Side.reader ∧ AtEdge s (ich0.side Side.reader) ∧
      s.shadow = [] ∧
      Ending (s.xing ich0.key).chan Side.reader (s.rgn (ich0.side Side.reader)).edges (hand 4 Side.reader) ∧
      (hand 4 Side.reader).step = 4) := by
  unfold HasCell AtEdge Ending SeenAfter; dsimp only; (repeat' apply And.intro) <;> decide +kernel

theorem witness_XParity :
    ((cell jct0 1 running).por = false ∧ HasCell (cell jct0 1 running) (XId.jct 0) jct0 ∧ jct0.idx < 2048 ∧
      (jct0.isJct = true ∨ Side.writer = Side.reader) ∧ AtEdge (cell jct0 1 running) (jct0.side Side.reader) ∧
      (cell jct0 1 running).xState jct0 ≠ 0 ∧ ((cell jct0 1 running).xing jct0.key).chan.wRst = false ∧
      ((cell jct0 1 running).xing jct0.key).chan.rRst = false) ∧
    (let s : State := cell ich0 0 { : Xing };
      s.por = false ∧ HasCell s (XId.ich 0) ich0 ∧ ich0.idx < 2048 ∧
      (ich0.isJct = true ∨ Side.reader = Side.reader) ∧ AtEdge s (ich0.side Side.reader) ∧
      (s.xState ich0 = 0 ∨ (s.xing ich0.key).chan.wRst = true ∨ (s.xing ich0.key).chan.rRst = true)) := by
  unfold HasCell AtEdge; dsimp only; (repeat' apply And.intro) <;> decide +kernel

theorem witness_XWrites :
    (HostCell (cell jct0 1 running) (XId.jct 0) jct0 ∧ (cell jct0 1 running).on jct0.realignF jct0.idx = false ∧
      (cell jct0 1 running).xState jct0 = 1) ∧
    (let s : State := (cell ich0 3 { : Xing }).fset F.ICH_CFG_REALIGN 0 1;
      HostCell s (XId.ich 0) ich0 ∧ (s.on ich0.realignF ich0.idx = true ∨ s.xState ich0 ≠ 1)) := by
  unfold HostCell HostMay; dsimp only; (repeat' apply And.intro) <;> decide +kernel

theorem witness_XAlign :
    let s : State := cell jct0 0 { entries := List.replicate 15 entry0 : Xing };
      s.por = false ∧ s.build.cell (XId.jct 0) = some jct0 ∧ s.xState jct0 = 0 ∧
      (s.xing jct0.key).chan.hand = none ∧ (s.xing jct0.key).chan.wRst = false ∧
      (s.xing jct0.key).chan.rRst = false ∧ (s.sec (s.build.sectionOf jct0.writer)).released = true ∧
      (s.sec (s.build.sectionOf jct0.reader)).released = true ∧ s.stn.locked = true ∧ s.count % 64 = 0 ∧
      (s.xing jct0.key).entries.length < 2 ^ jct0.occF.w := by
  dsimp only; (repeat' apply And.intro) <;> decide +kernel

/-- The clauses of ChanEdge, at an edge of the writer, its eleventh, or of the reader, its thirteenth: a flush whose
acknowledgement this edge sees or that may start already; nothing; each level of a handshake that this edge changes, and one
that it does not. -/
theorem witness_ChanEdge :
    (∀ f ∈ [passed1, acked1], ∀ x ∈ [cell jct0 2 { chan := { flush := some f } }], (x.xing 0).chan.flush = some f ∧
      (x.xing 0).chan.hand = none ∧ f.cause = 1 ∧ SeenAfter true 8 11 ∧ ((x.xing 0).chan.wRst = false ∧
      (x.xing 0).chan.rRst = false ∧ f.wDue = false ∧ f.rDue = false)) ∧
      (((cell jct0 1 running).xing 0).chan.flush = none ∧ ((cell jct0 1 running).xing 0).chan.hand = none) ∧
      (∀ x ∈ [(hand 0 .writer, 0, Side.writer), (hand 1 .reader, 1, .writer), (hand 2 .writer, 2, .writer), (hand 2
        .reader, 2, .reader)], ((cell jct0 3 { chan := { hand := some x.1 } }).xing 0).chan.hand = some x.1 ∧
      x.1.step = x.2.1 ∧ ((x.2.1 = 1) ≠ (x.1.starter = x.2.2)) ∧
      (x.2.1 = 0 ∨ SeenAfter false x.1.from_ (if x.2.2 = .writer then 11 else 13))) ∧
      ¬ SeenAfter true (hand 1 .writer).from_ 12 := by
  unfold SeenAfter
  decide +kernel

/-- The clauses of Deasserted: the handshake waited for this side, and did not. -/
theorem witness_Deasserted :
    MayStart { ((cell jct0 2 { chan := { wRst := true, flush := some acked1 } }).xing 0).chan with wRst := false } .writer acked1 ∧
      ∀ g, ¬ MayStart { ((cell jct0 2 { chan := { rRst := true, flush := some passed3 } }).xing 0).chan with rRst := true } .reader g :=
  ⟨by unfold MayStart starts; decide +kernel, fun _ h => nomatch h.2.2.1⟩

/-- CrossingsNeverOverfill. -/
theorem witness_CrossingsNeverOverfill :
    State.reset.build.junctions.length ≤ 1536 ∧ Fits State.reset ∧ step State.reset = .next State.reset ∧
      State.reset.test.used = false :=
  ⟨by decide +kernel, fun _ _ _ => ⟨Nat.zero_le _, fun h => nomatch h⟩, rfl, rfl⟩

/-! ### Token crossings -/

/-- Token crossing 0 carries counts from region 0 to region 1, 1 a word from region 1 to region 2. -/
def tok0 : TokBuild := { src := 0, dst := 1 }
def tok1 : TokBuild := { src := 1, dst := 2, word := true }
def tokens (k : Nat) (x : Tok) : State := edges.setTok k x
def sent (v : Nat) : Tok := { out := some v, arr := some v, req := true, reqAt := 10 }
/-- Word crossings with a request seen, a count, a flush of the first source edge or of the fourth. -/
def sentSeen : Tok := { sent 65535 with seenAt := some 11, reqAt := 9 }
def sentCount : Tok := { sent 3 with p := 3 }
def sentFlush1 : Tok := { sent 3 with sRun := false, chan := { flush := some flush1 } }
def sentFlush4 : Tok := { sent 3 with chan := { flush := some flush4 } }

theorem witness_TokEdge :
    let s : State := tokens 0 { chan := { flush := some passed1 : Chan } : Tok };
      ComesOn s (if Side.writer = Side.writer then tok0.src else tok0.dst) { : EdgeIn }.busBad ∧
      s.build.tokens[0]? = some tok0 ∧ tok0.src ≠ tok0.dst := by
  unfold ComesOn; dsimp only; (repeat' apply And.intro) <;> decide +kernel

theorem witness_TokSends :
    (let s : State := tokens 0 { p := 65535 : Tok };
      SrcEdge s 0 tok0 ∧ tok0.word = false ∧ (s.tok 0).out = none) ∧
    (SrcEdge (tokens 0 (sent 1)) 0 tok0 ∧ tok0.word = false ∧ ((tokens 0 (sent 1)).tok 0).out ≠ none) ∧
    (SrcEdge (tokens 1 { : Tok }) 1 tok1 ∧ tok1.word = true ∧ ((tokens 1 { : Tok }).tok 1).out = none) ∧
    (SrcEdge (tokens 1 (sent 1)) 1 tok1 ∧ tok1.word = true ∧ ((tokens 1 (sent 1)).tok 1).out ≠ none) := by
  unfold SrcEdge AtEdge; dsimp only; (repeat' apply And.intro) <;> decide +kernel

theorem witness_TokDelivers :
    (let s : State := tokens 0 (sent 65534);
      DstEdge s 0 tok0 ∧ Arrives s 0 tok0 65534 ∧ tok0.word = false ∧ 65534 ≠ 65535) ∧
    (DstEdge (tokens 0 sentSeen) 0 tok0 ∧ Arrives (tokens 0 sentSeen) 0 tok0 65535 ∧ tok0.word = false) ∧
    (DstEdge (tokens 1 (sent 9)) 1 tok1 ∧ Arrives (tokens 1 (sent 9)) 1 tok1 9 ∧ tok1.word = true) := by
  unfold DstEdge AtEdge Arrives SeenAfter; dsimp only; (repeat' apply And.intro) <;> decide +kernel

theorem witness_TokCompletes :
    (let s : State := tokens 0 { out := some 1, req := true, ack := true, ackAt := 8 : Tok };
      SrcEdge s 0 tok0 ∧ (s.tok 0).req = true ∧ (s.tok 0).ack = true ∧
      SeenAfter false (s.tok 0).ackAt (s.rgn tok0.src).edges) ∧
    (let s : State := tokens 0 { out := some 1, ack := true, reqAt := 10 : Tok };
      DstEdge s 0 tok0 ∧ (s.tok 0).req = false ∧ (s.tok 0).ack = true ∧
      SeenAfter false (s.tok 0).reqAt (s.rgn tok0.dst).edges) ∧
    (let s : State := tokens 0 { out := some 1, ackAt := 8 : Tok };
      SrcEdge s 0 tok0 ∧ (s.tok 0).out ≠ none ∧ (s.tok 0).req = false ∧ (s.tok 0).ack = false ∧
      SeenAfter false (s.tok 0).ackAt (s.rgn tok0.src).edges ∧ tok0.word = false ∧
      0 < if true = true then min 65535 ((s.tok 0).p + 1) else (s.tok 0).p) ∧
    (let s : State := tokens 1 { out := some 1, ackAt := 10 : Tok };
      SrcEdge s 1 tok1 ∧ (s.tok 1).out ≠ none ∧ (s.tok 1).req = false ∧ (s.tok 1).ack = false ∧
      SeenAfter false (s.tok 1).ackAt (s.rgn tok1.src).edges ∧
      (tok1.word = true ∨ (if false = true then min 65535 ((s.tok 1).p + 1) else (s.tok 1).p) = 0)) := by
  unfold SrcEdge AtEdge SeenAfter DstEdge; dsimp only; (repeat' apply And.intro) <;> decide +kernel

theorem witness_TokResets :
    ((tokens 0 sentCount).por = false ∧ (tokens 0 sentCount).build.tokens[0]? = some tok0 ∧
      Side.reader ≠ Side.writer ∧ ((tokens 0 sentCount).tok 0).chan.rst Side.writer = false ∧
      AtEdge (tokens 0 sentCount) (if Side.writer = Side.writer then tok0.src else tok0.dst)) ∧
    (let s : State := tokens 0 { chan := { wRst := true, flush := some flush1 : Chan } : Tok };
      s.por = false ∧ s.build.tokens[0]? = some tok0 ∧ Side.reader ≠ Side.writer ∧
      (s.tok 0).chan.rst Side.writer = true) ∧
    ((tokens 0 sentFlush1).por = false ∧ (tokens 0 sentFlush1).build.tokens[0]? = some tok0 ∧
      Side.writer ≠ Side.reader ∧
      FlushMayCome (tokens 0 sentFlush1) ((tokens 0 sentFlush1).tok 0).chan Side.reader (if Side.reader =
        Side.writer then tok0.src else tok0.dst) flush1 ∧ flush1.recorded = false ∧ flush1.cause < 16 ∧
      (Side.reader = Side.reader → ((tokens 0 sentFlush1).tok 0).seenAt ≠ some ((tokens 0 sentFlush1).rgn (if
        Side.reader = Side.writer then tok0.src else tok0.dst)).edges) ∧ flush1.due Side.writer = false) ∧
    ((tokens 0 sentFlush4).por = false ∧ (tokens 0 sentFlush4).build.tokens[0]? = some tok0 ∧
      Side.reader ≠ Side.writer ∧
      FlushMayCome (tokens 0 sentFlush4) ((tokens 0 sentFlush4).tok 0).chan Side.writer (if Side.writer =
        Side.writer then tok0.src else tok0.dst) flush4 ∧ flush4.recorded = false ∧ flush4.cause < 16 ∧
      (Side.writer = Side.reader → ((tokens 0 sentFlush4).tok 0).seenAt ≠ some ((tokens 0 sentFlush4).rgn (if
        Side.writer = Side.writer then tok0.src else tok0.dst)).edges) ∧ flush4.due Side.reader = true) ∧
    (let s : State := tokens 0
        { chan := { flush := some passed1, hand := some (hand 4 Side.writer) : Chan }, sRun := false : Tok };
      s.por = false ∧ s.build.tokens[0]? = some tok0 ∧ Side.reader ≠ Side.writer ∧
      AtEdge s (if Side.writer = Side.writer then tok0.src else tok0.dst) ∧
      Ending (s.tok 0).chan Side.writer (s.rgn (if Side.writer = Side.writer then tok0.src else tok0.dst)).edges
        (hand 4 Side.writer)) := by
  unfold Ending AtEdge FlushMayCome SeenAfter; dsimp only; (repeat' apply And.intro) <;> decide +kernel

/-! ### Calibration -/

/-- Both Sections run, region 3 among their regions' clocks, long quiet and idle; calibration is loaded, a lane serves
regions 1 and 3. -/
def calBase : State :=
  let g : Rgn := { masked := false, sinceStart := 1, idleRun := 4000, edges := 12, pos := 130 }
  { ((((edges.fset F.SB_CLK_STATUS_STATE 3 1).setRgn 3 g).setRgn 1 g).fset F.CAL_CTRL_REFINE_EN 0 1) with
      cal := { loaded := true, lanes := [3, 1] }, stn := { lockedStn 64000 with elapsed := 400000000 } }
/-- Region 3, which reads no Junction, with Section 1 in a state; region 1, which reads Junctions 0 and 2. -/
def calRun (state : Nat) (c : CalRgn) : State := (calBase.fset F.SEC_STATUS_STATE 1 state).setCalRgn 3 c
def calRun1 (c : CalRgn) : State := ((calBase.fset F.JCT_STAT_STATE 0 1).fset F.JCT_STAT_STATE 2 1).setCalRgn 1 c
/-- Region 3 with stages pending, in a phase of calibration. -/
def calPend (c : CalRgn) (pend phase : Nat) : State :=
  ((calRun 3 c).fset F.SB_CAL_STAT_PENDING 3 pend).fset F.CAL_STATUS_PHASE 0 phase
/-- Eight readings of 20, the last one 27. -/
def readings8 : List Int := [20, 20, 20, 20, 20, 20, 20, 27]
def trimmed : List Int := [0, 0, 0, 0, 0, 0, 0, -7]
def trimMeas : CalMeas := { a := readings8, b := readings8, verify := readings8 }
/-- 120 endpoints within taps of 0 to 127, and with one that needs a tap above 127. -/
def deskewMeas (last : Int) : CalMeas := { a := List.replicate 119 0 ++ [last], b := List.replicate 119 5 ++ [last] }
/-- Eyes of the paths of Junctions: PHASE 3 to 12 for each path, and none. -/
def eyeMeas (paths : Nat) : CalMeas := { a := List.replicate paths 0xE007, b := List.replicate paths 0xE007 }
def noEye : CalMeas := { a := [0xFFFF, 0], b := [0xFFFF, 0] }
def failed : CalMeas := { ok := false }
/-- Four endpoints that agree within 5 halves of a ps, four that do not, four of which one needs a tap above 127. -/
def agreeing : CalMeas := { a := [0, 1, 2, 3], b := [5, 1, 2, 3] }
def differing : CalMeas := { a := [0, 1, 2, 3], b := [6, 1, 2, 3] }
def spreading : CalMeas := { a := [0, 1, 2, 700], b := [0, 1, 2, 700] }
def deskewStep : CalStep := { stage := 0, started := true }
def trimStep : CalStep := { stage := 1, started := true }
def eyeStep : CalStep := { stage := 2, started := true }
def spotStep (st : Nat) : CalStep := { stage := st, spot := true, started := true }
/-- A complete bank, of every kind of value; one of a stage. -/
def fullBank : Bank :=
  { taps := some (List.replicate 120 127), trim := some (packTrims trimmed), phases := [(0, 15, 15, 31)], src := .init, doneAt := some 63968 }
def tapBank (src : BankSrc) : Bank := { taps := some (List.replicate 120 127), src, doneAt := some 63968 }
def saving (o : ImgOp) : State := { live 64000 with cal := { save := some o } }
def restoring (o : ImgOp) : State := { live 64000 with cal := { restore := some o } }
/-- An image that this die would save, with another header; region 1's bank holds what its tile gives. -/
def image : ImageIn := { tiles := (List.range small.imgTiles).map ((restoring {}).imgTileAt 5 1000) }
def badImage : ImageIn := { image with tiles := image.tiles.drop 1 }
def restored : State :=
  (restoring { pos := 12, gen := 5, loaded := some 63968 }).setCalRgn 1 { bank := some { tapBank .image with weights := none } }

theorem witness_InitSteps :
    (let s : State := calRun 2 { : CalRgn };
      InitDue s 3 InitStep.entry ∧ { : CalMeas }.disturbed = false ∧ (s.calRgn 3).initVerify = false ∧
      { : CalMeas }.ok = true) ∧
    (let s : State := calRun 2 { init := 1 : CalRgn };
      InitDue s 3 InitStep.trim ∧ trimMeas.disturbed = false ∧ (s.calRgn 3).initVerify = false ∧
      s.trimResult 3 trimMeas = some (20, trimmed)) ∧
    (let s : State := calRun 2
        { init := 1, initVerify := true, storeTrim := packTrims trimmed, trimMid := 20 : CalRgn };
      InitDue s 3 InitStep.trim ∧ trimMeas.disturbed = false ∧ (s.calRgn 3).initVerify = true ∧
      tcErr trimMeas.verify (unpackTrims (s.calRgn 3).storeTrim) (s.trimKs 3) (s.calRgn 3).trimMid ≤ 1) ∧
    (let s : State := calRun 2 { init := 2 : CalRgn };
      InitDue s 3 InitStep.deskew ∧ (deskewMeas 0).disturbed = false ∧ (s.calRgn 3).initVerify = false ∧
      (deskewMeas 0).a.length = 120 ∧ agree 5 (deskewMeas 0).a (deskewMeas 0).b = true ∧
      (∀ x ∈ deskewTaps (meanOf (deskewMeas 0).a (deskewMeas 0).b) (s.rgn 3).taps, x ≤ 127)) ∧
    (let s : State := calRun 2 { init := 2, initVerify := true : CalRgn };
      let m : CalMeas := { verify := [20] : CalMeas };
      InitDue s 3 InitStep.deskew ∧ m.disturbed = false ∧ (s.calRgn 3).initVerify = true ∧
      m.verify.head? = some 20 ∧ 20 ≤ 20) ∧
    (let s : State := calRun1 { init := 3 : CalRgn };
      InitDue s 1 InitStep.eye ∧ (eyeMeas 4).disturbed = false ∧ (s.calRgn 1).initVerify = false ∧
      (∀ i < (s.build.jctsRead 1).length, (eyeAt (eyeMeas 4) i).2.2.2 = true ∧
      s.fget F.CAL_CFG_EYE_MIN 0 ≤ (eyeAt (eyeMeas 4) i).2.2.1)) := by
  unfold InitDue; dsimp only; (repeat' apply And.intro) <;> decide +kernel

/-- InitSteps: a tap above 127. -/
theorem witness_InitSteps_tap :
    InitDue (calRun 2 { init := 2 }) 3 .deskew ∧ (deskewMeas 700).a.length = 120 ∧
      agree 5 (deskewMeas 700).a (deskewMeas 700).b = true ∧ ∃ i x, i < 120 ∧
        (deskewTaps (meanOf (deskewMeas 700).a (deskewMeas 700).b) ((calRun 2 { init := 2 }).rgn 3).taps)[i]? = some x ∧ 127 < x :=
  ⟨by unfold InitDue; decide +kernel, by decide +kernel, by decide +kernel, 0, 148, by decide +kernel⟩

/-- AttemptFails: a disturbance, the Entry checks, measurements that do not agree, an eye too narrow, a verifying measurement
that is high; at the third and at the fourth failure. -/
theorem witness_AttemptFails :
    (InitDue (calRun 2 { initTries := 2 }) 3 .entry ∧ AttemptFails (calRun 2 { initTries := 2 }) 3 .entry failed) ∧
      (InitDue (calRun 2 { initTries := 3 }) 3 .entry ∧ AttemptFails (calRun 2 { initTries := 3 }) 3 .entry { disturbed := true }) ∧
      (InitDue (calRun 2 { init := 1 }) 3 .trim ∧ AttemptFails (calRun 2 { init := 1 }) 3 .trim {}) ∧
      (InitDue (calRun 2 { init := 2 }) 3 .deskew ∧ AttemptFails (calRun 2 { init := 2 }) 3 .deskew differing) ∧
      (InitDue (calRun 2 { init := 2, initVerify := true }) 3 .deskew ∧
        AttemptFails (calRun 2 { init := 2, initVerify := true }) 3 .deskew { verify := [21] }) ∧
      (InitDue (calRun1 { init := 3 }) 1 .eye ∧ AttemptFails (calRun1 { init := 3 }) 1 .eye noEye) := by
  refine ⟨⟨by unfold InitDue; decide +kernel, .inr (.inr (by decide +kernel))⟩, ⟨by unfold InitDue; decide +kernel, .inl rfl⟩,
    ⟨by unfold InitDue; decide +kernel, .inr (.inr ⟨by decide +kernel, .inr (.inl (by decide +kernel))⟩)⟩,
    ⟨by unfold InitDue; decide +kernel, .inr (.inr ⟨by decide +kernel, .inr (.inr (.inl (by decide +kernel)))⟩)⟩,
    ⟨by unfold InitDue; decide +kernel, .inr (.inl ⟨by decide +kernel, .inr ⟨rfl, 21, rfl, by decide⟩⟩)⟩,
    ⟨by unfold InitDue; decide +kernel, .inr (.inr ⟨by decide +kernel, .inr (.inr (.inr ⟨rfl, 0, by decide +kernel⟩))⟩)⟩⟩

/-- StepStart: the first stage pending, the stage that is being served, EYE of a region that reads no Junction, nothing to
do. -/
theorem witness_StepStart :
    (∀ x ∈ [(calPend {} 7 3, 0), (calPend { cur := some 1 } 7 4, 1), (calPend {} 4 3, 2), (calPend {} 0 4, 0)],
        MayStep x.1 3 ∧ (x.1.calRgn 3).step = none ∧ (x.1.calRgn 3).bank = none ∧
      3 ∈ (lanesFilled x.1).take (lanesUsed x.1) ∧ x.1.fget F.SB_CAL_STAT_PENDING 3 < 8 ∧
      (x.1.calRgn 3).spots < 8 ∧ (x.2 = 1 → (x.1.calRgn 3).cur = some 1)) ∧
      ((calPend {} 7 3).calRgn 3).cur = none ∧ ((calPend {} 7 3).fget F.SB_CAL_STAT_PENDING 3).testBit 0 = true ∧
      small.jctsRead 3 = [] ∧ ((calPend {} 4 3).fget F.SB_CAL_STAT_PENDING 3) = 4 ∧
      ((calPend {} 0 4).fget F.SB_CAL_STAT_PENDING 3) = 0 := by
  unfold MayStep
  decide +kernel
/-- The last edge of a unit of DESKEW. -/
def deskewLast : CalStep := { deskewStep with left := 1 }

theorem witness_UnitStart :
    let s : State := calRun 3 { step := some { stage := 0 : CalStep } : CalRgn };
      let x : CalStep := { stage := 0 : CalStep };
      s.por = false ∧ AtEdge s 3 ∧ (s.rgn 3).masked = false ∧ (s.calRgn 3).step = some x ∧ 1 ≤ 16 ∧ 16 ≤ 16 ∧
      (s.fget F.CAL_CFG_MIN_IDLE 0 < (s.rgn 3).idleRun ∨ s.on F.SEC_SLOT_ACTIVE (s.build.sectionOf 3) = true ∨ s.on
        F.CAL_CTRL_FORCE 0 = true ∧ s.secState (s.build.sectionOf 3) = 3) ∧ (x.started = true ∨ MayStep s 3) ∧
      s.stn.warm = false ∧ 3 ∈ List.take (lanesUsed s) s.cal.lanes ∧ x.left = 0 ∧
      x.unitEnd ≠ some (s.rgn 3).edges ∧
      (s.on F.SEC_SLOT_ACTIVE (s.build.sectionOf 3) = true → (s.rgn 3).tLast.num * ((s.fwCur (s.build.sectionOf 3)
        : ℕ) : ℤ) + (((16 - 1) * 65536 * (s.rgn 3).tLast.den : ℕ) : ℤ) < (((s.sec (s.build.sectionOf 3)).slotEnd *
        (s.rgn 3).tLast.den * s.fwCur (s.build.sectionOf 3) : ℕ) : ℤ)) ∧
      (∀ j ∈ Claim.measured s 3 x, (s.xing j).entries = []) ∧ (x.stage = 1 → (s.rgn 3).moved = false) := by
  unfold AtEdge MayStep; dsimp only; (repeat' apply And.intro) <;> decide +kernel

theorem witness_UnitEdge :
    let s : State := calRun 3 { step := some deskewLast : CalRgn };
      let inp : EdgeIn := { act := 2 : EdgeIn };
      ComesOn s 3 inp.busBad ∧ (s.calRgn 3).step = some deskewLast ∧ deskewLast.started = true ∧
      0 < deskewLast.left ∧ deskewLast.stage < 3 := by
  unfold ComesOn; dsimp only; (repeat' apply And.intro) <;> decide +kernel

/-- UnitEdge, an edge that disturbs nothing: the last of a unit of DESKEW. -/
theorem witness_UnitEdge_quiet :
    ComesOn (calRun 3 { step := some deskewLast }) 3 false ∧
      ((calRun 3 { step := some deskewLast }).calRgn 3).step = some deskewLast ∧
      ((calRun 3 { step := some deskewLast }).rgn 3).strobed = false := by
  unfold ComesOn
  decide +kernel

theorem witness_StepDone :
    (let s : State := calRun 3 { step := some deskewStep, item := 28 : CalRgn };
      s.por = false ∧ (s.calRgn 3).step = some deskewStep ∧ deskewStep.started = true ∧ deskewStep.left = 0 ∧
      deskewStep.spot = false ∧ deskewStep.stage = 0 ∧ (s.calRgn 3).verify = false ∧ agreeing.a.length = 4 ∧
      agree 5 agreeing.a agreeing.b = true ∧ (s.calRgn 3).item + 1 < 30) ∧
    (let s : State := calRun 3 { step := some deskewStep, item := 29 : CalRgn };
      s.por = false ∧ (s.calRgn 3).step = some deskewStep ∧ deskewStep.started = true ∧ deskewStep.left = 0 ∧
      deskewStep.spot = false ∧ deskewStep.stage = 0 ∧ (s.calRgn 3).verify = false ∧ agreeing.a.length = 4 ∧
      agree 5 agreeing.a agreeing.b = true ∧ (s.calRgn 3).item + 1 = 30 ∧
      (∀ v ∈ deskewTaps ((s.calRgn 3).means ++ meanOf agreeing.a agreeing.b) (s.rgn 3).taps, v ≤ 127)) ∧
    (let s : State := calRun 3 { step := some deskewStep, tries := 2 : CalRgn };
      s.por = false ∧ (s.calRgn 3).step = some deskewStep ∧ deskewStep.started = true ∧ deskewStep.left = 0 ∧
      deskewStep.spot = false ∧ deskewStep.stage = 0 ∧ (s.calRgn 3).verify = false ∧ ¬(differing.a.length = 4 ∧
      agree 5 differing.a differing.b = true)) ∧
    (let s : State := calRun 3 { step := some trimStep : CalRgn };
      s.por = false ∧ (s.calRgn 3).step = some trimStep ∧ trimStep.started = true ∧ trimStep.left = 0 ∧
      trimStep.spot = false ∧ trimStep.stage = 1 ∧ (s.calRgn 3).verify = false ∧
      s.trimResult 3 trimMeas = some (20, trimmed)) ∧
    (let s : State := calRun 3 { step := some trimStep, tries := 3 : CalRgn };
      s.por = false ∧ (s.calRgn 3).step = some trimStep ∧ trimStep.started = true ∧ trimStep.left = 0 ∧
      trimStep.spot = false ∧ trimStep.stage = 1 ∧ (s.calRgn 3).verify = false ∧
      s.trimResult 3 { : CalMeas } = none) ∧
    (let s : State := calRun1 { step := some eyeStep : CalRgn };
      s.por = false ∧ (s.calRgn 1).step = some eyeStep ∧ eyeStep.started = true ∧ eyeStep.left = 0 ∧
      eyeStep.spot = false ∧ eyeStep.stage = 2 ∧ (s.build.jctsRead 1)[(s.calRgn 1).item]? = some 0 ∧
      (eyeResult (eyeMeas 2)).2.2.2 = true ∧ s.fget F.CAL_CFG_EYE_MIN 0 ≤ (eyeResult (eyeMeas 2)).2.2.1) ∧
    (let s : State := calRun1 { step := some eyeStep, item := 1 : CalRgn };
      s.por = false ∧ (s.calRgn 1).step = some eyeStep ∧ eyeStep.started = true ∧ eyeStep.left = 0 ∧
      eyeStep.spot = false ∧ eyeStep.stage = 2 ∧ (s.build.jctsRead 1)[(s.calRgn 1).item]? = some 2 ∧
      ((eyeResult noEye).2.2.2 = false ∨ (eyeResult noEye).2.2.1 < s.fget F.CAL_CFG_EYE_MIN 0)) ∧
    (let s : State := calRun 3 { step := some deskewStep, verify := true : CalRgn };
      let m : CalMeas := { verify := [6] : CalMeas };
      s.por = false ∧ (s.calRgn 3).step = some deskewStep ∧ deskewStep.started = true ∧ deskewStep.left = 0 ∧
      deskewStep.spot = false ∧ deskewStep.stage = 0 ∧ (s.calRgn 3).verify = true ∧ m.verify.head? = some 6 ∧
      0 ≤ 6 ∧ 6 ≤ 6) ∧
    (let s : State := calRun 3 { step := some deskewStep, stageTries := 2, verify := true : CalRgn };
      let m : CalMeas := { verify := [7] : CalMeas };
      s.por = false ∧ (s.calRgn 3).step = some deskewStep ∧ deskewStep.started = true ∧ deskewStep.left = 0 ∧
      deskewStep.spot = false ∧ deskewStep.stage = 0 ∧ (s.calRgn 3).verify = true ∧ m.verify.head? = some 7 ∧
      0 ≤ 7 ∧ 6 < 7 ∧ (s.calRgn 3).stageTries < 3) ∧
    (let s : State := calRun 3 { step := some deskewStep, stageTries := 3, verify := true : CalRgn };
      let m : CalMeas := { verify := [256] : CalMeas };
      s.por = false ∧ (s.calRgn 3).step = some deskewStep ∧ deskewStep.started = true ∧ deskewStep.left = 0 ∧
      deskewStep.spot = false ∧ deskewStep.stage = 0 ∧ (s.calRgn 3).verify = true ∧ m.verify.head? = some 256 ∧
      0 ≤ 256 ∧ 6 < 256 ∧ 3 ≤ (s.calRgn 3).stageTries) ∧
    (let s : State := calRun 3
        { step := some trimStep, verify := true, storeTrim := packTrims trimmed, trimMid := 20 : CalRgn };
      s.por = false ∧ (s.calRgn 3).step = some trimStep ∧ trimStep.started = true ∧ trimStep.left = 0 ∧
      trimStep.spot = false ∧ trimStep.stage = 1 ∧ (s.calRgn 3).verify = true ∧
      tcErr trimMeas.verify (unpackTrims (s.calRgn 3).storeTrim) (s.trimKs 3) (s.calRgn 3).trimMid ≤ 1) ∧
    (let s : State := calRun 3
        { step := some trimStep, stageTries := 2, verify := true, storeTrim := packTrims trimmed, trimMid := 22 : CalRgn };
      s.por = false ∧ (s.calRgn 3).step = some trimStep ∧ trimStep.started = true ∧ trimStep.left = 0 ∧
      trimStep.spot = false ∧ trimStep.stage = 1 ∧ (s.calRgn 3).verify = true ∧
      1 < tcErr trimMeas.verify (unpackTrims (s.calRgn 3).storeTrim) (s.trimKs 3) (s.calRgn 3).trimMid ∧
      (s.calRgn 3).stageTries < 3) ∧
    (let s : State := calRun 3
        { step := some trimStep, stageTries := 3, verify := true, storeTrim := packTrims trimmed, trimMid := 22 : CalRgn };
      s.por = false ∧ (s.calRgn 3).step = some trimStep ∧ trimStep.started = true ∧ trimStep.left = 0 ∧
      trimStep.spot = false ∧ trimStep.stage = 1 ∧ (s.calRgn 3).verify = true ∧
      1 < tcErr trimMeas.verify (unpackTrims (s.calRgn 3).storeTrim) (s.trimKs 3) (s.calRgn 3).trimMid ∧
      3 ≤ (s.calRgn 3).stageTries) := by
  dsimp only; (repeat' apply And.intro) <;> decide +kernel

/-- StepDone: the last group, with a tap above 127. -/
theorem witness_StepDone_tap :
    (spreading.a.length = 4 ∧ agree 5 spreading.a spreading.b = true) ∧
      ((calRun 3 { step := some deskewStep, item := 29 }).calRgn 3).item + 1 = 30 ∧ ∃ i v, i < 120 ∧
        (deskewTaps (((calRun 3 { step := some deskewStep, item := 29 }).calRgn 3).means ++ meanOf spreading.a spreading.b)
          ((calRun 3 { step := some deskewStep, item := 29 }).rgn 3).taps)[i]? = some v ∧ 127 < v :=
  ⟨by decide +kernel, by decide +kernel, 0, 148, by decide +kernel⟩

theorem witness_Abandon :
    let s : State := calRun 3 { step := some { stage := 0 : CalStep } : CalRgn };
      s.por = false ∧ (s.calRgn 3).step ≠ none ∧
      max 1 (s.fget F.CAL_CFG_MAX_PAUSE 0) * 1600000 ≤ s.stn.elapsed - (s.calRgn 3).gapAt := by
  dsimp only; (repeat' apply And.intro) <;> decide +kernel

theorem witness_SpotCheck :
    (let s : State := calRun 3 { step := some (spotStep 1), storeTrim := packTrims trimmed : CalRgn };
      s.por = false ∧ 3 < 1024 ∧ (s.calRgn 3).step = some (spotStep 1) ∧
      (spotStep 1).stage = stageCode Stage.trim ∧ (spotStep 1).spot = true ∧ (spotStep 1).started = true ∧
      (spotStep 1).left = 0 ∧ s.spotPasses 3 (stageCode Stage.trim) trimMeas = true) ∧
    (let s : State := calRun 3 { step := some (spotStep 0) : CalRgn };
      s.por = false ∧ 3 < 1024 ∧ (s.calRgn 3).step = some (spotStep 0) ∧
      (spotStep 0).stage = stageCode Stage.deskew ∧ (spotStep 0).spot = true ∧ (spotStep 0).started = true ∧
      (spotStep 0).left = 0 ∧ s.spotPasses 3 (stageCode Stage.deskew) differing = false) := by
  dsimp only; (repeat' apply And.intro) <;> decide +kernel

theorem witness_CalWrites :
    let s : State := calPend { : CalRgn } 0 6;
      HostMay s Reg.CAL_CTRL 0 ∧ s.on F.CAL_CTRL_RESTART 0 = false := by
  unfold HostMay; dsimp only; (repeat' apply And.intro) <;> decide +kernel

theorem witness_Redo :
    (let s : State := calPend { : CalRgn } 0 5;
      HostBox s Reg.SB_CAL_CTRL 3 ∧ 2 < 3 ∧ s.on (redoFld 2) 3 = false ∧ s.on F.SB_CAL_CTRL_HOLD 3 = false ∧
      (s.fget F.SB_CAL_STAT_PENDING 3).testBit 2 = false) ∧
    (let s : State := calPend { cur := some 0 : CalRgn } 0 4;
      HostBox s Reg.SB_CAL_CTRL 3 ∧ 0 < 3 ∧ s.on (redoFld 0) 3 = false ∧ s.on F.SB_CAL_CTRL_HOLD 3 = false ∧
      (s.fget F.SB_CAL_STAT_PENDING 3).testBit 0 = false ∧ (s.calRgn 3).cur = some 0) ∧
    (let s : State := calPend { : CalRgn } 0 4;
      HostBox s Reg.SB_CAL_CTRL 2 ∧ 1 < 3 ∧ s.on (redoFld 1) 2 = false ∧ s.on F.SB_CAL_CTRL_HOLD 2 = false ∧
      (s.fget F.SB_CAL_STAT_PENDING 2).testBit 1 = false ∧ s.cal.lanes.contains 2 = false) ∧
    (let s : State := calPend { : CalRgn } 1 4;
      HostBox s Reg.SB_CAL_CTRL 3 ∧ 0 < 3 ∧ s.on (redoFld 0) 3 = false ∧ s.on F.SB_CAL_CTRL_HOLD 3 = false ∧
      (s.fget F.SB_CAL_STAT_PENDING 3).testBit 0 = true) ∧
    (let s : State := (calPend { : CalRgn } 0 4).fset F.SB_CAL_CTRL_HOLD 3 1;
      HostBox s Reg.SB_CAL_CTRL 3 ∧ 1 < 3 ∧ s.on (redoFld 1) 3 = false ∧ s.on F.SB_CAL_CTRL_HOLD 3 = true) := by
  unfold HostBox HostMay; dsimp only; (repeat' apply And.intro) <;> decide +kernel

theorem witness_Commit :
    (let s : State := calRun 3 { bank := some fullBank, init := 3 : CalRgn };
      let taps : List ℕ := List.replicate 120 127;
      s.por = false ∧ 3 < 1024 ∧ (s.calRgn 3).bank = some fullBank ∧ taps = fullBank.taps.getD (s.storeTaps 3) ∧
      taps.length = 120 ∧ (∀ x ∈ taps, x < 128) ∧ s.count % 64 = 0 ∧ fullBank.doneAt = some 63968 ∧
      63968 + 32 ≤ s.count ∧ s.cal.save = none ∧ fullBank.src ≠ BankSrc.image ∧
      (∀ a ∈ s.dsp.acts, s.actDue a = false) ∧ fullBank.src = BankSrc.init ∧ (s.calRgn 3).init = 3 ∧
      (s.calRgn 3).initTries < 3) ∧
    (let s : State := calRun 3 { bank := some fullBank, init := 1, initTries := 2 : CalRgn };
      let taps : List ℕ := List.replicate 120 127;
      s.por = false ∧ 3 < 1024 ∧ (s.calRgn 3).bank = some fullBank ∧ taps = fullBank.taps.getD (s.storeTaps 3) ∧
      taps.length = 120 ∧ (∀ x ∈ taps, x < 128) ∧ s.count % 64 = 0 ∧ fullBank.doneAt = some 63968 ∧
      63968 + 32 ≤ s.count ∧ s.cal.save = none ∧ fullBank.src ≠ BankSrc.image ∧
      (∀ a ∈ s.dsp.acts, s.actDue a = false) ∧ fullBank.src = BankSrc.init ∧ (s.calRgn 3).init ≠ 3) ∧
    (let s : State := (calRun 3 { stageTries := 3, bank := some (tapBank (BankSrc.stage 0)) : CalRgn }).fset
        F.SEC_CTRL_SAFE 1 1;
      let b : Bank := tapBank (BankSrc.stage 0);
      let taps : List ℕ := List.replicate 120 127;
      s.por = false ∧ 3 < 1024 ∧ (s.calRgn 3).bank = some b ∧ taps = b.taps.getD (s.storeTaps 3) ∧
      taps.length = 120 ∧ (∀ x ∈ taps, x < 128) ∧ s.count % 64 = 0 ∧ b.doneAt = some 63968 ∧ 63968 + 32 ≤ s.count ∧
      s.cal.save = none ∧ b.src ≠ BankSrc.image ∧ (∀ a ∈ s.dsp.acts, s.actDue a = false) ∧
      (b.trim = none ∨ ¬s.on F.SEC_CTRL_SAFE (s.build.sectionOf 3) = false) ∧
      (b.src = BankSrc.stage 0 ∨ b.src = BankSrc.stage 1) ∧ (∀ p ∈ b.phases, p.1 ∈ s.build.jctsRead 3)) ∧
    (let s : State := calRun 3 { stageTries := 2, bank := some (tapBank (BankSrc.stage 2)) : CalRgn };
      let b : Bank := tapBank (BankSrc.stage 2);
      let taps : List ℕ := List.replicate 120 127;
      s.por = false ∧ 3 < 1024 ∧ (s.calRgn 3).bank = some b ∧ taps = b.taps.getD (s.storeTaps 3) ∧
      taps.length = 120 ∧ (∀ x ∈ taps, x < 128) ∧ s.count % 64 = 0 ∧ b.doneAt = some 63968 ∧ 63968 + 32 ≤ s.count ∧
      s.cal.save = none ∧ b.src ≠ BankSrc.image ∧ (∀ a ∈ s.dsp.acts, s.actDue a = false) ∧
      b.src = BankSrc.stage 2) := by
  dsimp only; (repeat' apply And.intro) <;> decide +kernel

/-- Commit: the values that a bank may hold, at the end of their ranges. -/
theorem witness_Commit_values :
    fullBank.trim = some (packTrims trimmed) ∧ fullBank.phases = [(0, 15, 15, 31)] ∧ (tapBank (.stage 0)).src = .stage 0 ∧
      (tapBank (.safe 2)).src = .safe 2 ∧ (tapBank .boot).src = .boot ∧ (63968 + 32 ≤ (calRun 3 {}).count) := by decide +kernel

theorem witness_ImgSave :
    (HostMay (live 64000) Reg.CAL_IMG_CTRL 0 ∧ (live 64000).on F.CAL_IMG_CTRL_SAVE 0 = false ∧
      (live 64000).cal.save = none ∧ (live 64000).cal.restore = none) ∧
    (HostMay (saving { : ImgOp }) Reg.CAL_IMG_CTRL 0 ∧ (saving { : ImgOp }).on F.CAL_IMG_CTRL_SAVE 0 = false ∧
      ((saving { : ImgOp }).cal.save ≠ none ∨ (saving { : ImgOp }).cal.restore ≠ none)) := by
  unfold HostMay; (repeat' apply And.intro) <;> decide +kernel

theorem witness_ImgSaveDone :
    (let s : State := saving { addr := 1099511627520, gen := 18446744073709551615, pos := 5 : ImgOp };
      let o : ImgOp := { addr := 1099511627520, gen := 18446744073709551615, pos := 5 : ImgOp };
      s.por = false ∧ s.cal.save = some o ∧ s.cal.saveHeld = false ∧ s.cal.restoreHeld = false ∧
      s.cal.restore = none ∧ (∀ k < s.build.nSections, (s.sec k).commitHeld = false) ∧ o.gen < 2 ^ 64 ∧
      o.err = none ∧ o.pos + 1 = s.build.imgTiles ∧ s.axi.held = false ∧ o.hdr = false ∧ o.addr + 256 ≤ 2 ^ 40) ∧
    (let s : State := saving { pos := 5, hdr := true : ImgOp };
      let o : ImgOp := { pos := 5, hdr := true : ImgOp };
      s.por = false ∧ s.cal.save = some o ∧ s.cal.saveHeld = false ∧ s.cal.restoreHeld = false ∧
      s.cal.restore = none ∧ (∀ k < s.build.nSections, (s.sec k).commitHeld = false) ∧ o.gen < 2 ^ 64 ∧
      o.err = none ∧ o.pos + 1 = s.build.imgTiles ∧ s.axi.held = false ∧ o.hdr = true) ∧
    (let s : State := saving { pos := 1 : ImgOp };
      s.por = false ∧ s.cal.save = some { pos := 1 : ImgOp } ∧ s.cal.saveHeld = false ∧ s.cal.restoreHeld = false ∧
      s.cal.restore = none ∧ (∀ k < s.build.nSections, (s.sec k).commitHeld = false) ∧
      { pos := 1 : ImgOp }.gen < 2 ^ 64 ∧ ({ pos := 1 : ImgOp }.err ≠ none ∨ { pos := 1 : ImgOp }.pos ≠ 0 ∧
      false = false)) := by
  dsimp only; (repeat' apply And.intro) <;> decide +kernel

theorem witness_ImgRestore :
    (let s : State := calPend { : CalRgn } 0 2;
      HostMay s Reg.CAL_IMG_CTRL 0 ∧ s.on F.CAL_IMG_CTRL_RESTORE 0 = false ∧ s.cal.saveHeld = false ∧
      (s.fget F.CAL_STATUS_PHASE 0 < 3 ∨ s.cal.save ≠ none ∨ s.cal.restore ≠ none)) ∧
    (let s : State := calPend { : CalRgn } 0 3;
      HostMay s Reg.CAL_IMG_CTRL 0 ∧ s.on F.CAL_IMG_CTRL_RESTORE 0 = false ∧ s.cal.saveHeld = false ∧
      3 ≤ s.fget F.CAL_STATUS_PHASE 0 ∧ s.cal.save = none ∧ s.cal.restore = none) := by
  unfold HostMay; dsimp only; (repeat' apply And.intro) <;> decide +kernel

theorem witness_ImgRestoreDone :
    (let s : State := restoring { pos := 1 : ImgOp };
      s.por = false ∧ s.cal.restore = some { pos := 1 : ImgOp } ∧ s.build.nRegions ≤ 1024 ∧
      s.build.junctions.length ≤ 1536 ∧ s.cal.saveHeld = false ∧ s.cal.restoreHeld = false ∧ s.cal.save = none ∧
      (∀ a ∈ s.dsp.acts, s.actDue a = false) ∧ { pos := 1 : ImgOp }.loaded = none ∧
      s.imgCheck
        { tiles := badImage.tiles, differ := badImage.differ, error := badImage.error.orElse fun _ ↦ { pos := 1 : ImgOp }.err, crcBad := badImage.crcBad : ImageIn }
        = some (1, 0) ∧ VerdictMayCome s { pos := 1 : ImgOp } 1) ∧
    (let s : State := restoring { pos := 12 : ImgOp };
      let o : ImgOp := { pos := 12 : ImgOp };
      s.por = false ∧ s.cal.restore = some o ∧ s.build.nRegions ≤ 1024 ∧ s.build.junctions.length ≤ 1536 ∧
      s.cal.saveHeld = false ∧ s.cal.restoreHeld = false ∧ s.cal.save = none ∧
      (∀ a ∈ s.dsp.acts, s.actDue a = false) ∧ o.loaded = none ∧
      s.imgCheck
        { tiles := image.tiles, differ := image.differ, error := image.error.orElse fun _ ↦ o.err, crcBad := image.crcBad : ImageIn }
        = none ∧ 2 * s.build.imgTiles ≤ o.pos) ∧
    (let o : ImgOp := { gen := 5, pos := 12, loaded := some 63968 : ImgOp };
      restored.por = false ∧ restored.cal.restore = some o ∧ restored.build.nRegions ≤ 1024 ∧
      restored.build.junctions.length ≤ 1536 ∧ restored.cal.saveHeld = false ∧ restored.cal.restoreHeld = false ∧
      restored.cal.save = none ∧ (∀ a ∈ restored.dsp.acts, restored.actDue a = false) ∧ o.loaded = some 63968 ∧
      63968 + 32 ≤ restored.count ∧ restored.count % 64 = 0) := by
  unfold VerdictMayCome; dsimp only; (repeat' apply And.intro) <;> decide +kernel

/-- ImgRestoreDone: at the commit region 1's bank holds the image's values, whose tile is saved with a stage DONE. -/
theorem witness_ImgRestoreDone_bank :
    (restored.calRgn 1).bank = some { tapBank .image with weights := none } ∧ restored.on F.SB_CAL_CTRL_HOLD 1 = false ∧
      (image.tiles[2]?).isSome = true ∧ image.crcBad.contains 1 = false ∧ (restored.cal.restore).isSome = true ∧
      63968 + 32 ≤ restored.count ∧ restored.count % 64 = 0 := by decide +kernel

theorem witness_SaveIssues :
    let s : State := saving { pos := 4 : ImgOp };
      s.por = false ∧ s.stn.locked = true ∧ s.cal.save = some { pos := 4 : ImgOp } ∧
      { pos := 4 : ImgOp }.err = none ∧ { pos := 4 : ImgOp }.pos + 1 < s.build.imgTiles ∧
      { pos := 4 : ImgOp }.addr + 256 * ({ pos := 4 : ImgOp }.pos + 1) + 256 ≤ 2 ^ 40 ∧ s.axi.held = false := by
  dsimp only; (repeat' apply And.intro) <;> decide +kernel

/-! ### The Dispatcher under the host -/

/-- Desk 1 in a state, with what it holds, the Dispatcher ready. -/
def deskIn (state : Nat) (k : Desk) : State := (((live 1000).fset F.DSP_STATUS_READY 0 1).setDeskState 1 state).setDesk 1 k
/-- Every Desk STOPPED, in a cycle that has begun, a load asked for, and one under way with its bursts sent. -/
def inCycle : State := { (live 1000).fset F.DSP_STATUS_READY 0 1 with dsp := { cycle := some 1000 } }
def loadAsked : State := ((live 1000).fset F.DSP_STATUS_READY 0 1).fset F.DSP_CTRL_LOAD_RES 0 1
def loading : State := { loadAsked.fset F.DSP_STATUS_LOADING 0 1 with dsp := { loadSent := 128 } }
/-- Tile 3 alone is valid, the scrub's turn at tile 60. -/
def scrubbing : State :=
  { (live 16384).fset F.DSP_TILE_OK_VALID 0 8 with dsp := { scrub := 60 } }
/-- Desk 1 is STALLED for page 4095, with paging on and every frame valid, frame 5 alone without PIN. -/
def stalled (en : Nat) : State := (deskIn 3 { page := some 4095 }).fset F.DSP_CTRL_PAGE_EN 0 en
def framesFull : State :=
  ((List.range 8).foldl (fun s f => (s.fset F.DSP_FRAME_VALID f 1).fset F.DSP_FRAME_PIN f 1) (stalled 1)).fset F.DSP_FRAME_PIN 5 0
/-- Page 9 is being filled into frame 7, once or again, with its bursts sent, with none, with one to send. -/
def fillOnce : Fill := { frame := 7, page := 9, sent := 16 }
def fillAgain : Fill := { frame := 7, page := 9, again := true, sent := 16 }
def fillNone : Fill := { frame := 7, page := 9 }
def fillPart : Fill := { frame := 7, page := 9, sent := 15 }
def filling (f : Fill) : State := { deskIn 3 { page := some 9 } with dsp := { (deskIn 3 { page := some 9 }).dsp with fills := [f] } }
/-- A page whose four tiles pass, and one whose tiles do not. -/
def pageGood : List Nat :=
  let t := List.replicate 1020 0 ++ leBytes 4 (crc32c (List.replicate 1020 0))
  t ++ t ++ t ++ t
def pageBad : List Nat := List.replicate 4096 0
/-- A write to DSP_IMG_SIZE waits. -/
def imgWaits (l : List Fill) : State :=
  { live 1000 with dsp := { fills := l, imgs := [{ src := 5, addr := regAddr .DSP_IMG_SIZE 0, val := 7, mask := 0xFFFFFFFF }] } }
/-- One action waits, of Desk 3, due now. -/
def dueAct (op : ActOp) : Act := { desk := 3, seq := 0, t := 1000, tick := 1000, slot := some 900, op }
def acted (op : ActOp) : State := { live 1000 with dsp := { acts := [dueAct op] } }
/-- A write of GOV_CFG; a write of SB_STRETCH of region 3, which is in cause FAULT. -/
def cfgAct : Act :=
  { desk := 3, seq := 0, t := 1000, tick := 1000, slot := some 900, op := .write 4294967295 4294967295 false 4294967295
    addr := regAddr .GOV_CFG 0 }
def cfgDue : State := { live 1000 with dsp := { acts := [cfgAct] } }
def boxAct : Act :=
  { desk := 3, seq := 0, t := 1000, tick := 1000, slot := some 900, op := .write 0x21 0xFF true 0x21, addr := regAddr .SB_STRETCH 3 }
def boxDue : State := { (live 1000).fset F.SB_GATE_FAULT 3 1 with dsp := { acts := [boxAct] } }
def boxEarly : State := { boxDue with stn := lockedStn 999 }

theorem witness_DeskStart :
    (HostMay (deskIn 4 { : Desk }) Reg.DSP_DESK_CTRL 3 ∧ 3 < 4 ∧
      (deskIn 4 { : Desk }).on F.DSP_DESK_CTRL_STEP 3 = false ∧
      (deskIn 4 { : Desk }).on F.DSP_DESK_CTRL_STOP 3 = false ∧
      ¬(deskIn 4 { : Desk }).on F.DSP_STATUS_READY 0 = false ∧
      ((deskIn 4 { : Desk }).deskState 3 = 0 ∨ (deskIn 4 { : Desk }).deskState 3 = 4)) ∧
    (HostMay (deskIn 1 { : Desk }) Reg.DSP_DESK_CTRL 1 ∧ 1 < 4 ∧
      (deskIn 1 { : Desk }).on F.DSP_DESK_CTRL_STEP 1 = false ∧
      (deskIn 1 { : Desk }).on F.DSP_DESK_CTRL_STOP 1 = false ∧
      ¬(deskIn 1 { : Desk }).on F.DSP_STATUS_READY 0 = false ∧
      ¬((deskIn 1 { : Desk }).deskState 1 = 0 ∨ (deskIn 1 { : Desk }).deskState 1 = 4)) ∧
    (HostMay (live 1000) Reg.DSP_DESK_CTRL 3 ∧ 3 < 4 ∧ (live 1000).on F.DSP_DESK_CTRL_STEP 3 = false ∧
      (live 1000).on F.DSP_DESK_CTRL_STOP 3 = false ∧ (live 1000).on F.DSP_STATUS_READY 0 = false) := by
  unfold HostMay; (repeat' apply And.intro) <;> decide +kernel

theorem witness_DeskStop :
    (HostMay (deskIn 4 { : Desk }) Reg.DSP_DESK_CTRL 1 ∧ 1 < 4 ∧
      (deskIn 4 { : Desk }).on F.DSP_STATUS_READY 0 = true ∧
      (deskIn 4 { : Desk }).on F.DSP_DESK_CTRL_STEP 1 = false ∧
      (deskIn 4 { : Desk }).on F.DSP_DESK_CTRL_START 1 = false ∧
      ((deskIn 4 { : Desk }).deskShows 1 = 0 ∨ (deskIn 4 { : Desk }).deskShows 1 = 4)) ∧
    (let s : State := deskIn 2 { wait := Wait.sem 15 : Desk };
      HostMay s Reg.DSP_DESK_CTRL 1 ∧ 1 < 4 ∧ s.on F.DSP_STATUS_READY 0 = true ∧
      s.on F.DSP_DESK_CTRL_STEP 1 = false ∧ s.on F.DSP_DESK_CTRL_START 1 = false ∧ s.deskShows 1 = 2) ∧
    (let s : State := deskIn 3 { page := some 9 : Desk };
      HostMay s Reg.DSP_DESK_CTRL 1 ∧ 1 < 4 ∧ s.on F.DSP_STATUS_READY 0 = true ∧
      s.on F.DSP_DESK_CTRL_STEP 1 = false ∧ s.on F.DSP_DESK_CTRL_START 1 = false ∧ s.deskShows 1 = 3) ∧
    (let s : State := deskIn 1 { readyAt := 1000 : Desk };
      HostMay s Reg.DSP_DESK_CTRL 1 ∧ 1 < 4 ∧ s.on F.DSP_STATUS_READY 0 = true ∧
      s.on F.DSP_DESK_CTRL_STEP 1 = false ∧ s.on F.DSP_DESK_CTRL_START 1 = false ∧ s.deskShows 1 = 1 ∧
      (s.desk 1).readyAt ≤ s.stn.elapsed ∧ (s.desk 1).wait = Wait.none) ∧
    (let s : State := deskIn 1 { readyAt := 1001 : Desk };
      HostMay s Reg.DSP_DESK_CTRL 1 ∧ 1 < 4 ∧ s.on F.DSP_STATUS_READY 0 = true ∧
      s.on F.DSP_DESK_CTRL_STEP 1 = false ∧ s.on F.DSP_DESK_CTRL_START 1 = false ∧ s.deskShows 1 = 1 ∧
      s.stn.elapsed < (s.desk 1).readyAt) := by
  unfold HostMay; dsimp only; (repeat' apply And.intro) <;> decide +kernel

theorem witness_DeskStep :
    (HostMay (deskIn 0 { : Desk }) Reg.DSP_DESK_CTRL 1 ∧ 1 < 4 ∧
      (deskIn 0 { : Desk }).on F.DSP_DESK_CTRL_START 1 = false ∧
      (deskIn 0 { : Desk }).on F.DSP_DESK_CTRL_STOP 1 = false ∧ ((deskIn 0 { : Desk }).desk 1).stepping = false ∧
      (deskIn 0 { : Desk }).on F.DSP_STATUS_READY 0 = true ∧ (deskIn 0 { : Desk }).deskState 1 = 0) ∧
    (HostMay (deskIn 4 { : Desk }) Reg.DSP_DESK_CTRL 1 ∧ 1 < 4 ∧
      (deskIn 4 { : Desk }).on F.DSP_DESK_CTRL_START 1 = false ∧
      (deskIn 4 { : Desk }).on F.DSP_DESK_CTRL_STOP 1 = false ∧ ((deskIn 4 { : Desk }).desk 1).stepping = false ∧
      (deskIn 4 { : Desk }).on F.DSP_STATUS_READY 0 = true ∧ (deskIn 4 { : Desk }).deskState 1 ≠ 0) ∧
    (HostMay (live 1000) Reg.DSP_DESK_CTRL 1 ∧ 1 < 4 ∧ (live 1000).on F.DSP_DESK_CTRL_START 1 = false ∧
      (live 1000).on F.DSP_DESK_CTRL_STOP 1 = false ∧ ((live 1000).desk 1).stepping = false ∧
      (live 1000).on F.DSP_STATUS_READY 0 = false) := by
  unfold HostMay; (repeat' apply And.intro) <;> decide +kernel

theorem witness_SemHost :
    HostMay semsWaited Reg.DSP_SEM_HELD 0 ∧ 65535 < 2 ^ 16 ∧ semsWaited.dsp.passes = [] := by
  unfold HostMay; (repeat' apply And.intro) <;> decide +kernel

theorem witness_TileWrites :
    (live 1000).por = false ∧ (live 1000).stn.warm = false ∧ (live 1000).stn.locked = true ∧ 4294967295 < 2 ^ 32 ∧
      (65536 + 32760 % 32768 / 4 * 4) % 1024 ≠ 1020 ∧ 31 < 32 := by
  (repeat' apply And.intro) <;> decide +kernel

theorem witness_LoadStarts :
    (loadAsked.on F.DSP_STATUS_LOADING 0 = false ∧ HostMay loadAsked Reg.DSP_CTRL 0 ∧
      ¬((loadAsked.on F.DSP_STATUS_READY 0 = true ∧ loadAsked.count % 2 = 0 ∧
      loadAsked.dsp.cycle = some loadAsked.stn.elapsed) ∧
      ∀ d < 4, loadAsked.deskState d = 0 ∨ loadAsked.deskState d = 4) ∧ loadAsked.por = false ∧
      loadAsked.cycleOpen = true ∧ loadAsked.dsp.passes = [] ∧
      (∀ d < 4, loadAsked.deskState d = 0 ∨ loadAsked.deskState d = 4) ∧
      loadAsked.on F.DSP_CTRL_LOAD_RES 0 = true) ∧
    (inCycle.on F.DSP_STATUS_LOADING 0 = false ∧ HostMay inCycle Reg.DSP_CTRL 0 ∧
      (inCycle.on F.DSP_STATUS_READY 0 = true ∧ inCycle.count % 2 = 0 ∧
      inCycle.dsp.cycle = some inCycle.stn.elapsed) ∧
      ∀ d < 4, inCycle.deskState d = 0 ∨ inCycle.deskState d = 4) := by
  unfold HostMay; (repeat' apply And.intro) <;> decide +kernel

theorem witness_Scrub :
    (scrubbing.por = false ∧ scrubbing.stn.locked = true ∧ scrubbing.on F.DSP_CTRL_SCRUB_EN 0 = true ∧
      scrubbing.count % 16384 = 0 ∧ 7 < 64 ∧ scrubbing.scrubValid ((scrubbing.dsp.scrub + 7) % 64) = true ∧
      (∀ j < 7, scrubbing.scrubValid ((scrubbing.dsp.scrub + j) % 64) = false)) ∧
    (scrubbing.por = false ∧ scrubbing.stn.locked = true ∧ scrubbing.on F.DSP_CTRL_SCRUB_EN 0 = true ∧
      scrubbing.count % 16384 = 0 ∧ 7 < 64 ∧ scrubbing.scrubValid ((scrubbing.dsp.scrub + 7) % 64) = true ∧
      (∀ j < 7, scrubbing.scrubValid ((scrubbing.dsp.scrub + j) % 64) = false)) := by
  (repeat' apply And.intro) <;> decide +kernel

theorem witness_FillStart :
    ((stalled 0).por = false ∧ (∃ d < 4, (stalled 0).deskState d = 3 ∧ ((stalled 0).desk d).page = some 4095) ∧
      4095 < 4096 ∧ (stalled 0).on F.DSP_CTRL_PAGE_EN 0 = false) ∧
    (framesFull.por = false ∧ (∃ d < 4, framesFull.deskState d = 3 ∧ (framesFull.desk d).page = some 4095) ∧
      4095 < 4096 ∧ framesFull.on F.DSP_CTRL_PAGE_EN 0 = true ∧ framesFull.dsp.imgs = [] ∧
      (∀ g < 8, ¬(framesFull.on F.DSP_FRAME_VALID g = true ∧ framesFull.fget F.DSP_FRAME_PAGE g = 4095)) ∧
      (∀ x ∈ framesFull.dsp.fills, x.page ≠ 4095) ∧ Chosen framesFull 5) := by
  unfold Chosen; (repeat' apply And.intro) <;> decide +kernel

theorem witness_FillDone :
    ((filling fillOnce).por = false ∧ fillOnce ∈ (filling fillOnce).dsp.fills ∧
      (∀ x ∈ (filling fillOnce).dsp.fills, x.page = fillOnce.page → x = fillOnce) ∧ fillOnce.frame < 8 ∧
      fillOnce.page < 4096 ∧ pageGood.length = 4096 ∧ (∀ x ∈ pageGood, x < 256) ∧ fillOnce.sent = 16 ∧
      (∀ i < 4, Checks pageGood i)) ∧
    ((filling fillOnce).por = false ∧ fillOnce ∈ (filling fillOnce).dsp.fills ∧
      (∀ x ∈ (filling fillOnce).dsp.fills, x.page = fillOnce.page → x = fillOnce) ∧ fillOnce.frame < 8 ∧
      fillOnce.page < 4096 ∧ pageBad.length = 4096 ∧ (∀ x ∈ pageBad, x < 256) ∧ fillOnce.sent = 16 ∧
      (∃ i < 4, ¬Checks pageBad i) ∧ fillOnce.again = false) ∧
    ((filling fillAgain).por = false ∧ fillAgain ∈ (filling fillAgain).dsp.fills ∧
      (∀ x ∈ (filling fillAgain).dsp.fills, x.page = fillAgain.page → x = fillAgain) ∧ fillAgain.frame < 8 ∧
      fillAgain.page < 4096 ∧ pageBad.length = 4096 ∧ (∀ x ∈ pageBad, x < 256) ∧ fillAgain.sent = 16 ∧
      (∃ i < 4, ¬Checks pageBad i) ∧ fillAgain.again = true) ∧
    ((filling fillNone).por = false ∧ fillNone ∈ (filling fillNone).dsp.fills ∧
      (∀ x ∈ (filling fillNone).dsp.fills, x.page = fillNone.page → x = fillNone) ∧ fillNone.frame < 8 ∧
      fillNone.page < 4096 ∧ pageBad.length = 4096 ∧ (∀ x ∈ pageBad, x < 256) ∧
      (fillNone.sent = 0 ∨ fillNone.sent < 16 ∧ AxiResp.decerr = AxiResp.okay)) ∧
    ((filling fillPart).por = false ∧ fillPart ∈ (filling fillPart).dsp.fills ∧
      (∀ x ∈ (filling fillPart).dsp.fills, x.page = fillPart.page → x = fillPart) ∧ fillPart.frame < 8 ∧
      fillPart.page < 4096 ∧ pageBad.length = 4096 ∧ (∀ x ∈ pageBad, x < 256) ∧ fillPart.sent ≠ 0 ∧
      AxiResp.decerr ≠ AxiResp.okay) := by
  unfold Checks; (repeat' apply And.intro) <;> decide +kernel

theorem witness_ImageWrites :
    (4294967295 < 2 ^ 32 ∧ HostMay (live 1000) (imgReg ImgReg.hi) 0 ∧ (live 1000).dsp.fills = []) ∧
    (7 < 2 ^ 32 ∧ (imgWaits []).por = false ∧ (imgWaits []).regReady (imgReg ImgReg.size) 0 = true ∧
      (imgWaits []).dsp.fills = [] ∧
      (imgWaits []).dsp.imgs =
        [{ src := 5, addr := regAddr (imgReg ImgReg.size) 0, val := 7, mask := BitVec.toNat (strobeMask 15) : ImgWrite }])
        ∧
    (7 < 2 ^ 32 ∧ HostMay (imgWaits [fillOnce]) (imgReg ImgReg.size) 0 ∧ ¬(imgWaits [fillOnce]).dsp.fills = [] ∧
      (imgWaits [fillOnce]).por = false ∧ (imgWaits [fillOnce]).regReady (imgReg ImgReg.size) 0 = true ∧
      (imgWaits [fillOnce]).dsp.fills ≠ []) := by
  unfold HostMay; (repeat' apply And.intro) <;> decide +kernel

theorem witness_DataMemory :
    let s : State := (live 1000).fset F.DSP_DMEM_ADDR_WORD 0 4095;
      HostMay s Reg.DSP_DMEM_DATA 0 ∧ 4294967295 < 2 ^ 32 := by
  unfold HostMay; dsimp only; (repeat' apply And.intro) <;> decide +kernel

theorem witness_StationApplies :
    (let s : State := acted (ActOp.step 4294967295);
      let x : Act := dueAct (ActOp.step 4294967295);
      DueNow s x ∧ x.op = ActOp.step 4294967295) ∧
    (let s : State := acted (ActOp.phase 255);
      let x : Act := dueAct (ActOp.phase 255);
      DueNow s x ∧ x.op = ActOp.phase 255) ∧
    (let s : State := acted (ActOp.envcap 131071);
      let x : Act := dueAct (ActOp.envcap 131071);
      DueNow s x ∧ x.op = ActOp.envcap 131071) ∧
    (let s : State := acted (ActOp.prio 1 15);
      let x : Act := dueAct (ActOp.prio 1 15);
      DueNow s x ∧ x.op = ActOp.prio 1 15 ∧ 15 < 16 ∧ 1 < 64 ∧ s.stn.locked = true) := by
  unfold DueNow; dsimp only; (repeat' apply And.intro) <;> decide +kernel

theorem witness_WriteApplies :
    (DueNow cfgDue cfgAct ∧ cfgDue.dsp.held = [] ∧ cfgDue.stn.locked = true ∧ cfgAct.slot.isSome = true ∧
      cfgAct.scope = 0 ∧ cfgAct.addr = regAddr Reg.GOV_CFG 0 ∧ 4294967295 < 2 ^ 32 ∧
      cfgAct.op = ActOp.write 4294967295 (2 ^ 32 - 1) false 4294967295) ∧
    (DueNow cfgDue cfgAct ∧ cfgDue.dsp.held = [] ∧ cfgDue.stn.locked = true ∧ cfgAct.slot.isSome = true ∧
      cfgAct.scope = 0 ∧ cfgAct.addr = regAddr Reg.GOV_CFG 0 ∧ 4294967295 < 2 ^ 32 ∧
      cfgAct.op = ActOp.write 4294967295 (2 ^ 32 - 1) false 4294967295) ∧
    (DueNow cfgDue cfgAct ∧ cfgDue.dsp.held = [] ∧ cfgDue.stn.locked = true ∧ cfgAct.slot.isSome = true ∧
      cfgAct.scope = 0 ∧ cfgAct.addr = regAddr Reg.GOV_CFG 0 ∧ 4294967295 < 2 ^ 32 ∧
      cfgAct.op = ActOp.write 4294967295 (2 ^ 32 - 1) false 4294967295) := by
  unfold DueNow; (repeat' apply And.intro) <;> decide +kernel

theorem witness_ActionWaits :
    (DueNow boxDue boxAct ∧ 3 < 1024 ∧ boxDue.on F.SB_GATE_FAULT 3 = true ∧ boxAct.scope = 0 ∧
      boxAct.addr = regAddr Reg.SB_STRETCH 3 ∧ boxAct.op = ActOp.write 33 255 true 33) ∧
    (boxEarly.por = false ∧ (∀ a ∈ boxEarly.dsp.acts, boxEarly.count < a.tick)) := by
  unfold DueNow; (repeat' apply And.intro) <;> decide +kernel

/-- LoadDone, before and after its last burst has gone out. -/
theorem witness_LoadDone :
    (∀ s ∈ [loading, { loading with dsp := { loadSent := 127 } }], s.por = false ∧ s.on F.DSP_STATUS_LOADING 0 = true ∧
      (∀ a ∈ s.dsp.acts, s.actDue a = false)) ∧ loading.dsp.loadSent = 128 ∧
      ({ loading with dsp := { loadSent := 127 } : State }).dsp.loadSent ≠ 128 ∧ loading.dsp.loadBase + 0x8000 ≤ 2 ^ 40 ∧
      (List.replicate 0x8000 255).length = 0x8000 ∧ ∀ x ∈ List.replicate 0x8000 255, x < 256 :=
  ⟨by decide +kernel, by decide +kernel, by decide +kernel, by decide +kernel, List.length_replicate,
    fun x h => by rw [List.eq_of_mem_replicate h]; decide⟩

/-! ### The Governor -/

/-- A sample of the envelope port waits for the next, its run accepted or not, GOV_ENV written at a tick. -/
def sampled (v : Option Nat) (portRun : Bool) (budgetAt : Option Nat) : State :=
  { live 64 with gov := { sample := v, portRun, budgetAt } }
/-- Rail 1's load-hint port: a code waits, the strobe low for 8 tk, or high for all of WIDTH. -/
def hinting (l : LhRail) : State :=
  { (live 1000).fset F.GOV_LH_CFG_WIDTH 0 6 with gov := { lh := [(1, l)] } }
def hintWaits : LhRail := { fell := some 992, queue := [(15, 1000), (3, 1016)] }
def hintHigh : LhRail := { stb := true, rose := 994 }
def hintRose : LhRail := { stb := true, rose := 995 }
/-- A control tick with the reserve above the limit; Section 1 alone runs, at word 139,264. -/
def overLimit (en : Nat) : State :=
  ((((((sec1 3 139264).fset F.GOV_ENV_RESERVE 0 200).fset F.GOV_ENV_STATUS_L 0 100).fset F.GOV_CTRL_EN 0 en).fset
    F.SEC_FW_FW 1 139264).fset F.GOV_SEC_STAT_DROP_E 1 30).fset F.GOV_LIMITS_FW_FLOOR 0 12288
/-- A step of Section `k` is due. -/
def stepAct (k reason : Nat) : Act :=
  { desk := 4, seq := 0, t := 64000, tick := 64000, op := .drop (reason % 2 == 0) [(k, reason)] }
def stepping (k reason en : Nat) (hush : Bool) : State :=
  { (((sec1 3 139264).fset F.GOV_SEC_STAT_DROP_E k 31).fset F.GOV_CTRL_EN 0 en) with
      dsp := { acts := [stepAct k reason] }, gov := { hush } }
/-- A good step of Section 1 at a high confirmed voltage, and the state after it. -/
def steppingReady : State :=
  let s := (stepping 1 2 1 false).fset F.GOV_RAIL_STAT_VCONF 1 1023
  s.setSec 1 { s.sec 1 with req := some 139264 }
def stepped : State :=
  match exec (.stepCountApply [(1025, .good)]) steppingReady with
  | .next t => t
  | _ => State.reset
/-- A margin window of Section 1 ends, with all but the last of the runs before it. -/
def window1 (en : Nat) (press : Nat) (c : Sec) : State :=
  { ((((sec1 3 139264).fset F.GOV_CTRL_MARGIN_EN 0 en).fset F.SEC_SYM_TK_COUNT 1 press).fset F.GOV_MARGIN_WINS 0 4).setSec 1 c with
      stn := lockedStn 16384 }
/-- Rail 1 has a raise decided, or sent. -/
def raising (telem : Nat) (hush : Bool) (g : GovRail) : State :=
  { ((((live 1000).fset F.GOV_RAIL_CFG_TELEM 1 telem).fset F.GOV_RAIL_STAT_VCMD 1 900).fset F.GOV_CTRL_PMB_EN 0 1) with
      gov := { rails := [(1, g)], hush }, stn := { lockedStn 1000 with elapsed := 80000000 } }
def raiseRead (mv : Nat) : GovRail := { raising := some 1000, reading := some mv }
/-- The same with the rail's telemetry lost. -/
def raiseLost : State := (raising 1 false (raiseRead 900)).fset F.GOV_RAIL_STAT_TELEM_FAIL 1 1

theorem witness_EnvWrite :
    (HostMay (live 1000) Reg.GOV_ENV 0 ∧ 65535 < 2 ^ 16) ∧
    (HostMay (live 1000) Reg.GOV_ENV 0 ∧ 0 < 2 ^ 16 ∧ 0 ≠ (live 1000).fget F.GOV_ENV_STATUS_IN_FORCE 0) := by
  unfold HostMay; (repeat' apply And.intro) <;> decide +kernel

theorem witness_EnvSample :
    (let s : State := sampled (some 65534) false none;
      s.por = false ∧ s.stn.locked = true ∧ s.count % 64 = 0 ∧ 65534 < 2 ^ 16 ∧ (true = true ∧
      s.gov.sample = some 65534) ∧ s.gov.portRun = false ∧ s.gov.budgetAt ≠ some s.stn.elapsed ∧
      65534 ≠ s.fget F.GOV_ENV_STATUS_IN_FORCE 0) ∧
    (let s : State := sampled (some 65535) true (some 64);
      s.por = false ∧ s.stn.locked = true ∧ s.count % 64 = 0 ∧ 65535 < 2 ^ 16 ∧ (¬((true = true ∧
      s.gov.sample = some 65535) ∧
      s.gov.portRun = false) ∨ s.gov.budgetAt = some s.stn.elapsed ∨ 65535 = s.fget F.GOV_ENV_STATUS_IN_FORCE 0))
        := by
  dsimp only; (repeat' apply And.intro) <;> decide +kernel

theorem witness_WhistlesDue :
    (live 1000).por = false := by
  decide +kernel

theorem witness_Strobes :
    ((hinting hintWaits).por = false ∧ ((hinting hintWaits).lhRail 1).queue = [(15, 1000), (3, 1016)] ∧
      ((hinting hintWaits).lhRail 1).stb = false ∧ 1000 ≤ (hinting hintWaits).count ∧
      (((hinting hintWaits).lhRail 1).fell = none ∨ ∃ f, ((hinting hintWaits).lhRail 1).fell = some f ∧
      (f + if (hinting hintWaits).fget F.GOV_LH_CFG_WIDTH 0 = 0 then 1 else (hinting hintWaits).fget
        F.GOV_LH_CFG_WIDTH 0) ≤ (hinting hintWaits).stn.elapsed ∧ f + 8 ≤ (hinting hintWaits).stn.elapsed)) ∧
    ((hinting hintHigh).por = false ∧ ((hinting hintHigh).lhRail 1).stb = true ∧
      (((hinting hintHigh).lhRail 1).rose + if (hinting hintHigh).fget F.GOV_LH_CFG_WIDTH 0 = 0 then 1 else
        (hinting hintHigh).fget F.GOV_LH_CFG_WIDTH 0) ≤ (hinting hintHigh).stn.elapsed) ∧
    ((hinting hintRose).por = false ∧ ((hinting hintRose).lhRail 1).stb = true ∧
      (hinting hintRose).stn.elapsed < ((hinting hintRose).lhRail 1).rose + if (hinting hintRose).fget
        F.GOV_LH_CFG_WIDTH 0 = 0 then 1 else (hinting hintRose).fget F.GOV_LH_CFG_WIDTH 0) := by
  (repeat' apply And.intro) <;> decide +kernel

theorem witness_ControlTick :
    ((overLimit 0).por = false ∧ (overLimit 0).stn.locked = true ∧ (overLimit 0).count % 1600 = 0 ∧
      ((overLimit 0).on F.GOV_CTRL_EN 0 = false ∨ false = true) ∧
      (Frac.ofInt ((100 * (overLimit 0).fget F.GOV_ENV_STATUS_L 0 : ℕ) : ℤ)).lt (overLimit 0).powerForecast = true)
        ∧
    ((overLimit 1).por = false ∧ (overLimit 1).stn.locked = true ∧ (overLimit 1).count % 1600 = 0 ∧
      ((overLimit 1).on F.GOV_CTRL_EN 0 = false ∨ true = true)) := by
  (repeat' apply And.intro) <;> decide +kernel

theorem witness_TakesAStep :
    (overLimit 1).por = false ∧ (overLimit 1).stn.locked = true ∧ (overLimit 1).count % 1600 = 0 ∧
      (overLimit 1).on F.GOV_CTRL_EN 0 = true ∧ 1 < (overLimit 1).build.nSections ∧
      (Frac.ofInt ((100 * (overLimit 1).fget F.GOV_ENV_STATUS_L 0 : ℕ) : ℤ)).lt (overLimit 1).powerForecast = true
        ∧ (∀ j < (overLimit 1).build.nSections, j ≠ 1 → (overLimit 1).secState j = 0) ∧
      (overLimit 1).secState 1 = 3 ∧ (overLimit 1).on F.SEC_STATUS_SAFE_ACTIVE 1 = false ∧
      (overLimit 1).on F.SEC_CTRL_HEADWAY 1 = false ∧
      (∃ r ∈ (overLimit 1).build.regionsOf 1, (overLimit 1).clk r ≠ 2) ∧
      (overLimit 1).fget F.GOV_SEC_STAT_DROP_E 1 < 31 ∧
      (overLimit 1).fget F.GOV_LIMITS_FW_FLOOR 0 + 4096 ≤ (overLimit 1).fwGov 1 ∧
      ((overLimit 1).sec 1).marginUp = false ∧ (overLimit 1).pmb.started = false ∧
      (overLimit 1).dsp.acts = [] := by
  (repeat' apply And.intro) <;> decide +kernel

theorem witness_StepApplies :
    ((stepping 0 1 1 false).por = false ∧ (stepping 0 1 1 false).dsp.acts = [stepAct 0 1] ∧
      (stepAct 0 1).desk = 4 ∧ (stepAct 0 1).tick = (stepping 0 1 1 false).count ∧
      0 < (stepping 0 1 1 false).build.nSections ∧ 0 < 64 ∧ 1 ≤ 1 ∧ 1 ≤ 4 ∧
      (stepAct 0 1).op = ActOp.drop (1 % 2 == 0) [(0, 1)] ∧ (stepping 0 1 1 false).gov.hush = false ∧
      (stepping 0 1 1 false).on F.GOV_CTRL_EN 0 = true ∧ Lane.both ≠ Lane.good) ∧
    ((stepping 0 4 1 false).por = false ∧ (stepping 0 4 1 false).dsp.acts = [stepAct 0 4] ∧
      (stepAct 0 4).desk = 4 ∧ (stepAct 0 4).tick = (stepping 0 4 1 false).count ∧
      0 < (stepping 0 4 1 false).build.nSections ∧ 0 < 64 ∧ 1 ≤ 4 ∧ 4 ≤ 4 ∧
      (stepAct 0 4).op = ActOp.drop (4 % 2 == 0) [(0, 4)] ∧ (stepping 0 4 1 false).gov.hush = false ∧
      (stepping 0 4 1 false).on F.GOV_CTRL_EN 0 = true ∧ Lane.one ≠ Lane.both ∧
      (stepping 0 4 1 false).secState 0 ≠ 3) ∧
    ((stepping 0 3 0 false).por = false ∧ (stepping 0 3 0 false).dsp.acts = [stepAct 0 3] ∧
      (stepAct 0 3).desk = 4 ∧ (stepAct 0 3).tick = (stepping 0 3 0 false).count ∧
      0 < (stepping 0 3 0 false).build.nSections ∧ 0 < 64 ∧ 1 ≤ 3 ∧ 3 ≤ 4 ∧
      (stepAct 0 3).op = ActOp.drop (3 % 2 == 0) [(0, 3)] ∧ (stepping 0 3 0 false).gov.hush = false ∧
      (stepping 0 3 0 false).on F.GOV_CTRL_EN 0 = false) ∧
    ((stepping 0 3 1 true).por = false ∧ (stepping 0 3 1 true).dsp.acts = [stepAct 0 3] ∧ (stepAct 0 3).desk = 4 ∧
      (stepAct 0 3).tick = (stepping 0 3 1 true).count ∧ 0 < (stepping 0 3 1 true).build.nSections ∧ 0 < 64 ∧
      1 ≤ 3 ∧ 3 ≤ 4 ∧ (stepAct 0 3).op = ActOp.drop (3 % 2 == 0) [(0, 3)] ∧
      (stepping 0 3 1 true).gov.hush = true) := by
  (repeat' apply And.intro) <;> decide +kernel

theorem witness_MarginWindow :
    (let s : State := window1 0 64 { : Sec };
      s.por = false ∧ s.stn.locked = true ∧ s.count % 16384 = 0 ∧ 1 < s.build.nSections ∧
      (s.sec 1).symTkAt < 2 ^ 32 ∧ (s.on F.GOV_CTRL_MARGIN_EN 0 = false ∨ s.govExcluded 1 = true)) ∧
    (let s : State := window1 1 4294967295 { pressRun := 3 : Sec };
      s.por = false ∧ s.stn.locked = true ∧ s.count % 16384 = 0 ∧ 1 < s.build.nSections ∧
      (s.sec 1).symTkAt < 2 ^ 32 ∧ s.on F.GOV_CTRL_MARGIN_EN 0 = true ∧ s.govExcluded 1 = false ∧ Pressed s 1) ∧
    (let s : State := window1 1 0 { quietRun := 65535 : Sec };
      s.por = false ∧ s.stn.locked = true ∧ s.count % 16384 = 0 ∧ 1 < s.build.nSections ∧
      (s.sec 1).symTkAt < 2 ^ 32 ∧ s.on F.GOV_CTRL_MARGIN_EN 0 = true ∧ s.govExcluded 1 = false ∧
      ¬Pressed s 1) := by
  unfold Pressed; dsimp only; (repeat' apply And.intro) <;> decide +kernel

theorem witness_RaiseSteps :
    (let s : State := raising 1 false { decided := some 1023 : GovRail };
      s.por = false ∧ (s.govRail 1).decided = some 1023 ∧ 1023 < 1024 ∧ s.gov.hush = false) ∧
    (let s : State := raising 1 true { decided := some 1023 : GovRail };
      s.por = false ∧ (s.govRail 1).decided = some 1023 ∧ 1023 < 1024 ∧ s.gov.hush = true) := by
  dsimp only; (repeat' apply And.intro) <;> decide +kernel

/-- StepApplies: a good step of a READY Section, and the word that it then runs at. -/
theorem witness_StepApplies_ready :
    (steppingReady.por = false ∧ steppingReady.dsp.acts = [stepAct 1 2] ∧ (stepAct 1 2).desk = 4 ∧
      (stepAct 1 2).tick = steppingReady.count ∧ 1 < steppingReady.build.nSections ∧ steppingReady.gov.hush = false ∧
      steppingReady.on F.GOV_CTRL_EN 0 = true ∧ steppingReady.secState 1 = 3 ∧
      (steppingReady.sec 1).edgeAt ≠ some steppingReady.count) ∧
    runsAt stepped 1 (steppingReady.sec 1).req 49152 := by
  refine ⟨by decide +kernel, ?_⟩
  convert runsAt_on stepped 1 139264 (some 139264) (by decide +kernel)
    ⟨fun h => absurd (h 7 (by decide)) (by decide +kernel), fun _ => ⟨⟨7, by decide +kernel⟩, by decide +kernel⟩⟩ using 1
  · decide +kernel
  · decide +kernel

/-- RaiseSteps: a raise that a reading confirms, one that VSETTLE confirms, one that a low reading leaves open until VSETTLE
ends, and one that a reading confirms where the rail may not change. -/
theorem witness_RaiseSteps_confirm :
    (∀ s ∈ [raising 1 false (raiseRead 900), raising 0 false (raiseRead 0), raising 1 false (raiseRead 0), raiseLost],
      s.por = false ∧ (s.govRail 1).raising = some 1000 ∧ 1000 + s.settleTk ≤ s.stn.elapsed) ∧
    (Confirmed (raising 1 false (raiseRead 900)) 1 1000 ∧ MayChange (raising 1 false (raiseRead 900)) 1) ∧
    (Confirmed (raising 0 false (raiseRead 0)) 1 1000 ∧ MayChange (raising 0 false (raiseRead 0)) 1) ∧
    (∀ h, ¬ (Confirmed (raising 1 false (raiseRead 0)) 1 1000 ∧ MayChange { raising 1 false (raiseRead 0) with gov := h } 1)) ∧
    ∀ h, ¬ (Confirmed raiseLost 1 1000 ∧ MayChange { raiseLost with gov := h } 1) := by
  refine ⟨by decide +kernel, ⟨?_, by unfold MayChange; decide +kernel⟩, ⟨?_, by unfold MayChange; decide +kernel⟩, ?_, ?_⟩
  · unfold Confirmed
    rw [if_pos (by decide +kernel)]
    exact ⟨900, by decide +kernel⟩
  · unfold Confirmed
    rw [if_neg (by decide +kernel)]
    decide +kernel
  · rintro h ⟨hc, -⟩
    unfold Confirmed at hc
    rw [if_pos (by decide +kernel)] at hc
    obtain ⟨mv, hr, hv⟩ := hc
    rw [show ((raising 1 false (raiseRead 0)).govRail 1).reading = some 0 by decide +kernel] at hr
    cases hr
    exact absurd hv (by decide +kernel)
  · rintro h ⟨-, hm⟩
    exact absurd hm.1 (show ¬ raiseLost.on F.GOV_RAIL_STAT_TELEM_FAIL 1 = false by decide +kernel)

/-! ### The PMBus host -/

/-- The PMBus host after its start, with a transaction, nothing waiting. -/
def busy (cur : Option PTxn) : Pmb := { begun := true, started := true, cur }
def onBus (p : Pmb) : State :=
  { (((live 1000).fset F.GOV_CTRL_PMB_EN 0 1).fset F.GOV_CTRL_EN 0 1) with pmb := p, stn := { lockedStn 1600000 with elapsed := 160000000 } }
/-- Rail 1 has lost its telemetry. -/
def lost (p : Pmb) : State := (onBus p).fset F.GOV_RAIL_STAT_TELEM_FAIL 1 1
def iout1 (paging : Bool) (fails railFails : Nat) : Pmb := { busy (some (.iout 1)) with paging, fails, rails := [(1, { fails := railFails })] }
def commanding (vouts : List (Nat × Nat)) (reqs : List (Nat × Nat × Nat × Nat)) : Pmb :=
  { busy (some (.command 0 0)) with vouts, reqs, round := [.iout 0] }
/-- A voltage waits for the free bus. -/
def waitingVout : State := onBus { busy none with vouts := [(1, 900)] }
/-- A voltage waits below the one that rail 1 was commanded to. -/
def commanded : State := (onBus (commanding [(1, 900)] [])).fset F.GOV_RAIL_STAT_VCMD 1 901
/-- ALERT# is low. -/
def alerted (p : Pmb) : Pmb := { p with alertPin := { level := false } }
def threeAlerts : Pmb := { alerted (busy none) with sameAddr := 3 }
def early : State := { (live 95999).fset F.GOV_CTRL_PMB_EN 0 1 with pmb := {} }
def atStart : State := (live 96000).fset F.GOV_CTRL_PMB_EN 0 1
def pmbOff (p : Pmb) : State := (onBus p).fset F.GOV_CTRL_PMB_EN 0 0
def stuck1 : State := (onBus (busy (some (.iout 0)))).fset F.GOV_RAIL_STAT_ALERT_STUCK 1 1
/-- Rail 1 uses PEC. -/
def withPec (p : Pmb) : State := (onBus p).fset F.GOV_RAIL_CFG_PEC 1 1
/-- The datapaths disagree in this control period. -/
def hushed (p : Pmb) : State := { onBus p with gov := { hush := true } }
/-- The clock has been low for more than 25 ms. -/
def clockHeld (p : Pmb) : Pmb := { p with clkPin := { level := false, since := 119999999 } }

theorem witness_PmbStart :
    (atStart.por = false ∧ atStart.stn.locked = true ∧ atStart.on F.GOV_CTRL_PMB_EN 0 = true ∧
      atStart.pmb.begun = false ∧ atStart.pmb.cur = none ∧ 0 < atStart.build.nRails ∧ atStart.pmb.reqs = [] ∧
      96000 ≤ atStart.count) ∧
    (early.por = false ∧ early.stn.locked = true ∧ early.on F.GOV_CTRL_PMB_EN 0 = true ∧ early.pmb.begun = false ∧
      early.pmb.cur = none ∧ 0 < early.build.nRails ∧ early.pmb.reqs = [] ∧ early.count < 96000) := by
  (repeat' apply And.intro) <;> decide +kernel

theorem witness_PmbEn :
    (HostMay (onBus (busy none)) Reg.GOV_CTRL 0 ∧
      (true = (onBus (busy none)).on F.GOV_CTRL_PMB_EN 0 ∨ true = true ∧ (onBus (busy none)).pmb.begun = false)) ∧
    (HostMay waitingVout Reg.GOV_CTRL 0 ∧ waitingVout.on F.GOV_CTRL_PMB_EN 0 = true) ∧
    (HostMay (pmbOff (busy none)) Reg.GOV_CTRL 0 ∧ (pmbOff (busy none)).on F.GOV_CTRL_PMB_EN 0 = false ∧
      (pmbOff (busy none)).pmb.begun = true ∧ 0 < (pmbOff (busy none)).build.nRails ∧
      (pmbOff (busy none)).pmb.reqs = [] ∧ (pmbOff (busy none)).pmb.cur = none) ∧
    (let s : State := pmbOff (busy (some (PTxn.iout 1)));
      HostMay s Reg.GOV_CTRL 0 ∧ s.on F.GOV_CTRL_PMB_EN 0 = false ∧ s.pmb.begun = true ∧ 0 < s.build.nRails ∧
      s.pmb.reqs = [] ∧ s.pmb.cur ≠ none) := by
  unfold HostMay; dsimp only; (repeat' apply And.intro) <;> decide +kernel

theorem witness_TxnReads :
    (let s : State := onBus (iout1 true 2 0);
      s.por = false ∧ Idle s.pmb ∧ NoAlert s.pmb ∧ s.confirmRail = none ∧ 1 < s.build.nRails ∧ 1 < 16 ∧
      65535 < 2 ^ 16 ∧ s.pmb.cur ≠ none ∧ s.pmb.paging = true) ∧
    (let s : State := onBus (busy (some (PTxn.iout 1)));
      s.por = false ∧ Idle s.pmb ∧ NoAlert s.pmb ∧ s.confirmRail = none ∧ 1 < s.build.nRails ∧ 1 < 16 ∧
      65535 < 2 ^ 16 ∧ s.pmb.paging = false ∧ s.pmb.cur = some (PTxn.iout 1) ∧
      s.on F.GOV_RAIL_STAT_TELEM_FAIL 1 = false) ∧
    (let s : State := lost (busy (some (PTxn.retry 1)));
      s.por = false ∧ Idle s.pmb ∧ NoAlert s.pmb ∧ s.confirmRail = none ∧ 1 < s.build.nRails ∧ 1 < 16 ∧
      65535 < 2 ^ 16 ∧ s.pmb.paging = false ∧ s.pmb.cur = some (PTxn.retry 1) ∧
      s.on F.GOV_RAIL_STAT_TELEM_FAIL 1 = true) ∧
    (let s : State := onBus (busy (some (PTxn.status 1)));
      s.por = false ∧ Idle s.pmb ∧ NoAlert s.pmb ∧ s.confirmRail = none ∧ 1 < s.build.nRails ∧ 1 < 16 ∧
      65535 < 2 ^ 16 ∧ s.pmb.paging = false ∧ s.pmb.cur = some (PTxn.status 1)) ∧
    (let s : State := onBus (busy (some (PTxn.command 1 1023)));
      s.por = false ∧ Idle s.pmb ∧ NoAlert s.pmb ∧ s.confirmRail = none ∧ 1 < s.build.nRails ∧ 1 < 16 ∧
      65535 < 2 ^ 16 ∧ s.pmb.paging = false ∧ s.pmb.cur = some (PTxn.command 1 1023)) ∧
    (let s : State := onBus (busy (some (PTxn.host 1 1 140 0)));
      s.por = false ∧ Idle s.pmb ∧ NoAlert s.pmb ∧ s.confirmRail = none ∧ 1 < s.build.nRails ∧ 1 < 16 ∧
      65535 < 2 ^ 16 ∧ s.pmb.paging = false ∧ s.pmb.cur = some (PTxn.host 1 1 140 0)) := by
  unfold Idle NoAlert; dsimp only; (repeat' apply And.intro) <;> decide +kernel

theorem witness_Telemetry :
    (let s : State := onBus (busy (some (PTxn.iout 1)));
      s.por = false ∧ s.stn.locked = true ∧ s.count % 1600000 = 0 ∧ s.pmb.cur ≠ none) ∧
    ((onBus (busy none)).por = false ∧ (onBus (busy none)).stn.locked = true ∧
      (onBus (busy none)).count % 1600000 = 0 ∧ (onBus (busy none)).pmb.cur = none ∧ Idle (onBus (busy none)).pmb ∧
      NoAlert (onBus (busy none)).pmb ∧ (onBus (busy none)).confirmRail = none ∧
      (onBus (busy none)).on F.GOV_CTRL_PMB_EN 0 = true ∧ 0 < (onBus (busy none)).build.nRails ∧
      (onBus (busy none)).on F.GOV_RAIL_CFG_TELEM 0 = true ∧
      (onBus (busy none)).on F.GOV_RAIL_STAT_TELEM_FAIL 0 = false ∧
      (∀ m < 0, (onBus (busy none)).on F.GOV_RAIL_CFG_TELEM m = false ∨ (onBus (busy none)).on
        F.GOV_RAIL_STAT_TELEM_FAIL m = true)) ∧
    (let s : State := lost (busy (some (PTxn.iout 0)));
      s.por = false ∧ s.stn.locked = true ∧ s.on F.GOV_RAIL_STAT_TELEM_FAIL 1 = true ∧
      (s.pmbRail 1).retryAt ≤ s.stn.elapsed ∧ s.pmb.cur ≠ none) ∧
    ((lost (busy none)).por = false ∧ (lost (busy none)).stn.locked = true ∧
      (lost (busy none)).on F.GOV_RAIL_STAT_TELEM_FAIL 1 = true ∧
      ((lost (busy none)).pmbRail 1).retryAt ≤ (lost (busy none)).stn.elapsed ∧ (lost (busy none)).pmb.cur = none ∧
      Idle (lost (busy none)).pmb ∧ NoAlert (lost (busy none)).pmb ∧ (lost (busy none)).confirmRail = none ∧
      (lost (busy none)).on F.GOV_CTRL_PMB_EN 0 = true) := by
  unfold Idle NoAlert; dsimp only; (repeat' apply And.intro) <;> decide +kernel

theorem witness_Alerts :
    (let s : State := onBus (alerted (busy (some (PTxn.iout 1))));
      s.por = false ∧ (s.pmb.cur ≠ none ∨ NoAlert s.pmb)) ∧
    (let s : State := onBus (alerted (busy none));
      s.por = false ∧ s.pmb.cur = none ∧ Idle s.pmb ∧ ¬NoAlert s.pmb ∧ s.on F.GOV_CTRL_PMB_EN 0 = true ∧
      s.pmb.sameAddr < 3 ∧ s.pmb.nacks < 3) ∧
    ((onBus threeAlerts).por = false ∧ (onBus threeAlerts).pmb.cur = none ∧ Idle (onBus threeAlerts).pmb ∧
      ¬NoAlert (onBus threeAlerts).pmb ∧ (onBus threeAlerts).confirmRail = none ∧
      3 ≤ (onBus threeAlerts).pmb.sameAddr) ∧
    (HostMay stuck1 Reg.GOV_RAIL_STAT 1 ∧ 1 < stuck1.build.nRails ∧ stuck1.build.nRails ≤ 16 ∧
      stuck1.on F.GOV_RAIL_STAT_ALERT_STUCK 1 = true ∧
      (BitVec.toNat (stuck1.freshBits Reg.GOV_RAIL_STAT 1)).testBit 29 = false ∧ stuck1.pmb.cur ≠ none) := by
  unfold NoAlert Idle HostMay; dsimp only; (repeat' apply And.intro) <;> decide +kernel

theorem witness_Requests :
    (HostMay (pmbOff (busy none)) Reg.GOV_PMB_REQ 0 ∧ 7 < 8 ∧ 15 < 16 ∧ 255 < 256 ∧ 65535 < 2 ^ 16 ∧
      ((pmbOff (busy none)).on F.GOV_CTRL_PMB_EN 0 = false ∨ (255 = 33 ∨ 255 = 0) ∧
      (pmbOff (busy none)).on F.GOV_CTRL_EN 0 = true)) ∧
    (let s : State := onBus (busy (some (PTxn.iout 1)));
      HostMay s Reg.GOV_PMB_REQ 0 ∧ 7 < 8 ∧ 15 < 16 ∧ 255 < 256 ∧ 65535 < 2 ^ 16 ∧
      ¬(s.on F.GOV_CTRL_PMB_EN 0 = false ∨ (255 = 33 ∨ 255 = 0) ∧ s.on F.GOV_CTRL_EN 0 = true) ∧
      s.pmb.cur ≠ none) := by
  unfold HostMay; dsimp only; (repeat' apply And.intro) <;> decide +kernel

theorem witness_Precedence :
    (let s : State := onBus (alerted (commanding [(1, 900)] [(0, 1, 140, 0)]));
      s.por = false ∧ s.pmb.cur = some (PTxn.command 0 0) ∧ s.pmb.paging = false ∧ s.pmb.begun = true ∧
      s.pmb.started = true ∧ s.pmb.start = [] ∧ s.pmb.service = [] ∧ s.on F.GOV_CTRL_PMB_EN 0 = true ∧
      s.confirmRail = none ∧ s.pmb.sameAddr < 3 ∧ s.pmb.nacks < 3 ∧
      (s.pmb.reqs = [] ∨ s.pmb.reqs = [(0, 1, 140, 0)] ∧ ¬((140 = 33 ∨ 140 = 0) ∧ s.on F.GOV_CTRL_EN 0 = true)) ∧
      ¬NoAlert s.pmb) ∧
    (let s : State := onBus (commanding [(1, 900)] [(0, 1, 140, 0)]);
      s.por = false ∧ s.pmb.cur = some (PTxn.command 0 0) ∧ s.pmb.paging = false ∧ s.pmb.begun = true ∧
      s.pmb.started = true ∧ s.pmb.start = [] ∧ s.pmb.service = [] ∧ s.on F.GOV_CTRL_PMB_EN 0 = true ∧
      s.confirmRail = none ∧ s.pmb.sameAddr < 3 ∧ s.pmb.nacks < 3 ∧
      (s.pmb.reqs = [] ∨ s.pmb.reqs = [(0, 1, 140, 0)] ∧ ¬((140 = 33 ∨ 140 = 0) ∧ s.on F.GOV_CTRL_EN 0 = true)) ∧
      NoAlert s.pmb ∧ s.gov.hush = false ∧ s.pmb.vouts = [(1, 900)] ∧ 900 < 1024 ∧
      s.fget F.GOV_RAIL_STAT_VCMD 1 ≤ 900) ∧
    (commanded.por = false ∧ commanded.pmb.cur = some (PTxn.command 0 0) ∧ commanded.pmb.paging = false ∧
      commanded.pmb.begun = true ∧ commanded.pmb.started = true ∧ commanded.pmb.start = [] ∧
      commanded.pmb.service = [] ∧ commanded.on F.GOV_CTRL_PMB_EN 0 = true ∧ commanded.confirmRail = none ∧
      commanded.pmb.sameAddr < 3 ∧ commanded.pmb.nacks < 3 ∧
      (commanded.pmb.reqs = [] ∨ commanded.pmb.reqs = [(0, 1, 140, 0)] ∧ ¬((140 = 33 ∨ 140 = 0) ∧
      commanded.on F.GOV_CTRL_EN 0 = true)) ∧ NoAlert commanded.pmb ∧ commanded.gov.hush = false ∧
      commanded.pmb.vouts = [(1, 900)] ∧ 900 < 1024 ∧ 900 < commanded.fget F.GOV_RAIL_STAT_VCMD 1) ∧
    (let s : State := onBus (commanding [] [(0, 1, 140, 0)]);
      s.por = false ∧ s.pmb.cur = some (PTxn.command 0 0) ∧ s.pmb.paging = false ∧ s.pmb.begun = true ∧
      s.pmb.started = true ∧ s.pmb.start = [] ∧ s.pmb.service = [] ∧ s.on F.GOV_CTRL_PMB_EN 0 = true ∧
      s.confirmRail = none ∧ s.pmb.sameAddr < 3 ∧ s.pmb.nacks < 3 ∧
      (s.pmb.reqs = [] ∨ s.pmb.reqs = [(0, 1, 140, 0)] ∧ ¬((140 = 33 ∨ 140 = 0) ∧ s.on F.GOV_CTRL_EN 0 = true)) ∧
      NoAlert s.pmb ∧ (s.gov.hush = true ∨ s.pmb.vouts = []) ∧ s.pmb.reqs = [(0, 1, 140, 0)]) := by
  unfold NoAlert; dsimp only; (repeat' apply And.intro) <;> decide +kernel

/-- TxnFailures: replies that the bus cannot show; the first two failures of the transaction or of its write of PAGE, the third,
and the third of three reads. -/
theorem witness_TxnFailures :
    (∀ s ∈ [onBus (iout1 false 0 0), onBus (iout1 false 1 0), onBus (iout1 true 2 1), withPec (iout1 false 2 2),
        onBus (clockHeld (iout1 false 2 2))],
      s.por = false ∧ s.pmb.cur = some (.iout 1) ∧ Idle s.pmb ∧ NoAlert s.pmb ∧ s.confirmRail = none ∧
        s.on F.GOV_RAIL_STAT_TELEM_FAIL 1 = false) ∧
    (∀ r ∈ [PmbReply.nack, .pec, .clockLow], ∀ d, r ≠ .ok d) ∧
    ¬ Shown (onBus (iout1 false 0 0)) 1 .pec ∧ ¬ Shown (onBus (iout1 false 0 0)) 1 .clockLow ∧
    Shown (onBus (iout1 false 1 0)) 1 .nack ∧ Shown (onBus (iout1 true 2 1)) 1 .nack ∧
    Shown (withPec (iout1 false 2 2)) 1 .pec ∧ Shown (onBus (clockHeld (iout1 false 2 2))) 1 .clockLow := by
  refine ⟨by unfold Idle NoAlert; decide +kernel, ?_, by unfold Shown; decide +kernel, by unfold Shown; decide +kernel,
    by unfold Shown; decide +kernel, by unfold Shown; decide +kernel, by unfold Shown; decide +kernel,
    by unfold Shown; decide +kernel⟩
  intro r hr d h
  subst h
  simp at hr

/-! ### The Meter -/

/-- An interval of the Meter ends: rail 1's estimates and a sample of its current; region 3 is on rail 1. -/
def interval (recon e i : Nat) : State :=
  { ((((live 1600000).fset F.GOV_CTRL_PMB_EN 0 1).fset F.MTR_CTRL_RECON_EN 0 recon).fset F.GOV_RAIL_CFG_TELEM 1 1) with
      stn := { lockedStn 1600000 with elapsed := 1600000 }
      mtr := { rgns := [(3, { cur := [(64, e)], volts := e * 1000 })], rails := [(1, { samples := [(800000, i, 1000)] })] } }
/-- The results of a closed interval are due; in it a step of 7 tokens ended. -/
def closed (l : List (Nat × Mark)) : State :=
  { live 1650000 with mtr := { due := some (0, 1600000, 65535), shut := l, rgns := [(3, { shut := [(64, 1000)] })] } }

theorem witness_Estimate :
    (live 64000).por = false ∧ (live 64000).stn.locked = true ∧ (live 64000).count % 64 = 0 ∧
      3 < (live 64000).build.nRegions := by
  (repeat' apply And.intro) <;> decide +kernel

theorem witness_Close :
    (interval 0 1000000 1).por = false ∧ (interval 0 1000000 1).stn.locked = true ∧
      (interval 0 1000000 1).count % 1600000 = 0 ∧ (interval 0 1000000 1).mtr.due = none := by
  (repeat' apply And.intro) <;> decide +kernel

theorem witness_Result :
    ((closed []).por = false ∧ (closed []).mtr.due = some (0, 1600000, 65535) ∧ 65535 < 2 ^ 16 ∧
      (closed []).mtr.marks = [] ∧ ((closed []).mtr.shut = [] ∨ (closed []).mtr.shut = [(0, Mark.step 0)] ∧ 0 ≤ 0 ∧
      0 ≤ 1600000 ∧ (closed []).mtr.stepAt ≤ 0 ∧ 0 < 2 ^ 64) ∧ (closed []).mtr.shut = []) ∧
    (let s : State := closed [(1600000, Mark.step 7)];
      s.por = false ∧ s.mtr.due = some (0, 1600000, 65535) ∧ 65535 < 2 ^ 16 ∧ s.mtr.marks = [] ∧
      (s.mtr.shut = [] ∨ s.mtr.shut = [(1600000, Mark.step 7)] ∧ 0 ≤ 1600000 ∧ 1600000 ≤ 1600000 ∧
      s.mtr.stepAt ≤ 1600000 ∧ 1600000 < 2 ^ 64) ∧ s.mtr.shut ≠ []) := by
  dsimp only; (repeat' apply And.intro) <;> decide +kernel

/-! ### Event sources and the log -/

/-- Entries: of class 5, of class 0, and the one that a posting of class 5 merges into. -/
def post5 : Entry := { tick := 552, src := 5, cls := 5, code := 255, payload := 4294967295 }
def postC0 : Entry := { tick := 552, src := 5, cls := 0, code := 0x17, payload := 9 }
/-- Source 5 holds places. -/
def placed (c0 gen : List Entry) (gap : Option (Nat × Nat)) : State :=
  { live 1000 with log := { srcs := [(5, { c0, gen, gap })] } }
def other5 (n : Nat) : Entry := { tick := n, src := 5, cls := 5, code := n, payload := 0 }
/-- The log is ready, its epoch written. -/
def logged (n : Nat) (l : Log) : State :=
  { (live n).fset F.EVT_CTRL_EN 0 1 with log := l, stn := { lockedStn n with elapsed := 4096 } }
def upLog : Log := { up := true, lastHi := some 0 }
def taking (o : Source) : Log := { upLog with srcs := [(5, o)] }
def received (l : List Entry) : Log := { upLog with received := l, committed := 551 }
/-- 4,095 entries are unconsumed, index and read index past their wrap. -/
def logFull (l : Log) : State := ((logged 1000 l).setReg .EVT_WIDX 0 2).setReg .EVT_RIDX 0 (0 - 4093)
def stopped (l : Log) : State := (logged 1000 l).fset F.EVT_CTRL_EN 0 0
/-- Entries that a hard alignment overtook, or with a failed lane. -/
def stale5 : Entry := { post5 with stale := true }
def oneC0 : Entry := { postC0 with lane := .one }
def one5 : Entry := { post5 with lane := .one }
def overflowed : Log := { upLog with overflow := some (900, 70000, 5000000000) }

theorem witness_EventPosting :
    ((placed [] [] none).por = false ∧ 0 < 16 ∧ 255 < 256 ∧ 4294967295 < 2 ^ 32 ∧
      ((placed [] [] none).source 5).gap = none ∧ (∀ x ∈ ((placed [] [] none).source 5).gen, x.mark = false)) ∧
    (let s : State := placed [] [other5 1, other5 2, other5 3, other5 4, other5 5, other5 6] none;
      s.por = false ∧ 15 < 16 ∧ 7 < 256 ∧ 0 < 2 ^ 32 ∧ (s.source 5).gap = none ∧
      (∀ x ∈ (s.source 5).gen, x.mark = false) ∧ 15 ≠ 0) := by
  dsimp only; (repeat' apply And.intro) <;> decide +kernel

theorem witness_GapMarker :
    (let s : State := placed [] [] (some (900, 70000));
      s.por = false ∧ (s.source 5).gap = some (900, 70000) ∧ (s.source 5).gen.length < 6) ∧
    (let s : State := placed [] (List.replicate 6 post5) (some (900, 1));
      s.por = false ∧ (s.source 5).gap = some (900, 1) ∧ 6 ≤ (s.source 5).gen.length) := by
  dsimp only; (repeat' apply And.intro) <;> decide +kernel

theorem witness_NetworkTake :
    (let s : State := stopped (taking { c0 := [postC0] : Source });
      s.por = false ∧ s.logReady = false) ∧
    (let s : State := logged 1000 (taking { c0 := [postC0], gen := [post5] : Source });
      s.por = false ∧ s.logReady = true ∧ s.log.took = 0) ∧
    (let s : State := logged 1000 (taking { gen := [stale5] : Source });
      s.por = false ∧ s.logReady = true ∧ s.log.took = 0 ∧ s.log.srcs = [(5, { gen := [stale5] : Source })]) := by
  dsimp only; (repeat' apply And.intro) <;> decide +kernel

theorem witness_LogCommits :
    (let s : State := logged 999 (received [post5]);
      s.por = false ∧ s.logReady = true ∧ 448 ≤ s.count ∧ s.log.received = [post5] ∧ post5.cls < 16 ∧
      post5.src < 2 ^ 11 ∧ post5.code < 256 ∧ post5.count < 2 ^ 16 ∧ post5.payload < 2 ^ 32 ∧ post5.mark = false ∧
      s.count < post5.tick + 448 ∧ s.log.overflow = none) ∧
    (let s : State := logged 1000 (received [post5]);
      s.por = false ∧ s.logReady = true ∧ 448 ≤ s.count ∧ s.log.received = [post5] ∧ post5.cls < 16 ∧
      post5.src < 2 ^ 11 ∧ post5.code < 256 ∧ post5.count < 2 ^ 16 ∧ post5.payload < 2 ^ 32 ∧ post5.mark = false ∧
      post5.tick + 448 ≤ s.count ∧ LogOpen s post5.tick ∧ (post5.lane = Lane.good ∨ post5.lane = Lane.one ∧
      post5.cls = 0)) ∧
    (let s : State := logged 1000 (received [oneC0]);
      s.por = false ∧ s.logReady = true ∧ 448 ≤ s.count ∧ s.log.received = [oneC0] ∧ oneC0.cls < 16 ∧
      oneC0.src < 2 ^ 11 ∧ oneC0.code < 256 ∧ oneC0.count < 2 ^ 16 ∧ oneC0.payload < 2 ^ 32 ∧ oneC0.mark = false ∧
      oneC0.tick + 448 ≤ s.count ∧ LogOpen s oneC0.tick ∧ (oneC0.lane = Lane.good ∨ oneC0.lane = Lane.one ∧
      oneC0.cls = 0) ∧ oneC0.lane = Lane.one) ∧
    (let s : State := logged 1000 (received [one5]);
      s.por = false ∧ s.logReady = true ∧ 448 ≤ s.count ∧ s.log.received = [one5] ∧ one5.cls < 16 ∧
      one5.src < 2 ^ 11 ∧ one5.code < 256 ∧ one5.count < 2 ^ 16 ∧ one5.payload < 2 ^ 32 ∧ one5.mark = false ∧
      one5.tick + 448 ≤ s.count ∧ LogOpen s (s.count - 448) ∧ (one5.lane = Lane.both ∨ one5.lane = Lane.one ∧
      one5.cls ≠ 0)) := by
  unfold LogOpen; dsimp only; (repeat' apply And.intro) <;> decide +kernel

theorem witness_Overflow :
    (let s : State := logFull (received [post5]);
      s.por = false ∧ s.logReady = true ∧ 448 ≤ s.count ∧ s.log.received = [post5] ∧ post5.mark = false ∧
      post5.lane = Lane.good ∧ post5.cls < 16 ∧ post5.tick + 448 ≤ s.count ∧ s.log.overflow = none ∧
      4095 ≤ s.unconsumed ∧ (s.log.overflow = none ∨ 3072 < s.unconsumed)) ∧
    (let s : State := logged 1000 overflowed;
      s.por = false ∧ s.logReady = true ∧ s.log.overflow = some (900, 70000, 5000000000) ∧ s.unconsumed ≤ 3072 ∧
      s.log.lastHi = some (900 / 2 ^ 48)) := by
  dsimp only; (repeat' apply And.intro) <;> decide +kernel

theorem witness_LogReady :
    ((stopped { : Log }).por = false ∧ (stopped { : Log }).stn.locked = true ∧
      4096 ≤ (stopped { : Log }).stn.elapsed ∧ (stopped { : Log }).log.up = false ∧
      (stopped { : Log }).shadow = [] ∧
      ((stopped { : Log }).on F.EVT_CTRL_EN 0 = false ∨ (stopped { : Log }).log.recover = [])) ∧
    (let s : State := logged 5000 { lastHi := some 0, recover := [(1, [])] : Log };
      s.por = false ∧ s.stn.locked = true ∧ 4096 ≤ s.stn.elapsed ∧ s.log.up = false ∧ s.shadow = [] ∧
      s.on F.EVT_CTRL_EN 0 = true ∧ s.log.recover = [(1, [])] ∧ 1 < 2 ^ 32 ∧ s.log.received = [] ∧
      LogOpen s (s.count - 1)) := by
  unfold LogOpen; dsimp only; (repeat' apply And.intro) <;> decide +kernel

theorem witness_LogControl :
    (HostMay (logged 1000 upLog) Reg.EVT_CTRL 0 ∧ (logged 1000 upLog).on F.EVT_CTRL_RECOVER 0 = false ∧
      (logged 1000 upLog).on F.EVT_CTRL_EN 0 = true ∧ (logged 1000 upLog).log.received = [] ∧
      LogOpen (logged 1000 upLog) ((logged 1000 upLog).count - 1)) ∧
    (HostMay (stopped upLog) Reg.EVT_CTRL 0 ∧ (stopped upLog).on F.EVT_CTRL_RECOVER 0 = false ∧
      (stopped upLog).on F.EVT_CTRL_EN 0 = false ∧ (stopped upLog).log.recover = [] ∧
      (stopped upLog).log.received = [] ∧ LogOpen (stopped upLog) ((stopped upLog).count - 1)) := by
  unfold HostMay LogOpen; (repeat' apply And.intro) <;> decide +kernel

theorem witness_Consume :
    HostMay (logFull upLog) Reg.EVT_RIDX 0 ∧ 2 < 2 ^ 32 := by
  unfold HostMay; (repeat' apply And.intro) <;> decide +kernel

theorem witness_LogReads :
    ((live 1000).por = false ∧ 1023 < 1024 ∧ 3 < 4 ∧ (live 1000).on F.EVT_STATUS_UNCORR_SEEN 0 = false ∧
      (live 1000).on F.JNL_STATUS_UNCORR_SEEN 0 = false) ∧
    ((live 1000).por = false ∧ 1023 < 1024 ∧ 2 < 4 ∧
      (Ecc.corrected ≠ Ecc.uncorrectable ∨ (live 1000).on F.EVT_STATUS_UNCORR_SEEN 0 = true) ∧
      (Ecc.corrected ≠ Ecc.uncorrectable ∨ (live 1000).on F.JNL_STATUS_UNCORR_SEEN 0 = true)) := by
  (repeat' apply And.intro) <;> decide +kernel

/-! ### The spill -/

/-- The spill runs, with bursts outstanding and words of the ring's indices; five entries wait. -/
def spilling (bursts : List Nat) (wr conv : Nat) : State :=
  let s := (((logged 1000 { upLog with spill := { active := true, base := 4096, con := 8192, ptr := 8196, log2 := 8, bursts } }).setReg
    .EVT_WIDX 0 5).setReg .EVT_RING_WR 0 (BitVec.ofNat 32 wr)).setReg .EVT_RING_CONV 0 (BitVec.ofNat 32 conv)
  (s.fset F.EVT_SPILL_CFG_BATCH 0 4).fset F.EVT_CTRL_MODE 0 1
def ringFull (conAt : Option Nat) : State :=
  let s := ((spilling [] 256 0).fset F.EVT_STATUS_RING_FULL 0 1).fset F.EVT_SPILL_CFG_TIMEOUT 0 0
  { s with log := { s.log with spill := { s.log.spill with conAt } } }
def doorbell (en : Nat) : State := (spilling [16, 3] 250 0).fset F.EVT_SPILL_CFG_DOORBELL_EN 0 en

theorem witness_Mode :
    (HostMay (logged 1000 upLog) Reg.EVT_CTRL 0 ∧ (logged 1000 upLog).on F.EVT_CTRL_RECOVER 0 = false ∧
      (logged 1000 upLog).on F.EVT_CTRL_MODE 0 = false ∧ (logged 1000 upLog).log.spill.active = false) ∧
    (HostMay (spilling [] 0 0) Reg.EVT_CTRL 0 ∧ (spilling [] 0 0).on F.EVT_CTRL_RECOVER 0 = false ∧
      (spilling [] 0 0).on F.EVT_CTRL_MODE 0 = true) := by
  unfold HostMay; (repeat' apply And.intro) <;> decide +kernel

theorem witness_Burst :
    (MaySpill (spilling [] 254 30) ∧ (spilling [] 254 30).on F.EVT_STATUS_RING_FULL 0 = false ∧
      (spilling [] 254 30).log.spill.bursts = [] ∧
      max 1 (min 16 ((spilling [] 254 30).fget F.EVT_SPILL_CFG_BATCH 0)) ≤ (spilling [] 254 30).unconsumed ∧
      (spilling [] 254 30).log.spill.base % 4096 = 0 ∧ 8 ≤ (spilling [] 254 30).log.spill.log2 ∧
      (spilling [] 254 30).log.spill.log2 ≤ 26 ∧
      (spilling [] 254 30).log.spill.base + 16 * 2 ^ (spilling [] 254 30).log.spill.log2 ≤ 2 ^ 40 ∧
      (BitVec.toNat ((spilling [] 254 30).reg Reg.EVT_RING_WR 0) + 2 ^ 32 - BitVec.toNat ((spilling [] 254 30).reg
        Reg.EVT_RING_CONV 0)) % 2 ^ 32 + 16 ≤ 2 ^ (spilling [] 254 30).log.spill.log2) ∧
    (MaySpill (ringFull none) ∧ (ringFull none).on F.EVT_STATUS_RING_FULL 0 = true) := by
  unfold MaySpill; (repeat' apply And.intro) <;> decide +kernel

theorem witness_BurstDone :
    ((doorbell 0).por = false ∧ (doorbell 0).log.spill.bursts = [16, 3] ∧ (doorbell 0).log.spill.stopping = false ∧
      (doorbell 0).axi.held = false ∧ (doorbell 0).on F.EVT_SPILL_CFG_DOORBELL_EN 0 = false) ∧
    ((doorbell 1).por = false ∧ (doorbell 1).log.spill.bursts = [16, 3] ∧ (doorbell 1).log.spill.stopping = false ∧
      (doorbell 1).axi.held = false ∧ (doorbell 1).on F.EVT_SPILL_CFG_DOORBELL_EN 0 = true) := by
  (repeat' apply And.intro) <;> decide +kernel

theorem witness_IndexReads :
    (let s : State := spilling [] 254 4294967295;
      MaySpill s ∧ s.on F.EVT_STATUS_RING_FULL 0 = false ∧ s.ringRoom < s.burstWant ∧ s.log.spill.bursts = [] ∧
      254 < 2 ^ 32 ∧ s.log.spill.con + 4 ≤ 2 ^ 40 ∧ s.log.spill.log2 ≤ 26 ∧
      (BitVec.toNat (s.reg Reg.EVT_RING_WR 0) + 2 ^ 32 - 254) % 2 ^ 32 ≤ 2 ^ s.log.spill.log2 ∧
      (s.on F.EVT_STATUS_RING_FULL 0 = false ∨ ¬∀ (at_ : ℕ), s.log.spill.conAt = some at_ → (at_ + 1600 * if s.fget
        F.EVT_SPILL_CFG_TIMEOUT 0 = 0 then 1 else s.fget F.EVT_SPILL_CFG_TIMEOUT 0) ≤ s.stn.elapsed)) ∧
    (let s : State := spilling [] 254 4294967295;
      MaySpill s ∧ s.on F.EVT_STATUS_RING_FULL 0 = false ∧ s.ringRoom < s.burstWant ∧ s.log.spill.bursts = [] ∧
      4294967000 < 2 ^ 32 ∧ s.log.spill.con + 4 ≤ 2 ^ 40 ∧ s.log.spill.log2 ≤ 26 ∧
      2 ^ s.log.spill.log2 < (BitVec.toNat (s.reg Reg.EVT_RING_WR 0) + 2 ^ 32 - 4294967000) % 2 ^ 32) ∧
    (MaySpill (ringFull (some 2496)) ∧ (ringFull (some 2496)).on F.EVT_STATUS_RING_FULL 0 = true ∧
      (∀ (at_ : ℕ), (ringFull (some 2496)).log.spill.conAt = some at_ → (at_ + 1600 * if (ringFull (some
        2496)).fget F.EVT_SPILL_CFG_TIMEOUT 0 = 0 then 1 else (ringFull (some 2496)).fget F.EVT_SPILL_CFG_TIMEOUT
        0) ≤ (ringFull (some 2496)).stn.elapsed) ∧ (ringFull (some 2496)).log.spill.bursts = [] ∧ 256 < 2 ^ 32 ∧
      (ringFull (some 2496)).log.spill.con + 4 ≤ 2 ^ 40 ∧ (ringFull (some 2496)).log.spill.log2 ≤ 26 ∧
      (BitVec.toNat ((ringFull (some 2496)).reg Reg.EVT_RING_WR 0) + 2 ^ 32 - 256) % 2 ^ 32 ≤ 2 ^ (ringFull (some
        2496)).log.spill.log2) ∧
    (MaySpill (ringFull none) ∧ (ringFull none).on F.EVT_STATUS_RING_FULL 0 = true ∧
      (∀ (at_ : ℕ), (ringFull none).log.spill.conAt = some at_ → (at_ + 1600 * if (ringFull none).fget
        F.EVT_SPILL_CFG_TIMEOUT 0 = 0 then 1 else (ringFull none).fget F.EVT_SPILL_CFG_TIMEOUT 0) ≤ (ringFull
        none).stn.elapsed) ∧ (ringFull none).log.spill.bursts = [] ∧ 4294967295 < 2 ^ 32 ∧
      (ringFull none).log.spill.con + 4 ≤ 2 ^ 40 ∧ (ringFull none).log.spill.log2 ≤ 26 ∧
      2 ^ (ringFull none).log.spill.log2 < (BitVec.toNat ((ringFull none).reg Reg.EVT_RING_WR 0) + 2 ^ 32 -
        4294967295) % 2 ^ 32) := by
  unfold MaySpill; dsimp only; (repeat' apply And.intro) <;> decide +kernel

theorem witness_ErrClear :
    HostMay (logged 1000 upLog) Reg.EVT_STATUS 0 ∧
      (BitVec.toNat ((logged 1000 upLog).freshBits Reg.EVT_STATUS 0)).testBit 28 = false := by
  unfold HostMay; (repeat' apply And.intro) <;> decide +kernel

/-! ### Mileage -/

/-- A Mileage window ends: region 3's Section has been released, or not. -/
def window (k : Sec) : State :=
  { ((sec1 3 139264).setSec 1 k) with stn := lockedStn 1600000 }
def snapping (r : Nat) (clear : Bool) : State := { live 1000 with milSnap := some { region := r, clear, asked := 960 } }
/-- A snapshot is made at the edge of a window's end. -/
def snapWindow : State := { window { everReleased := true } with milSnap := some { region := 3, clear := true, asked := 1600000 } }
/-- The window has ended already. -/
def windowOver : State := { window {} with stn := { lockedStn 1600000 with milWin := 1600000 } }

theorem witness_MileageEnd :
    ((window { : Sec }).por = false ∧ (window { : Sec }).stn.locked = true ∧
      (window { : Sec }).build.optMileage = true ∧ (window { : Sec }).count % 1600000 = 0 ∧
      3 < (window { : Sec }).build.nRegions ∧ (window { : Sec }).stn.milWin ≠ (window { : Sec }).stn.elapsed ∧
      ((window { : Sec }).sec ((window { : Sec }).build.sectionOf 3)).everReleased = false) ∧
    (let s : State := window { everReleased := true : Sec };
      s.por = false ∧ s.stn.locked = true ∧ s.build.optMileage = true ∧ s.count % 1600000 = 0 ∧
      3 < s.build.nRegions ∧ s.stn.milWin ≠ s.stn.elapsed ∧ (s.sec (s.build.sectionOf 3)).everReleased = true ∧
      (s.rgn 3).mile.edges = 0 ∧ (∀ i < 128, Store.getD 0 (s.mile 3).bins i < 2 ^ 32 - 2)) ∧
    (windowOver.por = false ∧ windowOver.stn.locked = true ∧ windowOver.build.optMileage = true ∧
      windowOver.count % 1600000 = 0 ∧ 3 < windowOver.build.nRegions ∧
      windowOver.stn.milWin = windowOver.stn.elapsed) := by
  dsimp only; (repeat' apply And.intro) <;> decide +kernel

theorem witness_SnapRequest :
    HostMay (live 1000) Reg.MIL_CTRL 0 ∧ (live 1000).build.optMileage = true ∧ 1023 < 1024 ∧
      ((live 1000).on F.MIL_CTRL_SNAP 0 = true → (live 1000).milSnap ≠ none) ∧
      ((live 1000).on F.MIL_CTRL_SNAP_CLR 0 = true → ∃ q, (live 1000).milSnap = some q ∧ q.clear = true) ∧
      (live 1000).milSnap = none := by
  unfold HostMay; (repeat' apply And.intro) <;> decide +kernel

theorem witness_Snapshot :
    ((snapping 3 true).por = false ∧
      (snapping 3 true).milSnap = some { region := 3, clear := true, asked := 960 : MilSnap } ∧
      ¬WindowDue (snapping 3 true)) ∧
    (snapWindow.por = false ∧
      snapWindow.milSnap = some { region := 3, clear := true, asked := 1600000 : MilSnap } ∧ WindowDue snapWindow ∧
      3 < snapWindow.build.nRegions) := by
  unfold WindowDue; (repeat' apply And.intro) <;> decide +kernel

/-! ### The host -/

/-- The Journal stands to write. -/
def journal (n : Nat) (l : Nat) : State :=
  { (live n).setReg .JNL_WIDX 0 (BitVec.ofNat 32 l) with jnl := { lastHi := some 0, total := l } }
/-- A Journal whose entries the host has not consumed. -/
def overrun (seen : Nat) : State := ((journal 1000 1024).fset F.JNL_STATUS_OVERRUN_SEEN 0 seen).fset F.JNL_STATUS_OVERRUN 0 65535
def warm : State := { live 1000 with stn := { lockedStn 1000 with warm := true } }
def warmLogged : State := { logged 1000 upLog with stn := { lockedStn 1000 with warm := true } }
/-- A transfer of an image is on the bus. -/
def onBusImg : ImgOp := { pos := 1 }
/-- A page fill has 15 of its bursts out. -/
def fill15 : Fill := { fillOnce with sent := 15 }
def fillsReady : State := (filling fill15).fset F.DSP_STATUS_READY 0 1
def powered : State := { State.resetOf small with por := false }

theorem witness_PlainWrite :
    HostMay (journal 1000 1023) Reg.GOV_CFG 0 ∧
      (journal 1000 1023).build.place (regAddr Reg.GOV_CFG 0) = Place.reg Reg.GOV_CFG 0 ∧
      Reg.GOV_CFG ∉ Claim.busy ∧ 4294967295 < 2 ^ 32 ∧ JournalOpen (journal 1000 1023) ∧
      Reg.GOV_CFG ≠ Reg.JNL_WIDX := by
  unfold HostMay JournalOpen; (repeat' apply And.intro) <;> decide +kernel

theorem witness_ShadowWrite :
    (powered.por = false ∧ powered.stn.warm = false ∧ powered.regReady Reg.SB_STRETCH 3 = false ∧
      powered.build.place (regAddr Reg.SB_STRETCH 3) = Place.reg Reg.SB_STRETCH 3 ∧ 4294967295 < 2 ^ 32 ∧
      (∀ a ∈ powered.dsp.acts, powered.actDue a = false)) ∧
    ((journal 1000 0).por = false ∧ (journal 1000 0).stn.warm = false ∧
      (journal 1000 0).regReady Reg.SB_STRETCH 3 = false ∧
      (journal 1000 0).build.place (regAddr Reg.SB_STRETCH 3) = Place.reg Reg.SB_STRETCH 3 ∧ 4294967295 < 2 ^ 32 ∧
      (∀ a ∈ (journal 1000 0).dsp.acts, (journal 1000 0).actDue a = false) ∧ JournalOpen (journal 1000 0)) := by
  unfold JournalOpen; (repeat' apply And.intro) <;> decide +kernel

theorem witness_OtherWrites :
    ((live 1000).por = false ∧ (live 1000).stn.warm = false ∧ ¬Unmapped 8188 ∧
      (live 1000).build.place (8188 % 2 ^ 20 / 4 * 4) = Place.hole ∧
      (∀ x ∈ (live 1000).dsp.acts, (live 1000).actDue x = false)) ∧
    ((live 1000).por = false ∧ Unmapped 606208) ∧
    (warm.por = false ∧ warm.stn.warm = true ∧ 16384 ≤ 32767 % 2 ^ 20 ∧ 32767 % 2 ^ 20 < 32768) := by
  unfold Unmapped; (repeat' apply And.intro) <;> decide +kernel

theorem witness_JournalOverrun :
    (HostMay (overrun 0) Reg.GOV_CFG 0 ∧ 4294967295 < 2 ^ 32 ∧ (overrun 0).jnl.queue = [] ∧
      (overrun 0).jnl.wrote < 4 ∧ (overrun 0).jnl.lastHi = some ((overrun 0).count / 2 ^ 40) ∧
      1024 ≤ BitVec.toNat ((overrun 0).reg Reg.JNL_WIDX 0) ∧
      BitVec.toNat ((overrun 0).reg Reg.JNL_RIDX 0) ≤ BitVec.toNat ((overrun 0).reg Reg.JNL_WIDX 0) - 1024 ∧
      (overrun 0).on F.JNL_STATUS_OVERRUN_SEEN 0 = false) ∧
    (HostMay (overrun 1) Reg.GOV_CFG 0 ∧ 4294967295 < 2 ^ 32 ∧ (overrun 1).jnl.queue = [] ∧
      (overrun 1).jnl.wrote < 4 ∧ (overrun 1).jnl.lastHi = some ((overrun 1).count / 2 ^ 40) ∧
      1024 ≤ BitVec.toNat ((overrun 1).reg Reg.JNL_WIDX 0) ∧
      BitVec.toNat ((overrun 1).reg Reg.JNL_RIDX 0) ≤ BitVec.toNat ((overrun 1).reg Reg.JNL_WIDX 0) - 1024 ∧
      (overrun 1).on F.JNL_STATUS_OVERRUN_SEEN 0 = true) := by
  unfold HostMay; (repeat' apply And.intro) <;> decide +kernel

theorem witness_DeskBeforeHost :
    cfgDue.stn.warm = false ∧ cfgDue.stn.locked = true ∧ DueNow cfgDue cfgAct ∧ cfgAct.slot.isSome = true ∧
      cfgAct.scope = 0 ∧ cfgAct.addr = regAddr Reg.GOV_CFG 0 ∧ 4294967295 < 2 ^ 32 ∧
      cfgAct.op = ActOp.write 4294967295 (2 ^ 32 - 1) false 4294967295 ∧ cfgDue.dsp.held = [] ∧ 0 < 2 ^ 32 := by
  unfold DueNow; (repeat' apply And.intro) <;> decide +kernel

theorem witness_ApbPort :
    ((live 1000).por = false ∧ Unmapped 802816) ∧
    ((live 1000).por = false ∧ ¬Unmapped 802815) := by
  unfold Unmapped; (repeat' apply And.intro) <;> decide +kernel

theorem witness_AxiRecords :
    ((live 1000).por = false ∧ 7 < 8 ∧ AxiResp.slverr ≠ AxiResp.okay ∧ (7 ≠ 4 ∨ (live 1000).cal.save = none ∧
      (live 1000).cal.restore = none)) ∧
    ((saving onBusImg).por = false ∧ 4 < 8 ∧ AxiResp.slverr ≠ AxiResp.okay ∧
      (saving onBusImg).cal.save = some onBusImg ∧ (saving onBusImg).cal.restore = none ∧ onBusImg.pos ≠ 0 ∧
      onBusImg.loaded = none) ∧
    ((restoring onBusImg).por = false ∧ 4 < 8 ∧ AxiResp.decerr ≠ AxiResp.okay ∧
      (restoring onBusImg).cal.restore = some onBusImg ∧ (restoring onBusImg).cal.save = none ∧ onBusImg.pos ≠ 0 ∧
      onBusImg.loaded = none) := by
  (repeat' apply And.intro) <;> decide +kernel

theorem witness_FillBursts :
    fillsReady.por = false ∧ fillsReady.stn.locked = true ∧ fillsReady.axi.held = false ∧
      fillsReady.dsp.fills = [fill15] ∧ fill15.sent < 16 ∧ fillsReady.on F.DSP_STATUS_LOADING 0 = false ∧
      fillsReady.on F.DSP_STATUS_READY 0 = true ∧ fillsReady.cal.save = none ∧ fillsReady.cal.restore = none ∧
      fillsReady.cal.saveHeld = false ∧ fillsReady.cal.restoreHeld = false ∧ fillsReady.dsp.held = [] ∧
      fillsReady.imgBase + 4096 * fill15.page + 256 * fill15.sent + 256 ≤ 2 ^ 40 := by
  (repeat' apply And.intro) <;> decide +kernel

theorem witness_AxiResets :
    ((live 1000).por = false ∧ (live 1000).cal.save = none ∧ (live 1000).cal.restore = none ∧
      (live 1000).axi.held = false ∧ (∀ x ∈ (live 1000).dsp.fills, x.sent = 0) ∧
      (live 1000).log.spill.bursts = [] ∧
      (¬(live 1000).on F.DSP_STATUS_LOADING 0 = true ∨ (live 1000).dsp.loadSent = 0)) ∧
    ((filling fillPart).por = false ∧ (filling fillPart).cal.save = none ∧ (filling fillPart).cal.restore = none ∧
      (filling fillPart).axi.held = false ∧ (filling fillPart).dsp.fills = [fillPart] ∧ fillPart.sent ≠ 0 ∧
      fillPart.frame < 8 ∧ (filling fillPart).log.spill.bursts = [] ∧
      ¬(filling fillPart).on F.DSP_STATUS_LOADING 0 = true) ∧
    (loading.por = false ∧ loading.cal.save = none ∧ loading.cal.restore = none ∧ loading.axi.held = false ∧
      loading.dsp.fills = [] ∧ loading.log.spill.bursts = [] ∧ loading.on F.DSP_STATUS_LOADING 0 = true ∧
      loading.dsp.loadSent ≠ 0) ∧
    ((spilling [16, 3] 0 0).por = false ∧ (spilling [16, 3] 0 0).cal.save = none ∧
      (spilling [16, 3] 0 0).cal.restore = none ∧ (spilling [16, 3] 0 0).axi.held = false ∧
      (spilling [16, 3] 0 0).dsp.fills = [] ∧ (spilling [16, 3] 0 0).log.spill.bursts = [16, 3] ∧
      ¬(spilling [16, 3] 0 0).on F.DSP_STATUS_LOADING 0 = true) := by
  (repeat' apply And.intro) <;> decide +kernel

theorem witness_WarmReset :
    (loading.por = false ∧ loading.stn.locked = true ∧ loading.stn.warm = false ∧ loading.cal.save = none ∧
      loading.cal.restore = none ∧ loading.on F.DSP_STATUS_LOADING 0 = true ∧
      (loading.on F.DSP_CTRL_LOAD_RES 0 = false ∨ loading.on F.DSP_STATUS_LOADING 0 = true)) ∧
    (warmLogged.por = false ∧ warmLogged.stn.warm = true ∧ warmLogged.logReady = true ∧
      warmLogged.log.received = [] ∧ LogOpen warmLogged (warmLogged.count - 1)) ∧
    (warm.por = false ∧ warm.stn.warm = true ∧ warm.logReady = false) ∧
    (powered.por = false ∧ powered.stn.locked = false) := by
  unfold LogOpen; (repeat' apply And.intro) <;> decide +kernel

theorem witness_Tests :
    (live 1000).por = false ∧
      (Instr.wsExtest, 1) ∈ [(Instr.wsExtest, 1), (Instr.wsIntest, 2), (Instr.wsClamp, 3), (Instr.tkPlltest, 8),
        (Instr.tkDlltest, 9), (Instr.tkMbist, 10), (Instr.tkTctest, 11)] := by
  (repeat' apply And.intro) <;> decide +kernel

theorem witness_StorageStaysCanonical :
    (sec1 3 139264).regsOk ∧ (sec1 3 139264).memOk ∧ step (sec1 3 139264) = .next (sec1 3 139264) ∧
      (sec1 3 139264).test.used = false :=
  ⟨by unfold State.regsOk; decide +kernel, by unfold State.memOk; decide +kernel, rfl, by decide +kernel⟩

/-! ### Instruction words -/

/-- InstructionWordsDecode: every field at the end of its range. -/
theorem witness_InstructionWordsDecode :
    31 < 32 ∧ 511 < 512 ∧ 4294967295 < 2 ^ 32 ∧ 3 < 4 ∧
      ∀ f ∈ [({ stamp := true, ts := 3, offs := 65535, scope := 3, index := 1023, addr := 1048575 } : SForm), {}],
        f.ts < 4 ∧ f.offs < 2 ^ 16 ∧ f.scope < 4 ∧ f.index < 2 ^ 10 ∧ f.addr < 2 ^ 20 ∧ f.ecc = .clean := by
  decide +kernel

/-! ## What single commands do, by the manual's tables and by hand -/

/-- The state after a command (the state itself where none answers). -/
def after (c : Instr) (s : State) : State :=
  match exec c s with
  | .next t => t
  | _ => s

/-- Desk 1 with g1 and g2. -/
def with12 (a b : Nat) : State := (desk1.setG 1 1 a).setG 1 2 b
/-- g1 after an ALU operation of the two, the destination a source. -/
def alu12 (fn a b : Nat) : Nat := (after (.alu 1 fn 1 1 2) (with12 a b)).g 1 1

/-- R344's table: each sum, shift and product by hand. -/
theorem test_alu_wraps : alu12 0 0xFFFFFFFF 2 = 1 ∧ alu12 1 0 1 = 0xFFFFFFFF := by decide +kernel
theorem test_alu_shifts : alu12 5 1 33 = 2 ∧ alu12 6 0x80000000 4 = 0x08000000 ∧ alu12 7 0x80000000 4 = 0xF8000000 := by
  decide +kernel
/-- 3 × 65,536 × 65,536 is 3 in the high half. -/
theorem test_alu_products : alu12 8 0x10001 0x10001 = 0x20001 ∧ alu12 9 0x30000 0x10000 = 3 := by decide +kernel
theorem test_alu_orders :
    alu12 12 0xFFFFFFFF 1 = 0xFFFFFFFF ∧ alu12 14 0xFFFFFFFF 1 = 1 ∧ alu12 10 0xFFFFFFFF 1 = 0xFFFFFFFF ∧ alu12 11 1 2 = 0 := by
  decide +kernel
/-- g0 reads zero whatever is written (R300). -/
theorem test_g0 : (after (.movi 1 0 7) desk1).g 1 0 = 0 := by decide +kernel
/-- −1 < 1 signed, not unsigned; a taken branch costs 4, another 2 (R341). -/
theorem test_branch :
    (after (.br 1 3 1 2 0x1000) (with12 0xFFFFFFFF 1)).pc 1 = 0x1000 ∧ (after (.br 1 5 1 2 0x1000) (with12 0xFFFFFFFF 1)).pc 1 = 1 := by
  decide +kernel
/-- The word after word 126 of a tile is word 0 of the next (R305), which CALL pushes. -/
theorem test_call_over_a_tile : (after (.call 1 0x1000) (desk1.setPc 1 126)).fget F.DSP_STACK_RET 8 = 128 := by decide +kernel
/-- A division by 0 faults, and writes nothing. -/
theorem test_divide_by_zero : alu12 16 9 0 = 9 ∧ alu12 16 9 4 = 2 ∧ alu12 17 9 4 = 1 := by decide +kernel
/-- A store to the last word of data memory. -/
theorem test_store : ((after (.st 1 2 1 0) desk1).rdWord (dmemBase + 0x3FFC)).toNat = 7 := by
  decide +kernel
/-- An immediate of 64-bit arithmetic is signed: 0 − 1 (R348). -/
theorem test_taddi : (after (.taddi 1 3 0 0xFFFFFFFF) desk1).t 1 3 = 2 ^ 64 - 1 := by decide +kernel

/-- The copies of the tick counter are outvoted and go on (R47). -/
theorem test_tick_vote : (after (.tick { b := 0xFF }) (live 1000)).count = 1001 := by decide +kernel
/-- A count of 315 edges in 2 µs is 156.25 MHz, of 200 100 MHz (R34). -/
theorem test_reference :
    (after (.referenceDetection 200) { powered with stn := { attempt := true } }).fget F.STN_CLK_STATUS_REF_DET 0 = 1 ∧
      (after (.referenceDetection 313) { powered with stn := { attempt := true } }).fget F.STN_CLK_STATUS_REF_DET 0 = 2 := by
  decide +kernel
/-- A step of a ramp moves FW by 8,192 (R96). -/
theorem test_ramp : (after (.rampStep 1) ramp1).fwCur 1 = 131072 := by decide +kernel
/-- A word written to SEC_FW applies 32 tk later (R94). -/
theorem test_fw_write : ((after (.secFwWrite 1 106496) (sec1 3 110592)).sec 1).pend.map (·.due) = [64032] := by decide +kernel
/-- The write-off of 50 ph joins SB_SLIP_WOFF and leaves a ledger of 0 (R189). -/
theorem test_write_off :
    let t := after (.writeOff 3) (box 3 { writingOff with ledA := 50, ledB := 50, ledC := 50 })
    (t.rgn 3).ledger = 0 ∧ (t.rgn 3).woffPh = 50 := by decide +kernel
/-- A stretch of 14 ph at a balance of 84 ph carries 12; 2 ph are denied (R177, R179). -/
theorem test_bound :
    let t := after (.regionEdge 3 {}) (box 3 { ledA := 84, ledB := 84, ledC := 84, own := 14, sinceStart := 1 })
    (t.rgn 3).ledger = 96 ∧ (t.rgn 3).denied = 2 := by decide +kernel
/-- The refit of the manual's case: windows 6 to 9 receive 8, 11, 9 and 8 ph at intensity 12 (R154). -/
theorem test_windows : playWindows 12 0 [0, 0, 0, 0, 0, 0, 40, 56, 48, 36, 0] = [0, 0, 0, 0, 0, 0, 8, 11, 9, 8, 0] := by
  decide +kernel
theorem test_window_edges :
    (List.range 4).map (fun j => ({ entries := [56, 0], intensity := 12 : Play }).stretchAt (j + 1)) = [3, 3, 3, 2] := by
  decide +kernel
/-- In that case an alarm in window 10 raises a weight of 0 by MU = 4 (R161). -/
theorem test_refit :
    ((after (.profileRefit 3) ((box 3 { refit := some { entries := [], intensity := 12, alarmed := 2 ^ 10 } }).fset
      F.SB_PROFILE_CFG_MU 3 4)).rgn 3).weights[10]? = some 4 := by decide +kernel
/-- The warmest reading stays (R130): −40 °C, then 25 °C, in 0.25 °C. -/
theorem test_temperature :
    (after (.thermalReading 3 (-160)) (live 16384)).fget F.SB_TEMP_TEMP 3 = 2 ^ 16 - 160 ∧
      (after (.thermalReading 3 100) (live 16384)).fget F.SB_TEMP_MAX 3 = 100 := by decide +kernel

/-- LINEAR11: mantissa 1,023, exponent −2 is 255.75; mantissa −1, exponent 3 is −8. -/
theorem test_linear11 : (linear11 0xF3FF).num = 1023 ∧ (linear11 0xF3FF).den = 4 ∧ (linear11 0x1FFF).num = -8 := by decide +kernel
/-- The envelope written is in force at once, and L is the lesser of it and the cap (R401). -/
theorem test_envelope :
    (after (.govEnvWrite 5000) { live 1000 with gov := { cap := some 4000 } }).fget F.GOV_ENV_STATUS_L 0 = 4000 := by decide +kernel
/-- An entry of class 5 code 0xFF from source 5 at tick 552, in the words of R443. -/
theorem test_log_entry :
    let t := after .logCommit (logged 1000 (received [post5]))
    (t.rdWord 0x80000).toNat = 552 ∧ (t.rdWord 0x80004).toNat = 0x5005 ∧ (t.rdWord 0x80008).toNat = 0xFF000001 ∧
      (t.rdWord 0x8000C).toNat = 0xFFFFFFFF := by decide +kernel
/-- A write of one byte strobe changes that byte alone (R512). -/
theorem test_host_write :
    (after (.hostRegisterWrite (regAddr .GOV_ENV 0) 0xFFFFFFFF 1) (live 1000)).fget F.GOV_ENV_BUDGET 0 =
      (live 1000).fget F.GOV_ENV_BUDGET 0 / 256 * 256 + 255 := by decide +kernel
/-- STN_ID is read-only. -/
theorem test_read_only : (after (.hostRegisterWrite 0 0xFFFFFFFF 15) (live 1000)).reg .STN_ID 0 = 0x00020100 := by decide +kernel
/-- An access to an unmapped range answers with an error (R511). -/
theorem test_apb_error :
    (after (.apbUnmappedAccess 0xC4000 true) (live 1000)).fget F.HIF_APB_ERR_COUNT 0 = 1 ∧
      (after (.apbUnmappedAccess 0xC4000 true) (live 1000)).apb.slverr = true := by decide +kernel
/-- A command waits behind another, which a step takes alone (log entry 1). -/
theorem test_front_first : (match step queued with | .next t => t.pending | _ => []) = [.tcapCapture] := by decide +kernel

end Sys2Proof.Tests
end

/-!
SUPPORT. O20 is left unsettled. The clause of `Claim.Tick` that the action table stays fails at a tick whose AXI turn falls to
a page fill with a burst beyond 2⁴⁰: the burst counts as an error response (R531), the fill fails, each Desk that waits for
the page faults (R314), and a Desk that faults discards its actions not yet launched (R331). Whether a tick issues a burst at
all rests on `Config.burstsOut`, the count that R529 leaves open and of which no proof sees a value. Here the claim is refuted
from the one hypothesis that this count leaves room for a burst.
-/

namespace Sys2Proof.TickPaging

open Sys2Proof.Machine Sys2Proof.Claim

/-- A tick up to the turn of the AXI manager. -/
def beforeAxi (s : State) (up : TickIn) : State :=
  let (a, b, c) := s.copies up
  let s := (s.tickFresh.tickCount up).tmrReport a b c (maj64 a b c)
  let s := s.each up.fw State.fwVote
  let s := (s.tickPins up).tickStation
  let s := s.each (List.range s.build.nSections) State.tickSection
  let s := s.each (List.range s.build.nRegions) State.tickRegion
  let s := s.each (List.range 4) State.tickDesk
  let s := s.each (List.range s.build.nRails) State.lhShow
  (State.jnlDrain 8 s).syncDrive.readyCheck.releaseHeld

/-- A tick from the turn of the AXI manager on. -/
def afterAxi (s : State) : State :=
  let s := s.milDue.pmbNext
  if !s.on F.DSP_STATUS_READY 0 && s.count % 2 == 0 && 2 ≤ s.count then s.dspGo else s

theorem tickEdge_eq (s : State) (up : TickIn) : s.tickEdge up = afterAxi (beforeAxi s up).tickAxi := rfl

/-- What a tick of a locked die leaves in the Dispatcher is what its tick edge leaves. -/
theorem dsp_of_exec_tick {s t : State} {up : TickIn} (hp : s.por = false) (hl : s.stn.locked = true)
    (h : exec (.tick up) s = .next t) : t.dsp = (s.tickEdge up).dsp := by
  replace h : s.act (fun s => s.iff s.stn.locked fun s => s.tickEdge up) = .next t := h
  rw [State.act_live _ _ hp, hl, State.iff_true] at h
  injection h with h
  rw [← h]

/-- While a page fill runs the read bursts outstanding are the free count. -/
theorem rdOut_of_fills (s : State) (h : s.dsp.fills.isEmpty = false) :
    s.rdOut = Config.burstsOut s.stn.elapsed false % (axLimit (s.fget F.HIF_AXI_CFG_MAX_RD 0) + 1) := by
  simp [State.rdOut, h]

/-- With room for a read burst and no save the AXI manager serves the user whose turn it is, and does nothing else. -/
theorem tickAxi_of_room (s : State) (u : Nat) (hh : s.axi.held = false)
    (hn : ((List.range 5).map fun i => (s.axi.turn + 1 + i) % 5).find? s.readWaits = some u)
    (hr : s.rdOut < axLimit (s.fget F.HIF_AXI_CFG_MAX_RD 0)) (hs : (s.readIssue u).cal.save = none) :
    s.tickAxi = s.readIssue u := by
  simp [State.tickAxi, hh, hn, hr, State.iff, hs]

/-- Desk 1, STALLED for page 9 of an image that starts 4 KiB below 2⁴⁰; the fill has issued no burst yet. A WOFF of the Desk
at tick 9,000 waits for its launch slot. -/
def stalledBeyond : State :=
  let stn : Stn := { locked := true, cntA := 1000, cntB := 1000, cntC := 1000, elapsed := 1000 }
  let dsp : Dsp :=
    { desks := [(1, { page := some 9 })], fills := [{ frame := 0, page := 9 }]
      acts := [{ desk := 1, seq := 0, t := 9000, tick := 9000, slot := some 8936, op := .woff }] }
  let s : State := { State.resetOf { lomvy896 with nRegions := 0, nSections := 0 } with por := false, stn, dsp }
  (((((s.fset F.DSP_STATUS_READY 0 1).fset F.DSP_IMG_HI_ADDR 0 (2 ^ 8 - 1)).fset F.DSP_IMG_LO_ADDR 0 (2 ^ 20 - 1)).fset
    F.DSP_FRAME_FILLING 0 1).fset F.DSP_FRAME_PAGE 0 9).setDeskState 1 3

/-- The state of that die at the turn of the AXI manager. -/
def atAxi : State := beforeAxi stalledBeyond {}

theorem atAxi_serves_pageFill :
    atAxi.axi.held = false ∧ ((List.range 5).map fun i => (atAxi.axi.turn + 1 + i) % 5).find? atAxi.readWaits = some axPage ∧
      atAxi.dsp.fills.isEmpty = false ∧ atAxi.stn.elapsed = 1001 ∧ axLimit (atAxi.fget F.HIF_AXI_CFG_MAX_RD 0) = 8 ∧
      (atAxi.readIssue axPage).cal.save = none := by
  decide +kernel

/-- The burst lies beyond 2⁴⁰: the Desk faults and its action is discarded. -/
theorem pageFill_beyond_discards : (afterAxi (atAxi.readIssue axPage)).dsp.acts = [] := by decide +kernel

/-- The die meets the hypotheses of the claim for a tick without upsets. -/
theorem stalledBeyond_ticks :
    stalledBeyond.por = false ∧ stalledBeyond.stn.locked = true ∧ stalledBeyond.fget F.CAL_STATUS_PHASE 0 ≠ 2 ∧
      stalledBeyond.dsp.held = [] ∧ stalledBeyond.dsp.acts ≠ [] := by
  decide +kernel

/-- This does not settle O20: its negation follows where fewer than the eight read bursts of MAX_RD's reset value are
outstanding at the tick, which the free count neither grants nor excludes. -/
theorem not_ticksAndCaptures_of_room (hfree : Config.burstsOut 1001 false % 9 < 8) : ¬ Obligations.TicksAndCaptures := by
  intro claim
  obtain ⟨hpor, hlocked, hphase, hheld, hacts⟩ := stalledBeyond_ticks
  obtain ⟨-, htick, -⟩ := claim stalledBeyond {} 0 0 0 0
  obtain ⟨t, ht, -, -, -, -, -, -, -, -, -, -, hstay, -⟩ := htick hpor hlocked hphase hheld rfl
  obtain ⟨haxi, hturn, hfills, helapsed, hlimit, hsave⟩ := atAxi_serves_pageFill
  have hroom : atAxi.rdOut < axLimit (atAxi.fget F.HIF_AXI_CFG_MAX_RD 0) := by
    rw [rdOut_of_fills _ hfills, helapsed, hlimit]; exact hfree
  have hedge : stalledBeyond.tickEdge {} = afterAxi (atAxi.readIssue axPage) := by
    rw [tickEdge_eq, ← atAxi, tickAxi_of_room _ _ haxi hturn hroom hsave]
  have hlost : t.dsp.acts = [] := by
    rw [dsp_of_exec_tick hpor hlocked ht, hedge, pageFill_beyond_discards]
  exact hacts (hstay ▸ hlost)

end Sys2Proof.TickPaging

section
/-!
SUPPORT. What moves: a relation between two states that says which fields of registers may differ, its use for reads and for
the frames of the statements, and what an entry of the Journal moves field by field.
-/

namespace Sys2Proof.Machine

/-! ### Fields that may move -/

/-- Two fields that share no bit of one instance of a register. -/
def Fld.Apart (f : Fld) (u : Nat) (g : Fld) (w : Nat) : Prop :=
  f.reg ≠ g.reg ∨ u ≠ w ∨ f.lo + f.w ≤ g.lo ∨ g.lo + g.w ≤ f.lo

/-- Every field keeps its value, but those that share bits with a field of `P`. -/
def FldsKeep (P : Fld → Nat → Prop) (s t : State) : Prop :=
  ∀ f u, (∀ g w, P g w → f.Apart u g w) → t.fget f u = s.fget f u

/-- The fields of a list, each with its unit. -/
def Listed (l : List (Fld × Nat)) (f : Fld) (u : Nat) : Prop := (f, u) ∈ l

theorem Listed.apart {l : List (Fld × Nat)} {f : Fld} {u : Nat} (h : ∀ x ∈ l, f.Apart u x.1 x.2) (g : Fld) (w : Nat)
    (hg : Listed l g w) : f.Apart u g w := h _ hg

theorem FldsKeep.refl (P : Fld → Nat → Prop) (s : State) : FldsKeep P s s := fun _ _ _ => rfl

theorem FldsKeep.trans {P : Fld → Nat → Prop} {s t v : State} (h : FldsKeep P s t) (k : FldsKeep P t v) : FldsKeep P s v :=
  fun f u hf => (k f u hf).trans (h f u hf)

theorem FldsKeep.mono {P Q : Fld → Nat → Prop} {s t : State} (h : FldsKeep P s t) (hPQ : ∀ f u, P f u → Q f u) :
    FldsKeep Q s t := fun f u hf => h f u fun g w hg => hf g w (hPQ g w hg)

/-- States with one register file show the same fields. -/
theorem State.reg_congr {s t : State} (hr : t.regs = s.regs) (hb : t.build = s.build) (r : Reg) (u : Nat) :
    t.reg r u = s.reg r u := by unfold State.reg; rw [hr, hb]

theorem FldsKeep.ofRegs {P : Fld → Nat → Prop} {s t : State} (hr : t.regs = s.regs) (hb : t.build = s.build) :
    FldsKeep P s t := fun f u _ => by unfold State.fget; rw [State.reg_congr hr hb]

/-- A write of a field moves no field apart from it. -/
theorem State.fget_fset_apart (s : State) {f g : Fld} {u w : Nat} (v : Nat) (h : g.Apart w f u) :
    (s.fset f u v).fget g w = s.fget g w := by
  rcases h with h | h | h
  · exact State.fget_fset_ne s f g u w v (.inl h)
  · exact State.fget_fset_ne s f g u w v (.inr h)
  · exact State.fget_fset_disj s f g u w v h

theorem FldsKeep.fset {P : Fld → Nat → Prop} {s t : State} (h : FldsKeep P s t) {f : Fld} {u : Nat} (v : Nat) (hf : P f u) :
    FldsKeep P s (t.fset f u v) :=
  fun g w hg => (State.fget_fset_apart t v (hg f u hf)).trans (h g w hg)

theorem FldsKeep.fsetB {P : Fld → Nat → Prop} {s t : State} (h : FldsKeep P s t) {f : Fld} {u : Nat} (v : Bool) (hf : P f u) :
    FldsKeep P s (t.fsetB f u v) := h.fset _ hf

theorem FldsKeep.setFlag {P : Fld → Nat → Prop} {s t : State} (h : FldsKeep P s t) {f : Fld} {u : Nat} (hf : P f u) :
    FldsKeep P s (t.setFlag f u) := h.fset (t.fget f u ||| 1) hf

theorem FldsKeep.faddSat {P : Fld → Nat → Prop} {s t : State} (h : FldsKeep P s t) {f : Fld} {u : Nat} (n : Nat)
    (hf : P f u) : FldsKeep P s (t.faddSat f u n) := h.fset _ hf

theorem FldsKeep.faddWrap {P : Fld → Nat → Prop} {s t : State} (h : FldsKeep P s t) {f : Fld} {u : Nat} (n : Nat)
    (hf : P f u) : FldsKeep P s (t.faddWrap f u n) := h.fset _ hf

/-- An update beside the registers. -/
theorem FldsKeep.beside {P : Fld → Nat → Prop} {s t v : State} (h : FldsKeep P s t) (hr : v.regs = t.regs)
    (hb : v.build = t.build) : FldsKeep P s v := h.trans (FldsKeep.ofRegs hr hb)

theorem State.on_congr {s t : State} {f : Fld} {u : Nat} (h : t.fget f u = s.fget f u) : t.on f u = s.on f u := by
  unfold State.on; rw [h]

/-! ### Whole registers and single bits -/

theorem getF_whole (w : Word) : getF w 0 32 = w.toNat := by
  unfold getF; rw [pow_zero, Nat.div_one, Nat.mod_eq_of_lt w.isLt]

/-- A register of which no field may move keeps its word. -/
theorem FldsKeep.reg {P : Fld → Nat → Prop} {s t : State} (h : FldsKeep P s t) {r : Reg} {u : Nat}
    (hr : ∀ g w, P g w → r ≠ g.reg ∨ u ≠ w) : t.reg r u = s.reg r u := by
  have hf := h ⟨r, 0, 32⟩ u fun g w hg => (hr g w hg).elim .inl fun hu => .inr (.inl hu)
  unfold State.fget at hf
  rw [getF_whole, getF_whole] at hf
  exact BitVec.eq_of_toNat_eq hf

/-- Words that show the same one-bit field hold the same bit. -/
theorem getLsbD_of_getF (a b : Word) (i : Nat) (h : getF a i 1 = getF b i 1) : a.getLsbD i = b.getLsbD i := by
  have := congrArg (fun n => Nat.testBit n 0) h
  simpa only [getF_testBit, Nat.zero_lt_one, decide_true, Bool.true_and, Nat.add_zero] using this

/-- The bits of the listed fields of one instance of a register. -/
theorem fields_getLsbD (l : List (Fld × Nat)) (r : Reg) (u i : Nat) :
    (Claim.fields l r u).getLsbD i = true ↔
      ∃ x ∈ l, x.1.reg = r ∧ x.2 = u ∧ x.1.lo ≤ i ∧ i < x.1.lo + x.1.w ∧ i < 32 := by
  have gen : ∀ m : Word, (l.foldl (fun m x => if x.1.reg = r ∧ x.2 = u then m ||| maskF x.1.lo x.1.w else m) m).getLsbD i = true ↔
      m.getLsbD i = true ∨ ∃ x ∈ l, x.1.reg = r ∧ x.2 = u ∧ x.1.lo ≤ i ∧ i < x.1.lo + x.1.w ∧ i < 32 := by
    induction l with
    | nil => simp
    | cons x l ih =>
      intro m
      rw [List.foldl_cons, ih, List.exists_mem_cons_iff]
      by_cases hx : x.1.reg = r ∧ x.2 = u
      · rw [if_pos hx, BitVec.getLsbD_or, Bool.or_eq_true, maskF_getLsbD, decide_eq_true_eq]
        tauto
      · rw [if_neg hx]
        tauto
  simpa [Claim.fields] using gen 0

/-- Where only listed fields move, every bit outside them keeps its value. -/
theorem FldsKeep.bitsKeep {l : List (Fld × Nat)} {s t : State} (h : FldsKeep (Listed l) s t) :
    Claim.BitsKeep s t (Claim.fields l) := by
  intro r u
  apply BitVec.eq_of_getLsbD_eq
  intro i hi
  rw [BitVec.getLsbD_and, BitVec.getLsbD_and, BitVec.getLsbD_not]
  by_cases hm : (Claim.fields l r u).getLsbD i = true
  · simp [hm]
  · rw [getLsbD_of_getF (t.reg r u) (s.reg r u) i]
    refine h ⟨r, i, 1⟩ u (Listed.apart fun x hx => ?_)
    by_cases hr : x.1.reg = r
    · by_cases hu : x.2 = u
      · have : ¬ (x.1.lo ≤ i ∧ i < x.1.lo + x.1.w) := fun hx' =>
          hm ((fields_getLsbD l r u i).2 ⟨x, hx, hr, hu, hx'.1, hx'.2, hi⟩)
        exact .inr (.inr (by dsimp only; omega))
      · exact .inr (.inl (Ne.symm hu))
    · exact .inl (Ne.symm hr)

/-! ### A field that was written -/

theorem State.fget_lt (s : State) (f : Fld) (u : Nat) : s.fget f u < 2 ^ f.w := Nat.mod_lt _ (by positivity)

/-- A field that was written to a value that fits it reads that value. -/
theorem State.fget_fset_fits (s : State) (f : Fld) (u : Nat) {v : Nat} (h : f.lo + f.w ≤ 32) (hv : v < 2 ^ f.w) :
    (s.fset f u v).fget f u = v := by rw [State.fget_fset_same s f u v h, Nat.mod_eq_of_lt hv]

theorem State.on_fsetB (s : State) (f : Fld) (u : Nat) (b : Bool) (hw : f.w = 1) (hl : f.lo < 32) :
    (s.fsetB f u b).on f u = b := by
  have h : (s.fsetB f u b).fget f u = b.toNat := State.fget_fset_fits s f u (by omega) (by rw [hw]; cases b <;> decide)
  unfold State.on
  rw [h]
  cases b <;> rfl

/-- A one-bit field that is not 1 is 0. -/
theorem State.fget_of_on (s : State) (f : Fld) (u : Nat) (hw : f.w = 1) : s.fget f u = (s.on f u).toNat := by
  have h := State.fget_lt s f u
  rw [hw] at h
  unfold State.on
  have : s.fget f u = 0 ∨ s.fget f u = 1 := by omega
  rcases this with h | h <;> rw [h] <;> rfl

/-- A register that takes the word it holds shows what it showed. -/
theorem FldsKeep.setReg_self {P : Fld → Nat → Prop} (s : State) (r : Reg) (u : Nat) : FldsKeep P s (s.setReg r u (s.reg r u)) := by
  intro f v _
  rw [State.fget_setReg]
  split
  next h =>
    obtain ⟨h, rfl⟩ := h
    rw [← h]
    rfl
  next => rfl

theorem putF_getF (w : Word) (lo n : Nat) : putF w lo n (getF w lo n) = w := by
  apply BitVec.eq_of_getLsbD_eq
  intro i hi
  simp only [putF, BitVec.getLsbD_or, BitVec.getLsbD_and, BitVec.getLsbD_not, maskF_getLsbD, BitVec.getLsbD_shiftLeft,
    BitVec.getLsbD_ofNat, getF_testBit]
  by_cases h : lo ≤ i ∧ i < lo + n
  · have h1 : i - lo < n := by omega
    have h2 : lo + (i - lo) = i := by omega
    have h3 : ¬ i < lo := by omega
    simp [h, hi, h1, h2, h3, show i - lo < 32 by omega]
  · rcases not_and_or.1 h with h1 | h1
    · simp [h1, hi]
    · simp [h1, hi]

/-- A field that takes the value it shows. -/
theorem FldsKeep.fset_self {P : Fld → Nat → Prop} {s : State} {f : Fld} {u v : Nat} (h : s.fget f u = v) :
    FldsKeep P s (s.fset f u v) := by
  have hw : s.fset f u v = s.setReg f.reg u (s.reg f.reg u) := by
    rw [← h]
    unfold State.fset State.fget
    rw [putF_getF]
  rw [hw]
  exact FldsKeep.setReg_self s f.reg u

/-! ### What one unit's turn in a list leaves -/

/-- What the turn of one unit establishes, and every turn keeps, holds after the list. -/
theorem State.each_reaches {α : Type} (I Q : State → Prop) (l : List α) (f : State → α → State) {a : α} (ha : a ∈ l)
    (hI : ∀ s b, b ∈ l → I s → I (f s b)) (hQ : ∀ s b, b ∈ l → I s → Q s → Q (f s b)) (hf : ∀ s, I s → Q (f s a))
    (s : State) (h : I s) : Q (s.each l f) := by
  induction l generalizing s with
  | nil => cases ha
  | cons b l ih =>
    have keep : ∀ t, I t → Q t → Q (t.each l f) := fun t hi hq =>
      (State.each_keeps (fun t => I t ∧ Q t) l f (fun t c hc ht =>
        ⟨hI t c (List.mem_cons_of_mem _ hc) ht.1, hQ t c (List.mem_cons_of_mem _ hc) ht.1 ht.2⟩) t ⟨hi, hq⟩).2
    have hb := List.mem_cons_self (a := b) (l := l)
    by_cases hab : a = b
    · subst hab
      exact keep _ (hI s a hb h) (hf s h)
    · exact ih (List.mem_of_ne_of_mem hab ha) (fun s c hc => hI s c (List.mem_cons_of_mem _ hc))
        (fun s c hc => hQ s c (List.mem_cons_of_mem _ hc)) _ (hI s b hb h)

/-! ### The Journal's entry, field by field -/

theorem State.jnlOverrun_flds (s : State) : FldsKeep (Listed Claim.jnlFields) s s.jnlOverrun := by
  have h1 : FldsKeep (Listed Claim.jnlFields) s (s.faddSat F.JNL_STATUS_OVERRUN 0 1) :=
    (FldsKeep.refl _ s).faddSat 1 (by simp [Listed, Claim.jnlFields])
  unfold State.jnlOverrun
  dsimp only
  split
  · exact h1
  · exact (h1.setFlag (f := F.JNL_STATUS_OVERRUN_SEEN) (by simp [Listed, Claim.jnlFields])).beside rfl rfl

theorem State.jnlHigh_flds (s : State) (w : Nat) : FldsKeep (Listed Claim.jnlFields) s (s.jnlHigh w) := by
  unfold State.jnlHigh
  dsimp only
  split
  · exact (FldsKeep.refl _ s).setFlag (by simp [Listed, Claim.jnlFields])
  · exact FldsKeep.refl _ s

theorem FldsKeep.wrWord {P : Fld → Nat → Prop} {s t : State} (h : FldsKeep P s t) (a : Nat) (w : Word) :
    FldsKeep P s (t.wrWord a w) := h.beside (by simp) (by simp)

/-- A write of a whole register is a write of the field of all its bits. -/
theorem FldsKeep.setReg {P : Fld → Nat → Prop} {s t : State} (h : FldsKeep P s t) {r : Reg} {u : Nat} (w : Word)
    (hr : P ⟨r, 0, 32⟩ u) : FldsKeep P s (t.setReg r u w) := by
  intro f v hf
  rw [State.fget_setReg]
  split
  next he =>
    rcases hf _ _ hr with h' | h' | h' | h'
    · exact absurd he.1 h'
    · exact absurd he.2 h'
    · have hw : f.w = 0 := by
        have : f.lo + f.w ≤ 0 := h'
        omega
      rw [← h f v hf]
      unfold State.fget getF
      rw [hw, pow_zero, Nat.mod_one, Nat.mod_one]
    · have hz : ∀ x : Word, getF x f.lo f.w = 0 := fun x => by
        unfold getF
        rw [Nat.div_eq_of_lt (lt_of_lt_of_le x.isLt (Nat.pow_le_pow_right (by decide) (by simpa using h')))]
        exact Nat.zero_mod _
      rw [← h f v hf]
      unfold State.fget
      rw [hz, hz]
  next => exact h f v hf

theorem State.jnlStore_flds (s : State) (tick : Nat) (e : JEntry) :
    FldsKeep (Listed Claim.jnlFields) s (s.jnlStore tick e) := by
  unfold State.jnlStore
  dsimp only
  refine FldsKeep.beside (FldsKeep.trans (FldsKeep.setReg (FldsKeep.wrWord (FldsKeep.wrWord (FldsKeep.wrWord
    (FldsKeep.wrWord ?_ _ _) _ _) _ _) _ _) _ (by simp [Listed, Claim.jnlFields, F.JNL_WIDX_INDEX])) (State.jnlHigh_flds _ _)) rfl rfl
  split
  · exact FldsKeep.refl _ s
  · split
    · exact State.jnlOverrun_flds s
    · exact FldsKeep.refl _ s

/-- An update of the Journal's own record. -/
theorem FldsKeep.setJnl (P : Fld → Nat → Prop) (s : State) (j : Jnl) : FldsKeep P s { s with jnl := j } :=
  FldsKeep.ofRegs rfl rfl

theorem State.jnlDrain_flds (n : Nat) (s : State) : FldsKeep (Listed Claim.jnlFields) s (State.jnlDrain n s) := by
  induction n generalizing s with
  | zero => exact FldsKeep.refl _ s
  | succ n ih =>
    unfold State.jnlDrain
    split
    · exact FldsKeep.refl _ s
    · dsimp only
      split
      · exact FldsKeep.refl _ s
      · split
        · exact ((FldsKeep.setJnl _ s _).trans (State.jnlStore_flds _ _ _)).trans (ih _)
        · exact ((FldsKeep.setJnl _ s _).trans (State.jnlStore_flds _ _ _)).trans (ih _)

/-- Recording one write moves the Journal's fields alone. -/
theorem State.journal_flds (s : State) (src kind : Nat) (defer : Bool) (addr old new : Nat) :
    FldsKeep (Listed Claim.jnlFields) s (s.journal src kind defer addr old new) :=
  (FldsKeep.setJnl _ s _).trans (State.jnlDrain_flds _ _)

end Sys2Proof.Machine
end

section
/-!
SUPPORT. A host write of one field of a Section Root or of a Signal Box, said once: the field is stored, the write's entry is
journaled, and the effect of the register's write follows.
-/

namespace Sys2Proof.Machine

/-! ### Where a unit's register lies -/

/-- A register with one instance a unit, the first of its class at its offset. -/
def Reg.LiesAt (r : Reg) (c : RegClass) (size : Nat) : Prop :=
  r.info.cls = c ∧ r.info.count = 1 ∧ r.info.base < size ∧ r.info.base % 4 = 0 ∧ findReg c r.info.base Reg.all = some (r, 0)

theorem regAddr_sec {r : Reg} (h : r.LiesAt .sec 0x80) (k : Nat) : regAddr r k = 0x2000 + 0x80 * k + r.info.base := by
  obtain ⟨hc, hn, -, -, -⟩ := h
  simp [regAddr, hc, hn, Nat.mod_one]

theorem regAddr_sb {r : Reg} (h : r.LiesAt .sb 0x100) (k : Nat) : regAddr r k = 0x40000 + 0x100 * k + r.info.base := by
  obtain ⟨hc, hn, -, -, -⟩ := h
  simp [regAddr, hc, hn, Nat.mod_one]

theorem regPlace_lies {r : Reg} {c : RegClass} {n : Nat} (h : r.LiesAt c n) (k : Nat) :
    regPlace c k r.info.base = .reg r k := by
  obtain ⟨-, hn, -, -, hf⟩ := h
  simp [regPlace, hf, hn]

theorem wordAddr_of_lt {a : Nat} (h : a < 2 ^ 20) (h4 : a % 4 = 0) : wordAddr a = a := by
  unfold wordAddr; omega

theorem wordAddr_sec {r : Reg} (h : r.LiesAt .sec 0x80) {k : Nat} (hk : k < 64) :
    wordAddr (regAddr r k) = 0x2000 + 0x80 * k + r.info.base := by
  rw [regAddr_sec h]
  obtain ⟨-, -, hb, h4, -⟩ := h
  exact wordAddr_of_lt (by omega) (by omega)

theorem wordAddr_sb {r : Reg} (h : r.LiesAt .sb 0x100) {k : Nat} (hk : k < 1024) :
    wordAddr (regAddr r k) = 0x40000 + 0x100 * k + r.info.base := by
  rw [regAddr_sb h]
  obtain ⟨-, -, hb, h4, -⟩ := h
  exact wordAddr_of_lt (by omega) (by omega)

/-- The registers of a Section that the die has lie at their addresses. -/
theorem Build.place_sec (b : Build) {r : Reg} (h : r.LiesAt .sec 0x80) {k : Nat} (hk : k < b.nSections)
    (hn : b.nSections ≤ 64) : b.place (wordAddr (regAddr r k)) = .reg r k := by
  rw [wordAddr_sec h (by omega), ← regPlace_lies h k]
  obtain ⟨-, -, hb, -, -⟩ := h
  have hq : (0x2000 + 0x80 * k + r.info.base - 0x2000) / 0x80 = k := by omega
  have hm : (0x2000 + 0x80 * k + r.info.base) % 0x80 = r.info.base := by omega
  unfold Build.place
  rw [if_neg (by omega), if_neg (by omega), if_neg (by omega), if_neg (by omega), if_pos (by omega), hq, hm, if_pos hk]

/-- The registers of a region that the die has lie at their addresses. -/
theorem Build.place_sb (b : Build) {r : Reg} (h : r.LiesAt .sb 0x100) {k : Nat} (hk : k < b.nRegions)
    (hn : b.nRegions ≤ 1024) : b.place (wordAddr (regAddr r k)) = .reg r k := by
  rw [wordAddr_sb h (by omega), ← regPlace_lies h k]
  obtain ⟨-, -, hb, -, -⟩ := h
  have hq : (0x40000 + 0x100 * k + r.info.base - 0x40000) / 0x100 = k := by omega
  have hm : (0x40000 + 0x100 * k + r.info.base) % 0x100 = r.info.base := by omega
  unfold Build.place
  iterate 14 rw [if_neg (by omega)]
  rw [if_pos (by omega), hq, hm, if_pos hk]

theorem mapped_sec {r : Reg} (h : r.LiesAt .sec 0x80) {k : Nat} (hk : k < 64) : mapped (regAddr r k) = true := by
  have ha := wordAddr_sec h hk
  obtain ⟨-, -, hb, -, -⟩ := h
  simp only [mapped, ha, Bool.not_eq_true', Bool.or_eq_false_iff, Bool.and_eq_false_iff, decide_eq_false_iff_not]
  omega

theorem mapped_sb {r : Reg} (h : r.LiesAt .sb 0x100) {k : Nat} (hk : k < 1024) : mapped (regAddr r k) = true := by
  have ha := wordAddr_sb h hk
  obtain ⟨-, -, hb, -, -⟩ := h
  simp only [mapped, ha, Bool.not_eq_true', Bool.or_eq_false_iff, Bool.and_eq_false_iff, decide_eq_false_iff_not]
  omega

/-! ### The word stored (R8, R9) -/

theorem putF_zero_and_maskF (lo n v : Nat) : putF 0 lo n v &&& maskF lo n = (BitVec.ofNat 32 v <<< lo) &&& maskF lo n := by
  simp [putF, BitVec.and_assoc]

/-- A write of RW bits stores the value. -/
theorem State.written_rw (s : State) {r : Reg} (u v : Nat) {lo n : Nat} (hrw : r.info.rw &&& maskF lo n = maskF lo n)
    (hc : maskF lo n &&& r.info.w1c = 0#32) (hs : maskF lo n &&& r.info.w1s = 0#32) (hk : s.safeKept r = 0#32) :
    s.written r u (putF 0 lo n v) (maskF lo n) = putF (s.reg r u) lo n v := by
  have hv : putF 0 lo n v &&& r.info.rw &&& maskF lo n = (BitVec.ofNat 32 v <<< lo) &&& maskF lo n := by
    rw [BitVec.and_assoc, hrw, putF_zero_and_maskF]
  have hcv : putF 0 lo n v &&& maskF lo n &&& r.info.w1c = 0#32 := by rw [BitVec.and_assoc, hc, BitVec.and_zero]
  have hsv : putF 0 lo n v &&& maskF lo n &&& r.info.w1s = 0#32 := by rw [BitVec.and_assoc, hs, BitVec.and_zero]
  unfold State.written
  rw [hk]
  dsimp only
  rw [hrw, hv, hcv, hsv]
  simp only [putF, BitVec.zero_and, BitVec.not_zero, BitVec.and_allOnes, BitVec.or_zero]

/-- A write of 1 to a W1S bit sets it. -/
theorem State.written_w1s (s : State) {r : Reg} (u : Nat) {lo : Nat} (hrw : r.info.rw &&& maskF lo 1 = 0#32)
    (hc : maskF lo 1 &&& r.info.w1c = 0#32) (hs : maskF lo 1 &&& r.info.w1s = maskF lo 1) (hk : s.safeKept r = 0#32) :
    s.written r u (putF 0 lo 1 1) (maskF lo 1) = putF (s.reg r u) lo 1 1 := by
  have hm : putF 0 lo 1 1 &&& maskF lo 1 = maskF lo 1 := by
    rw [putF_zero_and_maskF]
    exact BitVec.and_self
  have hv : putF 0 lo 1 1 &&& r.info.rw &&& maskF lo 1 = 0#32 := by rw [BitVec.and_assoc, hrw, BitVec.and_zero]
  have hp : putF (s.reg r u) lo 1 1 = s.reg r u ||| maskF lo 1 := by
    have : (BitVec.ofNat 32 1 <<< lo) = maskF lo 1 := rfl
    unfold putF
    rw [this, BitVec.and_self]
    apply BitVec.eq_of_getLsbD_eq
    intro i hi
    rw [BitVec.getLsbD_or, BitVec.getLsbD_or, BitVec.getLsbD_and, BitVec.getLsbD_not]
    cases (maskF lo 1).getLsbD i <;> simp [hi]
  unfold State.written
  rw [hk]
  dsimp only
  rw [hrw, hv, hm, hc, hs, hp]
  simp only [BitVec.zero_and, BitVec.not_zero, BitVec.and_allOnes, BitVec.or_zero]

/-- A write of a WO bit stores nothing. -/
theorem State.written_wo (s : State) {r : Reg} (u : Nat) {val m : Word} (hrw : r.info.rw &&& m = 0#32)
    (hc : m &&& r.info.w1c = 0#32) (hs : m &&& r.info.w1s = 0#32) (hk : s.safeKept r = 0#32) : s.written r u val m = s.reg r u := by
  have h1 : val &&& r.info.rw &&& m = 0#32 := by rw [BitVec.and_assoc, hrw, BitVec.and_zero]
  have h2 : val &&& m &&& r.info.w1c = 0#32 := by rw [BitVec.and_assoc, hc, BitVec.and_zero]
  have h3 : val &&& m &&& r.info.w1s = 0#32 := by rw [BitVec.and_assoc, hs, BitVec.and_zero]
  unfold State.written
  rw [hk]
  dsimp only
  rw [hrw, h1, h2, h3]
  simp only [BitVec.zero_and, BitVec.not_zero, BitVec.and_allOnes, BitVec.or_zero]

/-- A write of 1 to a W1C flag that was not set at this edge clears it. -/
theorem State.written_w1c (s : State) {r : Reg} (u : Nat) {lo : Nat} (hrw : r.info.rw &&& maskF lo 1 = 0#32)
    (hc : maskF lo 1 &&& r.info.w1c = maskF lo 1) (hs : maskF lo 1 &&& r.info.w1s = 0#32) (hk : s.safeKept r = 0#32)
    (hf : maskF lo 1 &&& s.freshBits r u = 0#32) :
    s.written r u (maskF lo 1) (maskF lo 1) = putF (s.reg r u) lo 1 0 := by
  have hv : maskF lo 1 &&& r.info.rw &&& maskF lo 1 = 0#32 := by rw [BitVec.and_assoc, hrw, BitVec.and_zero]
  have hb : maskF lo 1 &&& ~~~ s.freshBits r u = maskF lo 1 := by
    apply BitVec.eq_of_getLsbD_eq
    intro i hi
    have := congrArg (fun w => BitVec.getLsbD w i) hf
    simp only [BitVec.getLsbD_and, BitVec.getLsbD_zero] at this
    rw [BitVec.getLsbD_and, BitVec.getLsbD_not]
    cases hm : (maskF lo 1).getLsbD i
    · simp
    · simpa [hm, hi] using this
  unfold State.written
  rw [hk]
  dsimp only
  rw [hrw, hv, BitVec.and_self, hc, hs, hb]
  simp only [putF, BitVec.not_zero, BitVec.and_allOnes, BitVec.or_zero, BitVec.zero_shiftLeft, BitVec.zero_and]

/-! ### A write reaches its register -/

/-- The state with the port's answer at no error. -/
def State.answered (s : State) : State := { s with apb := { s.apb with slverr := false } }

/-- Nothing has changed but the port's answer, the listed fields and what belongs to the Journal's entry of a write. -/
structure Stored (l : List (Fld × Nat)) (s j : State) : Prop where
  flds : FldsKeep (Listed (l ++ Claim.jnlFields)) s j
  bytes : Claim.BytesKeep s j Claim.jnlByte
  srcs : ∀ x, x ≠ srcLog → j.source x = s.source x
  rest : j = { s with regs := j.regs, mem := j.mem, fresh := j.fresh, jnl := j.jnl, log := j.log
                      apb := { s.apb with slverr := false } }

theorem Stored.of_jnl {l : List (Fld × Nat)} {s t j : State} (hk : FldsKeep (Listed l) s t)
    (ht : t = { s with regs := t.regs, apb := { s.apb with slverr := false } }) (hf : JnlFrame t j)
    (hj : FldsKeep (Listed Claim.jnlFields) t j) : Stored l s j where
  flds := (hk.mono fun _ _ h => List.mem_append_left _ h).trans (hj.mono fun _ _ h => List.mem_append_right _ h)
  bytes a ha := by
    have hb : t.rdByte a = s.rdByte a := by rw [ht]; rfl
    rw [← hb]
    exact hf.bytes a (by unfold Claim.jnlByte at ha; omega)
  srcs x hx := by
    have hs : t.source x = s.source x := by rw [ht]; rfl
    rw [← hs]
    exact hf.srcs x hx
  rest := by
    have hr := hf.rest
    rw [ht] at hr
    exact hr

/-- A journaled write of a register: the word is stored, its entry is recorded, its effect follows. -/
theorem State.regWrite_journaled (s : State) (src a : Nat) (r : Reg) (u : Nat) (val mask : Word) (d p : Bool) :
    ∃ n, s.regWrite (some src) a r u val mask d p =
      ((s.store r u val mask).journal src 0 false a (s.readReg r u).toNat n).effectOf r u (s.reg r u) val mask d p :=
  ⟨_, rfl⟩

/-- A host write of a register of a ready unit: the word is stored, the write journaled, and its effect follows. -/
theorem State.hostWord_effect (s : State) {a : Nat} {r : Reg} {u : Nat} (val mask : Word) (p : Option Bool)
    (hm : Claim.HostMay s r u) (hp : s.build.place (wordAddr a) = .reg r u) (ha : mapped a = true) (hi : s.imgWaits r = false) :
    ∃ j, JnlFrame (s.answered.store r u val mask) j ∧ FldsKeep (Listed Claim.jnlFields) (s.answered.store r u val mask) j ∧
      s.hostWord a val mask p = j.effectOf r u (s.reg r u) val mask false (p.getD (s.faultPersists u)) := by
  obtain ⟨-, hw, hr, hd⟩ := hm
  have hp' : s.answered.build.place (wordAddr a) = .reg r u := hp
  have hr' : s.answered.regReady r u = true := hr
  have hi' : s.answered.imgWaits r = false := hi
  have hww : s.answered.writeWord wApb a val mask p =
      s.answered.regWrite (some wApb) (wordAddr a) r u val mask false (p.getD (s.answered.faultPersists u)) := by
    unfold State.writeWord
    simp [hp', hr', hi', wApb]
  obtain ⟨n, hn⟩ := State.regWrite_journaled s.answered wApb (wordAddr a) r u val mask false (p.getD (s.answered.faultPersists u))
  have h : s.hostWord a val mask p = _ := (State.hostWord_writes s a val mask p ha hw hd).trans (hww.trans hn)
  exact ⟨_, State.journal_frame _ _ _ _ _ _ _, State.journal_flds _ _ _ _ _ _ _, h⟩

theorem State.effectOf_effect (s : State) {r : Reg} (u : Nat) (old val : Word) {mask : Word} (d p : Bool)
    (h : mask &&& effectBits r ≠ 0) : s.effectOf r u old val mask d p = s.effect r u old (val &&& mask) d p := by
  unfold State.effectOf
  rw [if_neg (fun hh => h hh.2)]

/-! ### One field of a register -/

/-- A register that holds what is written to it, of which no field belongs to the Journal. -/
structure Reg.Plain (r : Reg) : Prop where
  store : ∀ (s : State) (u : Nat) (val mask : Word), s.store r u val mask = s.setReg r u (s.written r u val mask)
  img : ∀ s : State, s.imgWaits r = false
  jnl : ∀ x ∈ Claim.jnlFields, r ≠ x.1.reg

/-- A field of type RW, whose write starts what its register's write starts. -/
structure Fld.Rw (f : Fld) : Prop where
  fits : f.lo + f.w ≤ 32
  rw : f.reg.info.rw &&& maskF f.lo f.w = maskF f.lo f.w
  w1c : maskF f.lo f.w &&& f.reg.info.w1c = 0#32
  w1s : maskF f.lo f.w &&& f.reg.info.w1s = 0#32
  starts : maskF f.lo f.w &&& effectBits f.reg ≠ 0#32

/-- A bit of type W1S, whose write starts what its register's write starts. -/
structure Fld.W1s (f : Fld) : Prop where
  bit : f.w = 1
  fits : f.lo < 32
  rw : f.reg.info.rw &&& maskF f.lo 1 = 0#32
  w1c : maskF f.lo 1 &&& f.reg.info.w1c = 0#32
  w1s : maskF f.lo 1 &&& f.reg.info.w1s = maskF f.lo 1
  starts : maskF f.lo 1 &&& effectBits f.reg ≠ 0#32

/-- After a plain store of a field and the Journal's entry. -/
theorem Stored.of_fset {s j : State} {f : Fld} {u v : Nat} (hr : f.reg.Plain) (hfit : f.lo + f.w ≤ 32) (hv : v < 2 ^ f.w)
    (hf : JnlFrame (s.answered.fset f u v) j) (hj : FldsKeep (Listed Claim.jnlFields) (s.answered.fset f u v) j) :
    Stored [(f, u)] s j ∧ j.fget f u = v := by
  refine ⟨Stored.of_jnl (t := s.answered.fset f u v)
    (FldsKeep.fset (FldsKeep.ofRegs rfl rfl) v (List.mem_singleton_self _)) rfl hf hj, ?_⟩
  rw [hj f u (Listed.apart fun x hx => .inl (hr.jnl x hx)), State.fget_fset_fits _ f u hfit hv]

/-- A host write of an RW field. -/
theorem State.hostField_rw (s : State) {f : Fld} {u v : Nat} (hr : f.reg.Plain) (hf : f.Rw) (hm : Claim.HostMay s f.reg u)
    (hp : s.build.place (wordAddr (regAddr f.reg u)) = .reg f.reg u) (ha : mapped (regAddr f.reg u) = true)
    (hk : s.safeKept f.reg = 0#32) (hv : v < 2 ^ f.w) :
    ∃ j p, Stored [(f, u)] s j ∧ j.fget f u = v ∧ s.hostField f u v =
      j.effect f.reg u (s.reg f.reg u) (putF 0 f.lo f.w v &&& maskF f.lo f.w) false p := by
  obtain ⟨j, h1, h2, h3⟩ := State.hostWord_effect s (putF 0 f.lo f.w v) (maskF f.lo f.w) none hm hp ha (hr.img s)
  have hw : s.answered.store f.reg u (putF 0 f.lo f.w v) (maskF f.lo f.w) = s.answered.fset f u v := by
    rw [hr.store, State.written_rw s.answered u v hf.rw hf.w1c hf.w1s hk]
    rfl
  rw [hw] at h1 h2
  obtain ⟨hs, hval⟩ := Stored.of_fset hr hf.fits hv h1 h2
  exact ⟨j, _, hs, hval, h3.trans (State.effectOf_effect j u _ _ _ _ hf.starts)⟩

/-- A host write of 1 to a W1S bit. -/
theorem State.hostBit_w1s (s : State) {f : Fld} {u : Nat} (hr : f.reg.Plain) (hf : f.W1s) (hm : Claim.HostMay s f.reg u)
    (hp : s.build.place (wordAddr (regAddr f.reg u)) = .reg f.reg u) (ha : mapped (regAddr f.reg u) = true)
    (hk : s.safeKept f.reg = 0#32) :
    ∃ j p, Stored [(f, u)] s j ∧ j.fget f u = 1 ∧ s.hostBit f u =
      j.effect f.reg u (s.reg f.reg u) (putF 0 f.lo 1 1 &&& maskF f.lo 1) false p := by
  obtain ⟨j, h1, h2, h3⟩ := State.hostWord_effect s (putF 0 f.lo 1 1) (maskF f.lo 1) none hm hp ha (hr.img s)
  have hw : s.answered.store f.reg u (putF 0 f.lo 1 1) (maskF f.lo 1) = s.answered.fset f u 1 := by
    rw [hr.store, State.written_w1s s.answered u hf.rw hf.w1c hf.w1s hk, State.fset, hf.bit]
  rw [hw] at h1 h2
  obtain ⟨hs, hval⟩ := Stored.of_fset hr (by have := hf.bit; have := hf.fits; omega) (by rw [hf.bit]; decide) h1 h2
  refine ⟨j, _, hs, hval, Eq.trans ?_ (h3.trans (State.effectOf_effect j u _ _ _ _ hf.starts))⟩
  unfold State.hostBit State.hostField
  rw [hf.bit]

/-- A host write of bits that the register does not hold. -/
theorem State.hostWord_wo (s : State) {r : Reg} {u : Nat} (val mask : Word) (hr : r.Plain) (hrw : r.info.rw &&& mask = 0#32)
    (hc : mask &&& r.info.w1c = 0#32) (hs : mask &&& r.info.w1s = 0#32) (he : mask &&& effectBits r ≠ 0#32)
    (hm : Claim.HostMay s r u) (hp : s.build.place (wordAddr (regAddr r u)) = .reg r u) (ha : mapped (regAddr r u) = true)
    (hk : s.safeKept r = 0#32) :
    ∃ j p, Stored [] s j ∧ s.hostWord (regAddr r u) val mask = j.effect r u (s.reg r u) (val &&& mask) false p := by
  obtain ⟨j, h1, h2, h3⟩ := State.hostWord_effect s val mask none hm hp ha (hr.img s)
  have hw : s.answered.store r u val mask = s.answered.setReg r u (s.answered.reg r u) := by
    rw [hr.store, State.written_wo s.answered u hrw hc hs hk]
  rw [hw] at h1 h2
  have hsame : FldsKeep (Listed []) s (s.answered.setReg r u (s.answered.reg r u)) :=
    (FldsKeep.ofRegs (t := s.answered) rfl rfl).trans (FldsKeep.setReg_self _ r u)
  exact ⟨j, _, Stored.of_jnl hsame rfl h1 h2, h3.trans (State.effectOf_effect j u _ _ _ _ he)⟩

/-! ### Reads beside the write -/

section
variable {l : List (Fld × Nat)} {s j : State} (h : Stored l s j)
include h

theorem Stored.fget {f : Fld} {u : Nat} (hl : ∀ x ∈ l, f.Apart u x.1 x.2) (hj : ∀ x ∈ Claim.jnlFields, f.reg ≠ x.1.reg) :
    j.fget f u = s.fget f u :=
  h.flds f u (Listed.apart fun x hx => (List.mem_append.1 hx).elim (hl x) fun hx => .inl (hj x hx))

theorem Stored.fget_other {f g : Fld} {u w : Nat} (hl : l = [(f, u)]) (hg : g.reg ≠ f.reg)
    (hj : ∀ x ∈ Claim.jnlFields, g.reg ≠ x.1.reg) : j.fget g w = s.fget g w :=
  h.fget (fun x hx => by rw [hl, List.mem_singleton] at hx; exact .inl (hx ▸ hg)) hj

theorem Stored.build : j.build = s.build := by rw [h.rest]
theorem Stored.stn : j.stn = s.stn := by rw [h.rest]
theorem Stored.secs : j.secs = s.secs := by rw [h.rest]
theorem Stored.rgns : j.rgns = s.rgns := by rw [h.rest]
theorem Stored.calRgns : j.calRgns = s.calRgns := by rw [h.rest]
theorem Stored.count : j.count = s.count := by unfold State.count; rw [h.stn]
theorem Stored.sec (k : Nat) : j.sec k = s.sec k := by unfold State.sec; rw [h.secs]
theorem Stored.rgn (r : Nat) : j.rgn r = s.rgn r := by unfold State.rgn; rw [h.rgns]

end

end Sys2Proof.Machine

namespace Sys2Proof.Claim

open Sys2Proof.Machine

/-- The build, the pin and the queue stay. -/
def Lives (s t : State) : Prop := t.build = s.build ∧ t.por = s.por ∧ t.pending = s.pending

/-- A command whose effect keeps the build, the pin and the queue answers that effect. -/
theorem Runs.of_act {c : Instr} {s : State} {P : State → Prop} {f : State → State} (hc : exec c s = s.act f)
    (hp : s.por = false) (hl : Lives s (f s)) (h : P (f s)) : Runs c s P :=
  ⟨f s, by rw [hc, State.act_keeps s f hp hl.1 hl.2.1 hl.2.2], h⟩

theorem HostOnly.lives {l : List (Fld × Nat)} {s t : State} (h : HostOnly s t l) : Lives s t := by
  obtain ⟨-, -, -, hr⟩ := h
  unfold Lives
  rw [hr]
  exact ⟨rfl, rfl, rfl⟩

theorem Only.lives {l : List (Fld × Nat)} {s t : State} (h : Only s t l) : Lives s t := by
  obtain ⟨-, hr⟩ := h
  unfold Lives
  rw [hr]
  exact ⟨rfl, rfl, rfl⟩

/-- The host's write and an effect on listed fields, on Sections, regions and the Station. -/
theorem HostOnly.of_stored {l l' : List (Fld × Nat)} {s j t : State} (hj : Stored l s j) (ht : FldsKeep (Listed l') j t)
    (hl : ∀ x ∈ l, x ∈ l')
    (hr : t = { j with regs := t.regs, fresh := t.fresh, secs := t.secs, rgns := t.rgns, stn := t.stn }) :
    HostOnly { s with secs := t.secs, rgns := t.rgns, stn := t.stn } t l' := by
  have hfl : FldsKeep (Listed (l' ++ jnlFields)) s t :=
    (hj.flds.mono fun f u h => by
      rcases List.mem_append.1 h with h | h
      · exact List.mem_append_left _ (hl _ h)
      · exact List.mem_append_right _ h).trans (ht.mono fun _ _ h => List.mem_append_left _ h)
  refine ⟨FldsKeep.bitsKeep hfl, fun a ha => ?_, fun x hx => ?_, ?_⟩
  · have hm : t.mem = j.mem := by rw [hr]
    have : t.rdByte a = j.rdByte a := by unfold State.rdByte; rw [hm]
    exact this.trans (hj.bytes a ha)
  · have hg : t.log = j.log := by rw [hr]
    have : t.source x = j.source x := by unfold State.source; rw [hg]
    exact this.trans (hj.srcs x hx)
  · have h := hj.rest
    rw [h] at hr
    rw [hr]

/-- The same where of those only Sections move. -/
theorem HostOnly.of_stored_secs {l l' : List (Fld × Nat)} {s j t : State} (hj : Stored l s j) (ht : FldsKeep (Listed l') j t)
    (hl : ∀ x ∈ l, x ∈ l') (hr : t = { j with regs := t.regs, fresh := t.fresh, secs := t.secs }) :
    HostOnly { s with secs := t.secs } t l' := by
  have hg : t.rgns = s.rgns := by rw [← hj.rgns, hr]
  have hn : t.stn = s.stn := by rw [← hj.stn, hr]
  have h := HostOnly.of_stored hj ht hl (by rw [hr])
  rw [hg, hn] at h
  exact h

/-- The same where of those only regions move. -/
theorem HostOnly.of_stored_rgns {l l' : List (Fld × Nat)} {s j t : State} (hj : Stored l s j) (ht : FldsKeep (Listed l') j t)
    (hl : ∀ x ∈ l, x ∈ l') (hr : t = { j with regs := t.regs, fresh := t.fresh, rgns := t.rgns }) :
    HostOnly { s with rgns := t.rgns } t l' := by
  have hg : t.secs = s.secs := by rw [← hj.secs, hr]
  have hn : t.stn = s.stn := by rw [← hj.stn, hr]
  have h := HostOnly.of_stored hj ht hl (by rw [hr])
  rw [hg, hn] at h
  exact h

/-- The same where of those only the Station moves. -/
theorem HostOnly.of_stored_stn {l l' : List (Fld × Nat)} {s j t : State} (hj : Stored l s j) (ht : FldsKeep (Listed l') j t)
    (hl : ∀ x ∈ l, x ∈ l') (hr : t = { j with regs := t.regs, fresh := t.fresh, stn := t.stn }) :
    HostOnly { s with stn := t.stn } t l' := by
  have hg : t.secs = s.secs := by rw [← hj.secs, hr]
  have hn : t.rgns = s.rgns := by rw [← hj.rgns, hr]
  have h := HostOnly.of_stored hj ht hl (by rw [hr])
  rw [hg, hn] at h
  exact h

/-- The same where none of those moves. -/
theorem HostOnly.of_stored_only {l l' : List (Fld × Nat)} {s j t : State} (hj : Stored l s j) (ht : FldsKeep (Listed l') j t)
    (hl : ∀ x ∈ l, x ∈ l') (hr : t = { j with regs := t.regs, fresh := t.fresh }) : HostOnly s t l' := by
  have hg : t.secs = s.secs := by rw [← hj.secs, hr]
  have h := HostOnly.of_stored_secs hj ht hl (by rw [hr])
  rw [hg] at h
  exact h

end Sys2Proof.Claim
end

section
/-!
SUPPORT. The host's writes of a Section Root's registers but SEC_CTRL (R94, R169, R183, R371).
-/

namespace Sys2Proof.Machine

/-! ### Changes that wait -/

/-- The fields that show the changes that wait in a Section. -/
def pendFlds (k : Nat) : List (Fld × Nat) := [(F.SEC_FW_STATUS_PENDING, k), (F.SEC_HEADWAY_PENDING, k)]

theorem State.updatePend_flds (s : State) (k : Nat) : FldsKeep (Listed (pendFlds k)) s (s.updatePend k) :=
  ((FldsKeep.refl _ s).fsetB _ (by simp [Listed, pendFlds])).fsetB _ (by simp [Listed, pendFlds])

theorem State.on_pending_updatePend (s : State) (k : Nat) :
    (s.updatePend k).on F.SEC_FW_STATUS_PENDING k = (s.sec k).pend.any (·.applies) := by
  have h : (s.updatePend k).on F.SEC_FW_STATUS_PENDING k =
      (s.fsetB F.SEC_FW_STATUS_PENDING k ((s.sec k).pend.any (·.applies))).on F.SEC_FW_STATUS_PENDING k :=
    State.on_congr (State.fget_fset_apart _ _ (.inl (by decide)))
  rw [h, State.on_fsetB _ _ _ _ rfl (by decide)]

theorem State.on_headwayPending_updatePend (s : State) (k : Nat) :
    (s.updatePend k).on F.SEC_HEADWAY_PENDING k = (s.sec k).pend.any (·.hw.isSome) :=
  State.on_fsetB _ _ _ _ rfl (by decide)

theorem State.addPend_flds (s : State) (k : Nat) (p : SecPend) : FldsKeep (Listed (pendFlds k)) s (s.addPend k p) :=
  (FldsKeep.ofRegs (t := s.setSec k { s.sec k with pend := (s.sec k).pend ++ [p] }) rfl rfl).trans
    (State.updatePend_flds _ k)

theorem State.addPend_frame (s : State) (k : Nat) (p : SecPend) :
    s.addPend k p = { s with regs := (s.addPend k p).regs, secs := (s.addPend k p).secs } := rfl

theorem State.sec_addPend (s : State) (k j : Nat) (p : SecPend) :
    (s.addPend k p).sec j = if j = k then { s.sec k with pend := (s.sec k).pend ++ [p] } else s.sec j :=
  State.sec_setSec s k j { s.sec k with pend := (s.sec k).pend ++ [p] }

/-- A change of frequency that waits shows. -/
theorem State.on_pending_addPend (s : State) (k : Nat) {p : SecPend} (hp : p.applies = true) :
    (s.addPend k p).on F.SEC_FW_STATUS_PENDING k = true := by
  unfold State.addPend
  rw [State.on_pending_updatePend, State.sec_setSec_same]
  simp [hp]

/-- A headway transition that waits shows. -/
theorem State.on_headwayPending_addPend (s : State) (k : Nat) {p : SecPend} (hp : p.hw.isSome = true) :
    (s.addPend k p).on F.SEC_HEADWAY_PENDING k = true := by
  unfold State.addPend
  rw [State.on_headwayPending_updatePend, State.sec_setSec_same]
  simp [hp]

end Sys2Proof.Machine

namespace Sys2Proof.Claim

open Sys2Proof.Machine

/-! ### The registers of a Section Root -/

theorem secFw_lies : Reg.LiesAt .SEC_FW .sec 0x80 := by unfold Reg.LiesAt; decide
theorem secHeadway_lies : Reg.LiesAt .SEC_HEADWAY .sec 0x80 := by unfold Reg.LiesAt; decide
theorem secCtrl_lies : Reg.LiesAt .SEC_CTRL .sec 0x80 := by unfold Reg.LiesAt; decide
theorem secSymCfg_lies : Reg.LiesAt .SEC_SYM_CFG .sec 0x80 := by unfold Reg.LiesAt; decide
theorem secSlot_lies : Reg.LiesAt .SEC_SLOT .sec 0x80 := by unfold Reg.LiesAt; decide

theorem secFw_plain : Reg.Plain .SEC_FW := ⟨fun _ _ _ _ => rfl, fun _ => rfl, by decide⟩
theorem secHeadway_plain : Reg.Plain .SEC_HEADWAY := ⟨fun _ _ _ _ => rfl, fun _ => rfl, by decide⟩
theorem secCtrl_plain : Reg.Plain .SEC_CTRL := ⟨fun _ _ _ _ => rfl, fun _ => rfl, by decide⟩
theorem secSymCfg_plain : Reg.Plain .SEC_SYM_CFG := ⟨fun _ _ _ _ => rfl, fun _ => rfl, by decide⟩
theorem secSlot_plain : Reg.Plain .SEC_SLOT := ⟨fun _ _ _ _ => rfl, fun _ => rfl, by decide⟩

/-- Beside SEC_CTRL no write meets SAFE (R550). -/
theorem safeKept_of_ne (s : State) {r : Reg} (h : r ≠ .SEC_CTRL) : s.safeKept r = 0#32 := by
  unfold State.safeKept
  rw [if_neg (fun hh => h hh.1)]
  rfl

/-- The host writes an RW field of a Section Root. -/
theorem HostSec.field {s : State} {f : Fld} {k v : Nat} (h : HostSec s f.reg k) (hl : f.reg.LiesAt .sec 0x80)
    (hr : f.reg.Plain) (hf : f.Rw) (hk : s.safeKept f.reg = 0#32) (hv : v < 2 ^ f.w) :
    ∃ j p, Stored [(f, k)] s j ∧ j.fget f k = v ∧ s.hostField f k v =
      j.effect f.reg k (s.reg f.reg k) (putF 0 f.lo f.w v &&& maskF f.lo f.w) false p := by
  obtain ⟨hm, hk', hn⟩ := h
  exact State.hostField_rw s hr hf hm (s.build.place_sec hl hk' hn) (mapped_sec hl (by omega)) hk hv

/-- A command that writes a register of a Section that the die has. -/
theorem HostSec.runs {s : State} {r : Reg} {k : Nat} (h : HostSec s r k) {c : Instr} {P : State → Prop} {f : State → State}
    (hc : exec c s = s.act fun s => s.iff (k < s.build.nSections) f) (hl : Lives s (f s)) (hP : P (f s)) : Runs c s P := by
  obtain ⟨⟨hp, -⟩, hk, -⟩ := h
  have hi : s.iff (k < s.build.nSections) f = f s := by simp [State.iff, hk]
  exact Runs.of_act hc hp (by rw [hi]; exact hl) (by rw [hi]; exact hP)

/-! ### Frequency words that wait (R94, R169) -/

/-- A word of the mode in use waits 32 tk where the Section applies words, and nothing waits elsewhere. -/
theorem wordWaits {s j : State} {f : Fld} {k fw : Nat} (hs : Stored [(f, k)] s j) (c : Bool) :
    let t := if c then j.addPend k { due := j.count + 32, word := some fw } else j
    (if c = true then t.sec k = { s.sec k with pend := (s.sec k).pend ++ [{ due := s.count + 32, word := some fw }] } ∧
        t.on F.SEC_FW_STATUS_PENDING k = true
      else t.secs = s.secs) ∧
    (∀ i, i ≠ k → t.sec i = s.sec i) ∧
    HostOnly { s with secs := t.secs } t [(f, k), (F.SEC_FW_STATUS_PENDING, k), (F.SEC_HEADWAY_PENDING, k)] := by
  intro t
  cases c with
  | false =>
    exact ⟨hs.secs, fun i _ => hs.sec i, HostOnly.of_stored_secs (l' := (f, k) :: pendFlds k) hs (FldsKeep.refl _ j) (by simp) rfl⟩
  | true =>
    have ht : t = j.addPend k { due := j.count + 32, word := some fw } := if_pos rfl
    have hf : FldsKeep (Listed ((f, k) :: pendFlds k)) j t := ht ▸
      (State.addPend_flds j k _).mono fun _ _ h => List.mem_cons_of_mem _ h
    rw [if_pos rfl, ht]
    refine ⟨⟨?_, State.on_pending_addPend j k rfl⟩, fun i hi => ?_, ?_⟩
    · rw [State.sec_addPend, if_pos rfl, hs.sec, hs.count]
    · rw [State.sec_addPend, if_neg hi, hs.sec]
    · exact HostOnly.of_stored_secs (l' := (f, k) :: pendFlds k) hs (ht ▸ hf) (by simp) (by rw [State.addPend_frame])

/-- What the host's write of a frequency word does, from what its effect makes wait. -/
theorem wordWritten {s : State} {f : Fld} {k fw : Nat} {cmd : Instr} {mode : Bool} (h : HostSec s f.reg k)
    (hl : f.reg.LiesAt .sec 0x80) (hr : f.reg.Plain) (hf : f.Rw) (hne : f.reg ≠ .SEC_CTRL) (hst : f.reg ≠ .SEC_STATUS)
    (hap : f.Apart k F.SEC_FW_STATUS_PENDING k ∧ f.Apart k F.SEC_HEADWAY_PENDING k)
    (hv : fw < 2 ^ f.w) (hc : exec cmd s = s.act fun s => s.iff (k < s.build.nSections) fun s => s.hostField f k fw)
    (he : ∀ (j : State) (old w : Word) (p : Bool), j.fget f k = fw → j.effect f.reg k old w false p =
      if j.secApplies k && (j.on F.SEC_CTRL_HEADWAY k == mode) then j.addPend k { due := j.count + 32, word := some fw } else j) :
    Runs cmd s fun t => t.fget f k = fw ∧
      (if s.secState k = 3 ∧ s.on F.SEC_CTRL_SAFE k = false ∧ s.on F.SEC_CTRL_HEADWAY k = mode then
        t.sec k = { s.sec k with pend := (s.sec k).pend ++ [{ due := s.count + 32, word := some fw }] } ∧
          t.on F.SEC_FW_STATUS_PENDING k = true
       else t.secs = s.secs) ∧
      (∀ j, j ≠ k → t.sec j = s.sec j) ∧
      HostOnly { s with secs := t.secs } t [(f, k), (F.SEC_FW_STATUS_PENDING, k), (F.SEC_HEADWAY_PENDING, k)] := by
  obtain ⟨j, p, hs, hval, hw⟩ := HostSec.field h hl hr hf (safeKept_of_ne s hne) hv
  have hctl (g : Fld) (hg : g.reg = .SEC_CTRL) : j.fget g k = s.fget g k :=
    hs.fget_other rfl (fun hh => hne (hh.symm.trans hg)) (by rw [hg]; decide)
  have hstate : j.secState k = s.secState k := hs.fget_other rfl (Ne.symm hst) (by decide)
  have hsafe : j.on F.SEC_CTRL_SAFE k = s.on F.SEC_CTRL_SAFE k := State.on_congr (hctl _ rfl)
  have hmode : j.on F.SEC_CTRL_HEADWAY k = s.on F.SEC_CTRL_HEADWAY k := State.on_congr (hctl _ rfl)
  have hcond : (j.secApplies k && (j.on F.SEC_CTRL_HEADWAY k == mode)) = true ↔
      s.secState k = 3 ∧ s.on F.SEC_CTRL_SAFE k = false ∧ s.on F.SEC_CTRL_HEADWAY k = mode := by
    simp [State.secApplies, hstate, hsafe, hmode, and_assoc]
  rw [he j _ _ p hval] at hw
  obtain ⟨hsec, hother, honly⟩ := wordWaits (fw := fw) hs (j.secApplies k && (j.on F.SEC_CTRL_HEADWAY k == mode))
  have hkeep (c : Bool) : (if c then j.addPend k { due := j.count + 32, word := some fw } else j).fget f k = fw := by
    cases c
    · exact hval
    · rw [if_pos rfl, State.addPend_flds j k _ f k (Listed.apart (by simpa [pendFlds] using hap)), hval]
  refine HostSec.runs h hc (hw ▸ honly.lives) ?_
  rw [hw]
  exact ⟨hkeep _, Eq.mp (if_congr hcond rfl rfl) hsec, hother, honly⟩

/-- SEC_FW_WRITE (R94). -/
theorem fwWrite (s : State) (k fw : Nat) : FwWrite s k fw := fun h hv =>
  wordWritten (f := F.SEC_FW_FW) (mode := false) h secFw_lies secFw_plain ⟨by decide, by decide, by decide, by decide, by decide⟩
    (by decide) (by decide) ⟨.inl (by decide), .inl (by decide)⟩ hv rfl fun j old w p hval => by
      show j.secFwWritten k false = _
      unfold State.secFwWritten State.wordWritten
      rw [hval]
      cases j.on F.SEC_CTRL_HEADWAY k <;> rfl

/-- FW_HW_WRITE (R169). -/
theorem hwWrite (s : State) (k fw : Nat) : HwWrite s k fw := fun h hv =>
  wordWritten (f := F.SEC_HEADWAY_FW_HW) (mode := true) h secHeadway_lies secHeadway_plain
    ⟨by decide, by decide, by decide, by decide, by decide⟩
    (by decide) (by decide) ⟨.inl (by decide), .inr (.inr (by decide))⟩ hv rfl fun j old w p hval => by
      show j.secHeadwayWritten k false = _
      unfold State.secHeadwayWritten State.wordWritten
      rw [hval]
      cases j.on F.SEC_CTRL_HEADWAY k <;> rfl

/-! ### SEC_SYM_CFG and SEC_SLOT (R183, R371) -/

/-- The turn of a region when SEC_SYM_CFG.EN goes to 0. -/
def symEnds (s : State) (r : Nat) : State := s.setRgn r { s.rgn r with symEnd := s.on F.SB_SLIP_REQ r }

theorem symEnds_frame (l : List Nat) (s : State) : s.each l symEnds = { s with rgns := (s.each l symEnds).rgns } := by
  induction l generalizing s with
  | nil => rfl
  | cons r l ih => rw [State.each_cons, ih]; rfl

/-- Every region of the list is marked once, and no other. -/
theorem rgn_symEnds (l : List Nat) (s : State) (r : Nat) :
    (s.each l symEnds).rgn r = if r ∈ l then { s.rgn r with symEnd := s.on F.SB_SLIP_REQ r } else s.rgn r := by
  induction l generalizing s with
  | nil => simp
  | cons q l ih =>
    have hon : (symEnds s q).on F.SB_SLIP_REQ r = s.on F.SB_SLIP_REQ r := rfl
    have hr : (symEnds s q).rgn r = if r = q then { s.rgn q with symEnd := s.on F.SB_SLIP_REQ q } else s.rgn r :=
      State.rgn_setRgn s q r _
    rw [State.each_cons, ih, hon, hr]
    by_cases hq : r = q
    · subst hq; simp
    · simp [hq]

/-- SYM_EN_CLEAR (R183). -/
theorem symEnClear (s : State) (k : Nat) : Claim.SymEnClear s k := by
  intro h
  obtain ⟨j, p, hs, hval, hw⟩ := HostSec.field (f := F.SEC_SYM_CFG_EN) (v := 0) h secSymCfg_lies secSymCfg_plain
    ⟨by decide, by decide, by decide, by decide, by decide⟩ (safeKept_of_ne s (by decide)) (by decide)
  have hoff : j.on F.SEC_SYM_CFG_EN k = false := by unfold State.on; rw [hval]; rfl
  have he : s.hostField F.SEC_SYM_CFG_EN k 0 = j.each (s.build.regionsOf k) symEnds := by
    rw [hw]
    show j.symCfgWritten k = _
    unfold State.symCfgWritten
    rw [hoff, hs.build]
    rfl
  have hreq (r : Nat) : j.on F.SB_SLIP_REQ r = s.on F.SB_SLIP_REQ r :=
    State.on_congr (hs.fget_other rfl (by decide) (by decide))
  have hflds : FldsKeep (Listed [(F.SEC_SYM_CFG_EN, k)]) j (j.each (s.build.regionsOf k) symEnds) :=
    FldsKeep.ofRegs (by rw [symEnds_frame]) (by rw [symEnds_frame])
  have honly := HostOnly.of_stored_rgns hs hflds (fun _ h => h) (by rw [symEnds_frame])
  refine HostSec.runs h rfl (he ▸ honly.lives) ?_
  show _ ∧ _
  rw [he]
  refine ⟨?_, fun r hr => ?_, fun r hr => ?_, honly⟩
  · rw [symEnds_frame]; exact hoff
  · rw [rgn_symEnds, if_pos hr, hs.rgn, hreq]
  · rw [rgn_symEnds, if_neg hr, hs.rgn]

/-- The slot that a write of SEC_SLOT opens, and what it leaves. -/
theorem slotWritten_frame (s : State) (k : Nat) :
    s.slotWritten k = { s with regs := (s.slotWritten k).regs, secs := (s.slotWritten k).secs } := rfl

/-- SLOT_LEN_WRITE and SLOT_END (R371). -/
theorem slots (s : State) (k len : Nat) : Slots s k len := by
  refine ⟨fun h hlen => ?_, fun hp hon hdue => ?_⟩
  · obtain ⟨j, p, hs, hval, hw⟩ := HostSec.field (f := F.SEC_SLOT_LEN) (v := len) h secSlot_lies secSlot_plain
      ⟨by decide, by decide, by decide, by decide, by decide⟩ (safeKept_of_ne s (by decide)) hlen
    have he : s.hostField F.SEC_SLOT_LEN k len = j.slotWritten k := hw
    have hflds : FldsKeep (Listed [(F.SEC_SLOT_LEN, k), (F.SEC_SLOT_ACTIVE, k)]) j (j.slotWritten k) :=
      (FldsKeep.ofRegs (t := j.setSec k { j.sec k with slotEnd := j.count + 16 * j.fget F.SEC_SLOT_LEN k }) rfl rfl).fsetB _
        (by simp [Listed])
    have honly := HostOnly.of_stored_secs hs hflds (by simp) (by rw [slotWritten_frame])
    have hsec (i : Nat) : (j.slotWritten k).sec i =
        if i = k then { s.sec k with slotEnd := s.count + 16 * len } else s.sec i := by
      rw [← hs.sec k, ← hs.sec i, ← hs.count, ← hval]
      exact State.sec_setSec j k i _
    refine HostSec.runs h rfl (he ▸ honly.lives) ?_
    show _ ∧ _
    rw [he]
    refine ⟨?_, by rw [hsec, if_pos rfl], ?_, fun i hi => by rw [hsec, if_neg hi], honly⟩
    · exact (State.fget_fset_apart _ _ (.inr (.inr (by decide)))).trans hval
    · have hact : (j.slotWritten k).on F.SEC_SLOT_ACTIVE k = (len != 0) := by
        rw [← hval]
        exact State.on_fsetB _ _ _ _ rfl (by decide)
      rw [hact, bne_iff_ne]
  · have he : s.iff (s.on F.SEC_SLOT_ACTIVE k && (s.sec k).slotEnd ≤ s.count) (fun s => s.fset F.SEC_SLOT_ACTIVE k 0) =
        s.fset F.SEC_SLOT_ACTIVE k 0 := by simp [State.iff, hon, hdue]
    have honly : Only s (s.fset F.SEC_SLOT_ACTIVE k 0) [(F.SEC_SLOT_ACTIVE, k)] :=
      ⟨((FldsKeep.refl _ s).fset 0 (by simp [Listed])).bitsKeep, rfl⟩
    refine Runs.of_act (f := fun s => s.iff (s.on F.SEC_SLOT_ACTIVE k && (s.sec k).slotEnd ≤ s.count) fun s =>
      s.fset F.SEC_SLOT_ACTIVE k 0) rfl hp (he ▸ honly.lives) ?_
    rw [he]
    exact ⟨State.on_fsetB s F.SEC_SLOT_ACTIVE k false rfl (by decide), honly⟩

end Sys2Proof.Claim
end

section
/-!
SUPPORT. What belongs to one Section: the frame of what a Section Root does, and the frames and reads of the operations on a
region that its Section's changes share (R128, R162, R188, R237, R247).
-/

namespace Sys2Proof.Machine

/-! ### The regions of a Section -/

theorem runSection_of_mem (k : Nat) (l : List (Nat × Nat)) (b r : Nat) (h : r ∈ runRegions k l b) :
    b ≤ r ∧ runSection l (r - b) = k := by
  induction l generalizing b with
  | nil => simp [runRegions] at h
  | cons x l ih =>
    obtain ⟨n, j⟩ := x
    rcases List.mem_append.1 h with h | h
    · split at h
      next hj =>
        obtain ⟨i, hi, rfl⟩ := List.mem_map.1 h
        have hi := List.mem_range.1 hi
        exact ⟨by omega, by simp [runSection, hi, hj]⟩
      next => cases h
    · obtain ⟨h1, h2⟩ := ih (b + n) h
      refine ⟨by omega, ?_⟩
      rw [runSection, if_neg (by omega), ← h2]
      congr 1
      omega

/-- A region of a Section's list is a region of that Section. -/
theorem Build.sectionOf_of_mem {b : Build} {k r : Nat} (h : r ∈ b.regionsOf k) : b.sectionOf r = k :=
  (runSection_of_mem k b.regionRuns 0 r h).2

/-! ### What belongs to a Section -/

/-- A field of the listed kinds that belongs to Section `k`. -/
def Within (b : Build) (k : Nat) (l : List Fld) (g : Fld) (w : Nat) : Prop := g ∈ l ∧ Claim.ofSection b k g.reg w

/-- Nothing moves but what belongs to Section `k`, and of its fields those of the listed kinds alone; the Section, its regions
and the Governor may post. -/
structure SecMoves (k : Nat) (l : List Fld) (s t : State) : Prop where
  flds : FldsKeep (Within s.build k l) s t
  secs : ∀ j, j ≠ k → t.sec j = s.sec j
  rgns : ∀ r, s.build.sectionOf r ≠ k → t.rgn r = s.rgn r
  srcs : ∀ x, x ≠ srcGov → x ≠ srcSec k → s.build.sectionOf x ≠ k → t.source x = s.source x
  rest : t = { s with regs := t.regs, fresh := t.fresh, freshMid := t.freshMid, secs := t.secs, rgns := t.rgns
                      calRgns := t.calRgns, xings := t.xings, log := t.log }

section
variable {k : Nat} {l : List Fld} {s t : State} (h : SecMoves k l s t)
include h

theorem SecMoves.build : t.build = s.build := by rw [h.rest]
theorem SecMoves.stn : t.stn = s.stn := by rw [h.rest]
theorem SecMoves.mem : t.mem = s.mem := by rw [h.rest]
theorem SecMoves.count : t.count = s.count := by unfold State.count; rw [h.stn]

/-- A kind of field that is not listed keeps its value in every unit. -/
theorem SecMoves.fget {f : Fld} {u : Nat} (hf : ∀ g ∈ l, f.reg ≠ g.reg ∨ f.lo + f.w ≤ g.lo ∨ g.lo + g.w ≤ f.lo) :
    t.fget f u = s.fget f u :=
  h.flds f u fun g _ hg => (hf g hg.1).imp_right .inr

theorem SecMoves.on {f : Fld} {u : Nat} (hf : ∀ g ∈ l, f.reg ≠ g.reg ∨ f.lo + f.w ≤ g.lo ∨ g.lo + g.w ≤ f.lo) :
    t.on f u = s.on f u := State.on_congr (h.fget hf)

/-- A register of another unit keeps its word. -/
theorem SecMoves.reg {r : Reg} {u : Nat} (hr : ¬ Claim.ofSection s.build k r u) : t.reg r u = s.reg r u :=
  h.flds.reg fun g w hg => by
    by_cases hrg : r = g.reg
    · exact .inr fun hu => hr (by rw [hrg, hu]; exact hg.2)
    · exact .inl hrg

theorem SecMoves.mono {l' : List Fld} (hl : l ⊆ l') : SecMoves k l' s t :=
  { h with flds := h.flds.mono fun _ _ hg => ⟨hl hg.1, hg.2⟩ }

theorem SecMoves.trans {v : State} (h' : SecMoves k l t v) : SecMoves k l s v where
  flds := h.flds.trans (by have := h'.flds; rw [h.build] at this; exact this)
  secs j hj := (h'.secs j hj).trans (h.secs j hj)
  rgns r hr := (h'.rgns r (by rw [h.build]; exact hr)).trans (h.rgns r hr)
  srcs x h1 h2 h3 := (h'.srcs x h1 h2 (by rw [h.build]; exact h3)).trans (h.srcs x h1 h2 h3)
  rest := by
    have e := h.rest
    have e' := h'.rest
    rw [e] at e'
    exact e'

end

theorem SecMoves.refl (k : Nat) (l : List Fld) (s : State) : SecMoves k l s s :=
  ⟨FldsKeep.refl _ s, fun _ _ => rfl, fun _ _ => rfl, fun _ _ _ _ => rfl, rfl⟩

theorem SecMoves.each {α : Type} {k : Nat} {l : List Fld} (s : State) (L : List α) (f : State → α → State)
    (hf : ∀ t a, a ∈ L → t.build = s.build → SecMoves k l t (f t a)) : SecMoves k l s (s.each L f) :=
  State.each_keeps (SecMoves k l s) L f (fun t a ha ht => ht.trans (hf t a ha ht.build)) s (SecMoves.refl k l s)

/-- An effect on registers, calibration records and crossings. -/
theorem SecMoves.of_flds {k : Nat} {l : List Fld} {L : List (Fld × Nat)} {s t : State} (hf : FldsKeep (Listed L) s t)
    (hl : ∀ x ∈ L, x.1 ∈ l ∧ Claim.ofSection s.build k x.1.reg x.2)
    (hr : t = { s with regs := t.regs, fresh := t.fresh, freshMid := t.freshMid, calRgns := t.calRgns, xings := t.xings }) :
    SecMoves k l s t where
  flds := hf.mono fun _ _ hg => hl _ hg
  secs j _ := by unfold State.sec; rw [hr]
  rgns r _ := by unfold State.rgn; rw [hr]
  srcs x _ _ _ := by unfold State.source; rw [hr]
  rest := by rw [hr]

theorem SecMoves.fset {k : Nat} {l : List Fld} {s : State} {f : Fld} {u : Nat} (v : Nat) (hf : f ∈ l)
    (ho : Claim.ofSection s.build k f.reg u) : SecMoves k l s (s.fset f u v) :=
  .of_flds (L := [(f, u)]) ((FldsKeep.refl _ s).fset v (List.mem_singleton_self _)) (by simpa using ⟨hf, ho⟩) rfl

theorem SecMoves.setFlag {k : Nat} {l : List Fld} {s : State} {f : Fld} {u : Nat} (hf : f ∈ l)
    (ho : Claim.ofSection s.build k f.reg u) : SecMoves k l s (s.setFlag f u) :=
  .of_flds (L := [(f, u)]) ((FldsKeep.refl _ s).setFlag (List.mem_singleton_self _)) (by simpa using ⟨hf, ho⟩) rfl

theorem SecMoves.setReg {k : Nat} {l : List Fld} {s : State} {r : Reg} {u : Nat} (w : Word) (hf : ⟨r, 0, 32⟩ ∈ l)
    (ho : Claim.ofSection s.build k r u) : SecMoves k l s (s.setReg r u w) :=
  .of_flds (L := [(⟨r, 0, 32⟩, u)]) ((FldsKeep.refl _ s).setReg w (List.mem_singleton_self _)) (by simpa using ⟨hf, ho⟩) rfl

theorem SecMoves.setSec {k : Nat} {l : List Fld} (s : State) (v : Sec) : SecMoves k l s (s.setSec k v) :=
  ⟨FldsKeep.ofRegs rfl rfl, fun j hj => by rw [State.sec_setSec, if_neg hj], fun _ _ => rfl, fun _ _ _ _ => rfl, rfl⟩

theorem SecMoves.setRgn {k : Nat} {l : List Fld} (s : State) {r : Nat} (v : Rgn) (hr : s.build.sectionOf r = k) :
    SecMoves k l s (s.setRgn r v) :=
  ⟨FldsKeep.ofRegs rfl rfl, fun _ _ => rfl, fun q hq => by rw [State.rgn_setRgn, if_neg (by rintro rfl; exact hq hr)],
    fun _ _ _ _ => rfl, rfl⟩

theorem SecMoves.post {k : Nat} {l : List Fld} (s : State) {x : Nat} (cls code : Nat) (p : List PItem)
    (hx : x = srcGov ∨ x = srcSec k ∨ s.build.sectionOf x = k) : SecMoves k l s (s.post x cls code p) where
  flds := FldsKeep.ofRegs rfl rfl
  secs _ _ := rfl
  rgns _ _ := rfl
  srcs y h1 h2 h3 := by
    show (s.setSource x _).source y = s.source y
    rw [State.source_setSource, if_neg]
    rintro rfl
    tauto
  rest := rfl

/-! ### Units of the frame -/

theorem ofSection_sec {b : Build} {k : Nat} {r : Reg} (hc : r.info.cls = .sec) (hn : r.info.count = 1) :
    Claim.ofSection b k r k := by
  unfold Claim.ofSection
  rw [hc, hn]
  exact Nat.div_one k

theorem ofSection_sb {b : Build} {k u : Nat} {r : Reg} (hc : r.info.cls = .sb) (hn : r.info.count = 1)
    (hu : b.sectionOf u = k) : Claim.ofSection b k r u := by
  unfold Claim.ofSection
  rw [hc, hn]
  simpa using hu

theorem ofSection_jct {b : Build} {k r j : Nat} (hj : j ∈ b.jctsRead r) (hr : b.sectionOf r = k) {g : Reg}
    (hc : g.info.cls = .jct) : Claim.ofSection b k g j := by
  obtain ⟨-, h⟩ := List.mem_filter.1 hj
  obtain ⟨x, hx, hq⟩ := (Option.any_eq_true _ _).1 h
  unfold Claim.ofSection
  rw [hc]
  exact ⟨x, hx, by rw [of_decide_eq_true hq]; exact hr⟩

/-! ### A disturbed calibration step (R247, R248) -/

/-- The kinds of the fields that count a disturbance. -/
def distKinds : List Fld :=
  [F.SB_CAL_QUAL_SKEW_DIST, F.SB_CAL_QUAL_TRIM_DIST, F.SB_CAL_QUAL_EYE_DIST, F.SB_CAL_CNT_DISTURBED]

theorem State.each_setXing_frame (f : Xing → Xing) (L : List Nat) (s : State) :
    s.each L (fun s j => s.setXing j (f (s.xing j))) =
      { s with xings := (s.each L fun s j => s.setXing j (f (s.xing j))).xings } := by
  induction L generalizing s with
  | nil => rfl
  | cons j L ih => rw [State.each_cons, ih]; rfl

theorem State.eyeFree_frame (s : State) (r : Nat) : s.eyeFree r = { s with xings := (s.eyeFree r).xings } :=
  State.each_setXing_frame (fun x => { x with eyeUnit := false }) (s.eyeJcts r) s

theorem State.calDisturb_frame (s : State) (r : Nat) :
    s.calDisturb r = { s with regs := (s.calDisturb r).regs, calRgns := (s.calDisturb r).calRgns
                              xings := (s.calDisturb r).xings } := by
  unfold State.calDisturb
  split
  · split
    · dsimp only
      rw [State.eyeFree_frame s r]
      rfl
    · rfl
  · rfl

theorem State.calDisturb_flds (s : State) (r : Nat) : FldsKeep (Listed (Claim.distFields r)) s (s.calDisturb r) := by
  unfold State.calDisturb
  split
  next st _ =>
    split
    · have he : FldsKeep (Listed (Claim.distFields r)) s (s.eyeFree r) :=
        FldsKeep.ofRegs (by rw [State.eyeFree_frame]) (by rw [State.eyeFree_frame])
      have hd : Listed (Claim.distFields r) (distFld st.stage) r := by
        rcases st.stage with _ | _ | n <;> simp [distFld, Listed, Claim.distFields]
      exact ((he.beside rfl rfl).fset 1 hd).faddSat 1 (by simp [Listed, Claim.distFields])
    · exact FldsKeep.refl _ s
  next => exact FldsKeep.refl _ s

theorem State.rgns_calDisturb (s : State) (r : Nat) : (s.calDisturb r).rgns = s.rgns := by rw [State.calDisturb_frame]
theorem State.secs_calDisturb (s : State) (r : Nat) : (s.calDisturb r).secs = s.secs := by rw [State.calDisturb_frame]
theorem State.build_calDisturb (s : State) (r : Nat) : (s.calDisturb r).build = s.build := by rw [State.calDisturb_frame]
theorem State.rgn_calDisturb (s : State) (r q : Nat) : (s.calDisturb r).rgn q = s.rgn q := by
  unfold State.rgn; rw [State.rgns_calDisturb]

theorem State.calDisturb_moves (s : State) {k r : Nat} (hr : s.build.sectionOf r = k) :
    SecMoves k distKinds s (s.calDisturb r) := by
  refine .of_flds (State.calDisturb_flds s r) ?_ (by rw [State.calDisturb_frame])
  simp only [Claim.distFields, List.forall_mem_cons, List.not_mem_nil, false_implies, implies_true, and_true]
  exact ⟨⟨by decide, ofSection_sb rfl rfl hr⟩, ⟨by decide, ofSection_sb rfl rfl hr⟩, ⟨by decide, ofSection_sb rfl rfl hr⟩,
    ⟨by decide, ofSection_sb rfl rfl hr⟩⟩

/-! ### The region safe set (R128, R208, R237) -/

/-- The kinds of the fields that the region safe set moves. -/
def safeSetKinds : List Fld := [F.SB_TAP_CTRL_WALKING, ⟨.SB_TC_TRIM, 0, 32⟩, F.JCT_CFG_PHASE_WP, F.JCT_CFG_PHASE_RP]

theorem State.setPhases_moves (s : State) {k r j : Nat} (hj : j ∈ s.build.jctsRead r) (hr : s.build.sectionOf r = k)
    (wp rp : Nat) : SecMoves k safeSetKinds s (s.setPhases j wp rp) :=
  (SecMoves.fset wp (by decide) (ofSection_jct hj hr rfl)).trans (SecMoves.fset rp (by decide) (ofSection_jct hj hr rfl))

/-- The taps and the trim of the safe set. -/
def State.goSafeTaps (s : State) (r : Nat) : State := (s.setTaps r (s.seedTaps r)).setReg .SB_TC_TRIM r 0

theorem State.build_goSafeTaps (s : State) (r : Nat) : (s.goSafeTaps r).build = s.build := by
  simp only [State.goSafeTaps, State.setTaps, State.setReg_build, State.fsetB_build, State.setRgn_build]

theorem State.goSafe_eq (s : State) (r : Nat) :
    s.goSafe r = (s.goSafeTaps r).each (s.build.jctsRead r) fun s j => s.setPhases j 8 8 := by
  rw [← State.build_goSafeTaps s r]
  unfold State.goSafe State.goSafeTaps
  rfl

theorem State.goSafe_moves (s : State) {k r : Nat} (hr : s.build.sectionOf r = k) : SecMoves k safeSetKinds s (s.goSafe r) := by
  have h1 : SecMoves k safeSetKinds s (s.setTaps r (s.seedTaps r)) :=
    (SecMoves.setRgn s _ hr).trans (SecMoves.fset _ (by decide) (ofSection_sb rfl rfl hr))
  have h2 : SecMoves k safeSetKinds s (s.goSafeTaps r) :=
    h1.trans (SecMoves.setReg (r := .SB_TC_TRIM) 0 (by decide) (ofSection_sb rfl rfl hr))
  rw [State.goSafe_eq]
  exact h2.trans (SecMoves.each _ _ _ fun t j hj ht =>
    State.setPhases_moves t (r := r) (by rw [ht]; exact hj) (by rw [ht, h2.build]; exact hr) 8 8)

theorem State.rgns_goSafe (s : State) (r : Nat) : (s.goSafe r).rgns = (s.setRgn r { s.rgn r with tapTgt := s.seedTaps r }).rgns := by
  rw [State.goSafe_eq, State.each_eq State.rgns _ _ fun t j _ => by simp only [State.setPhases, State.fset_rgns]]
  simp only [State.goSafeTaps, State.setTaps, State.setReg_rgns, State.fsetB_rgns]

theorem State.secs_goSafe (s : State) (r : Nat) : (s.goSafe r).secs = s.secs := by
  rw [State.goSafe_eq, State.each_eq State.secs _ _ fun t j _ => by simp only [State.setPhases, State.fset_secs]]
  simp only [State.goSafeTaps, State.setTaps, State.setReg_secs, State.fsetB_secs, State.setRgn_secs]

theorem State.calRgns_goSafe (s : State) (r : Nat) : (s.goSafe r).calRgns = s.calRgns := by
  rw [State.goSafe_eq, State.each_eq State.calRgns _ _ fun t j _ => by simp only [State.setPhases, State.fset_calRgns]]
  simp only [State.goSafeTaps, State.setTaps, State.setReg_calRgns, State.fsetB_calRgns, State.setRgn_calRgns]

theorem State.rgn_goSafe (s : State) (r q : Nat) :
    (s.goSafe r).rgn q = if q = r then { s.rgn r with tapTgt := s.seedTaps r } else s.rgn q := by
  rw [← State.rgn_setRgn]
  unfold State.rgn
  rw [State.rgns_goSafe]
  rfl

theorem State.trim_goSafe (s : State) (r : Nat) : (s.goSafe r).reg .SB_TC_TRIM r = 0 := by
  rw [State.goSafe_eq, State.each_eq (fun t => t.reg .SB_TC_TRIM r) _ _ fun t j _ => ?_]
  · exact State.reg_setReg_same ..
  · exact (State.reg_setReg_ne _ _ (.inl (by decide))).trans (State.reg_setReg_ne _ _ (.inl (by decide)))

theorem State.phases_setPhases (s : State) (j wp rp : Nat) (hw : wp < 16) (hr : rp < 16) :
    (s.setPhases j wp rp).fget F.JCT_CFG_PHASE_WP j = wp ∧ (s.setPhases j wp rp).fget F.JCT_CFG_PHASE_RP j = rp := by
  refine ⟨?_, State.fget_fset_fits _ _ _ (by decide) hr⟩
  exact (State.fget_fset_apart _ _ (.inr (.inr (by decide)))).trans (State.fget_fset_fits _ _ _ (by decide) hw)

/-- The phases of a Junction at 8. -/
def PhasesSafe (t : State) (j : Nat) : Prop := t.fget F.JCT_CFG_PHASE_WP j = 8 ∧ t.fget F.JCT_CFG_PHASE_RP j = 8

theorem PhasesSafe.of_setPhases (s : State) (j : Nat) : PhasesSafe (s.setPhases j 8 8) j :=
  State.phases_setPhases s j 8 8 (by decide) (by decide)

theorem PhasesSafe.setPhases {s : State} {i j : Nat} (h : PhasesSafe s j) : PhasesSafe (s.setPhases i 8 8) j := by
  by_cases hij : j = i
  · subst hij
    exact PhasesSafe.of_setPhases s j
  · have hk (f : Fld) : (s.setPhases i 8 8).fget f j = s.fget f j :=
      (State.fget_fset_apart _ _ (.inr (.inl hij))).trans (State.fget_fset_apart _ _ (.inr (.inl hij)))
    unfold PhasesSafe
    rw [hk, hk]
    exact h

theorem State.phases_goSafe (s : State) (r : Nat) {j : Nat} (hj : j ∈ s.build.jctsRead r) : PhasesSafe (s.goSafe r) j := by
  rw [State.goSafe_eq]
  refine State.each_reaches (fun _ => True) (fun t => PhasesSafe t j) _ _ hj (fun _ _ _ _ => trivial) ?_ ?_ _ trivial
  · exact fun t i _ _ ht => ht.setPhases
  · exact fun t _ => PhasesSafe.of_setPhases t j

theorem PhasesSafe.congr {s t : State} {j : Nat} (h : PhasesSafe s j)
    (hk : ∀ f : Fld, f.reg = .JCT_CFG → t.fget f j = s.fget f j) : PhasesSafe t j :=
  ⟨(hk _ rfl).trans h.1, (hk _ rfl).trans h.2⟩

/-- Another region's turn leaves safe phases safe. -/
theorem PhasesSafe.goSafe {s : State} {r j : Nat} (h : PhasesSafe s j) : PhasesSafe (s.goSafe r) j := by
  rw [State.goSafe_eq]
  refine State.each_keeps (fun t => PhasesSafe t j) _ _ (fun t i _ ht => ht.setPhases) _ (h.congr fun f hf => ?_)
  unfold State.goSafeTaps
  rw [State.fget_setReg, if_neg (by rw [hf]; rintro ⟨h, -⟩; cases h)]
  exact State.fget_fset_apart _ _ (.inl (by rw [hf]; decide))

end Sys2Proof.Machine
end

section
/-!
SUPPORT. Frequency changes of a Section: the word that it is to run at (R93, R102, R404, R417), a change edge (R188, R191), a
step (R96), and a change as a whole (R98), each with its frame and what it leaves to be read.
-/

namespace Sys2Proof.Machine

/-! ### The word that a Section is to run at -/

/-- The kinds of the fields that the word rests on, beside the requested word. -/
def targetKinds : List Fld :=
  [F.GOV_CTRL_EN, F.GOV_SEC_STAT_DROP_E, F.GOV_SEC_STAT_DROP_M, F.GOV_LIMITS_FW_FLOOR, F.GOV_VF_MV, F.GOV_VF_FW_MAX,
    F.GOV_RAIL_CFG_OFFSET, F.GOV_RAIL_STAT_VCONF]

/-- Two states in which the Governor asks the same of every Section. -/
structure SameGovernor (s t : State) : Prop where
  build : t.build = s.build
  flds : ∀ f ∈ targetKinds, ∀ u, t.fget f u = s.fget f u

theorem SecMoves.sameGovernor {k : Nat} {l : List Fld} {s t : State} (h : SecMoves k l s t)
    (hl : ∀ f ∈ targetKinds, ∀ g ∈ l, f.reg ≠ g.reg ∨ f.lo + f.w ≤ g.lo ∨ g.lo + g.w ≤ f.lo) : SameGovernor s t :=
  ⟨h.build, fun f hf _ => h.fget (hl f hf)⟩

section
variable {s t : State} (h : SameGovernor s t)
include h

theorem SameGovernor.fwV (rail : Nat) : t.fwV rail = s.fwV rail := by
  unfold State.fwV State.vfDemand
  simp only [h.flds F.GOV_VF_MV (by decide), h.flds F.GOV_RAIL_CFG_OFFSET (by decide), h.flds F.GOV_VF_FW_MAX (by decide),
    h.flds F.GOV_RAIL_STAT_VCONF (by decide)]

theorem SameGovernor.fwGovRaw (k r : Nat) : t.fwGovRaw k r = s.fwGovRaw k r := by
  unfold State.fwGovRaw
  rw [h.flds F.GOV_SEC_STAT_DROP_E (by decide), h.flds F.GOV_SEC_STAT_DROP_M (by decide),
    h.flds F.GOV_LIMITS_FW_FLOOR (by decide)]

/-- One requested word gives one word to run at. -/
theorem SameGovernor.fwTarget {k : Nat} (hr : t.fwReq k = s.fwReq k) : t.fwTarget k = s.fwTarget k := by
  have hw : t.fwWanted k = s.fwWanted k := by
    unfold State.fwWanted
    rw [hr]
    cases s.fwReq k with
    | none => rfl
    | some r => exact h.fwGovRaw k r
  unfold State.fwTarget State.fwCapped
  rw [hw, h.fwV, h.build, State.on_congr (h.flds F.GOV_CTRL_EN (by decide) 0)]

end

theorem State.fwReq_of_safe {s : State} {k : Nat} (h : s.on F.SEC_CTRL_SAFE k = true) : s.fwReq k = none := by
  unfold State.fwReq; rw [if_pos h]

theorem maxOf_spec (l : List Nat) : (∀ a ∈ l, a ≤ maxOf l) ∧ (l ≠ [] → maxOf l ∈ l) := by
  have gen : ∀ (l : List Nat) (m : Nat), m ≤ l.foldl max m ∧ (∀ a ∈ l, a ≤ l.foldl max m) ∧
      (l.foldl max m = m ∨ l.foldl max m ∈ l) := by
    intro l
    induction l with
    | nil => simp
    | cons x l ih =>
      intro m
      obtain ⟨h1, h2, h3⟩ := ih (max m x)
      refine ⟨by rw [List.foldl_cons]; omega, fun a ha => ?_, ?_⟩
      · rcases List.mem_cons.1 ha with rfl | ha
        · rw [List.foldl_cons]; omega
        · exact h2 a ha
      · rw [List.foldl_cons]
        rcases h3 with h3 | h3
        · rcases le_total m x with hx | hx
          · exact .inr (by rw [h3, max_eq_right hx]; exact List.mem_cons_self)
          · exact .inl (by rw [h3, max_eq_left hx])
        · exact .inr (List.mem_cons_of_mem _ h3)
  obtain ⟨-, h2, h3⟩ := gen l 0
  refine ⟨h2, fun hne => h3.elim (fun h0 => ?_) id⟩
  obtain ⟨a, ha⟩ := List.exists_mem_of_ne_nil l hne
  have := h2 a ha
  have hm : maxOf l = a := by unfold maxOf; omega
  rw [hm]
  exact ha

theorem signed_eq_toInt (n : Nat) : signed 8 n = (BitVec.ofNat 8 n).toInt := by
  unfold signed BitVec.toInt
  rw [BitVec.toNat_ofNat]
  split <;> split <;> omega

/-- The word that the confirmed voltage supports is FW_V of the rail (R417). -/
theorem fwV_of_supported {s : State} {k w : Nat} (h : Claim.supported s k w) : s.fwV (s.build.railOf k) = w := by
  obtain ⟨hnone, hsome⟩ := h
  have hok (n : Nat) : (s.vfDemand (s.build.railOf k) n ≤ (s.fget F.GOV_RAIL_STAT_VCONF (s.build.railOf k) : Int)) ↔
      (s.fget F.GOV_VF_MV n : Int) + (BitVec.ofNat 8 (s.fget F.GOV_RAIL_CFG_OFFSET (s.build.railOf k))).toInt ≤
        (s.fget F.GOV_RAIL_STAT_VCONF (s.build.railOf k) : Int) := by
    unfold State.vfDemand
    rw [signed_eq_toInt]
  have hmem (n : Nat) : n ∈ (List.range 8).filter (fun n => s.vfDemand (s.build.railOf k) n ≤
      (s.fget F.GOV_RAIL_STAT_VCONF (s.build.railOf k) : Int)) ↔ n < 8 ∧
      (s.fget F.GOV_VF_MV n : Int) + (BitVec.ofNat 8 (s.fget F.GOV_RAIL_CFG_OFFSET (s.build.railOf k))).toInt ≤
        (s.fget F.GOV_RAIL_STAT_VCONF (s.build.railOf k) : Int) := by
    rw [List.mem_filter, List.mem_range, decide_eq_true_eq, hok]
  unfold State.fwV
  dsimp only
  split
  next he =>
    refine (hnone fun n hn hle => ?_).symm
    have := (hmem n).2 ⟨hn, hle⟩
    rw [List.isEmpty_iff.1 he] at this
    cases this
  next he =>
    have hne := fun e => he (List.isEmpty_iff.2 e)
    obtain ⟨n, hn⟩ := List.exists_mem_of_ne_nil _ hne
    obtain ⟨⟨m, hm, hmo, hw⟩, hmax⟩ := hsome ⟨n, (hmem n).1 hn⟩
    obtain ⟨hub, hin⟩ := maxOf_spec (((List.range 8).filter (fun n => s.vfDemand (s.build.railOf k) n ≤
      (s.fget F.GOV_RAIL_STAT_VCONF (s.build.railOf k) : Int))).map fun n => s.fget F.GOV_VF_FW_MAX n)
    obtain ⟨i, hi, hie⟩ := List.mem_map.1 (hin fun e => hne (List.map_eq_nil_iff.1 e))
    refine Nat.le_antisymm ?_ ?_
    · rw [← hie]
      exact hmax i ((hmem i).1 hi).1 ((hmem i).1 hi).2
    · rw [hw]
      exact hub _ (List.mem_map.2 ⟨m, (hmem m).2 ⟨hm, hmo⟩, rfl⟩)

/-- The cap of R417 and the range of R93. -/
theorem capped_of_supported {s : State} {k w x : Nat}
    (h : if s.on F.GOV_CTRL_EN 0 then ∃ v, Claim.supported s k v ∧ x = max 14336 (min 139264 (min w v))
      else x = max 14336 (min 139264 w)) :
    fwClamp (if s.on F.GOV_CTRL_EN 0 then min w (s.fwV (s.build.railOf k)) else w) = x := by
  by_cases hen : s.on F.GOV_CTRL_EN 0 = true
  · rw [if_pos hen] at h ⊢
    obtain ⟨v, hv, hx⟩ := h
    rw [fwV_of_supported hv, hx, fwClamp]
  · rw [if_neg hen] at h ⊢
    rw [h, fwClamp]

/-- The word of R404 and R417 for the word requested is the one that the Section is to run at. -/
theorem fwTarget_of_runsAt {s : State} {k x : Nat} (h : Claim.runsAt s k (s.fwReq k) x) : s.fwTarget k = x := by
  unfold State.fwTarget State.fwCapped State.fwWanted
  unfold Claim.runsAt at h
  revert h
  cases s.fwReq k with
  | none => exact fun h => capped_of_supported h
  | some r => exact fun h => capped_of_supported (w := s.fwGovRaw k r) h

theorem SameGovernor.supported {s t : State} (h : SameGovernor s t) {k w : Nat} (hw : Claim.supported s k w) :
    Claim.supported t k w := by
  unfold Claim.supported at hw ⊢
  simp only [h.build, h.flds F.GOV_VF_MV (by decide), h.flds F.GOV_RAIL_CFG_OFFSET (by decide),
    h.flds F.GOV_VF_FW_MAX (by decide), h.flds F.GOV_RAIL_STAT_VCONF (by decide)]
  exact hw

theorem SameGovernor.runsAt {s t : State} (h : SameGovernor s t) {k x : Nat} {req : Option Nat} (hx : Claim.runsAt s k req x) :
    Claim.runsAt t k req x := by
  unfold Claim.runsAt at hx ⊢
  rw [State.on_congr (h.flds F.GOV_CTRL_EN (by decide) 0), h.flds F.GOV_SEC_STAT_DROP_E (by decide),
    h.flds F.GOV_SEC_STAT_DROP_M (by decide), h.flds F.GOV_LIMITS_FW_FLOOR (by decide)]
  dsimp only at hx ⊢
  split
  next he =>
    rw [if_pos he] at hx
    obtain ⟨v, hv, e⟩ := hx
    exact ⟨v, h.supported hv, e⟩
  next he =>
    rw [if_neg he] at hx
    exact hx

theorem State.fwTarget_lt (s : State) (k : Nat) : s.fwTarget k < 2 ^ 18 := by
  unfold State.fwTarget fwClamp; omega

/-! ### A change edge (R188, R191) -/

/-- The kinds of the fields that a change edge moves in a region. -/
def regionEdgeKinds : List Fld := F.SB_PROFILE_SEQ_SKIPPED :: distKinds

/-- The kinds of the fields that a change edge moves. -/
def edgeKinds : List Fld := F.SEC_WOFF_CNT_COUNT :: regionEdgeKinds

theorem State.endPlay_frame (s : State) (r : Nat) :
    s.endPlay r = { s with regs := (s.endPlay r).regs, rgns := (s.endPlay r).rgns } := by
  unfold State.endPlay
  split <;> rfl

theorem State.endPlay_flds (s : State) (r : Nat) : FldsKeep (Listed [(F.SB_PROFILE_SEQ_SKIPPED, r)]) s (s.endPlay r) := by
  unfold State.endPlay
  split
  · exact (FldsKeep.ofRegs (t := s.setRgn r { s.rgn r with play := none, own := 0 }) rfl rfl).faddWrap 1
      (List.mem_singleton_self _)
  · exact FldsKeep.ofRegs rfl rfl

/-- A region's playback has ended, and its stretch for the next edge is 0. -/
theorem State.rgn_endPlay (s : State) (r q : Nat) :
    (s.endPlay r).rgn q = if q = r then { s.rgn r with play := none, own := 0 } else s.rgn q := by
  unfold State.endPlay
  split
  · exact State.rgn_setRgn s r q { s.rgn r with play := none, own := 0 }
  next h =>
    have hp : (s.rgn r).play = none := by simpa using h
    rw [State.rgn_setRgn]
    split
    · rw [← hp]
    · rfl

theorem State.endPlay_moves (s : State) {k r : Nat} (hr : s.build.sectionOf r = k) :
    SecMoves k [F.SB_PROFILE_SEQ_SKIPPED] s (s.endPlay r) := by
  unfold State.endPlay
  split
  · exact (SecMoves.setRgn s _ hr).trans (SecMoves.fset _ (by decide) (ofSection_sb rfl rfl hr))
  · exact SecMoves.setRgn s _ hr

theorem State.edgeRegion_moves (s : State) {k r : Nat} (fwOld : Nat) (hr : s.build.sectionOf r = k) :
    SecMoves k regionEdgeKinds s (s.edgeRegion fwOld r) := by
  unfold State.edgeRegion
  have h1 (v : Rgn) : SecMoves k regionEdgeKinds s ((s.setRgn r v).endPlay r) :=
    (SecMoves.setRgn s v hr).trans ((State.endPlay_moves (s.setRgn r v) hr).mono (by decide))
  have h2 (v : Rgn) : SecMoves k regionEdgeKinds ((s.setRgn r v).endPlay r) (((s.setRgn r v).endPlay r).calDisturb r) :=
    (State.calDisturb_moves _ (by rw [(h1 v).build]; exact hr)).mono (by decide)
  exact (h1 _).trans (h2 _)

theorem State.secs_edgeRegion (s : State) (fwOld r : Nat) : (State.edgeRegion fwOld s r).secs = s.secs := by
  unfold State.edgeRegion
  rw [State.secs_calDisturb, State.endPlay_frame]
  rfl

/-- What a region holds after a change edge: a running one past its first edge is to write off (R188). -/
theorem State.rgn_edgeRegion (s : State) (fwOld r q : Nat) :
    (State.edgeRegion fwOld s r).rgn q = if q = r then
      { s.rgn r with
        woff := if s.fget F.SB_CLK_STATUS_STATE r = 1 ∧ (s.rgn r).first = none then some ((s.rgn r).woff.getD fwOld)
          else (s.rgn r).woff
        offBus := false, busRun := 0, play := none, own := 0 }
    else s.rgn q := by
  unfold State.edgeRegion
  rw [State.rgn_calDisturb, State.rgn_endPlay, State.rgn_setRgn_same, State.rgn_setRgn]
  split <;> rfl

/-- What a region is to write off against, and what a change edge leaves of it. -/
structure EdgeKeeps (s t : State) (fwOld r : Nat) : Prop where
  build : t.build = s.build
  clk : t.clk r = s.clk r
  first : (t.rgn r).first = (s.rgn r).first
  tapTgt : (t.rgn r).tapTgt = (s.rgn r).tapTgt
  woff : (t.rgn r).woff = (s.rgn r).woff ∨ (t.rgn r).woff = some ((s.rgn r).woff.getD fwOld)

theorem EdgeKeeps.edgeRegion {s t : State} {fwOld r : Nat} (h : EdgeKeeps s t fwOld r) (q : Nat) :
    EdgeKeeps s (State.edgeRegion fwOld t q) fwOld r := by
  have hm := State.edgeRegion_moves t fwOld (rfl : t.build.sectionOf q = _)
  have hb := hm.build.trans h.build
  have hc : (State.edgeRegion fwOld t q).clk r = s.clk r := (hm.fget (by decide)).trans h.clk
  have hr := State.rgn_edgeRegion t fwOld q r
  by_cases hq : r = q
  · subst hq
    rw [if_pos rfl] at hr
    refine ⟨hb, hc, by rw [hr]; exact h.first, by rw [hr]; exact h.tapTgt, ?_⟩
    rw [hr]
    dsimp only
    split
    · rcases h.woff with hw | hw <;> simp [hw]
    · exact h.woff
  · rw [if_neg hq] at hr
    exact ⟨hb, hc, by rw [hr]; exact h.first, by rw [hr]; exact h.tapTgt, by rw [hr]; exact h.woff⟩

/-- The turn of a running region past its first edge: it is to write off. -/
theorem EdgeKeeps.writesOff {s t : State} {fwOld r : Nat} (h : EdgeKeeps s t fwOld r) (hc : s.clk r = 1)
    (hf : (s.rgn r).first = none) :
    ((State.edgeRegion fwOld t r).rgn r).woff = some ((s.rgn r).woff.getD fwOld) := by
  have hc' : t.fget F.SB_CLK_STATUS_STATE r = 1 := h.clk.trans hc
  rw [State.rgn_edgeRegion, if_pos rfl]
  dsimp only
  rw [if_pos ⟨hc', h.first.trans hf⟩]
  rcases h.woff with hw | hw <;> simp [hw]

/-- A region that is to write off stays so at a further turn. -/
theorem State.woff_edgeRegion {t : State} {fwOld q r w : Nat} (h : (t.rgn r).woff = some w) :
    ((State.edgeRegion fwOld t q).rgn r).woff = some w := by
  rw [State.rgn_edgeRegion]
  split
  next hq =>
    subst hq
    dsimp only
    split <;> simp [h]
  next => exact h

/-- The Section's record at a change edge. -/
def Sec.atEdge (c : Sec) (count fwOld : Nat) (ramp : Bool) : Sec :=
  { c with edgeAt := some count, preFw := fwOld, preRamp := ramp, preTarget := c.target, bus := [] }

/-- A change edge before its regions' turns. -/
def State.edgeNoted (s : State) (k : Nat) : State :=
  (s.setSec k ((s.sec k).atEdge s.count (s.fwCur k) (s.ramping k))).faddWrap F.SEC_WOFF_CNT_COUNT k 1

theorem State.startEdge_eq {s : State} {k : Nat} (h : (s.sec k).edgeAt ≠ some s.count) :
    s.startEdge k = (s.edgeNoted k).each (s.build.regionsOf k) (State.edgeRegion (s.fwCur k)) := by
  unfold State.startEdge
  dsimp only
  rw [if_neg h]
  rfl

theorem State.edgeNoted_moves (s : State) (k : Nat) : SecMoves k edgeKinds s (s.edgeNoted k) :=
  (SecMoves.setSec s _).trans (SecMoves.fset _ (by decide) (ofSection_sec rfl rfl))

theorem State.startEdge_moves (s : State) (k : Nat) : SecMoves k edgeKinds s (s.startEdge k) := by
  by_cases h : (s.sec k).edgeAt = some s.count
  · unfold State.startEdge
    dsimp only
    rw [if_pos h]
    exact SecMoves.refl k _ s
  · rw [State.startEdge_eq h]
    have hn := State.edgeNoted_moves s k
    exact hn.trans (SecMoves.each _ _ _ fun t r hr ht => State.edgeRegion_moves t _ (by
      rw [ht, hn.build]
      exact Build.sectionOf_of_mem hr) |>.mono (by decide))

theorem State.sec_startEdge {s : State} {k : Nat} (h : (s.sec k).edgeAt ≠ some s.count) :
    (s.startEdge k).sec k = (s.sec k).atEdge s.count (s.fwCur k) (s.ramping k) := by
  have hs : (s.startEdge k).secs = (s.edgeNoted k).secs := by
    rw [State.startEdge_eq h]
    exact State.each_eq State.secs _ _ (fun t r _ => State.secs_edgeRegion t _ r) _
  unfold State.sec
  rw [hs]
  exact State.sec_setSec_same s k _

theorem State.startEdge_edgeKeeps {s : State} {k : Nat} (h : (s.sec k).edgeAt ≠ some s.count) (r : Nat) :
    EdgeKeeps s (s.startEdge k) (s.fwCur k) r := by
  rw [State.startEdge_eq h]
  refine State.each_keeps (fun t => EdgeKeeps s t (s.fwCur k) r) _ _ (fun t q _ ht => ht.edgeRegion q) _ ?_
  have hn := State.edgeNoted_moves s k
  exact ⟨hn.build, hn.fget (by decide), rfl, rfl, .inl rfl⟩

/-- A change edge is counted, and every running region past its first edge is to write off (R188, R191). -/
theorem State.startEdge_changeEdge {s : State} {k : Nat} (h : (s.sec k).edgeAt ≠ some s.count) :
    Claim.ChangeEdge s (s.startEdge k) k := by
  refine ⟨by rw [State.sec_startEdge h]; rfl, ?_, fun r hr hc hf => ?_⟩
  · rw [State.startEdge_eq h, State.each_eq (fun t => t.fget F.SEC_WOFF_CNT_COUNT k) _ _ fun t r _ =>
      (State.edgeRegion_moves t _ rfl).fget (by decide)]
    exact State.fget_fset_same _ _ _ _ (by decide)
  · rw [State.startEdge_eq h]
    have hn := State.edgeNoted_moves s k
    refine State.each_reaches (fun t => EdgeKeeps s t (s.fwCur k) r) (fun t => (t.rgn r).woff = some ((s.rgn r).woff.getD (s.fwCur k)))
      _ _ hr (fun t q _ ht => ht.edgeRegion q) (fun t q _ _ ht => State.woff_edgeRegion ht) (fun t ht => ht.writesOff hc hf) _ ?_
    exact ⟨hn.build, hn.fget (by decide), rfl, rfl, .inl rfl⟩

end Sys2Proof.Machine
end

section
/-!
SUPPORT. A frequency change as a whole (R96, R98, R188): the word in force, a step, the target of a change, with the frame of
each and what it leaves to be read.
-/

namespace Sys2Proof.Machine

/-! ### The word in force -/

/-- The kinds of the fields that a new word moves beside a change edge. -/
def wordKinds : List Fld :=
  [F.SEC_FW_STATUS_FW_CUR, F.SEC_FW_STATUS_RAMPING, F.SEC_FW_STATUS_CLAMPED, F.GOV_SEC_STAT_HELD_V, F.SB_CLK_STATUS_DLL_LOCKED,
    F.SB_CLK_STATUS_ALIGNED]

/-- The kinds of the fields that a frequency change moves. -/
def changeKinds : List Fld := edgeKinds ++ wordKinds

/-- The DLL of a region is to lock again (R110, R113). -/
def dllUnlocked (s : State) (r : Nat) : State := (s.fset F.SB_CLK_STATUS_DLL_LOCKED r 0).fset F.SB_CLK_STATUS_ALIGNED r 0

theorem dllUnlocked_moves (s : State) {k r : Nat} (hr : s.build.sectionOf r = k) : SecMoves k wordKinds s (dllUnlocked s r) :=
  (SecMoves.fset _ (by decide) (ofSection_sb rfl rfl hr)).trans (SecMoves.fset _ (by decide) (ofSection_sb rfl rfl hr))

theorem dllsUnlocked_moves (s : State) (k : Nat) : SecMoves k wordKinds s (s.each (s.build.regionsOf k) dllUnlocked) :=
  SecMoves.each _ _ _ fun t r hr ht => dllUnlocked_moves t (by rw [ht]; exact Build.sectionOf_of_mem hr)

theorem secs_dllsUnlocked (s : State) (l : List Nat) : (s.each l dllUnlocked).secs = s.secs :=
  State.each_eq State.secs _ _ (fun _ _ _ => by simp only [dllUnlocked, State.fset_secs]) s

theorem rgns_dllsUnlocked (s : State) (l : List Nat) : (s.each l dllUnlocked).rgns = s.rgns :=
  State.each_eq State.rgns _ _ (fun _ _ _ => by simp only [dllUnlocked, State.fset_rgns]) s

theorem fget_dllsUnlocked (s : State) (l : List Nat) {f : Fld} {u : Nat} (h : f.reg ≠ .SB_CLK_STATUS) :
    (s.each l dllUnlocked).fget f u = s.fget f u :=
  State.each_eq (fun t => t.fget f u) _ _ (fun _ _ _ =>
    (State.fget_fset_apart _ _ (.inl h)).trans (State.fget_fset_apart _ _ (.inl h))) s

/-- A change of the word in force before the DLLs are unlocked. -/
def State.wordNoted (s : State) (k fw : Nat) : State :=
  (s.fset F.SEC_FW_STATUS_FW_CUR k fw).setSec k { s.sec k with lastChange := s.stn.elapsed }

theorem State.moveFw_eq {s : State} {k fw : Nat} (h : fw ≠ s.fwCur k) :
    s.moveFw k fw = (s.wordNoted k fw).each (s.build.regionsOf k) dllUnlocked := by
  unfold State.moveFw
  rw [if_neg h]
  rfl

theorem State.moveFw_moves (s : State) (k fw : Nat) : SecMoves k wordKinds s (s.moveFw k fw) := by
  by_cases h : fw = s.fwCur k
  · unfold State.moveFw
    rw [if_pos h]
    exact SecMoves.refl k _ s
  · rw [State.moveFw_eq h]
    have hn : SecMoves k wordKinds s (s.wordNoted k fw) :=
      (SecMoves.fset fw (by decide) (ofSection_sec rfl rfl)).trans (SecMoves.setSec _ _)
    exact hn.trans (dllsUnlocked_moves _ k)

theorem State.rgns_moveFw (s : State) (k fw : Nat) : (s.moveFw k fw).rgns = s.rgns := by
  by_cases h : fw = s.fwCur k
  · unfold State.moveFw
    rw [if_pos h]
  · rw [State.moveFw_eq h, rgns_dllsUnlocked]
    rfl

theorem State.sec_moveFw (s : State) (k fw : Nat) : ∃ e, (s.moveFw k fw).sec k = { s.sec k with lastChange := e } := by
  by_cases h : fw = s.fwCur k
  · unfold State.moveFw
    rw [if_pos h]
    exact ⟨_, rfl⟩
  · rw [State.moveFw_eq h]
    refine ⟨s.stn.elapsed, Eq.trans ?_ (State.sec_setSec_same (s.fset F.SEC_FW_STATUS_FW_CUR k fw) k _)⟩
    unfold State.sec
    rw [secs_dllsUnlocked]
    rfl

theorem State.fwCur_moveFw (s : State) (k : Nat) {fw : Nat} (hf : fw < 2 ^ 18) : (s.moveFw k fw).fwCur k = fw := by
  by_cases h : fw = s.fwCur k
  · unfold State.moveFw
    rw [if_pos h]
    exact h.symm
  · rw [State.moveFw_eq h]
    exact (fget_dllsUnlocked _ _ (by decide)).trans (State.fget_fset_fits s F.SEC_FW_STATUS_FW_CUR k (by decide) hf)

/-! ### A step (R96) -/

theorem fwStep_eq (a b : Nat) : fwStep a b = Claim.oneStep a b := by
  unfold fwStep Claim.oneStep
  split <;> split <;> omega

theorem fwStep_lt {a b : Nat} (ha : a < 2 ^ 18) (hb : b < 2 ^ 18) : fwStep a b < 2 ^ 18 := by
  rw [fwStep_eq]
  unfold Claim.oneStep
  split <;> omega

theorem State.stepFw_moves (s : State) (k fw x : Nat) : SecMoves k wordKinds s (s.stepFw k fw x) :=
  ((State.moveFw_moves s k _).trans (SecMoves.fset _ (by decide) (ofSection_sec rfl rfl))).trans (SecMoves.setSec _ _)

theorem State.rgns_stepFw (s : State) (k fw x : Nat) : (s.stepFw k fw x).rgns = s.rgns := State.rgns_moveFw s k _

theorem State.sec_stepFw (s : State) (k fw x : Nat) :
    ∃ e, (s.stepFw k fw x).sec k = { s.sec k with lastChange := e, target := x, rampNext := s.count + 128 } := by
  obtain ⟨e, he⟩ := State.sec_moveFw s k (fwStep fw x)
  refine ⟨e, (State.sec_setSec_same _ k _).trans ?_⟩
  have hs : ((s.moveFw k (fwStep fw x)).fsetB F.SEC_FW_STATUS_RAMPING k (fwStep fw x != x)).sec k =
      (s.moveFw k (fwStep fw x)).sec k := rfl
  have hc : ((s.moveFw k (fwStep fw x)).fsetB F.SEC_FW_STATUS_RAMPING k (fwStep fw x != x)).count = s.count :=
    (State.moveFw_moves s k _).count
  rw [hs, he, hc]

theorem State.fwCur_stepFw (s : State) (k : Nat) {fw x : Nat} (hf : fw < 2 ^ 18) (hx : x < 2 ^ 18) :
    (s.stepFw k fw x).fwCur k = Claim.oneStep fw x := by
  rw [← fwStep_eq]
  show ((s.moveFw k (fwStep fw x)).fset F.SEC_FW_STATUS_RAMPING k _).fget F.SEC_FW_STATUS_FW_CUR k = _
  rw [State.fget_fset_apart _ _ (.inr (.inr (by decide)))]
  exact State.fwCur_moveFw s k (fwStep_lt hf hx)

theorem State.ramping_stepFw (s : State) (k fw x : Nat) :
    (s.stepFw k fw x).on F.SEC_FW_STATUS_RAMPING k = (Claim.oneStep fw x != x) := by
  rw [← fwStep_eq]
  exact State.on_fsetB (s.moveFw k (fwStep fw x)) F.SEC_FW_STATUS_RAMPING k _ rfl (by decide)

/-! ### What a change notes (R93, R417) -/

theorem State.noteClamp_moves (s : State) (k : Nat) : SecMoves k wordKinds s (s.noteClamp k) := by
  unfold State.noteClamp
  split
  · exact SecMoves.setFlag (by decide) (ofSection_sec rfl rfl)
  · exact SecMoves.refl k _ s

theorem State.secs_noteClamp (s : State) (k : Nat) : (s.noteClamp k).secs = s.secs := by
  unfold State.noteClamp
  split <;> rfl

theorem State.rgns_noteClamp (s : State) (k : Nat) : (s.noteClamp k).rgns = s.rgns := by
  unfold State.noteClamp
  split <;> rfl

theorem State.updateHeld_moves (s : State) (k : Nat) : SecMoves k [F.GOV_SEC_STAT_HELD_V] s (s.updateHeld k) := by
  have h1 (b : Bool) : SecMoves k [F.GOV_SEC_STAT_HELD_V] s (s.fsetB F.GOV_SEC_STAT_HELD_V k b) :=
    SecMoves.fset _ (by decide) (ofSection_sec rfl rfl)
  unfold State.updateHeld
  dsimp only
  split
  · exact (h1 _).trans (SecMoves.post _ 3 5 _ (.inl rfl))
  · exact h1 _

theorem State.secs_updateHeld (s : State) (k : Nat) : (s.updateHeld k).secs = s.secs := by
  unfold State.updateHeld
  dsimp only
  split <;> rfl

theorem State.rgns_updateHeld (s : State) (k : Nat) : (s.updateHeld k).rgns = s.rgns := by
  unfold State.updateHeld
  dsimp only
  split <;> rfl

/-- What a change notes before its target applies. -/
def State.changeNoted (s : State) (k : Nat) : State := (s.noteClamp k).updateHeld k

theorem State.changeNoted_moves (s : State) (k : Nat) : SecMoves k wordKinds s (s.changeNoted k) :=
  (State.noteClamp_moves s k).trans ((State.updateHeld_moves _ k).mono (by decide))

theorem State.fget_changeNoted (s : State) (k : Nat) {f : Fld} {u : Nat}
    (hf : ∀ g ∈ [F.SEC_FW_STATUS_CLAMPED, F.GOV_SEC_STAT_HELD_V], f.reg ≠ g.reg ∨ f.lo + f.w ≤ g.lo ∨ g.lo + g.w ≤ f.lo) :
    (s.changeNoted k).fget f u = s.fget f u := by
  have h1 : SecMoves k [F.SEC_FW_STATUS_CLAMPED] s (s.noteClamp k) := by
    unfold State.noteClamp
    split
    · exact SecMoves.setFlag (by decide) (ofSection_sec rfl rfl)
    · exact SecMoves.refl k _ s
  exact ((h1.mono (by simp)).trans ((State.updateHeld_moves _ k).mono (by simp))).fget hf

theorem State.secs_changeNoted (s : State) (k : Nat) : (s.changeNoted k).secs = s.secs :=
  (State.secs_updateHeld _ k).trans (State.secs_noteClamp s k)

theorem State.rgns_changeNoted (s : State) (k : Nat) : (s.changeNoted k).rgns = s.rgns :=
  (State.rgns_updateHeld _ k).trans (State.rgns_noteClamp s k)

/-! ### The target of a change (R98) -/

theorem State.sec_changeNoted (s : State) (k : Nat) : (s.changeNoted k).sec k = s.sec k := by
  unfold State.sec
  rw [State.secs_changeNoted]

theorem State.applyTarget_eq (s : State) (k : Nat) :
    s.applyTarget k =
      let u := s.changeNoted k
      if (u.sec k).preRamp then
        if u.ramping k || u.fwTarget k = u.fwCur k then u.setSec k { u.sec k with target := u.fwTarget k }
        else (u.setSec k { u.sec k with target := u.fwTarget k, rampNext := u.count + 128 }).fset F.SEC_FW_STATUS_RAMPING k 1
      else u.stepFw k (u.sec k).preFw (u.fwTarget k) := rfl

/-- Out of a ramp a change takes its first step from the word in force before its edge. -/
theorem State.applyTarget_step {s : State} {k : Nat} (h : (s.sec k).preRamp = false) :
    s.applyTarget k = (s.changeNoted k).stepFw k (s.sec k).preFw ((s.changeNoted k).fwTarget k) := by
  rw [State.applyTarget_eq]
  dsimp only
  rw [State.sec_changeNoted, h]
  exact if_neg Bool.false_ne_true

/-- In a ramp a change replaces the ramp's target. -/
theorem State.applyTarget_ramp {s : State} {k : Nat} (h : (s.sec k).preRamp = true) (hr : s.ramping k = true) :
    s.applyTarget k = (s.changeNoted k).setSec k { s.sec k with target := (s.changeNoted k).fwTarget k } := by
  have hr' : (s.changeNoted k).ramping k = true := (State.on_congr (State.fget_changeNoted s k (by decide))).trans hr
  rw [State.applyTarget_eq]
  dsimp only
  rw [State.sec_changeNoted, if_pos h, hr', Bool.true_or, if_pos rfl]

end Sys2Proof.Machine
end

section
/-! SUPPORT. FREQUENCY_CHANGE of one Section as a whole (R98, R188), and that what it did is seen through later moves. -/

namespace Sys2Proof.Machine

/-! ### Frames of a change -/

theorem State.applyTarget_moves (s : State) (k : Nat) : SecMoves k wordKinds s (s.applyTarget k) := by
  have hn := State.changeNoted_moves s k
  rw [State.applyTarget_eq]
  dsimp only
  split
  · split
    · exact hn.trans (SecMoves.setSec _ _)
    · exact (hn.trans (SecMoves.setSec _ _)).trans (SecMoves.fset _ (by decide) (ofSection_sec rfl rfl))
  · exact hn.trans (State.stepFw_moves _ k _ _)

theorem State.rgns_applyTarget (s : State) (k : Nat) : (s.applyTarget k).rgns = s.rgns := by
  rw [← State.rgns_changeNoted s k, State.applyTarget_eq]
  dsimp only
  split
  · split
    · rfl
    · rfl
  · exact State.rgns_stepFw _ k _ _

/-- Of a Section's record a change moves the latest change, the target and the next step. -/
theorem State.sec_applyTarget (s : State) (k : Nat) :
    ∃ e x n, (s.applyTarget k).sec k = { s.sec k with lastChange := e, target := x, rampNext := n } := by
  rw [State.applyTarget_eq]
  dsimp only
  rw [State.sec_changeNoted]
  split
  · split
    · exact ⟨_, _, _, State.sec_setSec_same _ k _⟩
    · exact ⟨_, _, _, State.sec_setSec_same _ k _⟩
  · obtain ⟨e, he⟩ := State.sec_stepFw (s.changeNoted k) k (s.sec k).preFw ((s.changeNoted k).fwTarget k)
    rw [State.sec_changeNoted] at he
    exact ⟨_, _, _, he⟩

theorem State.freqChange_moves (s : State) (k : Nat) : SecMoves k changeKinds s (s.freqChange k) :=
  ((State.startEdge_moves s k).mono (List.subset_append_left _ _)).trans
    ((State.applyTarget_moves _ k).mono (List.subset_append_right _ _))

/-- A change keeps the taps that a region walks to. -/
theorem State.tapTgt_freqChange (s : State) (k r : Nat) : ((s.freqChange k).rgn r).tapTgt = (s.rgn r).tapTgt := by
  have h : (s.freqChange k).rgn r = (s.startEdge k).rgn r := by
    unfold State.rgn State.freqChange
    rw [State.rgns_applyTarget]
  rw [h]
  by_cases he : (s.sec k).edgeAt = some s.count
  · unfold State.startEdge
    dsimp only
    rw [if_pos he]
  · exact (State.startEdge_edgeKeeps he r).tapTgt

/-- A change keeps the word asked for and the changes that wait. -/
theorem State.waits_freqChange (s : State) (k : Nat) :
    ((s.freqChange k).sec k).req = (s.sec k).req ∧ ((s.freqChange k).sec k).pend = (s.sec k).pend := by
  obtain ⟨e, x, n, h⟩ := State.sec_applyTarget (s.startEdge k) k
  unfold State.freqChange
  rw [h]
  by_cases he : (s.sec k).edgeAt = some s.count
  · have hs : s.startEdge k = s := by
      unfold State.startEdge
      dsimp only
      rw [if_pos he]
    rw [hs]
    exact ⟨rfl, rfl⟩
  · rw [State.sec_startEdge he]
    exact ⟨rfl, rfl⟩

/-! ### What a change does -/

/-- At its change edge a Section is to run at the word that it is to run at before. -/
theorem State.fwTarget_startEdge {s : State} {k : Nat} (h : (s.sec k).edgeAt ≠ some s.count) :
    ((s.startEdge k).changeNoted k).fwTarget k = s.fwTarget k := by
  have h1 := State.startEdge_moves s k
  have h2 := State.changeNoted_moves (s.startEdge k) k
  have hg : SameGovernor s ((s.startEdge k).changeNoted k) :=
    ((h1.mono (List.subset_append_left _ _)).trans (h2.mono (List.subset_append_right edgeKinds _))).sameGovernor (by decide)
  refine hg.fwTarget ?_
  unfold State.fwReq
  rw [State.on_congr ((h2.fget (by decide)).trans (h1.fget (by decide))), State.sec_changeNoted, State.sec_startEdge h]
  rfl

theorem changeEdge_of_edge {s u t : State} {k : Nat} (h : Claim.ChangeEdge s u k) (he : (t.sec k).edgeAt = (u.sec k).edgeAt)
    (hc : t.fget F.SEC_WOFF_CNT_COUNT k = u.fget F.SEC_WOFF_CNT_COUNT k) (hr : t.rgns = u.rgns) : Claim.ChangeEdge s t k := by
  obtain ⟨h1, h2, h3⟩ := h
  refine ⟨he.trans h1, hc.trans h2, fun r hm hk hf => ?_⟩
  have : t.rgn r = u.rgn r := by unfold State.rgn; rw [hr]
  rw [this]
  exact h3 r hm hk hf

/-- A change takes effect: out of a ramp its first step, in a ramp a new target (R96, R98, R188). -/
theorem State.freqChange_moved {s : State} {k : Nat} (h : (s.sec k).edgeAt ≠ some s.count) :
    Claim.Moved s (s.freqChange k) k (s.fwTarget k) := by
  have hE := State.sec_startEdge h
  have hS := State.startEdge_moves s k
  have hN := State.changeNoted_moves (s.startEdge k) k
  have hA := State.applyTarget_moves (s.startEdge k) k
  have hT := State.fwTarget_startEdge h
  have hedge : Claim.ChangeEdge s (s.freqChange k) k := by
    refine changeEdge_of_edge (State.startEdge_changeEdge h) ?_ (hA.fget (by decide)) (State.rgns_applyTarget _ k)
    obtain ⟨e, x, n, hx⟩ := State.sec_applyTarget (s.startEdge k) k
    unfold State.freqChange
    rw [hx]
  unfold Claim.Moved
  cases hr : s.on F.SEC_FW_STATUS_RAMPING k with
  | true =>
    have hr' : (s.startEdge k).ramping k = true := (hS.on (by decide)).trans hr
    have hp : ((s.startEdge k).sec k).preRamp = true := by
      rw [hE]
      exact hr
    have ht : s.freqChange k = ((s.startEdge k).changeNoted k).setSec k
        { (s.startEdge k).sec k with target := s.fwTarget k } := by
      rw [← hT]
      exact State.applyTarget_ramp hp hr'
    have hsec : (s.freqChange k).sec k = { (s.startEdge k).sec k with target := s.fwTarget k } := by
      rw [ht]
      exact State.sec_setSec_same _ k _
    have hkeep (f : Fld) (h1 : ((s.startEdge k).changeNoted k).fget f k = (s.startEdge k).fget f k)
        (h2 : (s.startEdge k).fget f k = s.fget f k) : (s.freqChange k).fget f k = s.fget f k := by
      rw [ht]
      exact h1.trans h2
    rw [if_pos rfl]
    refine ⟨hkeep _ (State.fget_changeNoted _ k (by decide)) (hS.fget (by decide)),
      (State.on_congr (hkeep _ (State.fget_changeNoted _ k (by decide)) (hS.fget (by decide)))).trans hr, ?_, ?_, hedge⟩
    · rw [hsec]
    · rw [hsec, hE]
      rfl
  | false =>
    have hp : ((s.startEdge k).sec k).preRamp = false := by
      rw [hE]
      exact hr
    have ht : s.freqChange k = ((s.startEdge k).changeNoted k).stepFw k (s.fwCur k) (s.fwTarget k) := by
      rw [← hT]
      have hpre : s.fwCur k = ((s.startEdge k).sec k).preFw := by rw [hE]; rfl
      rw [hpre]
      exact State.applyTarget_step hp
    have hfw : (s.freqChange k).fwCur k = Claim.oneStep (s.fwCur k) (s.fwTarget k) := by
      rw [ht]
      exact State.fwCur_stepFw _ k (State.fget_lt s F.SEC_FW_STATUS_FW_CUR k) (State.fwTarget_lt s k)
    obtain ⟨e, he⟩ := State.sec_stepFw ((s.startEdge k).changeNoted k) k (s.fwCur k) (s.fwTarget k)
    rw [← ht, hN.count, hS.count] at he
    rw [if_neg Bool.false_ne_true]
    refine ⟨hfw, ?_, by rw [he], by rw [he], hedge⟩
    rw [hfw, ht, State.ramping_stepFw, bne_iff_ne]

/-! ### What was done, seen from the state of the host's write -/

/-- What a change did from a state holds from every state that shows the same of the Section. -/
theorem Moved.congr {s u t : State} {k x : Nat} (h : Claim.Moved u t k x) (hb : u.build = s.build) (hn : u.count = s.count)
    (hf : ∀ f ∈ [F.SEC_FW_STATUS_FW_CUR, F.SEC_FW_STATUS_RAMPING, F.SEC_WOFF_CNT_COUNT], u.fget f k = s.fget f k)
    (hc : ∀ r, u.clk r = s.clk r)
    (hr : ∀ r, (u.rgn r).first = (s.rgn r).first ∧ (u.rgn r).woff = (s.rgn r).woff)
    (hs : (u.sec k).rampNext = (s.sec k).rampNext) : Claim.Moved s t k x := by
  have hfw : u.fwCur k = s.fwCur k := hf _ (by decide)
  have hedge : Claim.ChangeEdge u t k → Claim.ChangeEdge s t k := fun ⟨h1, h2, h3⟩ => by
    refine ⟨by rw [h1, hn], by rw [h2, hf _ (by decide)], fun r hm hk hg => ?_⟩
    rw [h3 r (by rw [hb]; exact hm) (by rw [hc]; exact hk) (by rw [(hr r).1]; exact hg), (hr r).2, hfw]
  unfold Claim.Moved Claim.Stepped at h ⊢
  rw [State.on_congr (hf F.SEC_FW_STATUS_RAMPING (by decide)), hfw, hs, hn] at h
  split
  next hR =>
    rw [if_pos hR] at h
    obtain ⟨h1, h2, h3, h4, h5⟩ := h
    exact ⟨h1, h2, h3, h4, hedge h5⟩
  next hR =>
    rw [if_neg hR] at h
    obtain ⟨h1, h2, h3, h4, h5⟩ := h
    exact ⟨h1, h2, h3, h4, hedge h5⟩

end Sys2Proof.Machine
end

section
/-! SUPPORT. SAFE going to 1 and to 0 in one Section (R102, R104, R238). -/

namespace Sys2Proof.Machine

/-- A register of which no kind of field moves keeps its word in every unit. -/
theorem SecMoves.word {k : Nat} {l : List Fld} {s t : State} (h : SecMoves k l s t) {r : Reg} {u : Nat}
    (hr : ∀ g ∈ l, r ≠ g.reg) : t.reg r u = s.reg r u := h.flds.reg fun g _ hg => .inl (hr g hg.1)

/-! ### The region safe set in every region -/

/-- The turn of a region when SAFE goes to 1. -/
def safeTurn (s : State) (r : Nat) : State := (s.calDisturb r).goSafe r

/-- The trim, the phases and the taps to walk to of a region are those of the safe set. -/
def RegionSafe (s t : State) (r : Nat) : Prop :=
  t.reg .SB_TC_TRIM r = 0 ∧ (t.rgn r).tapTgt = s.seedTaps r ∧ ∀ j ∈ s.build.jctsRead r, PhasesSafe t j

/-- Of the regions' records only the taps to walk to may differ. -/
def RgnsButTaps (s t : State) : Prop := ∀ r, t.rgn r = { s.rgn r with tapTgt := (t.rgn r).tapTgt }

theorem safeTurn_moves (s : State) {k r : Nat} (hr : s.build.sectionOf r = k) :
    SecMoves k (distKinds ++ safeSetKinds) s (safeTurn s r) :=
  ((State.calDisturb_moves s hr).mono (List.subset_append_left _ _)).trans
    ((State.goSafe_moves _ (by rw [State.build_calDisturb]; exact hr)).mono (List.subset_append_right _ _))

theorem State.seedTaps_congr {s t : State} {r : Nat} (hb : t.build = s.build)
    (hu : (t.calRgn r).uniform = (s.calRgn r).uniform) : t.seedTaps r = s.seedTaps r := by
  unfold State.seedTaps
  rw [hb, hu]

theorem State.uniform_calDisturb (s : State) (r q : Nat) : ((s.calDisturb r).calRgn q).uniform = (s.calRgn q).uniform := by
  unfold State.calDisturb
  split
  next st _ =>
    split
    · have hf : ∀ q, (s.eyeFree r).calRgn q = s.calRgn q := fun q => by rw [State.eyeFree_frame]; rfl
      show (((s.eyeFree r).setCalRgn r { (s.eyeFree r).calRgn r with
        step := some { st with started := false, volt := none, left := 0 } }).calRgn q).uniform = _
      rw [State.calRgn_setCalRgn]
      split
      next hq => rw [hf, hq]
      next => rw [hf]
    · rfl
  next => rfl

theorem State.seedTaps_safeTurn (s : State) (r q : Nat) : (safeTurn s r).seedTaps q = s.seedTaps q := by
  have hb : (safeTurn s r).build = s.build := (safeTurn_moves s rfl).build
  refine State.seedTaps_congr hb (Eq.trans ?_ (State.uniform_calDisturb s r q))
  unfold safeTurn State.calRgn
  rw [State.calRgns_goSafe]

theorem State.secs_safeTurn (s : State) (r : Nat) : (safeTurn s r).secs = s.secs := by
  unfold safeTurn
  rw [State.secs_goSafe, State.secs_calDisturb]

theorem State.rgn_safeTurn (s : State) (r q : Nat) :
    (safeTurn s r).rgn q = if q = r then { s.rgn r with tapTgt := s.seedTaps r } else s.rgn q := by
  have hu : (s.calDisturb r).seedTaps r = s.seedTaps r :=
    State.seedTaps_congr (State.build_calDisturb s r) (State.uniform_calDisturb s r r)
  unfold safeTurn
  rw [State.rgn_goSafe, State.rgn_calDisturb, State.rgn_calDisturb, hu]

theorem RgnsButTaps.safeTurn {s t : State} (h : RgnsButTaps s t) (q : Nat) : RgnsButTaps s (safeTurn t q) := by
  intro r
  rw [State.rgn_safeTurn]
  split
  next hq => rw [hq, h q]
  next => exact h r

/-- A further turn keeps a trim of 0. -/
theorem State.trim_safeTurn {t : State} {q r : Nat} (h : t.reg .SB_TC_TRIM r = 0) : (safeTurn t q).reg .SB_TC_TRIM r = 0 := by
  by_cases hq : q = r
  · subst hq
    exact State.trim_goSafe _ q
  · have hd : (t.calDisturb q).reg .SB_TC_TRIM r = t.reg .SB_TC_TRIM r :=
      (State.calDisturb_moves t rfl).word (by decide)
    have hg : ((t.calDisturb q).goSafeTaps q).reg .SB_TC_TRIM r = (t.calDisturb q).reg .SB_TC_TRIM r :=
      (State.reg_setReg_ne _ _ (.inr (Ne.symm hq))).trans (State.reg_setReg_ne _ _ (.inl (by decide)))
    have hp (u : State) (j : Nat) : (u.setPhases j 8 8).reg .SB_TC_TRIM r = u.reg .SB_TC_TRIM r :=
      (State.reg_setReg_ne _ _ (.inl (by decide))).trans (State.reg_setReg_ne _ _ (.inl (by decide)))
    unfold safeTurn
    rw [State.goSafe_eq, State.each_eq (fun t => t.reg .SB_TC_TRIM r) _ _ fun u j _ => hp u j, hg, hd, h]

/-- A turn leaves its region on the safe set. -/
theorem RegionSafe.of_turn {s t : State} {r : Nat} (hb : t.build = s.build) (hs : t.seedTaps r = s.seedTaps r) :
    RegionSafe s (safeTurn t r) r := by
  refine ⟨State.trim_goSafe _ r, ?_, fun j hj => ?_⟩
  · rw [State.rgn_safeTurn, if_pos rfl, hs]
  · exact State.phases_goSafe _ r (by rw [State.build_calDisturb, hb]; exact hj)

/-- A further turn leaves a region on the safe set. -/
theorem RegionSafe.safeTurn {s t : State} {r : Nat} (h : RegionSafe s t r) (hs : t.seedTaps r = s.seedTaps r) (q : Nat) :
    RegionSafe s (safeTurn t q) r := by
  obtain ⟨htrim, htaps, hphase⟩ := h
  refine ⟨State.trim_safeTurn htrim, ?_, fun j hj => ?_⟩
  · rw [State.rgn_safeTurn]
    split
    next hq => rw [← hq, hs]
    next => exact htaps
  · have hd : PhasesSafe (t.calDisturb q) j := (hphase j hj).congr fun f hf =>
      (State.calDisturb_moves t rfl).fget fun g hg => .inl (by
        rw [hf]
        exact (by decide : ∀ g ∈ distKinds, Reg.JCT_CFG ≠ g.reg) g hg)
    exact hd.goSafe

theorem regionSafe_turns (s : State) (l : List Nat) {r : Nat} (hr : r ∈ l) : RegionSafe s (s.each l safeTurn) r := by
  refine State.each_reaches (fun t => t.build = s.build ∧ ∀ q, t.seedTaps q = s.seedTaps q) (fun t => RegionSafe s t r) l _ hr
    (fun t q _ ht => ⟨(safeTurn_moves t rfl).build.trans ht.1, fun p => (State.seedTaps_safeTurn t q p).trans (ht.2 p)⟩)
    (fun t q _ ht h => h.safeTurn (ht.2 r) q) (fun t ht => RegionSafe.of_turn ht.1 (ht.2 r)) s ⟨rfl, fun _ => rfl⟩

theorem rgnsButTaps_turns (s : State) (l : List Nat) : RgnsButTaps s (s.each l safeTurn) :=
  State.each_keeps (RgnsButTaps s) l safeTurn (fun _ q _ ht => ht.safeTurn q) s fun _ => rfl

theorem safeTurns_moves (s : State) (k : Nat) :
    SecMoves k (distKinds ++ safeSetKinds) s (s.each (s.build.regionsOf k) safeTurn) :=
  SecMoves.each _ _ _ fun t r hr ht => safeTurn_moves t (by rw [ht]; exact Build.sectionOf_of_mem hr)

/-! ### SAFE goes to 1 (R102, R238) -/

/-- The kinds of the fields that SAFE going to 1 moves beside a change of frequency. -/
def safeKinds : List Fld :=
  F.SEC_STATUS_SAFE_ACTIVE :: (distKinds ++ safeSetKinds) ++ [F.SEC_FW_STATUS_PENDING, F.SEC_HEADWAY_PENDING, F.GOV_SEC_STAT_HELD_V]

/-- SAFE_ACTIVE reads 1 and every region has taken the safe set. -/
def State.safeRegions (s : State) (k : Nat) : State :=
  (s.fset F.SEC_STATUS_SAFE_ACTIVE k 1).each (s.build.regionsOf k) safeTurn

/-- No word and no commit waits. -/
def State.safeWaits (s : State) (k : Nat) : State :=
  (s.setSec k { s.sec k with req := none, pend := SecPend.onSafe (s.sec k).pend, commitHeld := false }).updatePend k

/-- SAFE going to 1 before a change of frequency. -/
def State.safeReady (s : State) (k : Nat) : State := ((s.safeRegions k).safeWaits k).updateHeld k

theorem State.safeSet_eq (s : State) (k : Nat) :
    s.safeSet k =
      let u := (s.safeRegions k).safeWaits k
      if (u.secState k == 1 || u.secState k == 2 || u.secState k == 3) &&
          ((s.safeReady k).fwCur k != (s.safeReady k).fwTarget k || (s.safeReady k).ramping k) then (s.safeReady k).freqChange k
      else s.safeReady k := rfl

theorem State.safeRegions_moves (s : State) (k : Nat) : SecMoves k safeKinds s (s.safeRegions k) :=
  (SecMoves.fset _ (by decide) (ofSection_sec rfl rfl)).trans
    ((safeTurns_moves (s.fset F.SEC_STATUS_SAFE_ACTIVE k 1) k).mono (by decide))

theorem State.safeWaits_moves (s : State) (k : Nat) : SecMoves k safeKinds s (s.safeWaits k) :=
  ((SecMoves.setSec _ _).trans (SecMoves.fset _ (by decide) (ofSection_sec rfl rfl))).trans
    (SecMoves.fset _ (by decide) (ofSection_sec rfl rfl))

theorem State.safeReady_moves (s : State) (k : Nat) : SecMoves k safeKinds s (s.safeReady k) :=
  ((State.safeRegions_moves s k).trans (State.safeWaits_moves _ k)).trans ((State.updateHeld_moves _ k).mono (by decide))

theorem State.secs_safeRegions (s : State) (k : Nat) : (s.safeRegions k).secs = s.secs :=
  State.each_eq State.secs _ _ (fun t r _ => State.secs_safeTurn t r) _

theorem State.sec_safeReady (s : State) (k : Nat) :
    (s.safeReady k).sec k = { s.sec k with req := none, pend := SecPend.onSafe (s.sec k).pend, commitHeld := false } := by
  have h : (s.safeRegions k).sec k = s.sec k := by
    unfold State.sec
    rw [State.secs_safeRegions]
  have hu : (s.safeReady k).sec k = ((s.safeRegions k).safeWaits k).sec k := by
    unfold State.safeReady State.sec
    rw [State.secs_updateHeld]
  rw [hu, ← h]
  exact State.sec_setSec_same (s.safeRegions k) k _

theorem State.rgn_safeReady (s : State) (k r : Nat) : (s.safeReady k).rgn r = (s.safeRegions k).rgn r := by
  unfold State.safeReady State.rgn
  rw [State.rgns_updateHeld]
  rfl

theorem State.rgnsButTaps_safeReady (s : State) (k : Nat) : RgnsButTaps s (s.safeReady k) := fun r => by
  rw [State.rgn_safeReady]
  exact rgnsButTaps_turns (s.fset F.SEC_STATUS_SAFE_ACTIVE k 1) _ r

/-- Every region of the Section is on the safe set, whatever a later move of other kinds of fields in the Section does. -/
theorem State.regionSafe_safeReady (s : State) {k r : Nat} (hr : r ∈ s.build.regionsOf k) : RegionSafe s (s.safeReady k) r := by
  obtain ⟨htrim, htaps, hphase⟩ := regionSafe_turns (s.fset F.SEC_STATUS_SAFE_ACTIVE k 1) _ hr
  have hm : SecMoves k [F.SEC_FW_STATUS_PENDING, F.SEC_HEADWAY_PENDING, F.GOV_SEC_STAT_HELD_V] (s.safeRegions k) (s.safeReady k) :=
    (((SecMoves.setSec _ _).trans (SecMoves.fset _ (by decide) (ofSection_sec rfl rfl))).trans
      (SecMoves.fset _ (by decide) (ofSection_sec rfl rfl))).trans ((State.updateHeld_moves _ k).mono (by decide))
  refine ⟨(hm.word (by decide)).trans htrim, ?_, fun j hj => ?_⟩
  · rw [State.rgn_safeReady]
    exact htaps
  · exact (hphase j hj).congr fun f hf => hm.fget fun g hg => .inl (by
      rw [hf]
      exact (by decide : ∀ g ∈ [F.SEC_FW_STATUS_PENDING, F.SEC_HEADWAY_PENDING, F.GOV_SEC_STAT_HELD_V], Reg.JCT_CFG ≠ g.reg) g hg)

theorem State.safeSet_moves (s : State) (k : Nat) : SecMoves k (safeKinds ++ changeKinds) s (s.safeSet k) := by
  have h := (State.safeReady_moves s k).mono (List.subset_append_left _ changeKinds)
  rw [State.safeSet_eq]
  dsimp only
  split
  · exact h.trans ((State.freqChange_moves _ k).mono (List.subset_append_right _ _))
  · exact h

end Sys2Proof.Machine
end

section
/-! SUPPORT. What SAFE going to 1 and to 0 leave to be read in a Section (R102, R104). -/

namespace Sys2Proof.Machine

/-! ### SAFE at 1 (R102, R238, R417) -/

/-- What belongs to the safe set stays through a frequency change. -/
theorem RegionSafe.freqChange {s t : State} {k r : Nat} (h : RegionSafe s t r) : RegionSafe s (t.freqChange k) r := by
  obtain ⟨htrim, htaps, hphase⟩ := h
  have hm := State.freqChange_moves t k
  refine ⟨(hm.word (by decide)).trans htrim, (State.tapTgt_freqChange t k r).trans htaps, fun j hj => ?_⟩
  exact (hphase j hj).congr fun f hf => hm.fget fun g hg => .inl (by
    rw [hf]
    exact (by decide : ∀ g ∈ changeKinds, Reg.JCT_CFG ≠ g.reg) g hg)

theorem State.regionSafe_safeSet (s : State) {k r : Nat} (hr : r ∈ s.build.regionsOf k) : RegionSafe s (s.safeSet k) r := by
  have h := State.regionSafe_safeReady s hr
  rw [State.safeSet_eq]
  dsimp only
  split
  · exact h.freqChange
  · exact h

theorem State.waits_safeSet (s : State) (k : Nat) :
    ((s.safeSet k).sec k).req = none ∧ ((s.safeSet k).sec k).pend = SecPend.onSafe (s.sec k).pend := by
  have h := State.sec_safeReady s k
  rw [State.safeSet_eq]
  dsimp only
  split
  · obtain ⟨h1, h2⟩ := State.waits_freqChange (s.safeReady k) k
    rw [h1, h2, h]
    exact ⟨rfl, rfl⟩
  · rw [h]
    exact ⟨rfl, rfl⟩

theorem State.safeActive_safeReady (s : State) (k : Nat) : (s.safeReady k).on F.SEC_STATUS_SAFE_ACTIVE k = true := by
  have h0 : (s.fset F.SEC_STATUS_SAFE_ACTIVE k 1).on F.SEC_STATUS_SAFE_ACTIVE k = true :=
    State.on_fsetB s F.SEC_STATUS_SAFE_ACTIVE k true rfl (by decide)
  have h1 : (s.safeRegions k).on F.SEC_STATUS_SAFE_ACTIVE k = true :=
    ((safeTurns_moves (s.fset F.SEC_STATUS_SAFE_ACTIVE k 1) k).on (by decide)).trans h0
  have hm : SecMoves k [F.SEC_FW_STATUS_PENDING, F.SEC_HEADWAY_PENDING, F.GOV_SEC_STAT_HELD_V] (s.safeRegions k) (s.safeReady k) :=
    (((SecMoves.setSec _ _).trans (SecMoves.fset _ (by decide) (ofSection_sec rfl rfl))).trans
      (SecMoves.fset _ (by decide) (ofSection_sec rfl rfl))).trans ((State.updateHeld_moves _ k).mono (by decide))
  exact (hm.on (by decide)).trans h1

theorem State.safeActive_safeSet (s : State) (k : Nat) : (s.safeSet k).on F.SEC_STATUS_SAFE_ACTIVE k = true := by
  have h := State.safeActive_safeReady s k
  rw [State.safeSet_eq]
  dsimp only
  split
  · exact ((State.freqChange_moves _ k).on (by decide)).trans h
  · exact h

/-- A Section that runs, at another word than the safe one or in a ramp, changes to the safe word. -/
theorem State.moved_safeSet {s : State} {k x : Nat} (hsafe : s.on F.SEC_CTRL_SAFE k = true) (hx : Claim.runsAt s k none x)
    (hrun : s.secState k = 1 ∨ s.secState k = 2 ∨ s.secState k = 3)
    (hne : s.fwCur k ≠ x ∨ s.on F.SEC_FW_STATUS_RAMPING k = true) (he : (s.sec k).edgeAt ≠ some s.count) :
    Claim.Moved s (s.safeSet k) k x := by
  have hm := State.safeReady_moves s k
  have hsec := State.sec_safeReady s k
  have hreq : (s.safeReady k).fwReq k = none := State.fwReq_of_safe ((hm.on (by decide)).trans hsafe)
  have hx' : (s.safeReady k).fwTarget k = x :=
    fwTarget_of_runsAt (by rw [hreq]; exact (hm.sameGovernor (by decide)).runsAt hx)
  have hstate : ((s.safeRegions k).safeWaits k).secState k = s.secState k :=
    ((State.safeRegions_moves s k).trans (State.safeWaits_moves _ k)).fget (by decide)
  have hfw : (s.safeReady k).fwCur k = s.fwCur k := hm.fget (by decide)
  have hramp : (s.safeReady k).ramping k = s.on F.SEC_FW_STATUS_RAMPING k := hm.on (by decide)
  have hgo : ((s.secState k == 1 || s.secState k == 2 || s.secState k == 3) &&
      (s.fwCur k != x || s.on F.SEC_FW_STATUS_RAMPING k)) = true := by
    simpa [or_assoc] using And.intro hrun hne
  have heq : s.safeSet k = (s.safeReady k).freqChange k := by
    rw [State.safeSet_eq]
    dsimp only
    rw [hstate, hfw, hx', hramp, if_pos hgo]
  have hmv := State.freqChange_moved (s := s.safeReady k) (k := k) (by rw [hsec, hm.count]; exact he)
  rw [hx'] at hmv
  rw [heq]
  refine Moved.congr hmv hm.build hm.count ?_ (fun _ => hm.fget (by decide)) (fun r => ?_) (by rw [hsec])
  · simp only [List.forall_mem_cons, List.not_mem_nil, false_implies, implies_true, and_true]
    exact ⟨hm.fget (by decide), hm.fget (by decide), hm.fget (by decide)⟩
  · rw [State.rgnsButTaps_safeReady s k r]
    exact ⟨rfl, rfl⟩

/-! ### Disturbances in a Section -/

/-- Every region of the Section has its calibration step disturbed. -/
def State.disturbed (s : State) (k : Nat) : State := s.each (s.build.regionsOf k) State.calDisturb

theorem State.disturbed_moves (s : State) (k : Nat) : SecMoves k distKinds s (s.disturbed k) :=
  SecMoves.each _ _ _ fun t r hr ht => State.calDisturb_moves t (by rw [ht]; exact Build.sectionOf_of_mem hr)

theorem State.secs_disturbed (s : State) (k : Nat) : (s.disturbed k).secs = s.secs :=
  State.each_eq State.secs _ _ (fun t r _ => State.secs_calDisturb t r) _

/-- The kinds of the fields that show the changes that wait. -/
def pendKinds : List Fld := [F.SEC_FW_STATUS_PENDING, F.SEC_HEADWAY_PENDING]

theorem State.updatePend_moves (s : State) (k : Nat) : SecMoves k pendKinds s (s.updatePend k) :=
  (SecMoves.fset _ (by decide) (ofSection_sec rfl rfl)).trans (SecMoves.fset _ (by decide) (ofSection_sec rfl rfl))

theorem State.addPend_moves (s : State) (k : Nat) (p : SecPend) : SecMoves k pendKinds s (s.addPend k p) :=
  (SecMoves.setSec s _).trans (State.updatePend_moves _ k)

/-- A change waits once every region was disturbed, where `c` holds. -/
def State.disturbedWait (s : State) (k : Nat) (c : Bool) (p : SecPend) : State :=
  if c then (s.disturbed k).addPend k p else s.disturbed k

theorem State.disturbedWait_moves (s : State) (k : Nat) (c : Bool) (p : SecPend) :
    SecMoves k (distKinds ++ pendKinds) s (s.disturbedWait k c p) := by
  have h := (State.disturbed_moves s k).mono (List.subset_append_left _ pendKinds)
  unfold State.disturbedWait
  split
  · exact h.trans ((State.addPend_moves _ k p).mono (List.subset_append_right _ _))
  · exact h

theorem State.secs_disturbedWait_false (s : State) (k : Nat) (p : SecPend) : (s.disturbedWait k false p).secs = s.secs :=
  State.secs_disturbed s k

theorem State.sec_disturbedWait_true (s : State) (k : Nat) (p : SecPend) :
    (s.disturbedWait k true p).sec k = { s.sec k with pend := (s.sec k).pend ++ [p] } := by
  have h : (s.disturbed k).sec k = s.sec k := by
    unfold State.sec
    rw [State.secs_disturbed]
  unfold State.disturbedWait
  rw [if_pos rfl, State.sec_addPend, if_pos rfl, h]

end Sys2Proof.Machine
end

section
/-! SUPPORT. The host's writes of SEC_CTRL: SAFE, HEADWAY, RESTART (R102, R104, R106, R164, R165, R550). -/

namespace Sys2Proof.Machine

/-! ### The effect of a stored SEC_CTRL -/

/-- RESTART is left set in STATE FAULT alone (R107). -/
def State.restartNoted (s : State) (k : Nat) : State := if s.secState k = 4 then s else s.fset F.SEC_CTRL_RESTART k 0

theorem State.restartNoted_moves (s : State) (k : Nat) : SecMoves k [F.SEC_CTRL_RESTART] s (s.restartNoted k) := by
  unfold State.restartNoted
  split
  · exact SecMoves.refl k _ s
  · exact SecMoves.fset _ (by decide) (ofSection_sec rfl rfl)

theorem State.secs_restartNoted (s : State) (k : Nat) : (s.restartNoted k).secs = s.secs := by
  unfold State.restartNoted
  split <;> rfl

theorem State.rgns_restartNoted (s : State) (k : Nat) : (s.restartNoted k).rgns = s.rgns := by
  unfold State.restartNoted
  split <;> rfl

theorem State.calRgns_restartNoted (s : State) (k : Nat) : (s.restartNoted k).calRgns = s.calRgns := by
  unfold State.restartNoted
  split <;> rfl

theorem State.sec_restartNoted (s : State) (k i : Nat) : (s.restartNoted k).sec i = s.sec i := by
  unfold State.sec
  rw [State.secs_restartNoted]

/-- RESTART reads 0 where it read 0, and outside STATE FAULT. -/
theorem State.restart_restartNoted {s : State} {k : Nat} (h : s.on F.SEC_CTRL_RESTART k = false ∨ s.secState k ≠ 4) :
    (s.restartNoted k).on F.SEC_CTRL_RESTART k = false := by
  unfold State.restartNoted
  split
  next h4 => exact h.resolve_right fun hn => hn h4
  next => exact State.on_fsetB s F.SEC_CTRL_RESTART k false rfl (by decide)

theorem State.restartWritten_off {s : State} {k : Nat} (h : s.on F.SEC_CTRL_RESTART k = false) : s.restartWritten k = s := by
  unfold State.restartWritten
  rw [h]
  exact if_neg fun hh => Bool.false_ne_true hh.2

/-- What SAFE's change does of a write of SEC_CTRL. -/
def State.safeWritten (s : State) (k : Nat) (old : Word) : State :=
  if getF old 2 1 = 0 ∧ s.on F.SEC_CTRL_SAFE k then s.safeSet k
  else if getF old 2 1 = 1 ∧ !s.on F.SEC_CTRL_SAFE k then s.safeClear k
  else s

/-- What HEADWAY's change does of a write of SEC_CTRL. -/
def State.headwayWritten (s : State) (k : Nat) (old : Word) : State :=
  if getF old 1 1 ≠ s.fget F.SEC_CTRL_HEADWAY k then
    s.disturbedWait k (s.secState k = 3) { due := s.count + 32, hw := some (s.on F.SEC_CTRL_HEADWAY k) }
  else s

theorem State.safeClear_eq (s : State) (k : Nat) :
    s.safeClear k = (s.fset F.SEC_STATUS_SAFE_ACTIVE k 0).disturbedWait k
      ((s.sec k).readSeen && s.secState k == 3) { due := s.count + 32, commit := true } := by
  have hd := State.disturbed_moves (s.fset F.SEC_STATUS_SAFE_ACTIVE k 0) k
  have hs : ((s.fset F.SEC_STATUS_SAFE_ACTIVE k 0).disturbed k).sec k = s.sec k := by
    unfold State.sec
    rw [State.secs_disturbed]
    rfl
  have ht : ((s.fset F.SEC_STATUS_SAFE_ACTIVE k 0).disturbed k).secState k = s.secState k :=
    (hd.fget (by decide)).trans (State.fget_fset_apart _ _ (.inr (.inr (by decide))))
  have hc : ((s.fset F.SEC_STATUS_SAFE_ACTIVE k 0).disturbed k).count = s.count := hd.count
  unfold State.disturbedWait
  rw [← hs, ← ht, ← hc]
  rfl

theorem State.secCtrlWritten_eq (s : State) (k : Nat) (old : Word) :
    s.secCtrlWritten k old = ((s.restartNoted k).safeWritten k old).headwayWritten k old := by
  have h (u : State) : u.headwayWritten k old =
      if getF old 1 1 ≠ u.fget F.SEC_CTRL_HEADWAY k then
        if (u.disturbed k).secState k = 3 then
          (u.disturbed k).addPend k { due := (u.disturbed k).count + 32, hw := some ((u.disturbed k).on F.SEC_CTRL_HEADWAY k) }
        else u.disturbed k
      else u := by
    have hd := State.disturbed_moves u k
    have h1 : (u.disturbed k).secState k = u.secState k := hd.fget (by decide)
    have h2 : (u.disturbed k).on F.SEC_CTRL_HEADWAY k = u.on F.SEC_CTRL_HEADWAY k := hd.on (by decide)
    rw [h1, h2, hd.count]
    unfold State.headwayWritten State.disturbedWait
    simp only [decide_eq_true_eq]
  rw [h]
  rfl

theorem State.headwayWritten_same {s : State} {k : Nat} {old : Word} (h : s.fget F.SEC_CTRL_HEADWAY k = getF old 1 1) :
    s.headwayWritten k old = s := by
  unfold State.headwayWritten
  exact if_neg fun hh => hh h.symm

end Sys2Proof.Machine

namespace Sys2Proof.Claim

open Sys2Proof.Machine

/-- The host's write of SEC_CTRL and a move in its Section. -/
theorem HostInSection.of_stored {f : Fld} {k : Nat} {l : List Fld} {s j t : State} (hj : Stored [(f, k)] s j)
    (hf : f.reg = .SEC_CTRL) (ht : SecMoves k l j t) : HostInSection s t k := by
  refine ⟨fun r u hr hn => ?_, fun i hi => (ht.secs i hi).trans (hj.sec i), fun r hr => ?_, fun a ha => ?_, ?_⟩
  · refine (ht.reg (by rw [hj.build]; exact hr)).trans (hj.flds.reg fun g w hg => ?_)
    rcases List.mem_append.1 hg with hg | hg
    · obtain ⟨rfl, rfl⟩ := Prod.mk.inj (List.mem_singleton.1 hg)
      by_cases hru : r = g.reg
      · exact .inr fun hu => hr (by rw [hru, hu, hf]; exact ofSection_sec rfl rfl)
      · exact .inl hru
    · have hm : (g.reg, w) ∈ jnlRegs :=
        (by decide : ∀ x ∈ jnlFields, (x.1.reg, x.2) ∈ jnlRegs) (g, w) hg
      by_cases hru : r = g.reg
      · exact .inr fun hu => hn (by rw [hru, hu]; exact hm)
      · exact .inl hru
  · exact (ht.rgns r (by rw [hj.build]; exact hr)).trans (hj.rgn r)
  · have hm : t.rdByte a = j.rdByte a := by unfold State.rdByte; rw [ht.mem]
    exact hm.trans (hj.bytes a ha)
  · have hn : t.jnl = j.jnl := by rw [ht.rest]
    have e := hj.rest
    have e' := ht.rest
    rw [ht.mem, hn]
    rw [e] at e'
    exact e'

theorem HostInSection.lives {s t : State} {k : Nat} (h : HostInSection s t k) : Lives s t := by
  obtain ⟨-, -, -, -, hr⟩ := h
  unfold Lives
  rw [hr]
  exact ⟨rfl, rfl, rfl⟩

/-- Outside the edge of R550 a write of SEC_CTRL stores SAFE as written. -/
theorem HostCtl.kept {s : State} {k : Nat} (h : HostCtl s k) : s.safeKept .SEC_CTRL = 0#32 := by
  unfold State.safeKept
  rw [if_neg fun hh => h.2 hh.2]
  rfl

/-- The host writes SAFE or HEADWAY of a Section. -/
theorem HostCtl.field {s : State} {k v : Nat} (h : HostCtl s k) {f : Fld} (hr : f.reg = .SEC_CTRL) (hf : f.Rw) (hv : v < 2 ^ f.w)
    (hR : s.on F.SEC_CTRL_RESTART k = false) (hne : F.SEC_CTRL_RESTART.Apart k f k) :
    ∃ j, Stored [(f, k)] s j ∧ j.fget f k = v ∧ j.on F.SEC_CTRL_RESTART k = false ∧
      s.hostField f k v = (j.secCtrlWritten k (s.reg .SEC_CTRL k)).restartWritten k := by
  obtain ⟨j, p, hs, hval, hw⟩ := HostSec.field (f := f) (by rw [hr]; exact h.1) (by rw [hr]; exact secCtrl_lies)
    (by rw [hr]; exact secCtrl_plain) hf (by rw [hr]; exact h.kept) hv
  refine ⟨j, hs, hval, (State.on_congr (hs.fget (fun x hx => ?_) (by decide))).trans hR, hw.trans ?_⟩
  · rw [List.mem_singleton.1 hx]
    exact hne
  · rw [hr]
    rfl

end Sys2Proof.Claim
end

section
/-! SUPPORT. SAFE_SET, SAFE_CLEAR, HEADWAY_ON and HEADWAY_OFF (R102, R104, R164, R165). -/

namespace Sys2Proof.Claim

open Sys2Proof.Machine

/-! ### Once SEC_CTRL is stored -/

section
variable {f : Fld} {k : Nat} {s j : State} (h : Stored [(f, k)] s j)
include h

theorem noted_build : (j.restartNoted k).build = s.build := (State.restartNoted_moves j k).build.trans h.build
theorem noted_count : (j.restartNoted k).count = s.count := (State.restartNoted_moves j k).count.trans h.count
theorem noted_sec (i : Nat) : (j.restartNoted k).sec i = s.sec i := (State.sec_restartNoted j k i).trans (h.sec i)

theorem noted_rgn (r : Nat) : (j.restartNoted k).rgn r = s.rgn r := by
  unfold State.rgn
  rw [State.rgns_restartNoted, h.rgns]

theorem noted_seedTaps (r : Nat) : (j.restartNoted k).seedTaps r = s.seedTaps r := by
  refine State.seedTaps_congr (noted_build h) ?_
  unfold State.calRgn
  rw [State.calRgns_restartNoted, h.calRgns]

/-- Another register shows what it showed. -/
theorem noted_fget (hf : f.reg = .SEC_CTRL) {g : Fld} {u : Nat} (hg : g.reg ≠ .SEC_CTRL)
    (hj : ∀ x ∈ jnlFields, g.reg ≠ x.1.reg) : (j.restartNoted k).fget g u = s.fget g u := by
  refine ((State.restartNoted_moves j k).fget fun x hx => .inl ?_).trans (h.fget_other rfl (by rw [hf]; exact hg) hj)
  rw [List.mem_singleton.1 hx]
  exact hg

/-- Another field of SEC_CTRL but RESTART shows what it showed. -/
theorem noted_ctrl {g : Fld} (hg : g.Apart k f k) (hr : g.lo + g.w ≤ 3) (hj : ∀ x ∈ jnlFields, g.reg ≠ x.1.reg) :
    (j.restartNoted k).fget g k = s.fget g k := by
  refine ((State.restartNoted_moves j k).fget fun x hx => .inr (.inl ?_)).trans (h.fget (fun x hx => ?_) hj)
  · rw [List.mem_singleton.1 hx]
    exact hr
  · rw [List.mem_singleton.1 hx]
    exact hg

end

/-- The field written shows its value, where it is not RESTART. -/
theorem noted_value {f : Fld} {k : Nat} {j : State} {v : Nat} (hv : j.fget f k = v) (hr : f.lo + f.w ≤ 3) : (j.restartNoted k).fget f k = v := by
  refine ((State.restartNoted_moves j k).fget fun x hx => .inr (.inl ?_)).trans hv
  rw [List.mem_singleton.1 hx]
  exact hr

/-! ### SAFE (R102, R104) -/

theorem safe_rw : F.SEC_CTRL_SAFE.Rw := ⟨by decide, by decide, by decide, by decide, by decide⟩
theorem headway_rw : F.SEC_CTRL_HEADWAY.Rw := ⟨by decide, by decide, by decide, by decide, by decide⟩

theorem getF_of_on {s : State} {f : Fld} {u : Nat} {b : Bool} (hw : f.w = 1) (h : s.on f u = b) :
    getF (s.reg f.reg u) f.lo f.w = b.toNat := by
  rw [← h]
  exact State.fget_of_on s f u hw

/-- A host write of SAFE that changes it does what SAFE's change does, and nothing else in its effect. -/
theorem safeWrite_effect {s : State} {k : Nat} (h : HostCtl s k) (hR : s.on F.SEC_CTRL_RESTART k = false) {on : Bool}
    (hold : s.on F.SEC_CTRL_SAFE k = !on) {g : State → State} {l : List Fld} (hg : ∀ u, SecMoves k l u (g u))
    (hl : ∀ f ∈ [F.SEC_CTRL_HEADWAY, F.SEC_CTRL_RESTART], ∀ x ∈ l, f.reg ≠ x.reg ∨ f.lo + f.w ≤ x.lo ∨ x.lo + x.w ≤ f.lo)
    (he : ∀ u : State, ∀ old, u.on F.SEC_CTRL_SAFE k = on → getF old 2 1 = (!on).toNat → u.safeWritten k old = g u) :
    ∃ j, Stored [(F.SEC_CTRL_SAFE, k)] s j ∧ (j.restartNoted k).on F.SEC_CTRL_SAFE k = on ∧
      s.hostField F.SEC_CTRL_SAFE k on.toNat = g (j.restartNoted k) := by
  obtain ⟨j, hs, hval, hRj, hw⟩ := h.field (f := F.SEC_CTRL_SAFE) (v := on.toNat) rfl safe_rw (by cases on <;> decide) hR
    (.inr (.inr (by decide)))
  have hon : (j.restartNoted k).on F.SEC_CTRL_SAFE k = on := by
    unfold State.on
    rw [noted_value hval (by decide)]
    cases on <;> rfl
  have hhw : (j.restartNoted k).fget F.SEC_CTRL_HEADWAY k = s.fget F.SEC_CTRL_HEADWAY k :=
    noted_ctrl hs (.inr (.inr (by decide))) (by decide) (by decide)
  have hsafe : (j.restartNoted k).safeWritten k (s.reg .SEC_CTRL k) = g (j.restartNoted k) :=
    he _ _ hon (getF_of_on (f := F.SEC_CTRL_SAFE) rfl hold)
  refine ⟨j, hs, hon, ?_⟩
  rw [hw, State.secCtrlWritten_eq, hsafe, State.headwayWritten_same (old := s.reg .SEC_CTRL k) (((hg _).fget (hl _ (by decide))).trans hhw),
    State.restartWritten_off]
  exact ((hg _).on (hl _ (by decide))).trans (State.restart_restartNoted (.inl hRj))

/-- SAFE_SET (R102). -/
theorem safeSet (s : State) (k : Nat) : Claim.SafeSet s k := by
  intro h hold hR
  obtain ⟨j, hs, hon, hw⟩ := safeWrite_effect h hR (on := true) hold (g := fun u => u.safeSet k)
    (fun u => State.safeSet_moves u k) (by decide) fun u old hu hO => by
      unfold State.safeWritten
      exact if_pos ⟨hO, hu⟩
  have hm := State.safeSet_moves (j.restartNoted k) k
  have hin : HostInSection s ((j.restartNoted k).safeSet k) k := HostInSection.of_stored hs rfl
    (((State.restartNoted_moves j k).mono (List.subset_append_left _ _)).trans
      (hm.mono (List.subset_append_right [F.SEC_CTRL_RESTART] _)))
  have hb := noted_build hs
  have hreads (g : Fld) (u : Nat) (hg : g.reg ≠ .SEC_CTRL) (hj : ∀ x ∈ jnlFields, g.reg ≠ x.1.reg) :
      (j.restartNoted k).fget g u = s.fget g u := noted_fget hs rfl hg hj
  refine HostSec.runs h.1 rfl (hw ▸ hin.lives) ?_
  rw [show s.hostField F.SEC_CTRL_SAFE k 1 = _ from hw]
  refine ⟨(hm.on (by decide)).trans hon, State.safeActive_safeSet _ k, ?_, ?_, fun r hr => ?_, ?_, ?_, ?_, hin⟩
  · exact (hm.fget (by decide)).trans (noted_ctrl hs (.inr (.inr (by decide))) (by decide) (by decide))
  · exact (hm.fget (by decide)).trans (hreads _ k (by decide) (by decide))
  · obtain ⟨htrim, htaps, hphase⟩ := State.regionSafe_safeSet (j.restartNoted k) (r := r) (by rw [hb]; exact hr)
    exact ⟨htrim, htaps.trans (noted_seedTaps hs r), fun i hi => hphase i (by rw [hb]; exact hi)⟩
  · exact (State.waits_safeSet _ k).1
  · rw [(State.waits_safeSet _ k).2, noted_sec hs]
    rfl
  · intro x hx hrun hne he
    have hstate : (j.restartNoted k).secState k = s.secState k := hreads _ k (by decide) (by decide)
    have hfw : (j.restartNoted k).fwCur k = s.fwCur k := hreads _ k (by decide) (by decide)
    have hgov : SameGovernor s (j.restartNoted k) := ⟨hb, fun f hf u =>
      hreads f u ((by decide : ∀ f ∈ targetKinds, f.reg ≠ .SEC_CTRL) f hf)
        ((by decide : ∀ f ∈ targetKinds, ∀ x ∈ jnlFields, f.reg ≠ x.1.reg) f hf)⟩
    have hmv := State.moved_safeSet (s := j.restartNoted k) hon (hgov.runsAt hx) (by rw [hstate]; exact hrun)
      (by rw [hfw, State.on_congr (hreads F.SEC_FW_STATUS_RAMPING k (by decide) (by decide))]; exact hne)
      (by rw [noted_sec hs, noted_count hs]; exact he)
    refine Moved.congr hmv hb (noted_count hs) (fun f hf => hreads f k ?_ ?_) (fun r => hreads _ r (by decide) (by decide))
      (fun r => by rw [noted_rgn hs]; exact ⟨rfl, rfl⟩) (by rw [noted_sec hs])
    · exact (by decide : ∀ f ∈ [F.SEC_FW_STATUS_FW_CUR, F.SEC_FW_STATUS_RAMPING, F.SEC_WOFF_CNT_COUNT], f.reg ≠ .SEC_CTRL) f hf
    · exact (by decide : ∀ f ∈ [F.SEC_FW_STATUS_FW_CUR, F.SEC_FW_STATUS_RAMPING, F.SEC_WOFF_CNT_COUNT],
        ∀ x ∈ jnlFields, f.reg ≠ x.1.reg) f hf

/-- The kinds of the fields that SAFE going to 0 moves. -/
def clearKinds : List Fld := F.SEC_STATUS_SAFE_ACTIVE :: (distKinds ++ pendKinds)

theorem safeClear_moves (s : State) (k : Nat) : SecMoves k clearKinds s (s.safeClear k) := by
  rw [State.safeClear_eq]
  exact (SecMoves.fset _ (by decide) (ofSection_sec rfl rfl)).trans
    ((State.disturbedWait_moves _ k _ _).mono (List.subset_cons_self _ _))

/-- SAFE_CLEAR (R104). -/
theorem safeClear (s : State) (k : Nat) : Claim.SafeClear s k := by
  intro h hold hR
  obtain ⟨j, hs, hon, hw⟩ := safeWrite_effect h hR (on := false) hold (g := fun u => u.safeClear k)
    (fun u => safeClear_moves u k) (by decide) fun u old hu hO => by
      unfold State.safeWritten
      rw [if_neg (by rw [hu]; exact fun hh => Bool.false_ne_true hh.2)]
      exact if_pos ⟨hO, by rw [hu]; rfl⟩
  have hm := safeClear_moves (j.restartNoted k) k
  have hin : HostInSection s ((j.restartNoted k).safeClear k) k := HostInSection.of_stored hs rfl
    (((State.restartNoted_moves j k).mono (List.subset_append_left _ _)).trans
      (hm.mono (List.subset_append_right [F.SEC_CTRL_RESTART] _)))
  have hstate : (j.restartNoted k).secState k = s.secState k := noted_fget hs rfl (by decide) (by decide)
  have hact : ((j.restartNoted k).fset F.SEC_STATUS_SAFE_ACTIVE k 0).on F.SEC_STATUS_SAFE_ACTIVE k = false :=
    State.on_fsetB (j.restartNoted k) F.SEC_STATUS_SAFE_ACTIVE k false rfl (by decide)
  have hsec : ((j.restartNoted k).fset F.SEC_STATUS_SAFE_ACTIVE k 0).sec k = s.sec k := noted_sec hs k
  refine HostSec.runs h.1 rfl (hw ▸ hin.lives) ?_
  rw [show s.hostField F.SEC_CTRL_SAFE k 0 = _ from hw]
  refine ⟨(hm.on (by decide)).trans hon, ?_, ?_, fun hc => ?_, fun hseen h3 => ?_, hin⟩
  · rw [State.safeClear_eq]
    exact ((State.disturbedWait_moves _ k _ _).on (by decide)).trans hact
  · exact (hm.fget (by decide)).trans (noted_fget hs rfl (by decide) (by decide))
  · have hno : (((j.restartNoted k).sec k).readSeen && (j.restartNoted k).secState k == 3) = false := by
      rw [noted_sec hs, hstate]
      rcases hc with hc | hc <;> simp [hc]
    rw [State.safeClear_eq, hno]
    unfold State.sec
    rw [State.secs_disturbedWait_false]
    exact hsec
  · have hyes : (((j.restartNoted k).sec k).readSeen && (j.restartNoted k).secState k == 3) = true := by
      rw [noted_sec hs, hstate, hseen, h3]
      rfl
    rw [State.safeClear_eq, hyes]
    refine ⟨?_, State.on_pending_addPend _ k rfl⟩
    rw [State.sec_disturbedWait_true, hsec, noted_count hs]

/-! ### HEADWAY (R164, R165) -/

theorem safeWritten_same {s : State} {k : Nat} {old : Word} (h : s.fget F.SEC_CTRL_SAFE k = getF old 2 1) :
    s.safeWritten k old = s := by
  rw [State.fget_of_on s F.SEC_CTRL_SAFE k rfl] at h
  unfold State.safeWritten
  rw [← h]
  cases s.on F.SEC_CTRL_SAFE k <;> rfl

/-- HEADWAY_ON and HEADWAY_OFF (R164, R165). -/
theorem headwayWrite (s : State) (k : Nat) (on : Bool) : HeadwayWrite s k on := by
  intro h hold hR
  obtain ⟨j, hs, hval, hRj, hw⟩ := h.field (f := F.SEC_CTRL_HEADWAY) (v := on.toNat) rfl headway_rw (by cases on <;> decide) hR
    (.inr (.inr (by decide)))
  have hmode : (j.restartNoted k).fget F.SEC_CTRL_HEADWAY k = on.toNat := noted_value hval (by decide)
  have hon : (j.restartNoted k).on F.SEC_CTRL_HEADWAY k = on := by
    unfold State.on
    rw [hmode]
    cases on <;> rfl
  have hsafe : (j.restartNoted k).fget F.SEC_CTRL_SAFE k = s.fget F.SEC_CTRL_SAFE k :=
    noted_ctrl hs (.inr (.inr (by decide))) (by decide) (by decide)
  have hne : getF (s.reg .SEC_CTRL k) 1 1 ≠ (j.restartNoted k).fget F.SEC_CTRL_HEADWAY k := by
    rw [hmode]
    have := State.fget_of_on s F.SEC_CTRL_HEADWAY k rfl
    revert hold
    unfold State.fget at this
    rw [show getF (s.reg .SEC_CTRL k) 1 1 = _ from this]
    cases s.on F.SEC_CTRL_HEADWAY k <;> cases on <;> decide
  have hstate : (j.restartNoted k).secState k = s.secState k := noted_fget hs rfl (by decide) (by decide)
  have hm := State.disturbedWait_moves (j.restartNoted k) k (s.secState k = 3) { due := s.count + 32, hw := some on }
  have heq : s.hostField F.SEC_CTRL_HEADWAY k on.toNat =
      (j.restartNoted k).disturbedWait k (s.secState k = 3) { due := s.count + 32, hw := some on } := by
    rw [hw, State.secCtrlWritten_eq, safeWritten_same (old := s.reg .SEC_CTRL k) hsafe]
    unfold State.headwayWritten
    rw [if_pos hne, hon, noted_count hs, hstate]
    exact State.restartWritten_off ((hm.on (by decide)).trans (State.restart_restartNoted (.inl hRj)))
  have hin : HostInSection s ((j.restartNoted k).disturbedWait k (s.secState k = 3) { due := s.count + 32, hw := some on }) k :=
    HostInSection.of_stored hs rfl (((State.restartNoted_moves j k).mono (List.subset_append_left _ _)).trans
      (hm.mono (List.subset_append_right [F.SEC_CTRL_RESTART] _)))
  have hc : exec (if on then .headwayOn k else .headwayOff k) s =
      s.act fun s => s.iff (k < s.build.nSections) fun s => s.hostField F.SEC_CTRL_HEADWAY k on.toNat := by
    cases on <;> rfl
  refine HostSec.runs h.1 hc (heq ▸ hin.lives) ?_
  rw [heq]
  refine ⟨(hm.on (by decide)).trans hon, ?_, ?_, fun h3 => ?_, fun h3 => ?_, hin⟩
  · exact (hm.on (by decide)).trans (State.on_congr (noted_fget hs rfl (by decide) (by decide)))
  · exact (hm.fget (by decide)).trans (noted_fget hs rfl (by decide) (by decide))
  · rw [decide_eq_true h3]
    exact ⟨by rw [State.sec_disturbedWait_true, noted_sec hs], State.on_pending_addPend _ k rfl,
      State.on_headwayPending_addPend _ k rfl⟩
  · rw [decide_eq_false h3, State.secs_disturbedWait_false, State.secs_restartNoted, hs.secs]

end Sys2Proof.Claim
end

section
/-! SUPPORT. SAFE that the Station set at this edge (R550), and SECTION_RESTART (R99, R106, R107). -/

namespace Sys2Proof.Machine

/-! ### A region enters cause FAULT (R125) -/

theorem State.causeBegun_moves (s : State) {k r : Nat} (l : List Fld) (hr : s.build.sectionOf r = k) :
    SecMoves k l s (s.causeBegun r) := by
  unfold State.causeBegun
  dsimp only
  split
  · exact SecMoves.setRgn s _ hr
  · exact SecMoves.setRgn s _ hr

/-- The kinds of the fields that a fault of a region moves. -/
def faultKinds : List Fld := [F.SB_GATE_FAULT, F.SB_GATE_FAULT_CAUSE]

theorem State.regionFault_moves (s : State) {k r : Nat} (hr : s.build.sectionOf r = k) (cause code : Nat) (p : List PItem) :
    SecMoves k faultKinds s (s.regionFault r true cause code p) := by
  have h1 : SecMoves k faultKinds s ((s.setFlag F.SB_GATE_FAULT r).fset F.SB_GATE_FAULT_CAUSE r cause) :=
    (SecMoves.setFlag (by decide) (ofSection_sb rfl rfl hr)).trans (SecMoves.fset _ (by decide) (ofSection_sb rfl rfl hr))
  have h2 := State.causeBegun_moves ((s.setFlag F.SB_GATE_FAULT r).fset F.SB_GATE_FAULT_CAUSE r cause) faultKinds hr
  have h3 (u : State) (v : Rgn) (hu : u.build.sectionOf r = k) : SecMoves k faultKinds u ((u.setRgn r v).post r 0 code p) :=
    (SecMoves.setRgn u v hu).trans (SecMoves.post _ _ _ _ (.inr (.inr hu)))
  unfold State.regionFault
  split
  · exact SecMoves.refl k _ s
  · exact (h1.trans h2).trans (h3 _ _ (by rw [h2.build]; exact hr))

theorem State.secs_causeBegun (s : State) (r : Nat) : (s.causeBegun r).secs = s.secs := by
  unfold State.causeBegun
  dsimp only
  split <;> rfl

theorem State.secs_regionFault (s : State) (r cause code : Nat) (p : List PItem) :
    (s.regionFault r true cause code p).secs = s.secs := by
  unfold State.regionFault
  split
  · rfl
  · exact State.secs_causeBegun ((s.setFlag F.SB_GATE_FAULT r).fset F.SB_GATE_FAULT_CAUSE r cause) r

theorem State.leafFaults_moves (s : State) (k : Nat) : SecMoves k faultKinds s (s.leafFaults k) :=
  SecMoves.each _ _ _ fun t r hr ht => by
    unfold State.leafFault
    split
    · exact State.regionFault_moves t (by rw [ht]; exact Build.sectionOf_of_mem hr) _ _ _
    · exact SecMoves.refl k _ t

theorem State.secs_leafFaults (s : State) (k : Nat) : (s.leafFaults k).secs = s.secs :=
  State.each_eq State.secs _ _ (fun t r _ => by
    unfold State.leafFault
    split
    · exact State.secs_regionFault t r _ _ _
    · rfl) s

/-! ### The release of a Section Root again (R99, R106) -/

/-- A Section's record at its release. -/
def Sec.atRelease (c : Sec) (count elapsed : Nat) : Sec :=
  { c with released := true, everReleased := true, readSeen := false, t0 := count, acc := 0, pend := [], req := none
           edgeAt := none, bus := [], lastChange := elapsed }

/-- The record is noted. -/
def State.rootNoted (s : State) (k : Nat) : State := s.setSec k ((s.sec k).atRelease s.count s.stn.elapsed)

/-- The word is in force. -/
def State.rootWord (s : State) (k : Nat) : State :=
  let u := s.fset F.SEC_FW_STATUS_FW_CUR k (s.fwTarget k)
  u.setSec k { u.sec k with target := u.fwTarget k }

/-- No ramp, no headway mode and no change that waits are shown. -/
def State.rootIdle (s : State) (k : Nat) : State :=
  ((s.fset F.SEC_FW_STATUS_RAMPING k 0).fset F.SEC_HEADWAY_ACTIVE k 0).updatePend k

/-- The STATE, the lock and the phase error are shown. -/
def State.rootShown (s : State) (k : Nat) : State :=
  (((s.fset F.SEC_STATUS_STATE k 1).fset F.SEC_STATUS_LOCKED k 1).fset F.SEC_CTRL_RESTART k 0).fset F.SEC_PLL_MAX_PS k 0

/-- A release before the DLLs are unlocked. -/
def State.rootBegun (s : State) (k : Nat) : State := ((((s.rootNoted k).rootWord k).rootIdle k).rootShown k).updateHeld k

theorem State.releaseRoot_eq {s : State} {k : Nat} (h : (s.sec k).everReleased = true) :
    s.releaseRoot k = (s.rootBegun k).each ((s.rootBegun k).build.regionsOf k) dllUnlocked := by
  unfold State.releaseRoot
  dsimp only
  rw [if_pos h]
  rfl

/-- The kinds of the fields that show a released root. -/
def shownKinds : List Fld := [F.SEC_STATUS_STATE, F.SEC_STATUS_LOCKED, F.SEC_CTRL_RESTART, F.SEC_PLL_MAX_PS]

/-- The kinds of the fields that a release moves. -/
def releaseKinds : List Fld := wordKinds ++ pendKinds ++ F.SEC_HEADWAY_ACTIVE :: shownKinds

theorem State.rootWord_moves (s : State) (k : Nat) : SecMoves k [F.SEC_FW_STATUS_FW_CUR] s (s.rootWord k) :=
  (SecMoves.fset _ (by decide) (ofSection_sec rfl rfl)).trans (SecMoves.setSec _ _)

theorem State.rootIdle_moves (s : State) (k : Nat) :
    SecMoves k (F.SEC_FW_STATUS_RAMPING :: F.SEC_HEADWAY_ACTIVE :: pendKinds) s (s.rootIdle k) :=
  ((SecMoves.fset 0 (by decide) (ofSection_sec rfl rfl)).trans (SecMoves.fset 0 (by decide) (ofSection_sec rfl rfl))).trans
    ((State.updatePend_moves _ k).mono (by decide))

theorem State.rootShown_moves (s : State) (k : Nat) : SecMoves k shownKinds s (s.rootShown k) :=
  (((SecMoves.fset 1 (by decide) (ofSection_sec rfl rfl)).trans (SecMoves.fset 1 (by decide) (ofSection_sec rfl rfl))).trans
    (SecMoves.fset 0 (by decide) (ofSection_sec rfl rfl))).trans (SecMoves.fset 0 (by decide) (ofSection_sec rfl rfl))

/-- What a released root shows. -/
theorem State.shows_rootShown (s : State) (k : Nat) :
    (s.rootShown k).secState k = 1 ∧ (s.rootShown k).on F.SEC_STATUS_LOCKED k = true ∧
      (s.rootShown k).on F.SEC_CTRL_RESTART k = false ∧ (s.rootShown k).fget F.SEC_PLL_MAX_PS k = 0 := by
  have keep {f : Fld} {v : Nat} {u : State} (h : f.Apart k F.SEC_PLL_MAX_PS k) :
      (u.fset F.SEC_PLL_MAX_PS k v).fget f k = u.fget f k := State.fget_fset_apart u v h
  have hstate : (s.rootShown k).secState k = 1 := by
    refine (keep (.inl (by decide))).trans ?_
    rw [State.fget_fset_apart _ _ (.inl (by decide)), State.fget_fset_apart _ _ (.inr (.inr (by decide)))]
    exact State.fget_fset_fits s F.SEC_STATUS_STATE k (by decide) (by decide)
  have hlock : (s.rootShown k).fget F.SEC_STATUS_LOCKED k = 1 := by
    refine (keep (.inl (by decide))).trans ?_
    rw [State.fget_fset_apart _ _ (.inl (by decide))]
    exact State.fget_fset_fits _ F.SEC_STATUS_LOCKED k (by decide) (by decide)
  have hre : (s.rootShown k).fget F.SEC_CTRL_RESTART k = 0 :=
    (keep (.inl (by decide))).trans (State.fget_fset_fits _ F.SEC_CTRL_RESTART k (by decide) (by decide))
  refine ⟨hstate, ?_, ?_, State.fget_fset_fits _ F.SEC_PLL_MAX_PS k (by decide) (by decide)⟩
  · unfold State.on
    rw [hlock]
    rfl
  · unfold State.on
    rw [hre]
    rfl

theorem State.rootBegun_moves (s : State) (k : Nat) : SecMoves k releaseKinds s (s.rootBegun k) := by
  have h1 : SecMoves k releaseKinds s (s.rootNoted k) := SecMoves.setSec s _
  have h2 := (State.rootWord_moves (s.rootNoted k) k).mono (l' := releaseKinds) (by decide)
  have h3 := (State.rootIdle_moves ((s.rootNoted k).rootWord k) k).mono (l' := releaseKinds) (by decide)
  have h4 := (State.rootShown_moves (((s.rootNoted k).rootWord k).rootIdle k) k).mono (l' := releaseKinds) (by decide)
  have h5 := (State.updateHeld_moves ((((s.rootNoted k).rootWord k).rootIdle k).rootShown k) k).mono (l' := releaseKinds)
    (by decide)
  exact (((h1.trans h2).trans h3).trans h4).trans h5

theorem State.sec_rootBegun (s : State) (k : Nat) :
    ∃ x, (s.rootBegun k).sec k = { (s.sec k).atRelease s.count s.stn.elapsed with target := x } := by
  have h1 : (s.rootNoted k).sec k = (s.sec k).atRelease s.count s.stn.elapsed := State.sec_setSec_same s k _
  have h2 : ((s.rootNoted k).rootWord k).sec k = { (s.rootNoted k).sec k with
      target := ((s.rootNoted k).fset F.SEC_FW_STATUS_FW_CUR k ((s.rootNoted k).fwTarget k)).fwTarget k } :=
    State.sec_setSec_same _ k _
  refine ⟨_, Eq.trans ?_ (h2.trans (by rw [h1]))⟩
  unfold State.rootBegun State.sec
  rw [State.secs_updateHeld]
  rfl

/-- The word in force is the one that the Section is to run at with none asked for. -/
theorem State.fwCur_rootBegun {s : State} {k x : Nat} (h : Claim.runsAt s k none x) : (s.rootBegun k).fwCur k = x := by
  have hg : SameGovernor s (s.rootNoted k) := (SecMoves.setSec (l := []) s _).sameGovernor (by decide)
  have hreq : (s.rootNoted k).fwReq k = none := by
    unfold State.fwReq State.rootNoted
    rw [State.sec_setSec_same]
    unfold Sec.atRelease
    split <;> rfl
  have hx : (s.rootNoted k).fwTarget k = x := fwTarget_of_runsAt (by rw [hreq]; exact hg.runsAt h)
  have h1 : ((s.rootNoted k).rootWord k).fwCur k = x := by
    rw [← hx]
    exact State.fget_fset_fits (s.rootNoted k) F.SEC_FW_STATUS_FW_CUR k (by decide) (State.fwTarget_lt _ k)
  exact ((State.updateHeld_moves _ k).fget (by decide)).trans (((State.rootShown_moves _ k).fget (by decide)).trans
    (((State.rootIdle_moves _ k).fget (by decide)).trans h1))

theorem State.headwayActive_rootBegun (s : State) (k : Nat) : (s.rootBegun k).on F.SEC_HEADWAY_ACTIVE k = false := by
  have h1 (u : State) : (u.rootIdle k).on F.SEC_HEADWAY_ACTIVE k = false := by
    refine ((State.updatePend_moves ((u.fset F.SEC_FW_STATUS_RAMPING k 0).fset F.SEC_HEADWAY_ACTIVE k 0) k).on (by decide)).trans ?_
    exact State.on_fsetB (u.fset F.SEC_FW_STATUS_RAMPING k 0) F.SEC_HEADWAY_ACTIVE k false rfl (by decide)
  exact ((State.updateHeld_moves _ k).on (by decide)).trans (((State.rootShown_moves _ k).on (by decide)).trans (h1 _))

/-- The kinds of the fields that a release moves in the regions. -/
def regionReleaseKinds : List Fld := F.SB_CLK_STATUS_DLL_LOCKED :: F.SB_CLK_STATUS_ALIGNED :: faultKinds

/-- What RESTART does in the regions once the root is released. -/
theorem State.restart_moves {s : State} {k : Nat} (h : (s.sec k).everReleased = true) :
    SecMoves k regionReleaseKinds (s.rootBegun k) ((s.releaseRoot k).leafFaults k) := by
  have hd : SecMoves k regionReleaseKinds (s.rootBegun k) (s.releaseRoot k) := by
    rw [State.releaseRoot_eq h]
    exact SecMoves.each _ _ _ fun t r hr ht =>
      have hk : t.build.sectionOf r = k := by rw [ht]; exact Build.sectionOf_of_mem hr
      (SecMoves.fset 0 (by decide) (ofSection_sb rfl rfl hk)).trans (SecMoves.fset 0 (by decide) (ofSection_sb rfl rfl hk))
  exact hd.trans ((State.leafFaults_moves _ k).mono (by decide))

theorem State.secs_restart {s : State} {k : Nat} (h : (s.sec k).everReleased = true) :
    ((s.releaseRoot k).leafFaults k).secs = (s.rootBegun k).secs := by
  rw [State.secs_leafFaults, State.releaseRoot_eq h, secs_dllsUnlocked]

/-- In STATE FAULT RESTART makes the release again. -/
theorem State.restartWritten_on {s : State} {k : Nat} (h4 : s.secState k = 4) (h : s.on F.SEC_CTRL_RESTART k = true) :
    s.restartWritten k = (s.releaseRoot k).leafFaults k := if_pos ⟨h4, h⟩

end Sys2Proof.Machine

namespace Sys2Proof.Claim

open Sys2Proof.Machine

/-! ### SAFE that the Station set at this edge (R550) -/

/-- A write of 0 to SAFE that the Station set at this edge leaves SEC_CTRL as it is. -/
theorem written_safeKept {s : State} {k : Nat} (hk : s.stn.safeEdge = some s.stn.elapsed)
    (hon : s.on F.SEC_CTRL_SAFE k = true) : s.written .SEC_CTRL k (putF 0 2 1 0) (maskF 2 1) = s.reg .SEC_CTRL k := by
  have hkept : s.safeKept .SEC_CTRL = maskF 2 1 := if_pos ⟨rfl, hk⟩
  have hz : putF 0 2 1 0 = 0#32 := by decide
  have h1 : getF (s.reg .SEC_CTRL k) 2 1 = 1 := getF_of_on (f := F.SEC_CTRL_SAFE) rfl hon
  have hself := putF_getF (s.reg .SEC_CTRL k) 2 1
  rw [h1] at hself
  have hrw : (Reg.info .SEC_CTRL).rw &&& maskF 2 1 = maskF 2 1 := by decide
  have hbit : BitVec.ofNat 32 1 <<< 2 &&& maskF 2 1 = maskF 2 1 := by decide
  unfold putF at hself
  rw [hbit] at hself
  unfold State.written
  dsimp only
  rw [hkept, hz, hrw]
  simp only [BitVec.zero_and, BitVec.not_zero, BitVec.and_allOnes, BitVec.or_zero]
  exact hself

/-- A stored SEC_CTRL that shows the SAFE and HEADWAY of before changes RESTART alone. -/
theorem secCtrlWritten_same {j : State} {k : Nat} {old : Word} (hs : j.fget F.SEC_CTRL_SAFE k = getF old 2 1)
    (hh : j.fget F.SEC_CTRL_HEADWAY k = getF old 1 1) : j.secCtrlWritten k old = j.restartNoted k := by
  have hm := State.restartNoted_moves j k
  rw [State.secCtrlWritten_eq, safeWritten_same ((hm.fget (by decide)).trans hs),
    State.headwayWritten_same ((hm.fget (by decide)).trans hh)]

/-- SAFE_CLEAR at the edge at which the Station set SAFE (R550). -/
theorem safeStays (s : State) (k : Nat) : SafeStays s k := by
  intro h hk hon hR
  obtain ⟨hm, hk', hn⟩ := h
  obtain ⟨j, h1, h2, h3⟩ := State.hostWord_effect s (putF 0 2 1 0) (maskF 2 1) none hm (s.build.place_sec secCtrl_lies hk' hn)
    (mapped_sec secCtrl_lies (by omega)) (secCtrl_plain.img s)
  have hstore : s.answered.store .SEC_CTRL k (putF 0 2 1 0) (maskF 2 1) = s.answered.setReg .SEC_CTRL k (s.answered.reg .SEC_CTRL k) := by
    rw [secCtrl_plain.store, written_safeKept (s := s.answered) hk hon]
  rw [hstore] at h1 h2
  have hs : Stored [] s j := Stored.of_jnl ((FldsKeep.ofRegs (t := s.answered) rfl rfl).trans (FldsKeep.setReg_self _ .SEC_CTRL k))
    rfl h1 h2
  have hctl (g : Fld) (hg : g.reg = .SEC_CTRL) : j.fget g k = s.fget g k :=
    hs.fget (fun x hx => by cases hx) (by rw [hg]; decide)
  have hRj : j.on F.SEC_CTRL_RESTART k = false := (State.on_congr (hctl _ rfl)).trans hR
  have hw : s.hostField F.SEC_CTRL_SAFE k 0 = j.restartNoted k := by
    refine h3.trans ((State.effectOf_effect j k _ _ _ _ (by decide)).trans ?_)
    show (j.secCtrlWritten k (s.reg .SEC_CTRL k)).restartWritten k = _
    rw [secCtrlWritten_same (old := s.reg .SEC_CTRL k) (hctl F.SEC_CTRL_SAFE rfl) (hctl F.SEC_CTRL_HEADWAY rfl)]
    exact State.restartWritten_off (State.restart_restartNoted (.inl hRj))
  have hflds : FldsKeep (Listed []) j (j.restartNoted k) := by
    unfold State.restartNoted
    split
    · exact FldsKeep.refl _ j
    · refine FldsKeep.fset_self ?_
      rw [State.fget_of_on j F.SEC_CTRL_RESTART k rfl, hRj]
      rfl
  have honly : HostOnly s (j.restartNoted k) [] := HostOnly.of_stored_only hs hflds (fun _ hx => hx) (by
    unfold State.restartNoted
    split <;> rfl)
  refine HostSec.runs ⟨hm, hk', hn⟩ rfl (hw ▸ honly.lives) ?_
  rw [hw]
  exact ⟨((State.restartNoted_moves j k).on (by decide)).trans ((State.on_congr (hctl _ rfl)).trans hon),
    (State.secs_restartNoted j k).trans hs.secs, honly⟩

/-! ### SECTION_RESTART (R106, R107) -/

theorem restart_w1s : F.SEC_CTRL_RESTART.W1s := ⟨rfl, by decide, by decide, by decide, by decide, by decide⟩

/-- The host writes 1 to RESTART. -/
theorem HostCtl.restart {s : State} {k : Nat} (h : HostCtl s k) :
    ∃ j, Stored [(F.SEC_CTRL_RESTART, k)] s j ∧ j.on F.SEC_CTRL_RESTART k = true ∧
      s.hostBit F.SEC_CTRL_RESTART k = (j.restartNoted k).restartWritten k := by
  obtain ⟨⟨hm, hk, hn⟩, -⟩ := id h
  obtain ⟨j, p, hs, hval, hw⟩ := State.hostBit_w1s (f := F.SEC_CTRL_RESTART) s secCtrl_plain restart_w1s hm
    (s.build.place_sec secCtrl_lies hk hn) (mapped_sec secCtrl_lies (by omega)) h.kept
  have hctl (g : Fld) (hg : g.reg = .SEC_CTRL) (hlo : g.lo + g.w ≤ 3) : j.fget g k = s.fget g k :=
    hs.fget (fun x hx => by rw [List.mem_singleton.1 hx]; exact .inr (.inr (.inl hlo))) (by rw [hg]; decide)
  refine ⟨j, hs, by unfold State.on; rw [hval]; rfl, hw.trans ?_⟩
  show (j.secCtrlWritten k (s.reg .SEC_CTRL k)).restartWritten k = _
  rw [secCtrlWritten_same (old := s.reg .SEC_CTRL k) (hctl F.SEC_CTRL_SAFE rfl (by decide)) (hctl F.SEC_CTRL_HEADWAY rfl (by decide))]

/-- Outside STATE FAULT RESTART clears and nothing else changes (R107). -/
theorem restart_idle {s j : State} {k : Nat} (hs : Stored [(F.SEC_CTRL_RESTART, k)] s j) (h4 : s.secState k ≠ 4) :
    ((j.restartNoted k).restartWritten k).on F.SEC_CTRL_RESTART k = false ∧
      HostOnly s ((j.restartNoted k).restartWritten k) [(F.SEC_CTRL_RESTART, k)] := by
  have hstate : j.secState k = s.secState k := hs.fget_other rfl (by decide) (by decide)
  have hoff := State.restart_restartNoted (s := j) (k := k) (.inr (by rw [hstate]; exact h4))
  rw [State.restartWritten_off hoff]
  refine ⟨hoff, ?_⟩
  have he : j.restartNoted k = j.fset F.SEC_CTRL_RESTART k 0 := if_neg (by rw [hstate]; exact h4)
  rw [he]
  exact HostOnly.of_stored_only hs ((FldsKeep.refl _ j).fset 0 (List.mem_singleton_self _)) (fun _ hx => hx) rfl

/-- SECTION_RESTART (R99, R106, R107). -/
theorem restart (s : State) (k : Nat) : Restart s k := by
  intro h
  obtain ⟨j, hs, hon, hw⟩ := h.restart
  by_cases h4 : s.secState k = 4
  · have hstate : j.secState k = 4 := (hs.fget_other rfl (by decide) (by decide)).trans h4
    have hready : (j.sec k).everReleased = true := by
      rw [hs.sec]
      exact h.1.1.2.2.1
    have he : s.hostBit F.SEC_CTRL_RESTART k = (j.releaseRoot k).leafFaults k := by
      rw [hw, show j.restartNoted k = j from if_pos hstate]
      exact State.restartWritten_on hstate hon
    have hm := State.restart_moves hready
    have hin : HostInSection s ((j.releaseRoot k).leafFaults k) k := HostInSection.of_stored hs rfl
      (((State.rootBegun_moves j k).mono (List.subset_append_left _ _)).trans
        (hm.mono (List.subset_append_right releaseKinds _)))
    have hgov : SameGovernor s j := ⟨hs.build, fun f hf u =>
      hs.fget_other rfl ((by decide : ∀ f ∈ targetKinds, f.reg ≠ .SEC_CTRL) f hf)
        ((by decide : ∀ f ∈ targetKinds, ∀ x ∈ jnlFields, f.reg ≠ x.1.reg) f hf)⟩
    obtain ⟨x, hx⟩ := State.sec_rootBegun j k
    have hsec : ((j.releaseRoot k).leafFaults k).sec k = { (j.sec k).atRelease j.count j.stn.elapsed with target := x } := by
      unfold State.sec
      rw [State.secs_restart hready]
      exact hx
    obtain ⟨hst, hlock, hre, hmax⟩ := State.shows_rootShown (((j.rootNoted k).rootWord k).rootIdle k) k
    have hh := State.updateHeld_moves ((((j.rootNoted k).rootWord k).rootIdle k).rootShown k) k
    have hb := State.rootBegun_moves j k
    refine HostSec.runs h.1 rfl (he ▸ hin.lives) ?_
    rw [he]
    refine ⟨(hm.on (by decide)).trans ((hh.on (by decide)).trans hre), fun hne => absurd h4 hne, fun _ =>
      ⟨(hm.fget (by decide)).trans ((hh.fget (by decide)).trans hst), (hm.on (by decide)).trans ((hh.on (by decide)).trans hlock),
        fun y hy => (hm.fget (by decide)).trans (State.fwCur_rootBegun (hgov.runsAt hy)), ?_, ?_, ?_, ?_, ?_, ?_, ?_, ?_, ?_, hin⟩⟩
    · rw [hsec, hs.count]
      rfl
    · rw [hsec]
      rfl
    · rw [hsec]
      rfl
    · rw [hsec]
      rfl
    · rw [hsec]
      rfl
    · exact (hm.on (by decide)).trans (State.headwayActive_rootBegun j k)
    · exact (hm.fget (by decide)).trans ((hh.fget (by decide)).trans hmax)
    · refine (hm.fget (by decide)).trans ((hb.fget (by decide)).trans (hs.fget (fun x hx => ?_) (by decide)))
      rw [List.mem_singleton.1 hx]
      exact .inr (.inr (.inl (le_refl 3)))
    · exact (hm.fget (by decide)).trans ((hb.fget (by decide)).trans (hs.fget_other rfl (by decide) (by decide)))
  · obtain ⟨hoff, honly⟩ := restart_idle hs h4
    refine HostSec.runs h.1 rfl (hw ▸ honly.lives) ?_
    rw [hw]
    exact ⟨hoff, fun _ => honly, fun h4' => absurd h4' h4⟩

/-- Settles O24: each write stores its field, its effect is that of the Section's rule, and the Journal's entry is all else. -/
theorem sectionWrites : Obligations.SectionWrites := fun s k fw len on =>
  ⟨fwWrite s k fw, hwWrite s k fw, safeSet s k, safeClear s k, safeStays s k, restart s k, headwayWrite s k on,
    symEnClear s k, slots s k len⟩

end Sys2Proof.Claim
end

section
/-! SUPPORT. SAFE in every Section (R103, R332, R549, R550). -/

namespace Sys2Proof.Machine

/-! ### What SAFE in every Section may move -/

/-- A field of a Section, of a region or of a Junction, or one that the Journal's entry moves. -/
def SpreadFld (g : Fld) (w : Nat) : Prop :=
  g.reg.info.cls = .sec ∨ g.reg.info.cls = .sb ∨ g.reg.info.cls = .jct ∨ Listed Claim.jnlFields g w

/-- Nothing moves but what belongs to Sections, regions and Junctions, and to the Journal's entries. -/
structure SafeSpread (s t : State) : Prop where
  flds : FldsKeep SpreadFld s t
  bytes : Claim.BytesKeep s t Claim.jnlByte
  rest : t = { s with regs := t.regs, fresh := t.fresh, freshMid := t.freshMid, secs := t.secs, rgns := t.rgns
                      calRgns := t.calRgns, xings := t.xings, log := t.log, mem := t.mem, jnl := t.jnl }

theorem SafeSpread.refl (s : State) : SafeSpread s s := ⟨FldsKeep.refl _ s, fun _ _ => rfl, rfl⟩

theorem SafeSpread.trans {s t v : State} (h : SafeSpread s t) (h' : SafeSpread t v) : SafeSpread s v where
  flds := h.flds.trans h'.flds
  bytes a ha := (h'.bytes a ha).trans (h.bytes a ha)
  rest := by
    have e := h.rest
    have e' := h'.rest
    rw [e] at e'
    exact e'

theorem cls_of_ofSection {b : Build} {k : Nat} {r : Reg} {u : Nat} (h : Claim.ofSection b k r u) :
    r.info.cls = .sec ∨ r.info.cls = .sb ∨ r.info.cls = .jct := by
  unfold Claim.ofSection at h
  split at h
  next hc => exact .inl hc
  next hc => exact .inr (.inl hc)
  next hc => exact .inr (.inr hc)
  next => exact .inl (by rw [h.1]; rfl)

theorem SafeSpread.of_moves {k : Nat} {l : List Fld} {s t : State} (h : SecMoves k l s t) : SafeSpread s t where
  flds := h.flds.mono fun g w hg => by
    unfold SpreadFld
    have := cls_of_ofSection hg.2
    tauto
  bytes a _ := by unfold State.rdByte; rw [h.mem]
  rest := by
    have e := h.rest
    have hn : t.jnl = s.jnl := by rw [e]
    rw [h.mem, hn]
    exact e

theorem SafeSpread.of_journal (s : State) (src kind : Nat) (defer : Bool) (addr old new : Nat) :
    SafeSpread s (s.journal src kind defer addr old new) where
  flds := (State.journal_flds s src kind defer addr old new).mono fun _ _ h => .inr (.inr (.inr h))
  bytes a ha := (State.journal_frame s src kind defer addr old new).bytes a (by unfold Claim.jnlByte at ha; omega)
  rest := by
    have e := (State.journal_frame s src kind defer addr old new).rest
    rw [e]

/-! ### One Section's turn -/

/-- The turn of a Section before its Journal's entry. -/
def State.safeStored (s : State) (k : Nat) : State :=
  if getF (s.reg .SEC_CTRL k) 2 1 = 0 then (s.fset F.SEC_CTRL_SAFE k 1).safeSet k else s.fset F.SEC_CTRL_SAFE k 1

theorem State.stationSafe_eq (s : State) (k : Nat) :
    s.stationSafe k = (s.safeStored k).journal wStation 0 false (0x2000 + 0x80 * k + 0xC) (s.reg .SEC_CTRL k).toNat
      ((s.safeStored k).reg .SEC_CTRL k).toNat := rfl

/-- The kinds of the fields that the turn moves. -/
def turnKinds : List Fld := F.SEC_CTRL_SAFE :: (safeKinds ++ changeKinds)

theorem State.safeStored_moves (s : State) (k : Nat) : SecMoves k turnKinds s (s.safeStored k) := by
  have h : SecMoves k turnKinds s (s.fset F.SEC_CTRL_SAFE k 1) := SecMoves.fset _ (by decide) (ofSection_sec rfl rfl)
  unfold State.safeStored
  split
  · exact h.trans ((State.safeSet_moves _ k).mono (List.subset_cons_self _ _))
  · exact h

theorem State.stationSafe_spread (s : State) (k : Nat) : SafeSpread s (s.stationSafe k) := by
  rw [State.stationSafe_eq]
  exact (SafeSpread.of_moves (State.safeStored_moves s k)).trans (SafeSpread.of_journal _ _ _ _ _ _ _)

/-- A field of no kind that the turn moves, or of another Section's root, keeps its value. -/
theorem State.fget_stationSafe (s : State) {f : Fld} {k i : Nat} (hc : f.reg.info.cls = .sec ∧ f.reg.info.count = 1)
    (hj : ∀ x ∈ Claim.jnlFields, f.reg ≠ x.1.reg)
    (h : i ≠ k ∨ ∀ g ∈ turnKinds, f.reg ≠ g.reg ∨ f.lo + f.w ≤ g.lo ∨ g.lo + g.w ≤ f.lo) :
    (s.stationSafe i).fget f k = s.fget f k := by
  have hm := State.safeStored_moves s i
  have h1 : (s.safeStored i).fget f k = s.fget f k := by
    rcases h with h | h
    · have hr : (s.safeStored i).reg f.reg k = s.reg f.reg k := hm.reg fun ho => h (by
        unfold Claim.ofSection at ho
        rw [hc.1, hc.2] at ho
        rw [← ho]
        exact Nat.div_one k)
      unfold State.fget
      rw [hr]
    · exact hm.fget h
  rw [State.stationSafe_eq, State.journal_flds _ _ _ _ _ _ _ f k (Listed.apart fun x hx => .inl (hj x hx))]
  exact h1

/-- The turn of a Section sets SAFE; where it was 0, SAFE_ACTIVE. -/
theorem State.safe_stationSafe (s : State) (k : Nat) :
    (s.stationSafe k).on F.SEC_CTRL_SAFE k = true ∧
      ((s.stationSafe k).on F.SEC_STATUS_SAFE_ACTIVE k = true ∨
        s.on F.SEC_CTRL_SAFE k = true ∧ (s.stationSafe k).on F.SEC_STATUS_SAFE_ACTIVE k = s.on F.SEC_STATUS_SAFE_ACTIVE k) := by
  have hset : (s.fset F.SEC_CTRL_SAFE k 1).on F.SEC_CTRL_SAFE k = true :=
    State.on_fsetB s F.SEC_CTRL_SAFE k true rfl (by decide)
  have hj (f : Fld) (hf : ∀ x ∈ Claim.jnlFields, f.reg ≠ x.1.reg) : (s.stationSafe k).on f k = (s.safeStored k).on f k := by
    rw [State.stationSafe_eq]
    exact State.on_congr (State.journal_flds _ _ _ _ _ _ _ f k (Listed.apart fun x hx => .inl (hf x hx)))
  rw [hj _ (by decide), hj _ (by decide)]
  unfold State.safeStored
  split
  · exact ⟨((State.safeSet_moves _ k).on (by decide)).trans hset, .inl (State.safeActive_safeSet _ k)⟩
  next h =>
    refine ⟨hset, .inr ⟨?_, State.on_congr (State.fget_fset_apart _ _ (.inl (by decide)))⟩⟩
    by_contra hoff
    exact h ((State.fget_of_on s F.SEC_CTRL_SAFE k rfl).trans (by rw [Bool.not_eq_true] at hoff; rw [hoff]; rfl))

/-! ### Every Section's turn -/

/-- Section `k` is on safe settings: SAFE reads 1, and SAFE_ACTIVE does where SAFE was 0. -/
def OnSafe (s t : State) (k : Nat) : Prop :=
  t.on F.SEC_CTRL_SAFE k = true ∧ (s.on F.SEC_CTRL_SAFE k = false → t.on F.SEC_STATUS_SAFE_ACTIVE k = true)

/-- Before its turn a Section's SAFE is what it was. -/
def Awaits (s t : State) (k : Nat) : Prop := t.on F.SEC_CTRL_SAFE k = s.on F.SEC_CTRL_SAFE k ∨ OnSafe s t k

theorem OnSafe.of_turn {s t : State} {k : Nat} (h : Awaits s t k) : OnSafe s (t.stationSafe k) k := by
  obtain ⟨hsafe, hact⟩ := State.safe_stationSafe t k
  refine ⟨hsafe, fun h0 => ?_⟩
  rcases hact with hact | ⟨hon, hact⟩
  · exact hact
  · rcases h with h | h
    · rw [hon, h0] at h
      cases h
    · rw [hact]
      exact h.2 h0

theorem OnSafe.turn {s t : State} {k : Nat} (h : OnSafe s t k) (i : Nat) : OnSafe s (t.stationSafe i) k := by
  by_cases hi : i = k
  · subst hi
    exact OnSafe.of_turn (.inr h)
  · unfold OnSafe
    rw [State.on_congr (State.fget_stationSafe t ⟨rfl, rfl⟩ (by decide) (.inl hi)),
      State.on_congr (State.fget_stationSafe t ⟨rfl, rfl⟩ (by decide) (.inl hi))]
    exact h

theorem Awaits.turn {s t : State} {k : Nat} (h : Awaits s t k) (i : Nat) : Awaits s (t.stationSafe i) k := by
  by_cases hi : i = k
  · subst hi
    exact .inr (OnSafe.of_turn h)
  · rcases h with h | h
    · exact .inl ((State.on_congr (State.fget_stationSafe t ⟨rfl, rfl⟩ (by decide) (.inl hi))).trans h)
    · exact .inr (h.turn i)

/-- Every Section's turn leaves each of them on safe settings. -/
theorem onSafe_turns (s : State) (l : List Nat) {k : Nat} (hk : k ∈ l) : OnSafe s (s.each l State.stationSafe) k :=
  State.each_reaches (fun t => Awaits s t k) (fun t => OnSafe s t k) l _ hk (fun _ i _ h => h.turn i) (fun _ i _ _ h => h.turn i)
    (fun _ h => OnSafe.of_turn h) s (.inl rfl)

theorem spread_turns (s : State) (l : List Nat) : SafeSpread s (s.each l State.stationSafe) :=
  State.each_keeps (SafeSpread s) l _ (fun t k _ h => h.trans (State.stationSafe_spread t k)) s (SafeSpread.refl s)

/-- No Section's frequency word moves. -/
theorem fw_turns (s : State) (l : List Nat) (k : Nat) : (s.each l State.stationSafe).fget F.SEC_FW_FW k = s.fget F.SEC_FW_FW k :=
  State.each_eq (fun t => t.fget F.SEC_FW_FW k) l _ (fun t _ _ =>
    State.fget_stationSafe t ⟨rfl, rfl⟩ (by decide) (.inr (by decide))) s

end Sys2Proof.Machine

namespace Sys2Proof.Claim

open Sys2Proof.Machine

/-! ### SAFE_ALL (R549) -/

theorem gctrl_plain : Reg.Plain .STN_GCTRL := ⟨fun _ _ _ _ => rfl, fun _ => rfl, by decide⟩
theorem safeAll_w1s : F.STN_GCTRL_SAFE_ALL.W1s := ⟨rfl, by decide, by decide, by decide, by decide, by decide⟩

theorem place_gctrl (b : Build) : b.place (wordAddr (regAddr .STN_GCTRL 0)) = .reg .STN_GCTRL 0 := by
  have ha : wordAddr (regAddr .STN_GCTRL 0) = 0x14 := by decide
  rw [ha]
  unfold Build.place
  rw [if_pos (by decide)]
  decide

/-- SAFE_ALL: the request waits 32 tk, from the first write on. -/
theorem safeAll_waits {s : State} (hm : HostMay s .STN_GCTRL 0) :
    Runs .safeAll s fun t =>
      t.on F.STN_GCTRL_SAFE_ALL 0 = true ∧
      (s.stn.safeAllAt = none → t.stn = { s.stn with safeAllAt := some (s.stn.elapsed + 32) }) ∧
      (s.stn.safeAllAt ≠ none → t.stn = s.stn) ∧ HostOnly { s with stn := t.stn } t [(F.STN_GCTRL_SAFE_ALL, 0)] := by
  obtain ⟨j, p, hs, hval, hw⟩ := State.hostBit_w1s (f := F.STN_GCTRL_SAFE_ALL) s gctrl_plain safeAll_w1s hm
    (place_gctrl s.build) (by decide) (safeKept_of_ne s (by decide))
  have hon : j.on F.STN_GCTRL_SAFE_ALL 0 = true := by
    unfold State.on
    rw [hval]
    rfl
  have hw' : s.hostBit F.STN_GCTRL_SAFE_ALL 0 = j.safeAllWritten := hw
  have hflds : FldsKeep (Listed [(F.STN_GCTRL_SAFE_ALL, 0)]) j j.safeAllWritten := by
    unfold State.safeAllWritten
    split
    · exact FldsKeep.ofRegs rfl rfl
    · exact FldsKeep.refl _ j
  have honly := HostOnly.of_stored_stn hs hflds (fun _ h => h) (by
    unfold State.safeAllWritten
    split <;> rfl)
  refine Runs.of_act (f := fun s => s.hostBit F.STN_GCTRL_SAFE_ALL 0) rfl hm.1 (by rw [hw']; exact honly.lives) ?_
  rw [hw']
  refine ⟨?_, fun hnone => ?_, fun hsome => ?_, honly⟩
  · unfold State.safeAllWritten
    split
    · exact hon
    · exact hon
  · unfold State.safeAllWritten
    rw [hon, hs.stn, hnone]
    rfl
  · have hc : s.stn.safeAllAt.isNone = false := by
      rw [Option.isNone_eq_false_iff, Option.isSome_iff_ne_none]
      exact hsome
    unfold State.safeAllWritten
    rw [hon, hs.stn, hc]
    exact hs.stn

/-! ### SAFE_ALL_APPLY and DESK0_SAFE (R103, R332, R549) -/

/-- SAFE in every Section, from a state that differs in the Station, the Desks and STN_GCTRL alone, with no Desk's action
due. -/
theorem allSafe_of_safeEverywhere {s v : State} (hr : ∀ r u, r ≠ .STN_GCTRL → v.reg r u = s.reg r u)
    (hv : v = { s with regs := v.regs, stn := v.stn, dsp := v.dsp }) (he : v.stn.elapsed = s.stn.elapsed)
    (hacts : ∀ x ∈ v.dsp.acts, v.actDue x = false) :
    AllSafe s v.safeEverywhere ∧ v.safeEverywhere.stn = { v.stn with safeEdge := some s.stn.elapsed } ∧
      v.safeEverywhere.dsp = v.dsp ∧ v.safeEverywhere.reg .STN_GCTRL 0 = v.reg .STN_GCTRL 0 := by
  have hfirst : v.desksFirst = v := by
    unfold State.desksFirst
    exact if_neg (by simpa using hacts)
  have heq : v.safeEverywhere =
      (v.setStn { v.stn with safeEdge := some s.stn.elapsed }).each (List.range s.build.nSections) State.stationSafe := by
    have hb : v.build = s.build := by rw [hv]
    unfold State.safeEverywhere
    rw [hfirst, ← he, ← hb]
  have hspread := spread_turns (v.setStn { v.stn with safeEdge := some s.stn.elapsed }) (List.range s.build.nSections)
  have hreg (r : Reg) (u : Nat) (h1 : r.info.cls ≠ .sec) (h2 : r.info.cls ≠ .sb) (h3 : r.info.cls ≠ .jct)
      (h4 : (r, u) ∉ jnlRegs) : v.safeEverywhere.reg r u = v.reg r u := by
    rw [heq]
    refine hspread.flds.reg fun g w hg => ?_
    by_cases hrg : r = g.reg
    · refine .inr fun huw => ?_
      rcases hg with hg | hg | hg | hg
      · exact h1 (by rw [hrg]; exact hg)
      · exact h2 (by rw [hrg]; exact hg)
      · exact h3 (by rw [hrg]; exact hg)
      · exact h4 (by
          rw [hrg, huw]
          exact (by decide : ∀ x ∈ jnlFields, (x.1.reg, x.2) ∈ jnlRegs) (g, w) hg)
    · exact .inl hrg
  have hstn : v.safeEverywhere.stn = { v.stn with safeEdge := some s.stn.elapsed } := by
    rw [heq, hspread.rest]
    rfl
  have hdsp : v.safeEverywhere.dsp = v.dsp := by
    rw [heq, hspread.rest]
    rfl
  have hon (f : Fld) (k : Nat) (hf : f.reg ≠ .STN_GCTRL) : v.on f k = s.on f k := by
    unfold State.on State.fget
    rw [hr f.reg k hf]
  refine ⟨⟨fun k hk => ?_, by rw [hstn], fun r u h1 h2 h3 _ h5 h6 => (hreg r u h1 h2 h3 h6).trans (hr r u h5), ?_, ?_⟩,
    hstn, hdsp, hreg _ _ (by decide) (by decide) (by decide) (by decide)⟩
  · obtain ⟨hsafe, hact⟩ := onSafe_turns (v.setStn { v.stn with safeEdge := some s.stn.elapsed }) (List.range s.build.nSections)
      (List.mem_range.2 hk)
    rw [heq]
    refine ⟨hsafe, fun h0 => hact ((hon _ k (by decide)).trans h0), (fw_turns _ _ k).trans ?_⟩
    show getF (v.reg .SEC_FW k) 0 18 = getF (s.reg .SEC_FW k) 0 18
    rw [hr .SEC_FW k (by decide)]
  · intro a ha
    have hm : v.mem = s.mem := by rw [hv]
    rw [heq]
    refine (hspread.bytes a ha).trans ?_
    show v.rdByte a = s.rdByte a
    unfold State.rdByte
    rw [hm]
  · have e := hspread.rest
    rw [← heq] at e
    have e' : v.setStn { v.stn with safeEdge := some s.stn.elapsed } =
        { s with regs := v.regs, stn := { v.stn with safeEdge := some s.stn.elapsed }, dsp := v.dsp } := by
      rw [hv]
      rfl
    rw [e'] at e
    rw [hstn, hdsp]
    exact e

/-- An action that is due is so by the count and the Desks alone. -/
theorem actDue_congr {s v : State} (hc : v.count = s.count) (x : Act) : v.actDue x = s.actDue x := by
  unfold State.actDue
  rw [hc]

theorem AllSafe.lives {s t : State} (h : AllSafe s t) : Lives s t := by
  obtain ⟨-, -, -, -, hrest⟩ := h
  unfold Lives
  rw [hrest]
  exact ⟨rfl, rfl, rfl⟩

/-- The host's request is over. -/
def requestOver (s : State) : State := (s.setStn { s.stn with safeAllAt := none }).fset F.STN_GCTRL_SAFE_ALL 0 0

/-- The requests of Desk 0's faults that are due are over. -/
def faultsOver (s : State) : State := s.setDsp { s.dsp with safeAt := s.dsp.safeAt.filter (s.stn.elapsed < ·) }

/-- SAFE_ALL_APPLY (R549). -/
theorem safeAllApply {s : State} {a : Nat} (hp : s.por = false) (hacts : ∀ x ∈ s.dsp.acts, s.actDue x = false)
    (hat : s.stn.safeAllAt = some a) (ha : a ≤ s.stn.elapsed) :
    Runs .safeAllApply s fun t =>
      t.stn = { s.stn with safeAllAt := none, safeEdge := t.stn.safeEdge } ∧ t.on F.STN_GCTRL_SAFE_ALL 0 = false ∧
      t.dsp = s.dsp ∧ AllSafe s t := by
  have hgo : (s.iff (s.stn.safeAllAt.any (· ≤ s.stn.elapsed)) fun s => (requestOver s).safeEverywhere) =
      (requestOver s).safeEverywhere := if_pos (by rw [hat]; exact decide_eq_true ha)
  obtain ⟨hall, hstn, hdsp, hg⟩ := allSafe_of_safeEverywhere (s := s) (v := requestOver s)
    (fun r u hr => State.reg_setReg_ne _ _ (.inl hr)) rfl rfl (fun x hx => (actDue_congr (s := s) rfl x).trans (hacts x hx))
  have hoff : (requestOver s).on F.STN_GCTRL_SAFE_ALL 0 = false :=
    State.on_fsetB (s.setStn { s.stn with safeAllAt := none }) F.STN_GCTRL_SAFE_ALL 0 false rfl (by decide)
  refine Runs.of_act (f := fun s => s.iff (s.stn.safeAllAt.any (· ≤ s.stn.elapsed)) fun s => (requestOver s).safeEverywhere)
    rfl hp (hgo ▸ hall.lives) ?_
  rw [hgo]
  refine ⟨by rw [hstn]; rfl, ?_, by rw [hdsp]; rfl, hall⟩
  rw [← hoff]
  unfold State.on State.fget
  rw [show (requestOver s).safeEverywhere.reg F.STN_GCTRL_SAFE_ALL.reg 0 = _ from hg]
  rfl

/-- DESK0_SAFE (R103, R332). -/
theorem desk0Safe {s : State} {a : Nat} (hp : s.por = false) (hacts : ∀ x ∈ s.dsp.acts, s.actDue x = false)
    (hat : a ∈ s.dsp.safeAt) (ha : a ≤ s.stn.elapsed) :
    Runs .desk0Safe s fun t =>
      t.dsp = { s.dsp with safeAt := s.dsp.safeAt.filter fun x => s.stn.elapsed < x } ∧
      t.stn = { s.stn with safeEdge := t.stn.safeEdge } ∧
      t.fget F.STN_GCTRL_SAFE_ALL 0 = s.fget F.STN_GCTRL_SAFE_ALL 0 ∧ AllSafe s t := by
  have hgo : (s.iff (s.dsp.safeAt.any (· ≤ s.stn.elapsed)) fun s => (faultsOver s).safeEverywhere) =
      (faultsOver s).safeEverywhere := if_pos (List.any_eq_true.2 ⟨a, hat, decide_eq_true ha⟩)
  obtain ⟨hall, hstn, hdsp, hg⟩ := allSafe_of_safeEverywhere (s := s) (v := faultsOver s) (fun _ _ _ => rfl) rfl rfl
    (fun x hx => (actDue_congr (s := s) rfl x).trans (hacts x hx))
  refine Runs.of_act (f := fun s => s.iff (s.dsp.safeAt.any (· ≤ s.stn.elapsed)) fun s => (faultsOver s).safeEverywhere)
    rfl hp (hgo ▸ hall.lives) ?_
  rw [hgo]
  refine ⟨hdsp, by rw [hstn]; rfl, ?_, hall⟩
  unfold State.fget
  rw [show (faultsOver s).safeEverywhere.reg F.STN_GCTRL_SAFE_ALL.reg 0 = _ from hg]
  rfl

/-- Settles O27: each Section takes its turn, and no Section's turn undoes another's. -/
theorem safeEverywhere : Obligations.SafeEverywhere := fun _ _ =>
  ⟨fun hm => safeAll_waits hm, fun hp hacts => ⟨fun hat ha => safeAllApply hp hacts hat ha, fun hat ha => desk0Safe hp hacts hat ha⟩⟩

end Sys2Proof.Claim
end

section
/-! SUPPORT. The causes of gating: how one begins, ends and is withdrawn, and the host's writes of SB_GATE (R119, R120, R126, R364). -/

namespace Sys2Proof.Machine

/-! ### Causes begin and end (R120, R122, R364) -/

theorem State.gateCause_congr {s t : State} (hr : t.regs = s.regs) (hb : t.build = s.build) (r : Nat) :
    t.gateCause r = s.gateCause r := by
  have h (f : Fld) : t.on f r = s.on f r := by
    unfold State.on State.fget
    rw [State.reg_congr hr hb]
  unfold State.gateCause
  rw [h, h, h, h]

theorem State.causeEndedAt_frame (s : State) (r p : Nat) :
    s.causeEndedAt r p = { s with rgns := (s.causeEndedAt r p).rgns } := by
  unfold State.causeEndedAt
  split <;> rfl

theorem State.causeEnded_frame (s : State) (r : Nat) : s.causeEnded r = { s with rgns := (s.causeEnded r).rgns } :=
  State.causeEndedAt_frame s r _

theorem State.causeBegun_frame (s : State) (r : Nat) : s.causeBegun r = { s with rgns := (s.causeBegun r).rgns } := by
  unfold State.causeBegun
  dsimp only
  split <;> rfl

theorem State.causeWithdrawn_frame (s : State) (r : Nat) : s.causeWithdrawn r = { s with rgns := (s.causeWithdrawn r).rgns } := by
  unfold State.causeWithdrawn
  dsimp only
  split
  · rfl
  · exact State.causeEnded_frame s r

theorem State.rgn_causeEndedAt_ne (s : State) {r q : Nat} (p : Nat) (h : q ≠ r) : (s.causeEndedAt r p).rgn q = s.rgn q := by
  unfold State.causeEndedAt
  split
  · rw [State.rgn_setRgn, if_neg h]
  · rfl

theorem State.rgn_causeBegun (s : State) (r q : Nat) :
    (s.causeBegun r).rgn q = if q = r then
      { s.rgn r with
        stopDue := (s.rgn r).stopDue || s.clk r == 1, restartMin := none
        stopTk := if s.clk r = 1 ∧ (s.rgn r).stopDue = false then s.stn.elapsed else (s.rgn r).stopTk }
    else s.rgn q := by
  by_cases h : s.fget F.SB_CLK_STATUS_STATE r = 1 ∧ (!(s.rgn r).stopDue) = true
  · have hb : s.causeBegun r = s.setRgn r { s.rgn r with stopDue := true, stopTk := s.stn.elapsed, restartMin := none } := if_pos h
    obtain ⟨hc, hd⟩ := h
    have hc' : s.clk r = 1 := hc
    have hd' : (s.rgn r).stopDue = false := by simpa using hd
    rw [hb, State.rgn_setRgn, hc', hd', if_pos (⟨rfl, rfl⟩ : (1 : Nat) = 1 ∧ false = false)]
    rfl
  · have hb : s.causeBegun r = s.setRgn r { s.rgn r with restartMin := none } := if_neg h
    have hd : ((s.rgn r).stopDue || s.clk r == 1) = (s.rgn r).stopDue := by
      cases hs : (s.rgn r).stopDue with
      | true => rfl
      | false => exact beq_eq_false_iff_ne.2 fun hc => h ⟨hc, by rw [hs]; rfl⟩
    have hno : ¬ (s.clk r = 1 ∧ (s.rgn r).stopDue = false) := fun hh => h ⟨hh.1, by rw [hh.2]; rfl⟩
    rw [hb, State.rgn_setRgn, hd, if_neg hno]

/-! ### The effect of a stored SB_GATE -/

/-- What FAULT's clearing does of a write of SB_GATE. -/
def State.faultWritten (s : State) (r : Nat) (old w : Word) (persists : Bool) : State :=
  let leaf := s.fget F.SB_GATE_FAULT_CAUSE r == 3 && s.on F.SB_SPINE_FAILED r && !s.on F.SB_SPINE_OVR_EN r
  if getF w 31 1 = 1 ∧ getF old 31 1 = 1 ∧ !s.on F.SB_GATE_FAULT r then
    if persists || leaf then s.setFlag F.SB_GATE_FAULT r else (s.fset F.SB_GATE_FAULT_CAUSE r 0).causeEnded r
  else s

/-- What FORCE's change does of a write of SB_GATE. -/
def State.forceWritten (s : State) (r : Nat) (old : Word) : State :=
  if getF old 25 1 = 0 ∧ s.on F.SB_GATE_FORCE r then s.causeBegun r
  else if getF old 25 1 = 1 ∧ !s.on F.SB_GATE_FORCE r then s.causeWithdrawn r
  else s

/-- What WAKE does of a write of SB_GATE. -/
def State.wakeWritten (s : State) (r : Nat) (w : Word) : State :=
  if getF w 24 1 = 1 ∧ s.on F.SB_GATE_PORT r then (s.fset F.SB_GATE_PORT r 0).causeEnded r else s

theorem State.gateWritten_eq (s : State) (r : Nat) (old w : Word) (persists : Bool) :
    s.gateWritten r old w persists = ((s.faultWritten r old w persists).forceWritten r old).wakeWritten r w := rfl

theorem State.faultWritten_off {s : State} {r : Nat} {old w : Word} {persists : Bool} (h : getF w 31 1 ≠ 1) :
    s.faultWritten r old w persists = s := if_neg fun hh => h hh.1

theorem State.forceWritten_same {s : State} {r : Nat} {old : Word} (h : s.fget F.SB_GATE_FORCE r = getF old 25 1) :
    s.forceWritten r old = s := by
  rw [State.fget_of_on s F.SB_GATE_FORCE r rfl] at h
  unfold State.forceWritten
  rw [← h]
  cases s.on F.SB_GATE_FORCE r <;> rfl

theorem State.wakeWritten_off {s : State} {r : Nat} {w : Word} (h : getF w 24 1 ≠ 1) : s.wakeWritten r w = s :=
  if_neg fun hh => h hh.1

end Sys2Proof.Machine

namespace Sys2Proof.Claim

open Sys2Proof.Machine

/-! ### The place of a restart (R120) -/

theorem restartAt_restartPos (s : State) (k : Nat) : RestartAt (s.sec k).acc (s.restartPos k) := by
  unfold RestartAt State.restartPos
  omega

/-- A cause's end, from the state in which it has ended. -/
theorem causeEndsAt_of {s u : State} {r x p : Nat} (hr : u.rgn r = s.rgn r) (hc : u.clk r = s.clk r)
    (hs : u.secState (s.build.sectionOf r) = s.secState (s.build.sectionOf r)) (hb : u.build = s.build) (hp : RestartAt x p) :
    CauseEndsAt s (u.causeEndedAt r p) r x := by
  have hg : (u.causeEndedAt r p).gateCause r = u.gateCause r :=
    State.gateCause_congr (by rw [State.causeEndedAt_frame]) (by rw [State.causeEndedAt_frame]) r
  have hrun : u.secRuns r = true ↔ s.secState (s.build.sectionOf r) = 2 ∨ s.secState (s.build.sectionOf r) = 3 := by
    unfold State.secRuns
    dsimp only
    rw [hb, hs, Bool.or_eq_true, beq_iff_eq, beq_iff_eq]
  unfold CauseEndsAt
  rw [hg]
  unfold State.causeEndedAt
  by_cases h : s.clk r = 2 ∧ u.gateCause r = false ∧
      (s.secState (s.build.sectionOf r) = 2 ∨ s.secState (s.build.sectionOf r) = 3)
  · obtain ⟨h1, h2, h3⟩ := h
    have hgo : u.clk r = 2 ∧ (!u.gateCause r) = true ∧ u.secRuns r = true :=
      ⟨hc.trans h1, by rw [h2]; rfl, hrun.2 h3⟩
    rw [if_pos ⟨h1, h2, h3⟩, if_pos hgo]
    exact ⟨p, by rw [State.rgn_setRgn, if_pos rfl, hr], hp⟩
  · have hno : ¬ (u.clk r = 2 ∧ (!u.gateCause r) = true ∧ u.secRuns r = true) := fun hh =>
      h ⟨hc.symm.trans hh.1, by simpa using hh.2.1, hrun.1 hh.2.2⟩
    rw [if_neg h, if_neg hno, hr]

theorem causeEnds_of {s u : State} {r : Nat} (hr : u.rgn r = s.rgn r) (hc : u.clk r = s.clk r)
    (hs : u.secState (s.build.sectionOf r) = s.secState (s.build.sectionOf r)) (hb : u.build = s.build)
    (hk : u.sec (s.build.sectionOf r) = s.sec (s.build.sectionOf r)) : CauseEnds s (u.causeEnded r) r := by
  unfold CauseEnds State.causeEnded
  refine causeEndsAt_of hr hc hs hb ?_
  rw [hb, ← hk]
  exact restartAt_restartPos u _

/-! ### The host writes SB_GATE -/

theorem sbGate_lies : Reg.LiesAt .SB_GATE .sb 0x100 := by unfold Reg.LiesAt; decide
theorem sbGate_plain : Reg.Plain .SB_GATE := ⟨fun _ _ _ _ => rfl, fun _ => rfl, by decide⟩
theorem force_rw : F.SB_GATE_FORCE.Rw := ⟨by decide, by decide, by decide, by decide, by decide⟩

section
variable {s : State} {q : Reg} {r : Nat} (h : HostBox s q r)
include h

/-- A command that writes a register of a Signal Box that the die has. -/
theorem HostBox.runs {c : Instr} {P : State → Prop} {f : State → State}
    (hc : exec c s = s.act fun s => s.iff (s.isRegion r) f) (hl : Lives s (f s)) (hP : P (f s)) : Runs c s P := by
  obtain ⟨⟨hp, -⟩, hr, -⟩ := h
  have hi : s.iff (s.isRegion r) f = f s := by simp [State.iff, State.isRegion, hr]
  exact Runs.of_act hc hp (by rw [hi]; exact hl) (by rw [hi]; exact hP)

theorem HostBox.place (hq : q.LiesAt .sb 0x100) : s.build.place (wordAddr (regAddr q r)) = .reg q r :=
  s.build.place_sb hq h.2.1 h.2.2

theorem HostBox.mapped (hq : q.LiesAt .sb 0x100) : mapped (regAddr q r) = true := by
  obtain ⟨-, hr, hn⟩ := h
  exact mapped_sb hq (by omega)

end

/-! ### GATE_WAKE_WRITE and WAKE_INPUT (R119, R120) -/

/-- Cause PORT ends, where it is present, for a restart at a place. -/
def portEnded (s : State) (r p : Nat) : State :=
  if s.on F.SB_GATE_PORT r then (s.fset F.SB_GATE_PORT r 0).causeEndedAt r p else s

theorem portEnded_flds (s : State) (r p : Nat) : FldsKeep (Listed [(F.SB_GATE_PORT, r)]) s (portEnded s r p) := by
  unfold portEnded
  split
  · refine ((FldsKeep.refl _ s).fset 0 (List.mem_singleton_self _)).beside ?_ ?_
    · rw [State.causeEndedAt_frame]
    · rw [State.causeEndedAt_frame]
  · exact FldsKeep.refl _ s

theorem portEnded_frame (s : State) (r p : Nat) :
    portEnded s r p = { s with regs := (portEnded s r p).regs, rgns := (portEnded s r p).rgns } := by
  unfold portEnded
  split
  · rw [State.causeEndedAt_frame]
    rfl
  · rfl

theorem rgn_portEnded_ne (s : State) {r q : Nat} (p : Nat) (h : q ≠ r) : (portEnded s r p).rgn q = s.rgn q := by
  unfold portEnded
  split
  · exact State.rgn_causeEndedAt_ne (s.fset F.SB_GATE_PORT r 0) _ h
  · rfl

theorem port_portEnded (s : State) (r p : Nat) : (portEnded s r p).on F.SB_GATE_PORT r = false := by
  unfold portEnded
  split
  · rw [State.causeEndedAt_frame]
    exact State.on_fsetB s F.SB_GATE_PORT r false rfl (by decide)
  next h => exact Bool.not_eq_true _ ▸ h

/-- PORT's end is a cause's end, from a state that shows the same of the region and of its Section's STATE. -/
theorem causeEndsAt_portEnded {s j : State} {r x p : Nat} (hon : j.on F.SB_GATE_PORT r = true) (hr : j.rgn r = s.rgn r)
    (hc : j.clk r = s.clk r) (hs : j.secState (s.build.sectionOf r) = s.secState (s.build.sectionOf r)) (hb : j.build = s.build)
    (hp : RestartAt x p) : CauseEndsAt s (portEnded j r p) r x := by
  unfold portEnded
  rw [if_pos hon]
  exact causeEndsAt_of hr ((State.fget_fset_apart _ _ (.inl (by decide))).trans hc)
    ((State.fget_fset_apart _ _ (.inl (by decide))).trans hs) hb hp

/-- What a host write of WAKE leaves. -/
theorem gateWake {s : State} {r : Nat} (h : HostBox s .SB_GATE r) :
    Runs (.gateWakeWrite r) s fun t =>
      t.on F.SB_GATE_PORT r = false ∧ (s.on F.SB_GATE_PORT r = true → CauseEnds s t r) ∧
      (s.on F.SB_GATE_PORT r = false → HostOnly s t []) ∧ OtherBoxes s t r ∧
      HostOnly { s with rgns := t.rgns } t [(F.SB_GATE_PORT, r)] := by
  obtain ⟨j, p, hs, hw⟩ := State.hostWord_wo s (putF 0 24 1 1) (maskF 24 1) sbGate_plain (by decide) (by decide) (by decide)
    (by decide) h.1 (h.place sbGate_lies) (h.mapped sbGate_lies) (safeKept_of_ne s (by decide))
  have hctl (f : Fld) (u : Nat) (hf : ∀ x ∈ jnlFields, f.reg ≠ x.1.reg) : j.fget f u = s.fget f u :=
    hs.fget (fun x hx => by cases hx) hf
  have heq : s.hostField F.SB_GATE_WAKE r 1 = portEnded j r (j.restartPos (j.build.sectionOf r)) := by
    refine hw.trans ?_
    show j.gateWritten r (s.reg .SB_GATE r) (putF 0 24 1 1 &&& maskF 24 1) p = _
    rw [State.gateWritten_eq, State.faultWritten_off (by decide),
      State.forceWritten_same (old := s.reg .SB_GATE r) (hctl F.SB_GATE_FORCE r (by decide))]
    unfold State.wakeWritten portEnded
    rw [show getF (putF 0 24 1 1 &&& maskF 24 1) 24 1 = 1 by decide]
    simp only [true_and]
    rfl
  have hport : j.on F.SB_GATE_PORT r = s.on F.SB_GATE_PORT r := State.on_congr (hctl _ r (by decide))
  have honly := HostOnly.of_stored_rgns hs (portEnded_flds j r (j.restartPos (j.build.sectionOf r))) (fun _ hx => by cases hx)
    (by rw [portEnded_frame])
  refine HostBox.runs h rfl (by rw [heq]; exact honly.lives) ?_
  rw [heq]
  refine ⟨port_portEnded j r _, fun hon => ?_, fun hoff => ?_, fun q hq => (rgn_portEnded_ne j _ hq).trans (hs.rgn q), honly⟩
  · refine causeEndsAt_portEnded (hport.trans hon) (hs.rgn r) (hctl _ r (by decide)) (hctl _ _ (by decide)) hs.build ?_
    rw [hs.build, ← hs.sec]
    exact restartAt_restartPos j _
  · have hj : portEnded j r (j.restartPos (j.build.sectionOf r)) = j := if_neg (by rw [hport, hoff]; exact Bool.false_ne_true)
    rw [hj]
    exact HostOnly.of_stored_only hs (FldsKeep.refl _ j) (fun _ hx => hx) rfl

/-- What WAKE_INPUT leaves. -/
theorem wakeInput {s : State} {r edge : Nat} (hp : s.por = false) (hr : r < s.build.nRegions)
    (h1 : (s.sec (s.build.sectionOf r)).acc ≤ 65536 * edge)
    (h2 : 65536 * edge < (s.sec (s.build.sectionOf r)).acc + s.fwCur (s.build.sectionOf r)) :
    Runs (.wakeInput r edge) s fun t =>
      t.on F.SB_GATE_PORT r = false ∧ (s.on F.SB_GATE_PORT r = true → CauseEndsAt s t r (65536 * edge)) ∧
      (s.on F.SB_GATE_PORT r = false → t = s) ∧ OtherBoxes s t r ∧ Only { s with rgns := t.rgns } t [(F.SB_GATE_PORT, r)] := by
  have hcomes : s.posComes (s.build.sectionOf r) (16 * edge) = true := decide_eq_true (by omega)
  have hi : (s.iff (s.isRegion r && s.on F.SB_GATE_PORT r && (s.sec (s.build.sectionOf r)).acc ≤ 65536 * edge &&
      s.posComes (s.build.sectionOf r) (16 * edge)) fun s => (s.fset F.SB_GATE_PORT r 0).causeEndedAt r (16 * (edge + 2))) =
      portEnded s r (16 * (edge + 2)) := by
    unfold State.iff portEnded State.isRegion
    rw [hcomes, decide_eq_true hr, decide_eq_true h1, Bool.true_and, Bool.and_true, Bool.and_true]
  have hmoves : Only { s with rgns := (portEnded s r (16 * (edge + 2))).rgns } (portEnded s r (16 * (edge + 2)))
      [(F.SB_GATE_PORT, r)] :=
    ⟨(portEnded_flds s r _).bitsKeep, by rw [portEnded_frame]⟩
  refine Runs.of_act (f := fun s => s.iff (s.isRegion r && s.on F.SB_GATE_PORT r && (s.sec (s.build.sectionOf r)).acc ≤ 65536 * edge
    && s.posComes (s.build.sectionOf r) (16 * edge)) fun s => (s.fset F.SB_GATE_PORT r 0).causeEndedAt r (16 * (edge + 2)))
    rfl hp (by rw [hi]; exact hmoves.lives) ?_
  rw [hi]
  refine ⟨port_portEnded s r _, fun hon => ?_, fun hoff => if_neg (by rw [hoff]; exact Bool.false_ne_true),
    fun q hq => rgn_portEnded_ne s _ hq, hmoves⟩
  refine causeEndsAt_portEnded hon rfl rfl rfl rfl ?_
  unfold RestartAt
  omega

/-- GATE_WAKE_WRITE and WAKE_INPUT (R119, R120). -/
theorem wakes (s : State) (r edge : Nat) : Wakes s r edge := ⟨gateWake, wakeInput⟩

end Sys2Proof.Claim
end

section
/-! SUPPORT. GATE_FORCE_WRITE and GATE_FAULT_CLEAR (R120, R122, R126, R364). -/

namespace Sys2Proof.Claim

open Sys2Proof.Machine

/-! ### GATE_FORCE_WRITE (R120, R122, R364) -/

theorem forceWritten_frame (s : State) (r : Nat) (old : Word) :
    s.forceWritten r old = { s with rgns := (s.forceWritten r old).rgns } := by
  unfold State.forceWritten
  split
  · exact State.causeBegun_frame s r
  · split
    · exact State.causeWithdrawn_frame s r
    · rfl

theorem rgn_causeWithdrawn_ne (s : State) {r q : Nat} (h : q ≠ r) : (s.causeWithdrawn r).rgn q = s.rgn q := by
  unfold State.causeWithdrawn
  dsimp only
  split
  · rw [State.rgn_setRgn, if_neg h]
  · exact State.rgn_causeEndedAt_ne s _ h

theorem rgn_forceWritten_ne (s : State) {r q : Nat} (old : Word) (h : q ≠ r) : (s.forceWritten r old).rgn q = s.rgn q := by
  unfold State.forceWritten
  split
  · rw [State.rgn_causeBegun, if_neg h]
  · split
    · exact rgn_causeWithdrawn_ne s h
    · rfl

/-- A cause that ends at the edge at which one began, with none left, withholds no edge; another is a cause's end. -/
theorem causeWithdrawn_of {s j : State} {r : Nat} (hr : j.rgn r = s.rgn r) (hc : j.clk r = s.clk r)
    (hs : j.secState (s.build.sectionOf r) = s.secState (s.build.sectionOf r)) (hb : j.build = s.build)
    (hk : j.sec (s.build.sectionOf r) = s.sec (s.build.sectionOf r)) (he : j.stn = s.stn) :
    if (s.rgn r).stopDue = true ∧ (s.rgn r).stopTk = s.stn.elapsed ∧ (j.causeWithdrawn r).gateCause r = false then
      (j.causeWithdrawn r).rgn r = { s.rgn r with stopDue := false }
    else CauseEnds s (j.causeWithdrawn r) r := by
  have hg : (j.causeWithdrawn r).gateCause r = j.gateCause r :=
    State.gateCause_congr (by rw [State.causeWithdrawn_frame]) (by rw [State.causeWithdrawn_frame]) r
  have hif : ((j.rgn r).stopDue && (j.rgn r).stopTk == j.stn.elapsed && !j.gateCause r) = true ↔
      (s.rgn r).stopDue = true ∧ (s.rgn r).stopTk = s.stn.elapsed ∧ j.gateCause r = false := by
    simp [hr, he, and_assoc]
  rw [hg]
  split
  next h =>
    have hw : j.causeWithdrawn r = j.setRgn r { j.rgn r with stopDue := false } := if_pos (hif.2 h)
    rw [hw, State.rgn_setRgn, if_pos rfl, hr]
  next h =>
    have hw : j.causeWithdrawn r = j.causeEnded r := if_neg fun hh => h (hif.1 hh)
    rw [hw]
    exact causeEnds_of hr hc hs hb hk

/-- GATE_FORCE_WRITE (R120, R122, R364). -/
theorem force (s : State) (r : Nat) (on : Bool) : Force s r on := by
  intro h
  obtain ⟨j, p, hs, hval, hw⟩ := State.hostField_rw (f := F.SB_GATE_FORCE) (v := on.toNat) s sbGate_plain force_rw h.1
    (h.place sbGate_lies) (h.mapped sbGate_lies) (safeKept_of_ne s (by decide)) (by cases on <;> decide)
  have hother (f : Fld) (u : Nat) (hf : f.reg ≠ .SB_GATE) (hj : ∀ x ∈ jnlFields, f.reg ≠ x.1.reg) : j.fget f u = s.fget f u :=
    hs.fget_other rfl hf hj
  have hw31 : getF (putF 0 25 1 on.toNat &&& maskF 25 1) 31 1 ≠ 1 := by cases on <;> decide
  have hw24 : getF (putF 0 25 1 on.toNat &&& maskF 25 1) 24 1 ≠ 1 := by cases on <;> decide
  have heq : s.hostField F.SB_GATE_FORCE r on.toNat = j.forceWritten r (s.reg .SB_GATE r) := by
    refine hw.trans ?_
    show j.gateWritten r (s.reg .SB_GATE r) (putF 0 25 1 on.toNat &&& maskF 25 1) p = _
    rw [State.gateWritten_eq, State.faultWritten_off hw31, State.wakeWritten_off hw24]
  have hon : j.on F.SB_GATE_FORCE r = on := by
    unfold State.on
    rw [hval]
    cases on <;> rfl
  have hold : getF (s.reg .SB_GATE r) 25 1 = (s.on F.SB_GATE_FORCE r).toNat := getF_of_on (f := F.SB_GATE_FORCE) rfl rfl
  have hclk : j.clk r = s.clk r := hother _ _ (by decide) (by decide)
  have hflds : FldsKeep (Listed [(F.SB_GATE_FORCE, r)]) j (j.forceWritten r (s.reg .SB_GATE r)) :=
    FldsKeep.ofRegs (by rw [forceWritten_frame]) (by rw [forceWritten_frame])
  have honly := HostOnly.of_stored_rgns hs hflds (fun _ hx => hx) (by rw [forceWritten_frame])
  refine HostBox.runs h rfl (by rw [heq]; exact honly.lives) ?_
  rw [heq]
  refine ⟨?_, fun h1 h2 => ?_, fun h1 h2 => ?_, fun h1 => ?_, fun q hq => (rgn_forceWritten_ne j _ hq).trans (hs.rgn q), honly⟩
  · rw [forceWritten_frame]
    exact hon
  · have hb : j.forceWritten r (s.reg .SB_GATE r) = j.causeBegun r := if_pos ⟨by rw [hold, h2]; rfl, hon.trans h1⟩
    rw [hb, State.rgn_causeBegun, if_pos rfl, hs.rgn, hclk, hs.stn]
  · have hb : j.forceWritten r (s.reg .SB_GATE r) = j.causeWithdrawn r := by
      unfold State.forceWritten
      rw [hold, h2, hon, h1]
      rfl
    rw [hb]
    exact causeWithdrawn_of (hs.rgn r) hclk (hother _ _ (by decide) (by decide)) hs.build (hs.sec _) hs.stn
  · rw [State.forceWritten_same (old := s.reg .SB_GATE r) (by rw [hval, hold, h1])]
    exact hs.rgns

/-! ### GATE_FAULT_CLEAR (R126) -/

/-- A host write of 1 to FAULT, not set at this edge, clears it; what follows is the effect. -/
theorem faultCleared {s : State} {r : Nat} (h : HostBox s .SB_GATE r) (hfresh : (s.freshBits .SB_GATE r).toNat.testBit 31 = false)
    (persists : Bool) :
    ∃ j, Stored [(F.SB_GATE_FAULT, r)] s j ∧ j.fget F.SB_GATE_FAULT r = 0 ∧
      s.hostWord (regAddr .SB_GATE r) (maskF 31 1) (maskF 31 1) (some persists) =
        j.gateWritten r (s.reg .SB_GATE r) (maskF 31 1) persists := by
  obtain ⟨j, h1, h2, h3⟩ := State.hostWord_effect s (maskF 31 1) (maskF 31 1) (some persists) h.1 (h.place sbGate_lies)
    (h.mapped sbGate_lies) (sbGate_plain.img s)
  have hf : maskF 31 1 &&& s.freshBits .SB_GATE r = 0#32 := by
    apply BitVec.eq_of_getLsbD_eq
    intro i hi
    rw [BitVec.getLsbD_and, maskF_getLsbD, BitVec.getLsbD_zero]
    by_cases h31 : i = 31
    · subst h31
      rw [← BitVec.testBit_toNat, hfresh, Bool.and_false]
    · rw [decide_eq_false (by omega), Bool.false_and]
  have hw : s.answered.store .SB_GATE r (maskF 31 1) (maskF 31 1) = s.answered.fset F.SB_GATE_FAULT r 0 := by
    rw [sbGate_plain.store, State.written_w1c s.answered r (by decide) (by decide) (by decide) (safeKept_of_ne _ (by decide)) hf]
    rfl
  rw [hw] at h1 h2
  obtain ⟨hs, hval⟩ := Stored.of_fset (f := F.SB_GATE_FAULT) sbGate_plain (by decide) (by decide) h1 h2
  refine ⟨j, hs, hval, h3.trans ((State.effectOf_effect j r _ _ _ _ (by decide)).trans ?_)⟩
  show j.gateWritten r (s.reg .SB_GATE r) (maskF 31 1 &&& maskF 31 1) persists = _
  rw [BitVec.and_self]

/-- The fields that the clearing of FAULT moves. -/
def faultFields (r : Nat) : List (Fld × Nat) := [(F.SB_GATE_FAULT, r), (F.SB_GATE_FAULT_CAUSE, r)]

/-- FAULT stays where its condition holds. -/
theorem faultStays {s j : State} {r : Nat} (hs : Stored [(F.SB_GATE_FAULT, r)] s j) :
    (j.setFlag F.SB_GATE_FAULT r).on F.SB_GATE_FAULT r = true ∧ (j.setFlag F.SB_GATE_FAULT r).rgns = s.rgns ∧
      (j.setFlag F.SB_GATE_FAULT r).fget F.SB_GATE_FAULT_CAUSE r = s.fget F.SB_GATE_FAULT_CAUSE r ∧
      HostOnly { s with rgns := (j.setFlag F.SB_GATE_FAULT r).rgns } (j.setFlag F.SB_GATE_FAULT r) (faultFields r) := by
  refine ⟨State.on_setFlag j _ r rfl (by decide), hs.rgns, ?_, ?_⟩
  · refine (State.fget_fset_apart j _ (.inr (.inr (by decide)))).trans (hs.fget (fun x hx => ?_) (by decide))
    rw [List.mem_singleton.1 hx]
    exact .inr (.inr (.inl (le_refl 31)))
  · exact HostOnly.of_stored_rgns hs ((FldsKeep.refl _ j).setFlag List.mem_cons_self)
      (fun x hx => by rw [List.mem_singleton.1 hx]; exact List.mem_cons_self) rfl

/-- FAULT ends where its condition does not hold. -/
theorem faultEnds {s j : State} {r : Nat} (hs : Stored [(F.SB_GATE_FAULT, r)] s j) (h0 : j.fget F.SB_GATE_FAULT r = 0) :
    let t := (j.fset F.SB_GATE_FAULT_CAUSE r 0).causeEnded r
    t.on F.SB_GATE_FAULT r = false ∧ t.fget F.SB_GATE_FAULT_CAUSE r = 0 ∧ CauseEnds s t r ∧ OtherBoxes s t r ∧
      HostOnly { s with rgns := t.rgns } t (faultFields r) := by
  intro t
  have hother (f : Fld) (u : Nat) (hf : f.reg ≠ .SB_GATE) (hj : ∀ x ∈ jnlFields, f.reg ≠ x.1.reg) :
      (j.fset F.SB_GATE_FAULT_CAUSE r 0).fget f u = s.fget f u :=
    (State.fget_fset_apart j _ (.inl hf)).trans (hs.fget_other rfl hf hj)
  have hregs (f : Fld) : t.fget f r = (j.fset F.SB_GATE_FAULT_CAUSE r 0).fget f r := by
    unfold t
    rw [State.causeEnded_frame]
    rfl
  refine ⟨?_, (hregs _).trans (State.fget_fset_fits j _ r (by decide) (by decide)), ?_, fun q hq => ?_, ?_⟩
  · unfold State.on
    rw [hregs, State.fget_fset_apart j _ (.inr (.inr (by decide))), h0]
    rfl
  · exact causeEnds_of (hs.rgn r) (hother _ r (by decide) (by decide)) (hother _ _ (by decide) (by decide)) hs.build (hs.sec _)
  · exact (State.rgn_causeEndedAt_ne (j.fset F.SB_GATE_FAULT_CAUSE r 0) _ hq).trans (hs.rgn q)
  · refine HostOnly.of_stored_rgns hs (l' := faultFields r) ?_ (fun x hx => by
      rw [List.mem_singleton.1 hx]
      exact List.mem_cons_self) ?_
    · refine ((FldsKeep.refl _ j).fset 0 (List.mem_cons_of_mem _ List.mem_cons_self)).beside ?_ ?_
      · unfold t
        rw [State.causeEnded_frame]
      · unfold t
        rw [State.causeEnded_frame]
    · unfold t
      rw [State.causeEnded_frame]
      rfl

/-- GATE_FAULT_CLEAR (R126). -/
theorem faultClear (s : State) (r : Nat) (persists : Bool) : FaultClear s r persists := by
  intro h hF hfresh
  obtain ⟨j, hs, h0, hw⟩ := faultCleared h hfresh persists
  have hoff : j.on F.SB_GATE_FAULT r = false := by
    unfold State.on
    rw [h0]
    rfl
  have hbit (f : Fld) (hf : f.reg = .SB_GATE) (hlo : f.lo + f.w ≤ 31) : j.fget f r = s.fget f r :=
    hs.fget (fun x hx => by rw [List.mem_singleton.1 hx]; exact .inr (.inr (.inl hlo))) (by rw [hf]; decide)
  have hleaf : (j.fget F.SB_GATE_FAULT_CAUSE r == 3 && j.on F.SB_SPINE_FAILED r && !j.on F.SB_SPINE_OVR_EN r) = true ↔
      s.fget F.SB_GATE_FAULT_CAUSE r = 3 ∧ s.on F.SB_SPINE_FAILED r = true ∧ s.on F.SB_SPINE_OVR_EN r = false := by
    rw [hbit F.SB_GATE_FAULT_CAUSE rfl (by decide),
      State.on_congr (hs.fget_other (g := F.SB_SPINE_FAILED) rfl (by decide) (by decide)),
      State.on_congr (hs.fget_other (g := F.SB_SPINE_OVR_EN) rfl (by decide) (by decide))]
    simp [and_assoc]
  have hforce {t : State} (ht : t.fget F.SB_GATE_FORCE r = j.fget F.SB_GATE_FORCE r) : t.forceWritten r (s.reg .SB_GATE r) = t :=
    State.forceWritten_same (ht.trans (hbit F.SB_GATE_FORCE rfl (by decide)))
  have hclears : getF (maskF 31 1) 31 1 = 1 ∧ getF (s.reg .SB_GATE r) 31 1 = 1 ∧ (!j.on F.SB_GATE_FAULT r) = true :=
    ⟨by decide, getF_of_on (f := F.SB_GATE_FAULT) rfl hF, by rw [hoff]; rfl⟩
  by_cases hstay : persists = true ∨ (s.fget F.SB_GATE_FAULT_CAUSE r = 3 ∧ s.on F.SB_SPINE_FAILED r = true ∧
      s.on F.SB_SPINE_OVR_EN r = false)
  · have heq : s.hostWord (regAddr .SB_GATE r) (maskF 31 1) (maskF 31 1) (some persists) = j.setFlag F.SB_GATE_FAULT r := by
      have hfault : j.faultWritten r (s.reg .SB_GATE r) (maskF 31 1) persists = j.setFlag F.SB_GATE_FAULT r := by
        unfold State.faultWritten
        dsimp only
        rw [if_pos hclears, if_pos (Bool.or_eq_true_iff.2 (hstay.imp_right hleaf.2))]
      rw [hw, State.gateWritten_eq, hfault, hforce (t := j.setFlag F.SB_GATE_FAULT r) (State.fget_fset_apart j _ (.inr (.inr (by decide)))),
        State.wakeWritten_off (by decide)]
    obtain ⟨hon, hrgns, hcause, honly⟩ := faultStays hs
    refine HostBox.runs h rfl (by rw [heq]; exact honly.lives) ?_
    rw [heq]
    exact ⟨fun _ => ⟨hon, hrgns, hcause⟩, fun hp hl => absurd hstay (by rw [hp]; simpa using hl),
      fun q _ => by unfold State.rgn; rw [hrgns], honly⟩
  · have heq : s.hostWord (regAddr .SB_GATE r) (maskF 31 1) (maskF 31 1) (some persists) =
        (j.fset F.SB_GATE_FAULT_CAUSE r 0).causeEnded r := by
      have hfault : j.faultWritten r (s.reg .SB_GATE r) (maskF 31 1) persists =
          (j.fset F.SB_GATE_FAULT_CAUSE r 0).causeEnded r := by
        unfold State.faultWritten
        dsimp only
        rw [if_pos hclears, if_neg fun hh => hstay ((Bool.or_eq_true_iff.1 hh).imp_right hleaf.1)]
      have hf : ((j.fset F.SB_GATE_FAULT_CAUSE r 0).causeEnded r).fget F.SB_GATE_FORCE r = j.fget F.SB_GATE_FORCE r := by
        rw [State.causeEnded_frame]
        exact State.fget_fset_apart j _ (.inr (.inr (by decide)))
      rw [hw, State.gateWritten_eq, hfault, hforce hf, State.wakeWritten_off (by decide)]
    obtain ⟨hfoff, hcause, hends, hboxes, honly⟩ := faultEnds hs h0
    refine HostBox.runs h rfl (by rw [heq]; exact honly.lives) ?_
    rw [heq]
    exact ⟨fun hh => absurd hh hstay, fun _ _ => ⟨hfoff, hcause, hends⟩, hboxes, honly⟩

end Sys2Proof.Claim
end

section
/-! SUPPORT. GATE_REQUEST, GATING_WRITE_OFF and REGION_RESTART (R114–R117, R120, R601). -/

namespace Sys2Proof.Machine

theorem State.fget_faddSat (s : State) (f : Fld) (u n : Nat) (h : f.lo + f.w ≤ 32) :
    (s.faddSat f u n).fget f u = satU f.w (s.fget f u + n) :=
  State.fget_fset_fits s f u h (by
    unfold satU
    have := Nat.two_pow_pos f.w
    omega)

/-- The fields that a disturbance moves belong to other registers than a field's. -/
theorem fget_calDisturb (s : State) {f : Fld} {r u : Nat} (h : ∀ g ∈ distKinds, f.reg ≠ g.reg) :
    (s.calDisturb r).fget f u = s.fget f u :=
  (State.calDisturb_moves s rfl).fget fun g hg => .inl (h g hg)

end Sys2Proof.Machine

namespace Sys2Proof.Claim

open Sys2Proof.Machine

/-- A command whose condition holds answers its effect. -/
theorem Runs.of_when {c : Instr} {s : State} {P : State → Prop} {b : State → Bool} {f : State → State}
    (hc : exec c s = s.act fun s => if b s then f s else s) (hp : s.por = false) (hb : b s = true) (hl : Lives s (f s))
    (h : P (f s)) : Runs c s P :=
  Runs.of_act hc hp (by rw [if_pos hb]; exact hl) (by rw [if_pos hb]; exact h)

/-! ### The coming edge (R22) -/

theorem edgeComes_of_comes {s : State} {r : Nat} (h : Comes s r) : s.edgeComes r = true := by
  obtain ⟨-, hr, hc, hd, hg, hs, hp⟩ := h
  have hrun : s.secRuns r = true := by
    unfold State.secRuns
    rcases hs with hs | hs <;> simp [hs]
  have hpos : s.posComes (s.build.sectionOf r) (s.nextPos r false) = true := decide_eq_true (by omega)
  unfold State.edgeComes State.delivers State.isRegion
  rw [hpos, hrun, hd, hc, decide_eq_true hr, bne_iff_ne.2 hg]
  rfl

/-! ### GATE_REQUEST (R114, R115) -/

/-- The request as it is answered. -/
def requestTaken (s : State) (r : Nat) (granted : Bool) : State :=
  s.setRgn r { s.rgn r with
    ackOut := true, grantOut := granted, ackLeft := 2, reqHigh := true, grant := if granted then 1 else 0
    mile := { (s.rgn r).mile with grants := (s.rgn r).mile.grants + granted.toNat } }

theorem rgn_requestTaken_ne (s : State) {r q : Nat} (b : Bool) (h : q ≠ r) : (requestTaken s r b).rgn q = s.rgn q := by
  unfold requestTaken
  rw [State.rgn_setRgn, if_neg h]

/-- A grant is counted and disturbs calibration. -/
def requestGranted (s : State) (r : Nat) : State :=
  ((requestTaken s r true).faddSat F.SB_GATE_CNT_GRANTED r 1).calDisturb r

/-- A refusal is counted. -/
def requestRefused (s : State) (r : Nat) : State := (requestTaken s r false).faddSat F.SB_GATE_CNT_REFUSED r 1

/-- The answer to a request. -/
def requestAnswered (s : State) (r : Nat) : State :=
  let granted := s.secState (s.build.sectionOf r) == 3
  let t := requestTaken s r granted
  if granted then (t.faddSat F.SB_GATE_CNT_GRANTED r 1).calDisturb r else t.faddSat F.SB_GATE_CNT_REFUSED r 1

theorem requestAnswered_ready {s : State} {r : Nat} (h : s.secState (s.build.sectionOf r) = 3) :
    requestAnswered s r = requestGranted s r := by
  unfold requestAnswered
  rw [beq_iff_eq.2 h]
  rfl

theorem requestAnswered_not_ready {s : State} {r : Nat} (h : s.secState (s.build.sectionOf r) ≠ 3) :
    requestAnswered s r = requestRefused s r := by
  unfold requestAnswered
  rw [beq_eq_false_iff_ne.2 h]
  rfl

theorem exec_gateRequest (s : State) (r : Nat) :
    exec (.gateRequest r) s = s.act fun s =>
      if s.edgeComes r && !(s.rgn r).reqHigh && !(s.rgn r).masked && (s.rgn r).grant == 0 && (s.rgn r).ackLeft == 0 then
        requestAnswered s r else s := rfl

theorem requestGranted_only (s : State) (r : Nat) :
    let t := requestGranted s r
    Only { s with rgns := t.rgns, calRgns := t.calRgns, xings := t.xings } t ((F.SB_GATE_CNT_GRANTED, r) :: distFields r) := by
  intro t
  have h1 : FldsKeep (Listed ((F.SB_GATE_CNT_GRANTED, r) :: distFields r)) s ((requestTaken s r true).faddSat F.SB_GATE_CNT_GRANTED r 1) :=
    (FldsKeep.ofRegs (t := requestTaken s r true) rfl rfl).faddSat 1 List.mem_cons_self
  have h2 := (State.calDisturb_flds ((requestTaken s r true).faddSat F.SB_GATE_CNT_GRANTED r 1) r).mono
    (Q := Listed ((F.SB_GATE_CNT_GRANTED, r) :: distFields r)) fun _ _ h => List.mem_cons_of_mem _ h
  refine ⟨FldsKeep.bitsKeep (h1.trans h2), ?_⟩
  unfold t requestGranted
  rw [State.calDisturb_frame]
  rfl

theorem requestRefused_only (s : State) (r : Nat) :
    Only { s with rgns := (requestRefused s r).rgns } (requestRefused s r) [(F.SB_GATE_CNT_REFUSED, r)] :=
  ⟨FldsKeep.bitsKeep ((FldsKeep.ofRegs (s := s) (t := requestTaken s r false) rfl rfl).faddSat 1 (List.mem_singleton_self _)), rfl⟩

/-- GATE_REQUEST (R114, R115). -/
theorem gateRequest (s : State) (r : Nat) : Claim.GateRequest s r := by
  intro hcomes hreq hmask hgrant hack
  have hgo : (s.edgeComes r && !(s.rgn r).reqHigh && !(s.rgn r).masked && (s.rgn r).grant == 0 && (s.rgn r).ackLeft == 0) = true := by
    rw [edgeComes_of_comes hcomes, hreq, hmask, hgrant, hack]
    rfl
  by_cases h3 : s.secState (s.build.sectionOf r) = 3
  · have honly := requestGranted_only s r
    have hrgn (q : Nat) : (requestGranted s r).rgn q = (requestTaken s r true).rgn q := State.rgn_calDisturb _ r q
    have hself := State.rgn_setRgn_same s r { s.rgn r with
      ackOut := true, grantOut := true, ackLeft := 2, reqHigh := true, grant := 1
      mile := { (s.rgn r).mile with grants := (s.rgn r).mile.grants + 1 } }
    refine Runs.of_when (exec_gateRequest s r) hcomes.1 hgo (by rw [requestAnswered_ready h3]; exact honly.lives) ?_
    rw [requestAnswered_ready h3, if_pos h3, hrgn]
    refine ⟨congrArg Rgn.ackOut hself, congrArg Rgn.ackLeft hself, congrArg Rgn.reqHigh hself,
      ⟨congrArg Rgn.grantOut hself, congrArg Rgn.grant hself, ?_, honly⟩,
      fun q hq => (hrgn q).trans (rgn_requestTaken_ne s true hq)⟩
    exact (fget_calDisturb _ (by decide)).trans (State.fget_faddSat (requestTaken s r true) F.SB_GATE_CNT_GRANTED r 1 (by decide))
  · have honly := requestRefused_only s r
    have hself := State.rgn_setRgn_same s r { s.rgn r with
      ackOut := true, grantOut := false, ackLeft := 2, reqHigh := true, grant := 0
      mile := { (s.rgn r).mile with grants := (s.rgn r).mile.grants + 0 } }
    refine Runs.of_when (exec_gateRequest s r) hcomes.1 hgo (by rw [requestAnswered_not_ready h3]; exact honly.lives) ?_
    rw [requestAnswered_not_ready h3, if_neg h3]
    exact ⟨congrArg Rgn.ackOut hself, congrArg Rgn.ackLeft hself, congrArg Rgn.reqHigh hself,
      ⟨congrArg Rgn.grantOut hself, congrArg Rgn.grant hself,
        State.fget_faddSat (requestTaken s r false) F.SB_GATE_CNT_REFUSED r 1 (by decide), honly⟩,
      fun q hq => rgn_requestTaken_ne s false hq⟩

end Sys2Proof.Claim
end

section
/-!
SUPPORT. The end of a request on the stretch bus, the alignment taken up, the write-off and the coming edge's place (R22, R113,
R175, R183, R189).
-/

namespace Sys2Proof.Machine

/-! ### A request ends (R183, R184) -/

/-- The region's request is over; the Section has one requester fewer where it stood. -/
def State.requestEnded (s : State) (r : Nat) : State :=
  let k := s.build.sectionOf r
  let n := s.fget F.SEC_SYM_STATUS_REQUESTERS k
  let u := s.setRgn r { s.rgn r with symEnd := false }
  if s.on F.SB_SLIP_REQ r then
    ((u.fsetB F.SB_SLIP_REQ r false).fset F.SEC_SYM_STATUS_REQUESTERS k (n - 1)).fsetB F.SEC_SYM_STATUS_ACTIVE k (n - 1 != 0)
  else u

theorem State.setRequest_false (s : State) (r : Nat) : s.setRequest r false = s.requestEnded r := by
  have hn (u : State) (k n : Nat) (h : n = u.fget F.SEC_SYM_STATUS_REQUESTERS k) : u.busCount r k (n - 1) =
      (u.fset F.SEC_SYM_STATUS_REQUESTERS k (n - 1)).fsetB F.SEC_SYM_STATUS_ACTIVE k (n - 1 != 0) := by
    unfold State.busCount
    dsimp only
    rw [if_neg (by rw [← h]; omega)]
  unfold State.setRequest State.requestEnded
  dsimp only
  rw [Bool.and_false]
  cases hreq : s.on F.SB_SLIP_REQ r with
  | false =>
    have hreq' : (s.setRgn r { s.rgn r with symEnd := false }).on F.SB_SLIP_REQ r = false := hreq
    rw [hreq']
    rfl
  | true =>
    have hreq' : (s.setRgn r { s.rgn r with symEnd := false }).on F.SB_SLIP_REQ r = true := hreq
    rw [hreq']
    exact hn _ _ _ (State.fget_fset_apart (s.setRgn r { s.rgn r with symEnd := false }) _ (.inl (by decide))).symm

/-- The fields that the end of a request moves. -/
def requestFields (s : State) (r : Nat) : List (Fld × Nat) :=
  [(F.SB_SLIP_REQ, r), (F.SEC_SYM_STATUS_REQUESTERS, s.build.sectionOf r), (F.SEC_SYM_STATUS_ACTIVE, s.build.sectionOf r)]

/-- Nothing changes but registers and regions' records. -/
def RegsRgns (s t : State) : Prop := t = { s with regs := t.regs, rgns := t.rgns }

theorem RegsRgns.refl (s : State) : RegsRgns s s := rfl

theorem RegsRgns.trans {s t v : State} (h : RegsRgns s t) (h' : RegsRgns t v) : RegsRgns s v := by
  unfold RegsRgns at h h'
  rw [h] at h'
  exact h'

theorem RegsRgns.fset {s t : State} (h : RegsRgns s t) (f : Fld) (u v : Nat) : RegsRgns s (t.fset f u v) := by
  have e := congrArg (fun w : State => { w with regs := (t.fset f u v).regs }) h
  exact e

theorem RegsRgns.setRgn {s t : State} (h : RegsRgns s t) (r : Nat) (v : Rgn) : RegsRgns s (t.setRgn r v) := by
  have e := congrArg (fun w : State => { w with rgns := (t.setRgn r v).rgns }) h
  exact e

theorem State.requestEnded_frame (s : State) (r : Nat) : RegsRgns s (s.requestEnded r) := by
  have h0 : RegsRgns s (s.setRgn r { s.rgn r with symEnd := false }) := (RegsRgns.refl s).setRgn r _
  unfold State.requestEnded
  dsimp only
  split
  · exact ((h0.fset _ _ _).fset _ _ _).fset _ _ _
  · exact h0

theorem State.requestEnded_flds (s : State) (r : Nat) : FldsKeep (Listed (requestFields s r)) s (s.requestEnded r) := by
  have h0 : FldsKeep (Listed (requestFields s r)) s (s.setRgn r { s.rgn r with symEnd := false }) := FldsKeep.ofRegs rfl rfl
  unfold State.requestEnded
  dsimp only
  split
  · have h1 := h0.fsetB (f := F.SB_SLIP_REQ) (u := r) false List.mem_cons_self
    have h2 := h1.fset (f := F.SEC_SYM_STATUS_REQUESTERS) (u := s.build.sectionOf r)
      (s.fget F.SEC_SYM_STATUS_REQUESTERS (s.build.sectionOf r) - 1) (List.mem_cons_of_mem _ List.mem_cons_self)
    exact h2.fsetB (f := F.SEC_SYM_STATUS_ACTIVE) (u := s.build.sectionOf r) _
      (List.mem_cons_of_mem _ (List.mem_cons_of_mem _ List.mem_cons_self))
  · exact h0

theorem State.rgns_requestEnded (s : State) (r : Nat) :
    (s.requestEnded r).rgns = (s.setRgn r { s.rgn r with symEnd := false }).rgns := by
  unfold State.requestEnded
  dsimp only
  split <;> rfl

theorem State.rgn_requestEnded (s : State) (r q : Nat) :
    (s.requestEnded r).rgn q = if q = r then { s.rgn r with symEnd := false } else s.rgn q := by
  rw [← State.rgn_setRgn]
  unfold State.rgn
  rw [State.rgns_requestEnded]
  rfl

theorem State.req_requestEnded (s : State) (r : Nat) : (s.requestEnded r).on F.SB_SLIP_REQ r = false := by
  unfold State.requestEnded
  dsimp only
  split
  · refine (State.on_congr ((State.fget_fset_apart _ _ (.inl (by decide))).trans (State.fget_fset_apart _ _ (.inl (by decide))))).trans ?_
    exact State.on_fsetB (s.setRgn r { s.rgn r with symEnd := false }) F.SB_SLIP_REQ r false rfl (by decide)
  next h => exact Bool.not_eq_true _ ▸ h

/-- Where a request stood, the Section has one requester fewer. -/
theorem State.requesters_requestEnded {s : State} {r : Nat} (h : s.on F.SB_SLIP_REQ r = true) :
    (s.requestEnded r).fget F.SEC_SYM_STATUS_REQUESTERS (s.build.sectionOf r) =
      s.fget F.SEC_SYM_STATUS_REQUESTERS (s.build.sectionOf r) - 1 := by
  have hlt := State.fget_lt s F.SEC_SYM_STATUS_REQUESTERS (s.build.sectionOf r)
  unfold State.requestEnded
  dsimp only
  rw [if_pos h]
  refine (State.fget_fset_apart _ _ (.inr (.inr (by decide)))).trans (State.fget_fset_fits _ _ _ (by decide) ?_)
  omega

/-! ### The alignment taken up (R113) -/

theorem State.alignPhNow_frame (s : State) (r : Nat) : s.alignPhNow r = { s with regs := (s.alignPhNow r).regs } := by
  unfold State.alignPhNow
  split <;> rfl

theorem State.alignPhNow_flds (s : State) (r : Nat) : FldsKeep (Listed [(F.SB_ROT_ALIGN_PH, r)]) s (s.alignPhNow r) := by
  unfold State.alignPhNow
  split
  · exact (FldsKeep.refl _ s).fset _ (List.mem_singleton_self _)
  · exact FldsKeep.refl _ s

/-- ALIGN_PH is the measured one, where one waits. -/
theorem State.alignPh_alignPhNow (s : State) (r : Nat) :
    (s.alignPhNow r).fget F.SB_ROT_ALIGN_PH r = (((s.rgn r).alignTgt.map (·.1)).getD (s.fget F.SB_ROT_ALIGN_PH r)) % 16 := by
  unfold State.alignPhNow
  split
  next ph fine h =>
    rw [h]
    exact State.fget_fset_same s _ _ _ (by decide)
  next h =>
    rw [h]
    exact (Nat.mod_eq_of_lt (State.fget_lt s F.SB_ROT_ALIGN_PH r)).symm

/-! ### The write-off at a change edge (R189) -/

/-- Three equal copies show the balance that was set (R176). -/
theorem Rgn.ledger_setLedger (g : Rgn) (l : Nat) : (g.setLedger l).ledger = l := by
  show l &&& l ||| l &&& l ||| l &&& l = l
  rw [Nat.and_self, Nat.or_self, Nat.or_self]

/-- The record of a region whose balance is written off, its clock to go on at a place. -/
def Rgn.writtenOff (g : Rgn) (pos now : Nat) : Rgn :=
  { g.setLedger 0 with
    woff := none, first := some pos, woffPh := g.woffPh + g.ledger, restRun := 0, cuSince := none, own := 0
    lastWoff := now, mile := { g.mile with woff := g.mile.woff + g.ledger } }

/-- The balance is written off in the region's record. -/
def State.offWritten (s : State) (r fwOld : Nat) : State :=
  s.setRgn r ((s.rgn r).writtenOff (s.writeOffPos (s.build.sectionOf r) (s.rgn r).tLast fwOld) s.stn.elapsed)

theorem State.takeWriteOff_some {s : State} {r fwOld : Nat} (h : (s.rgn r).woff = some fwOld) :
    s.takeWriteOff r = (((s.offWritten r fwOld).requestEnded r).fset F.SB_SLIP_RESTORED r 0).alignPhNow r := by
  rw [← State.setRequest_false]
  unfold State.takeWriteOff
  dsimp only
  rw [h]
  rfl

theorem State.takeWriteOff_none {s : State} {r : Nat} (h : (s.rgn r).woff = none) : s.takeWriteOff r = s := by
  unfold State.takeWriteOff
  dsimp only
  rw [h]

theorem State.rgn_takeWriteOff {s : State} {r fwOld : Nat} (h : (s.rgn r).woff = some fwOld) (q : Nat) :
    (s.takeWriteOff r).rgn q = if q = r then
      { (s.rgn r).writtenOff (s.writeOffPos (s.build.sectionOf r) (s.rgn r).tLast fwOld) s.stn.elapsed with symEnd := false }
    else s.rgn q := by
  have h1 : (s.takeWriteOff r).rgn q = ((s.offWritten r fwOld).requestEnded r).rgn q := by
    rw [State.takeWriteOff_some h, State.alignPhNow_frame]
    rfl
  rw [h1, State.rgn_requestEnded]
  unfold State.offWritten
  rw [State.rgn_setRgn_same, State.rgn_setRgn]
  split <;> rfl

/-! ### The place of the coming edge (R22, R175) -/

/-- Before a write-off the coming edge is the one at which the clock goes on. -/
theorem State.nextPos_woff {s : State} {r fwOld : Nat} (h : (s.rgn r).woff = some fwOld) (bad : Bool) :
    s.nextPos r bad = s.writeOffPos (s.build.sectionOf r) (s.rgn r).tLast fwOld := by
  have hg : ((s.takeWriteOff r).rgn r).first = some (s.writeOffPos (s.build.sectionOf r) (s.rgn r).tLast fwOld) := by
    rw [State.rgn_takeWriteOff h, if_pos rfl]
    rfl
  unfold State.nextPos
  dsimp only
  rw [hg]

/-- Nothing changes but registers, regions' records, calibration records and crossings. -/
def BoxFrame (s t : State) : Prop := t = { s with regs := t.regs, rgns := t.rgns, calRgns := t.calRgns, xings := t.xings }

theorem BoxFrame.trans {s t v : State} (h : BoxFrame s t) (h' : BoxFrame t v) : BoxFrame s v := by
  unfold BoxFrame at h h'
  rw [h] at h'
  exact h'

theorem RegsRgns.box {s t : State} (h : RegsRgns s t) : BoxFrame s t := by
  unfold RegsRgns at h
  unfold BoxFrame
  rw [h]

theorem BoxFrame.calDisturb (s : State) (r : Nat) : BoxFrame s (s.calDisturb r) := by
  unfold BoxFrame
  rw [State.calDisturb_frame]

/-- The kinds of the fields that the stretch of a coming edge rests on. -/
def placeKinds : List Fld :=
  [F.SEC_HEADWAY_ACTIVE, F.SB_SLIP_REQ, F.SB_SLIP_RESTORED, F.SB_SLIP_CFG_CU_INT, F.SEC_SYM_STATUS_ACTIVE]

theorem State.placeEdge_congr {s t : State} {r : Nat} (hb : t.build = s.build) (hr : t.rgn r = s.rgn r)
    (hs : ∀ k, t.sec k = s.sec k) (hf : ∀ f ∈ placeKinds, ∀ u, t.fget f u = s.fget f u) (bad : Bool) :
    t.placeEdge r bad = s.placeEdge r bad := by
  unfold State.placeEdge State.headway State.cuInt State.busDue State.on
  simp only [hb, hr, hs, hf F.SEC_HEADWAY_ACTIVE (by decide), hf F.SB_SLIP_REQ (by decide), hf F.SB_SLIP_RESTORED (by decide),
    hf F.SB_SLIP_CFG_CU_INT (by decide), hf F.SEC_SYM_STATUS_ACTIVE (by decide)]

/-- The coming edge's place rests on the region, its Section and few fields. -/
theorem State.nextPos_congr {s t : State} {r : Nat} (hb : t.build = s.build) (hr : t.rgn r = s.rgn r) (hc : t.count = s.count)
    (hs : ∀ k, t.sec k = s.sec k) (hw : ∀ k, t.fwCur k = s.fwCur k) (hf : ∀ f ∈ placeKinds, ∀ u, t.fget f u = s.fget f u)
    (bad : Bool) : t.nextPos r bad = s.nextPos r bad := by
  cases hwo : (s.rgn r).woff with
  | some fwOld =>
    rw [State.nextPos_woff hwo, State.nextPos_woff (by rw [hr]; exact hwo)]
    unfold State.writeOffPos
    rw [hb, hr, hc, hs, hw]
  | none =>
    unfold State.nextPos
    rw [State.takeWriteOff_none hwo, State.takeWriteOff_none (by rw [hr]; exact hwo)]
    dsimp only
    rw [State.placeEdge_congr hb hr hs hf, hr]

end Sys2Proof.Machine
end

section
/-! SUPPORT. GATING_WRITE_OFF (R117, R120, R601). -/

namespace Sys2Proof.Claim

open Sys2Proof.Machine

/-! ### The clock stops -/

/-- Cause PORT begins after a grant. -/
def portBegun (s : State) (r : Nat) : State := if (s.rgn r).grant != 0 then s.fset F.SB_GATE_PORT r 1 else s

/-- The record of a region whose clock stops. -/
def gatedRgn (g : Rgn) (fall : Option Nat) (now : Nat) : Rgn :=
  { g.setLedger 0 with
    grant := 0, ackLeft := 0, ackFall := fall, stopDue := false, woff := none, first := none
    woffPh := g.woffPh + g.ledger, restRun := 0, cuSince := none, gatings := g.gatings + 1, lastWoff := now
    mile := { g.mile with woff := g.mile.woff + g.ledger } }

/-- The ledger is written off in the region's record. -/
def gatedNoted (s : State) (r : Nat) : State :=
  s.setRgn r (gatedRgn (s.rgn r) (if (s.rgn r).ackOut then some (s.nextPos r false) else none) s.stn.elapsed)

/-- A playback and a request end, calibration is disturbed, and the clock reads GATED. -/
def gatedShown (s : State) (r : Nat) : State :=
  (((((s.endPlay r).requestEnded r).fset F.SB_SLIP_RESTORED r 0).calDisturb r)).fset F.SB_CLK_STATUS_STATE r 2

/-- The gating write-off. -/
def gatedOff (s : State) (r : Nat) : State := (gatedShown (gatedNoted (portBegun s r) r) r).causeEnded r

theorem rgn_portBegun (s : State) (r q : Nat) : (portBegun s r).rgn q = s.rgn q := by
  unfold portBegun
  split <;> rfl

theorem exec_gatingWriteOff (s : State) (r : Nat) :
    exec (.gatingWriteOff r) s = s.act fun s =>
      if s.isRegion r && s.clk r == 1 && ((s.rgn r).stopDue || (s.rgn r).grant == 3) then gatedOff s r else s := by
  have h (u : State) : gatedOff u r =
      (((((((portBegun u r).setRgn r (gatedRgn (u.rgn r)
        (if (u.rgn r).ackOut then some ((portBegun u r).nextPos r false) else none) (portBegun u r).stn.elapsed)).endPlay r).setRequest r
        false).fset F.SB_SLIP_RESTORED r 0).calDisturb r).fset F.SB_CLK_STATUS_STATE r 2).causeEnded r := by
    unfold gatedOff gatedShown gatedNoted
    rw [State.setRequest_false, rgn_portBegun]
  simp only [h]
  rfl

/-- The kinds of the fields that a gating write-off moves beside PORT. -/
def gatedKinds : List Fld :=
  [F.SB_CLK_STATUS_STATE, F.SB_SLIP_REQ, F.SB_SLIP_RESTORED, F.SB_PROFILE_SEQ_SKIPPED, F.SEC_SYM_STATUS_REQUESTERS,
    F.SEC_SYM_STATUS_ACTIVE] ++ distKinds

/-- The fields that a gating write-off moves beside PORT. -/
def gatedFields (k r : Nat) : List (Fld × Nat) :=
  [(F.SB_CLK_STATUS_STATE, r), (F.SB_SLIP_REQ, r), (F.SB_SLIP_RESTORED, r), (F.SB_PROFILE_SEQ_SKIPPED, r),
    (F.SEC_SYM_STATUS_REQUESTERS, k), (F.SEC_SYM_STATUS_ACTIVE, k)] ++ distFields r

theorem kind_of_gatedFields {k r : Nat} {x : Fld × Nat} (h : x ∈ gatedFields k r) : x.1 ∈ gatedKinds := by
  have hmap : (gatedFields k r).map (·.1) = gatedKinds := rfl
  rw [← hmap]
  exact List.mem_map_of_mem h

theorem gatedShown_flds (s : State) (r : Nat) : FldsKeep (Listed (gatedFields (s.build.sectionOf r) r)) s (gatedShown s r) := by
  have hb : (s.endPlay r).build = s.build := by rw [State.endPlay_frame]
  have h1 := (State.endPlay_flds s r).mono (Q := Listed (gatedFields (s.build.sectionOf r) r)) fun f u h => by
    obtain ⟨rfl, rfl⟩ := Prod.mk.inj (List.mem_singleton.1 h)
    simp [Listed, gatedFields]
  have h2 := (State.requestEnded_flds (s.endPlay r) r).mono (Q := Listed (gatedFields (s.build.sectionOf r) r)) fun f u h => by
    unfold requestFields Listed at h
    rw [hb] at h
    unfold Listed gatedFields
    simp only [List.mem_cons, List.not_mem_nil, or_false] at h
    rcases h with h | h | h <;> simp [h]
  have h3 := (h1.trans h2).fset (f := F.SB_SLIP_RESTORED) (u := r) 0 (by simp [Listed, gatedFields])
  have h4 := (State.calDisturb_flds (((s.endPlay r).requestEnded r).fset F.SB_SLIP_RESTORED r 0) r).mono
    (Q := Listed (gatedFields (s.build.sectionOf r) r)) fun f u h => List.mem_append_right _ h
  exact (h3.trans h4).fset 2 (by simp [Listed, gatedFields])

theorem gatedShown_frame (s : State) (r : Nat) : BoxFrame s (gatedShown s r) := by
  have h1 : RegsRgns s (s.endPlay r) := by
    unfold RegsRgns
    rw [State.endPlay_frame]
  have h2 := (h1.trans (State.requestEnded_frame (s.endPlay r) r)).fset F.SB_SLIP_RESTORED r 0
  have h3 := (RegsRgns.refl ((((s.endPlay r).requestEnded r).fset F.SB_SLIP_RESTORED r 0).calDisturb r)).fset
    F.SB_CLK_STATUS_STATE r 2
  exact (h2.box.trans (BoxFrame.calDisturb _ r)).trans h3.box

theorem gatedOff_frame (s : State) (r : Nat) : BoxFrame s (gatedOff s r) := by
  have h1 : RegsRgns s (portBegun s r) := by
    unfold portBegun
    split
    · exact (RegsRgns.refl s).fset _ _ _
    · exact RegsRgns.refl s
  have h2 : RegsRgns (portBegun s r) (gatedNoted (portBegun s r) r) := (RegsRgns.refl _).setRgn r _
  have h3 : RegsRgns (gatedShown (gatedNoted (portBegun s r) r) r) (gatedOff s r) := by
    unfold RegsRgns gatedOff
    rw [State.causeEnded_frame]
  exact ((h1.trans h2).box.trans (gatedShown_frame _ r)).trans h3.box

theorem gatedOff_flds (s : State) (r : Nat) :
    FldsKeep (Listed (gatedFields (s.build.sectionOf r) r)) (portBegun s r) (gatedOff s r) := by
  have hb : (gatedNoted (portBegun s r) r).build = s.build := by
    unfold gatedNoted portBegun
    split <;> rfl
  have h1 := gatedShown_flds (gatedNoted (portBegun s r) r) r
  rw [hb] at h1
  have h2 : FldsKeep (Listed (gatedFields (s.build.sectionOf r) r)) (portBegun s r) (gatedNoted (portBegun s r) r) :=
    FldsKeep.ofRegs rfl rfl
  refine (h2.trans h1).beside ?_ ?_
  · unfold gatedOff
    rw [State.causeEnded_frame]
  · unfold gatedOff
    rw [State.causeEnded_frame]

/-- A field of no kind that the write-off moves. -/
theorem fget_gatedOff (s : State) {f : Fld} {r u : Nat} (h : ∀ g ∈ gatedKinds, f.reg ≠ g.reg) :
    (gatedOff s r).fget f u = (portBegun s r).fget f u :=
  gatedOff_flds s r f u (Listed.apart fun _ hx => .inl (h _ (kind_of_gatedFields hx)))

theorem rgn_gatedShown (s : State) (r q : Nat) :
    (gatedShown s r).rgn q = if q = r then { s.rgn r with play := none, own := 0, symEnd := false } else s.rgn q := by
  have h : (gatedShown s r).rgn q = ((s.endPlay r).requestEnded r).rgn q := State.rgn_calDisturb _ r q
  rw [h, State.rgn_requestEnded, State.rgn_endPlay, if_pos rfl, State.rgn_endPlay]
  split <;> rfl

/-- The region's record before its last cause ends. -/
def stoppedRgn (s : State) (r : Nat) : Rgn :=
  { gatedRgn (s.rgn r) (if (s.rgn r).ackOut then some (s.nextPos r false) else none) s.stn.elapsed with
    play := none, own := 0, symEnd := false }

theorem nextPos_portBegun (s : State) (r : Nat) : (portBegun s r).nextPos r false = s.nextPos r false := by
  unfold portBegun
  split
  · have hf (f : Fld) (h : f.reg ≠ .SB_GATE) (u : Nat) : (s.fset F.SB_GATE_PORT r 1).fget f u = s.fget f u :=
      State.fget_fset_apart s 1 (.inl h)
    exact State.nextPos_congr (s := s) (t := s.fset F.SB_GATE_PORT r 1) rfl rfl rfl (fun _ => rfl)
      (fun k => hf F.SEC_FW_STATUS_FW_CUR (by decide) k)
      (fun f h u => hf f ((by decide : ∀ f ∈ placeKinds, f.reg ≠ .SB_GATE) f h) u) false
  · rfl

theorem rgn_gatedBefore (s : State) (r q : Nat) :
    (gatedShown (gatedNoted (portBegun s r) r) r).rgn q = if q = r then stoppedRgn s r else s.rgn q := by
  have he : (portBegun s r).stn = s.stn := by
    unfold portBegun
    split <;> rfl
  rw [rgn_gatedShown]
  unfold gatedNoted stoppedRgn
  rw [State.rgn_setRgn_same, State.rgn_setRgn, nextPos_portBegun, rgn_portBegun, rgn_portBegun, he]
  split <;> rfl

end Sys2Proof.Claim
end

section
/-! SUPPORT. GATING_WRITE_OFF as a whole (R117, R120, R601). -/

namespace Sys2Proof.Claim

open Sys2Proof.Machine

/-- A frame and listed fields. -/
theorem only_of_boxFrame {l : List (Fld × Nat)} {s t : State} (h : BoxFrame s t) (hf : FldsKeep (Listed l) s t) :
    Only { s with rgns := t.rgns, calRgns := t.calRgns, xings := t.xings } t l := by
  unfold BoxFrame at h
  have h1 : t.fresh = s.fresh := by rw [h]
  have h2 : t.freshMid = s.freshMid := by rw [h]
  refine ⟨hf.bitsKeep, ?_⟩
  rw [h1, h2]
  exact h

/-- The state in which the clock has stopped, before its last cause is judged. -/
def gatedBefore (s : State) (r : Nat) : State := gatedShown (gatedNoted (portBegun s r) r) r

theorem fget_portBegun (s : State) {f : Fld} {r u : Nat} (h : f.reg ≠ .SB_GATE) : (portBegun s r).fget f u = s.fget f u := by
  unfold portBegun
  split
  · exact State.fget_fset_apart s 1 (.inl h)
  · rfl

/-- Cause PORT after a grant. -/
theorem port_portBegun (s : State) (r : Nat) :
    ((s.rgn r).grant ≠ 0 → (portBegun s r).on F.SB_GATE_PORT r = true) ∧
      ((s.rgn r).grant = 0 → (portBegun s r).on F.SB_GATE_PORT r = s.on F.SB_GATE_PORT r) := by
  unfold portBegun
  refine ⟨fun h => ?_, fun h => ?_⟩
  · rw [if_pos (bne_iff_ne.2 h)]
    exact State.on_fsetB s F.SB_GATE_PORT r true rfl (by decide)
  · rw [h]
    rfl

theorem secs_gatedBefore (s : State) (r : Nat) : (gatedBefore s r).secs = s.secs ∧ (gatedBefore s r).build = s.build := by
  have h := gatedOff_frame s r
  unfold BoxFrame at h
  have h1 : (gatedOff s r).secs = (gatedBefore s r).secs := by
    unfold gatedOff
    rw [State.causeEnded_frame]
    rfl
  have h2 : (gatedOff s r).build = (gatedBefore s r).build := by
    unfold gatedOff
    rw [State.causeEnded_frame]
    rfl
  rw [← h1, ← h2, h]
  exact ⟨rfl, rfl⟩

theorem regs_gatedOff (s : State) (r : Nat) {f : Fld} {u : Nat} : (gatedOff s r).fget f u = (gatedBefore s r).fget f u := by
  unfold gatedOff
  rw [State.causeEnded_frame]
  rfl

/-- The clock reads GATED, and no request and no restored margin is shown. -/
theorem shows_gatedBefore (s : State) (r : Nat) :
    (gatedBefore s r).clk r = 2 ∧ (gatedBefore s r).on F.SB_SLIP_REQ r = false ∧
      (gatedBefore s r).on F.SB_SLIP_RESTORED r = false := by
  unfold gatedBefore gatedShown
  generalize gatedNoted (portBegun s r) r = u
  have keep {f : Fld} (h : f.reg ≠ .SB_CLK_STATUS) (hd : ∀ g ∈ distKinds, f.reg ≠ g.reg) :
      ((((u.endPlay r).requestEnded r).fset F.SB_SLIP_RESTORED r 0).calDisturb r |>.fset F.SB_CLK_STATUS_STATE r 2).fget f r =
        (((u.endPlay r).requestEnded r).fset F.SB_SLIP_RESTORED r 0).fget f r :=
    (State.fget_fset_apart _ _ (.inl h)).trans (fget_calDisturb _ hd)
  refine ⟨State.fget_fset_fits _ F.SB_CLK_STATUS_STATE r (by decide) (by decide), ?_, ?_⟩
  · refine (State.on_congr (keep (by decide) (by decide))).trans ?_
    exact (State.on_congr (State.fget_fset_apart _ _ (.inr (.inr (by decide))))).trans (State.req_requestEnded _ r)
  · refine (State.on_congr (keep (by decide) (by decide))).trans ?_
    exact State.on_fsetB _ F.SB_SLIP_RESTORED r false rfl (by decide)

/-- What the last cause's end leaves of the region's record, and where it sets the restart. -/
theorem ends_gatedOff (s : State) (r : Nat) :
    (gatedOff s r).rgn r = { stoppedRgn s r with restartMin := ((gatedOff s r).rgn r).restartMin } ∧
      ((s.secState (s.build.sectionOf r) = 2 ∨ s.secState (s.build.sectionOf r) = 3) → (gatedOff s r).gateCause r = false →
        ∃ p, ((gatedOff s r).rgn r).restartMin = some p ∧ RestartAt (s.sec (s.build.sectionOf r)).acc p) := by
  obtain ⟨hsecs, hb⟩ := secs_gatedBefore s r
  have hrgn : (gatedBefore s r).rgn r = stoppedRgn s r := (rgn_gatedBefore s r r).trans (if_pos rfl)
  have hsec : (gatedBefore s r).sec (s.build.sectionOf r) = s.sec (s.build.sectionOf r) := by
    unfold State.sec
    rw [hsecs]
  have hstate : (gatedBefore s r).secState (s.build.sectionOf r) = s.secState (s.build.sectionOf r) :=
    (regs_gatedOff s r).symm.trans ((fget_gatedOff s (by decide)).trans (fget_portBegun s (by decide)))
  have hends : CauseEnds (gatedBefore s r) (gatedOff s r) r := causeEnds_of rfl rfl rfl rfl rfl
  unfold CauseEnds CauseEndsAt at hends
  rw [hb, hsec, hstate, (shows_gatedBefore s r).1, hrgn] at hends
  split at hends
  next h =>
    obtain ⟨p, hp, hat⟩ := hends
    exact ⟨by rw [hp], fun _ _ => ⟨p, by rw [hp], hat⟩⟩
  next h =>
    exact ⟨by rw [hends], fun hrun hg => absurd ⟨rfl, hg, hrun⟩ h⟩

theorem gatedOff_only (s : State) (r : Nat) :
    let t := gatedOff s r
    let k := s.build.sectionOf r
    Only { s with rgns := t.rgns, calRgns := t.calRgns, xings := t.xings } t
      ([(F.SB_CLK_STATUS_STATE, r), (F.SB_GATE_PORT, r), (F.SB_SLIP_REQ, r), (F.SB_SLIP_RESTORED, r),
        (F.SB_PROFILE_SEQ_SKIPPED, r), (F.SEC_SYM_STATUS_REQUESTERS, k), (F.SEC_SYM_STATUS_ACTIVE, k)] ++ distFields r) := by
  intro t k
  have h1 : FldsKeep (Listed ((F.SB_GATE_PORT, r) :: gatedFields k r)) s t := by
    refine FldsKeep.trans (t := portBegun s r) ?_ ((gatedOff_flds s r).mono fun _ _ h => List.mem_cons_of_mem _ h)
    unfold portBegun
    split
    · exact (FldsKeep.refl _ s).fset 1 List.mem_cons_self
    · exact FldsKeep.refl _ s
  refine only_of_boxFrame (gatedOff_frame s r) (h1.mono fun f u h => ?_)
  unfold Listed gatedFields at h
  unfold Listed
  simp only [List.cons_append, List.nil_append, List.mem_cons] at h ⊢
  tauto

/-- GATING_WRITE_OFF (R117, R120, R601). -/
theorem gatingWriteOff (s : State) (r : Nat) : Claim.GatingWriteOff s r := by
  intro hp hr hc hstop
  have hgo : (s.isRegion r && s.clk r == 1 && ((s.rgn r).stopDue || (s.rgn r).grant == 3)) = true := by
    unfold State.isRegion
    simpa [hr, hc] using hstop
  have honly := gatedOff_only s r
  obtain ⟨hrgn, hrestart⟩ := ends_gatedOff s r
  obtain ⟨hclk, hreq, hrestored⟩ := shows_gatedBefore s r
  obtain ⟨hport, hport0⟩ := port_portBegun s r
  have hport' : (gatedOff s r).on F.SB_GATE_PORT r = (portBegun s r).on F.SB_GATE_PORT r :=
    State.on_congr (fget_gatedOff s (by decide))
  refine Runs.of_when (exec_gatingWriteOff s r) hp hgo honly.lives ?_
  refine ⟨(regs_gatedOff s r).trans hclk, ?_, by rw [hrgn]; rfl, by rw [hrgn]; rfl, by rw [hrgn]; rfl, by rw [hrgn]; rfl,
    by rw [hrgn]; rfl, by rw [hrgn]; rfl, hrestart, by rw [hrgn]; rfl, (State.on_congr (regs_gatedOff s r)).trans hreq,
    (State.on_congr (regs_gatedOff s r)).trans hrestored, fun h => hport'.trans (hport h), fun h => hport'.trans (hport0 h),
    fun q hq => ?_, honly⟩
  · rw [hrgn]
    exact Rgn.ledger_setLedger (s.rgn r) 0
  · refine (State.rgn_causeEndedAt_ne (gatedBefore s r) _ hq).trans ((rgn_gatedBefore s r q).trans (if_neg hq))

end Sys2Proof.Claim
end

section
/-! SUPPORT. REGION_RESTART and WRITE_OFF (R120, R189). -/

namespace Sys2Proof.Machine

/-! ### The least whole number at or above a quotient -/

theorem ceilNat_le_iff (n : Int) {d : Nat} (hd : 0 < d) (m : Nat) : ceilNat n d ≤ m ↔ n ≤ (m : Int) * d := by
  have hd' : (0 : Int) < d := by exact_mod_cast hd
  have hdiv : (n + d - 1) / (d : Int) < (m : Int) + 1 ↔ n + d - 1 < ((m : Int) + 1) * d := Int.ediv_lt_iff_lt_mul hd'
  have hexp : ((m : Int) + 1) * d = m * d + d := by rw [add_mul, one_mul]
  unfold ceilNat
  rw [Int.toNat_le, ← Int.lt_add_one_iff, hdiv, hexp]
  omega

end Sys2Proof.Machine

namespace Sys2Proof.Claim

open Sys2Proof.Machine

/-! ### The place at which R189 lets the clock go on -/

/-- The least Section edge that R189 allows. -/
def writeOffEdge (s : State) (k : Nat) (l : TickTime) (fwOld : Nat) : Nat :=
  max (ceilNat ((l.num * (fwOld : Int) + (65536 * l.den : Nat) - (s.count * (l.den * fwOld) : Nat)) * (s.fwCur k : Int)
      + ((s.sec k).acc * (l.den * fwOld) : Nat)) (65536 * (l.den * fwOld)))
    (ceilNat (((((s.sec k).edgeAt.getD 0 : Nat) : Int) - (s.count * 1 : Nat)) * (s.fwCur k : Int) + ((s.sec k).acc * 1 : Nat) + 1)
      65536)

theorem writeOffPos_eq (s : State) (k : Nat) (l : TickTime) (fwOld : Nat) : s.writeOffPos k l fwOld = 16 * writeOffEdge s k l fwOld := rfl

/-- R189 allows just the Section edges from the least one on. -/
theorem writeOffAllows_iff {s : State} {r fwOld : Nat} (hf : 0 < fwOld) (hd : 0 < (s.rgn r).tLast.den) (n : Nat) :
    WriteOffAllows s r fwOld n ↔ writeOffEdge s (s.build.sectionOf r) (s.rgn r).tLast fwOld ≤ n := by
  unfold writeOffEdge WriteOffAllows
  rw [max_le_iff, ceilNat_le_iff _ (by positivity), ceilNat_le_iff _ (by decide)]
  dsimp only
  push_cast
  refine and_congr ⟨fun h => ?_, fun h => ?_⟩ ⟨fun h => ?_, fun h => ?_⟩
  · linarith
  · linarith
  · have := Int.add_one_le_iff.2 h
    linarith
  · refine Int.add_one_le_iff.1 ?_
    linarith

/-! ### WRITE_OFF (R189) -/

theorem takeWriteOff_regsRgns {s : State} {r fwOld : Nat} (h : (s.rgn r).woff = some fwOld) : RegsRgns s (s.takeWriteOff r) := by
  have h1 : RegsRgns s (s.offWritten r fwOld) := (RegsRgns.refl s).setRgn r _
  have h2 := (h1.trans (State.requestEnded_frame (s.offWritten r fwOld) r)).fset F.SB_SLIP_RESTORED r 0
  have h3 : RegsRgns (((s.offWritten r fwOld).requestEnded r).fset F.SB_SLIP_RESTORED r 0) (s.takeWriteOff r) := by
    unfold RegsRgns
    rw [State.takeWriteOff_some h, State.alignPhNow_frame]
  exact h2.trans h3

/-- The fields that a write-off moves. -/
def writeOffFields (k r : Nat) : List (Fld × Nat) :=
  [(F.SB_SLIP_REQ, r), (F.SB_SLIP_RESTORED, r), (F.SEC_SYM_STATUS_REQUESTERS, k), (F.SEC_SYM_STATUS_ACTIVE, k),
    (F.SB_ROT_ALIGN_PH, r)]

theorem takeWriteOff_flds {s : State} {r fwOld : Nat} (h : (s.rgn r).woff = some fwOld) :
    FldsKeep (Listed (writeOffFields (s.build.sectionOf r) r)) s (s.takeWriteOff r) := by
  have h1 : FldsKeep (Listed (writeOffFields (s.build.sectionOf r) r)) s (s.offWritten r fwOld) := FldsKeep.ofRegs rfl rfl
  have h2 := (State.requestEnded_flds (s.offWritten r fwOld) r).mono (Q := Listed (writeOffFields (s.build.sectionOf r) r))
    fun f u hx => by
      have hx' : (f, u) ∈ [(F.SB_SLIP_REQ, r), (F.SEC_SYM_STATUS_REQUESTERS, s.build.sectionOf r),
        (F.SEC_SYM_STATUS_ACTIVE, s.build.sectionOf r)] := hx
      unfold Listed writeOffFields
      simp only [List.mem_cons, List.not_mem_nil, or_false] at hx' ⊢
      tauto
  have h3 := (h1.trans h2).fset (f := F.SB_SLIP_RESTORED) (u := r) 0 (List.mem_cons_of_mem _ List.mem_cons_self)
  rw [State.takeWriteOff_some h]
  exact h3.trans ((State.alignPhNow_flds _ r).mono fun f u hx => by
    have hx' := List.mem_singleton.1 hx
    unfold Listed writeOffFields
    rw [hx']
    simp)

/-- Another field than ALIGN_PH keeps what the end of the request left. -/
theorem fget_takeWriteOff {s : State} {r fwOld : Nat} (h : (s.rgn r).woff = some fwOld) {f : Fld} {u : Nat}
    (hf : f.reg ≠ .SB_ROT) :
    (s.takeWriteOff r).fget f u = (((s.offWritten r fwOld).requestEnded r).fset F.SB_SLIP_RESTORED r 0).fget f u := by
  rw [State.takeWriteOff_some h]
  exact State.alignPhNow_flds _ r f u (Listed.apart fun x hx => by
    rw [List.mem_singleton.1 hx]
    exact .inl hf)

theorem only_of_regsRgns {l : List (Fld × Nat)} {s t : State} (h : RegsRgns s t) (hf : FldsKeep (Listed l) s t) :
    Only { s with rgns := t.rgns } t l := by
  unfold RegsRgns at h
  have h1 : t.fresh = s.fresh := by rw [h]
  have h2 : t.freshMid = s.freshMid := by rw [h]
  refine ⟨hf.bitsKeep, ?_⟩
  rw [h1, h2]
  exact h

/-- WRITE_OFF (R189). -/
theorem writeOff (s : State) (r fwOld : Nat) : Claim.WriteOff s r fwOld := by
  intro hcomes hw hf hfw hden
  have honly := only_of_regsRgns (takeWriteOff_regsRgns hw) (takeWriteOff_flds hw)
  have hrgn := State.rgn_takeWriteOff hw
  have hself := (hrgn r).trans (if_pos rfl)
  have hreq : (s.takeWriteOff r).on F.SB_SLIP_REQ r = false := by
    refine (State.on_congr (fget_takeWriteOff hw (by decide))).trans ?_
    exact (State.on_congr (State.fget_fset_apart _ _ (.inr (.inr (by decide))))).trans (State.req_requestEnded _ r)
  have hrestored : (s.takeWriteOff r).on F.SB_SLIP_RESTORED r = false := by
    refine (State.on_congr (fget_takeWriteOff hw (by decide))).trans ?_
    exact State.on_fsetB _ F.SB_SLIP_RESTORED r false rfl (by decide)
  have halign : (s.takeWriteOff r).fget F.SB_ROT_ALIGN_PH r =
      (((s.rgn r).alignTgt.map (·.1)).getD (s.fget F.SB_ROT_ALIGN_PH r)) % 16 := by
    have htgt : ((((s.offWritten r fwOld).requestEnded r).fset F.SB_SLIP_RESTORED r 0).rgn r).alignTgt = (s.rgn r).alignTgt := by
      show (((s.offWritten r fwOld).requestEnded r).rgn r).alignTgt = _
      rw [State.rgn_requestEnded, if_pos rfl]
      unfold State.offWritten
      rw [State.rgn_setRgn_same]
      rfl
    have hold : (((s.offWritten r fwOld).requestEnded r).fset F.SB_SLIP_RESTORED r 0).fget F.SB_ROT_ALIGN_PH r =
        s.fget F.SB_ROT_ALIGN_PH r := by
      refine (State.fget_fset_apart _ _ (.inl (by decide))).trans ?_
      exact State.requestEnded_flds (s.offWritten r fwOld) r F.SB_ROT_ALIGN_PH r (Listed.apart fun x hx => .inl (by
        have hx' : x ∈ [(F.SB_SLIP_REQ, r), (F.SEC_SYM_STATUS_REQUESTERS, s.build.sectionOf r),
          (F.SEC_SYM_STATUS_ACTIVE, s.build.sectionOf r)] := hx
        simp only [List.mem_cons, List.not_mem_nil, or_false] at hx'
        rcases hx' with rfl | rfl | rfl
        · exact (by decide : Reg.SB_ROT ≠ .SB_SLIP)
        · exact (by decide : Reg.SB_ROT ≠ .SEC_SYM_STATUS)
        · exact (by decide : Reg.SB_ROT ≠ .SEC_SYM_STATUS)))
    rw [State.takeWriteOff_some hw, State.alignPh_alignPhNow, htgt, hold]
  refine Runs.of_when (b := fun s => s.edgeComes r) (f := fun s => s.takeWriteOff r) rfl hcomes.1 (edgeComes_of_comes hcomes)
    honly.lives ?_
  refine ⟨?_, by rw [hself]; rfl, by rw [hself]; rfl, ?_, by rw [hself]; rfl, by rw [hself]; rfl, hreq, hrestored, fun hon => ?_,
    halign, fun q hq => (hrgn q).trans (if_neg hq), honly⟩
  · rw [hself]
    exact Rgn.ledger_setLedger (s.rgn r) 0
  · refine ⟨writeOffEdge s (s.build.sectionOf r) (s.rgn r).tLast fwOld, ?_,
      (writeOffAllows_iff hf hden _).2 (le_refl _), fun m hm hm' => ?_⟩
    · rw [hself, ← writeOffPos_eq]
      rfl
    · have := (writeOffAllows_iff hf hden m).1 hm'
      omega
  · refine (fget_takeWriteOff hw (by decide)).trans ((State.fget_fset_apart _ _ (.inl (by decide))).trans ?_)
    exact State.requesters_requestEnded (s := s.offWritten r fwOld) hon

/-! ### REGION_RESTART (R120) -/

/-- The record of a region whose clock starts at a place. -/
def startedRgn (g : Rgn) (pos : Nat) : Rgn :=
  { g.setLedger 0 with
    first := some pos, restartMin := none, woff := none, stopDue := false, ackOut := false, grantOut := false
    ackFall := none, sbTimeVld := false, sinceStart := 0, reqHigh := true, own := 0, restRun := 0, cuSince := none }

/-- The clock reads RUNNING. -/
def clockStarted (s : State) (r p : Nat) : State := (s.setRgn r (startedRgn (s.rgn r) p)).fset F.SB_CLK_STATUS_STATE r 1

theorem startClock_eq (s : State) (r p : Nat) : s.startClock r p = (clockStarted s r p).alignPhNow r := rfl

theorem startClock_regsRgns (s : State) (r p : Nat) : RegsRgns s (s.startClock r p) := by
  have h1 : RegsRgns s (clockStarted s r p) := ((RegsRgns.refl s).setRgn r _).fset _ _ _
  have h2 : RegsRgns (clockStarted s r p) (s.startClock r p) := by
    unfold RegsRgns
    rw [startClock_eq, State.alignPhNow_frame]
  exact h1.trans h2

theorem startClock_flds (s : State) (r p : Nat) :
    FldsKeep (Listed [(F.SB_CLK_STATUS_STATE, r), (F.SB_ROT_ALIGN_PH, r)]) s (s.startClock r p) := by
  have h1 : FldsKeep (Listed [(F.SB_CLK_STATUS_STATE, r), (F.SB_ROT_ALIGN_PH, r)]) s (clockStarted s r p) :=
    (FldsKeep.ofRegs (t := s.setRgn r (startedRgn (s.rgn r) p)) rfl rfl).fset 1 List.mem_cons_self
  rw [startClock_eq]
  exact h1.trans ((State.alignPhNow_flds _ r).mono fun _ _ h => List.mem_cons_of_mem _ h)

theorem rgn_startClock (s : State) (r p q : Nat) :
    (s.startClock r p).rgn q = if q = r then startedRgn (s.rgn r) p else s.rgn q := by
  have h : (s.startClock r p).rgn q = (s.setRgn r (startedRgn (s.rgn r) p)).rgn q := by
    rw [startClock_eq, State.alignPhNow_frame]
    rfl
  rw [h, State.rgn_setRgn]

/-- Where no unit holds writes back none is applied. -/
theorem releaseHeld_none {s : State} (h : s.dsp.held = []) : s.releaseHeld = s := by
  unfold State.releaseHeld
  rw [h]
  rfl

/-- REGION_RESTART (R120). -/
theorem restarts (s : State) (r p : Nat) : Restarts s r p := by
  intro hp hr hc hg hrun hmin hheld
  have hruns : s.secRuns r = true := by
    unfold State.secRuns
    rcases hrun with h | h <;> simp [h]
  have hgo : s.restartDue r = true := by
    unfold State.restartDue State.isRegion
    rw [decide_eq_true hr, hc, hg, hruns, hmin]
    rfl
  have hframe := startClock_regsRgns s r p
  have heq : (s.restartRegion r).releaseHeld = s.startClock r p := by
    have hstart : s.restartRegion r = s.startClock r p := by
      unfold State.restartRegion
      rw [hmin]
    rw [hstart]
    refine releaseHeld_none ?_
    have hd : (s.startClock r p).dsp = s.dsp := by
      unfold RegsRgns at hframe
      rw [hframe]
    rw [hd, hheld]
  have honly := only_of_regsRgns hframe (startClock_flds s r p)
  have hself := (rgn_startClock s r p r).trans (if_pos rfl)
  refine Runs.of_when (b := fun s => s.restartDue r) (f := fun s => (s.restartRegion r).releaseHeld) rfl hp hgo
    (by rw [heq]; exact honly.lives) ?_
  rw [heq]
  refine ⟨?_, ?_, by rw [hself]; rfl, by rw [hself]; rfl, by rw [hself]; rfl, by rw [hself]; rfl, ?_,
    fun q hq => (rgn_startClock s r p q).trans (if_neg hq), honly⟩
  · rw [startClock_eq]
    refine (State.alignPhNow_flds _ r F.SB_CLK_STATUS_STATE r (Listed.apart fun x hx => ?_)).trans ?_
    · rw [List.mem_singleton.1 hx]
      exact .inl (by decide : Reg.SB_CLK_STATUS ≠ .SB_ROT)
    · exact State.fget_fset_fits _ F.SB_CLK_STATUS_STATE r (by decide) (by decide)
  · rw [hself]
    exact Rgn.ledger_setLedger (s.rgn r) 0
  · have htgt : ((clockStarted s r p).rgn r).alignTgt = (s.rgn r).alignTgt := by
      have hstarted : (clockStarted s r p).rgn r = startedRgn (s.rgn r) p := State.rgn_setRgn_same s r (startedRgn (s.rgn r) p)
      rw [hstarted]
      rfl
    have hold : (clockStarted s r p).fget F.SB_ROT_ALIGN_PH r = s.fget F.SB_ROT_ALIGN_PH r :=
      State.fget_fset_apart _ _ (.inl (by decide))
    rw [startClock_eq, State.alignPh_alignPhNow, htgt, hold]

/-- Settles O28: each command's effect is a change of SB_GATE, a move of its region's record, and the restart that R120 places. -/
theorem regionGating : Obligations.RegionGating := fun s r p fwOld edge on persists =>
  ⟨wakes s r edge, force s r on, faultClear s r persists, gateRequest s r, gatingWriteOff s r, restarts s r p, writeOff s r fwOld⟩

end Sys2Proof.Claim
end

section
/-!
SUPPORT. What the operations of a crossing's control channel leave, in the words of the statements: assertion and deassertion
of a reset input, an edge of a side, a flush edge, the end of a handshake (R214, R220–R223, R229, R603).
-/

namespace Sys2Proof.Claim

open Sys2Proof.Machine

/-! ### Sides, levels, causes -/

theorem eq_otherSide : ∀ {side other : Side}, other ≠ side → other = otherSide side
  | .writer, .reader, _ | .reader, .writer, _ => rfl
  | .writer, .writer, h | .reader, .reader, h => absurd rfl h

theorem seenAfter_iff (late : Bool) (a b : Nat) : SeenAfter late a b ↔ seenBy late a b = true := by
  unfold SeenAfter seenBy edgesSince
  rw [decide_eq_true_iff]

theorem atEdge_iff (s : State) (r : Nat) : AtEdge s r ↔ s.atEdge r = true := by
  unfold AtEdge State.atEdge
  rw [Bool.and_eq_true, Bool.and_eq_true, beq_iff_eq, Option.isNone_iff_eq_none, decide_eq_true_iff, and_assoc]

theorem starts_iff (f : Flush) (side : Side) : starts f side ↔ f.starter = side := by
  unfold starts Flush.starter
  split <;> exact eq_comm

/-! ### A reset input is asserted (R220, R223, R224) -/

theorem asserted_assert (q : Chan) (side : Side) (ed : Side → Nat) (n : Nat) :
    Asserted q (q.assert side ed n) side (otherSide side) (ed (otherSide side)) n := by
  cases side with
  | writer =>
    refine ⟨rfl, rfl, rfl, _, rfl, rfl, rfl, rfl, rfl, rfl, ?_⟩
    cases q.rst (otherSide .writer) with
    | true =>
      refine ⟨rfl, fun g hg => ?_⟩
      rw [hg]
      exact ⟨rfl, rfl, rfl⟩
    | false => exact ⟨rfl, rfl, rfl⟩
  | reader =>
    refine ⟨rfl, rfl, rfl, _, rfl, rfl, rfl, rfl, rfl, rfl, ?_⟩
    cases q.rst (otherSide .reader) with
    | true =>
      refine ⟨rfl, fun g hg => ?_⟩
      rw [hg]
      exact ⟨rfl, rfl, rfl⟩
    | false => exact ⟨rfl, rfl, rfl⟩

/-! ### The handshake starts (R222, R229) -/

/-- The handshake may start at an edge of a side, as the channel tests it. -/
theorem exists_mayStart_iff (q : Chan) (side : Side) :
    (∃ f, MayStart q side f) ↔ (q.mayStart && q.flush.any fun f => f.starter == side) = true := by
  unfold MayStart Chan.mayStart
  cases hf : q.flush with
  | none => simp
  | some f =>
    simp [starts_iff, Flush.passed, Option.isNone_iff_eq_none]
    tauto

/-- The channel with its request risen, at an edge of a side; `m` the other side's edges. -/
def requested (q : Chan) (side : Side) (m : Nat) : Chan := { q with hand := some { starter := side, step := 1, from_ := m } }

theorem start_of_mayStart {q : Chan} {side : Side} {f : Flush} (ed : Side → Nat) (h : MayStart q side f) :
    q.start side ed = requested q side (ed (otherSide side)) := if_pos ((exists_mayStart_iff q side).1 ⟨f, h⟩)

theorem start_of_not {q : Chan} {side : Side} (ed : Side → Nat) (h : ∀ f, ¬ MayStart q side f) : q.start side ed = q :=
  if_neg fun hh => (not_exists.2 h) ((exists_mayStart_iff q side).2 hh)

theorem deasserted_deassert (q : Chan) (side : Side) (ed : Side → Nat) :
    Deasserted q (q.deassert side ed) side (ed (otherSide side)) := by
  cases side with
  | writer => exact fun f => ⟨start_of_mayStart ed, start_of_not ed⟩
  | reader => exact fun f => ⟨start_of_mayStart ed, start_of_not ed⟩

/-! ### An edge of a side (R214, R222) -/

theorem edge_of_hand {q : Chan} {h : Hand} (side : Side) (ed : Side → Nat) (late : Bool) (hh : q.hand = some h) :
    q.edge side ed late = { q with hand := some (h.edge side ed late) } := by
  unfold Chan.edge
  rw [hh]

theorem edge_of_no_hand {q : Chan} (side : Side) (ed : Side → Nat) (late : Bool) (hh : q.hand = none) :
    q.edge side ed late = (q.seeAck side ed late).start side ed := by
  unfold Chan.edge
  rw [hh]

/-- Each level changes at the edge that sees the one before it. -/
theorem hand_edge (h : Hand) (side : Side) (ed : Side → Nat) (late : Bool) :
    (h.step = 0 → h.starter = side → h.edge side ed late = { h with step := 1, from_ := ed (otherSide side) }) ∧
    (h.step = 1 → h.starter ≠ side → SeenAfter late h.from_ (ed side) →
      h.edge side ed late = { h with step := 2, from_ := ed (otherSide side) }) ∧
    (h.step = 2 → h.starter = side → SeenAfter late h.from_ (ed side) →
      h.edge side ed late = { h with step := 3, from_ := ed (otherSide side) }) ∧
    (¬ ((h.step = 0 ∧ h.starter = side) ∨ (h.step = 1 ∧ h.starter ≠ side ∧ SeenAfter late h.from_ (ed side)) ∨
      (h.step = 2 ∧ h.starter = side ∧ SeenAfter late h.from_ (ed side))) → h.edge side ed late = h) := by
  have hother (hne : h.starter ≠ side) : ed h.starter = ed (otherSide side) := by rw [eq_otherSide hne]
  simp only [seenAfter_iff, Hand.edge, eq_comm (a := side)]
  refine ⟨fun h0 hs => ?_, fun h1 hs hl => ?_, fun h2 hs hl => ?_, fun hn => ?_⟩
  · rw [if_pos ⟨h0, hs⟩]
  · rw [if_neg (by omega), if_pos ⟨h1, Ne.symm hs, hl⟩, hother hs]
  · rw [if_neg (by omega), if_neg (by omega), if_pos ⟨h2, hs, hl⟩]
  · rw [if_neg (by tauto), if_neg (by tauto), if_neg (by tauto)]

/-- The flush once this edge has looked for its acknowledgement. -/
def ackLooked (f : Flush) (side : Side) (ed : Side → Nat) (late : Bool) : Flush :=
  if f.starter = side ∧ f.ackFrom.any (fun a => seenBy late a (ed side)) then { f with acked := true } else f

theorem ackLooked_eq (f : Flush) (side : Side) (ed : Side → Nat) (late : Bool) :
    ackLooked f side ed late = { f with acked := (ackLooked f side ed late).acked } := by
  unfold ackLooked
  split <;> rfl

theorem acked_ackLooked (f : Flush) (side : Side) (ed : Side → Nat) (late : Bool) :
    (ackLooked f side ed late).acked = true ↔
      f.acked = true ∨ (starts f side ∧ ∃ a, f.ackFrom = some a ∧ SeenAfter late a (ed side)) := by
  unfold ackLooked
  simp only [starts_iff, seenAfter_iff, Option.any_eq_true]
  split
  next h => exact ⟨fun _ => .inr h, fun _ => rfl⟩
  next h => exact ⟨.inl, fun ha => ha.resolve_right h⟩

theorem seeAck_some {q : Chan} {f : Flush} (side : Side) (ed : Side → Nat) (late : Bool) (hf : q.flush = some f) :
    q.seeAck side ed late = { q with flush := some (ackLooked f side ed late) } := by
  unfold Chan.seeAck
  rw [hf]
  rfl

theorem chanEdge_edge (q : Chan) (side : Side) (ed : Side → Nat) (late : Bool) :
    ChanEdge q (q.edge side ed late) side (ed side) (ed (otherSide side)) late := by
  have hrst : (q.edge side ed late).wRst = q.wRst ∧ (q.edge side ed late).rRst = q.rRst := by
    unfold Chan.edge
    split
    · exact ⟨rfl, rfl⟩
    · unfold Chan.start
      split <;> exact ⟨rfl, rfl⟩
  refine ⟨hrst.1, hrst.2, fun f hf hh => ?_, fun hf hh => ?_, fun h hh => ?_⟩
  · rw [edge_of_no_hand side ed late hh, seeAck_some side ed late hf]
    by_cases hm : MayStart { q with flush := some (ackLooked f side ed late) } side (ackLooked f side ed late)
    · rw [start_of_mayStart ed hm]
      exact ⟨_, rfl, ackLooked_eq f side ed late, acked_ackLooked f side ed late, fun _ => rfl, fun hn => absurd hm hn⟩
    · have hno : ∀ g, ¬ MayStart { q with flush := some (ackLooked f side ed late) } side g := by
        intro g hg
        obtain ⟨-, -, -, hfl, -⟩ := id hg
        exact hm (Option.some.inj hfl ▸ hg)
      rw [start_of_not ed hno]
      exact ⟨_, rfl, ackLooked_eq f side ed late, acked_ackLooked f side ed late, fun hs => absurd hs hm, fun _ => hh⟩
  · have hsee : q.seeAck side ed late = q := by
      unfold Chan.seeAck
      rw [hf]
      exact congrArg (fun x => { q with flush := x }) hf.symm
    rw [edge_of_no_hand side ed late hh, hsee]
    refine start_of_not ed fun g hg => ?_
    obtain ⟨-, -, -, hfl, -⟩ := hg
    rw [hf] at hfl
    cases hfl
  · rw [edge_of_hand side ed late hh, hh]
    obtain ⟨h0, h1, h2, hn⟩ := hand_edge h side ed late
    exact ⟨rfl, fun a b => congrArg some (h0 a b), fun a b c => congrArg some (h1 a b c),
      fun a b c => congrArg some (h2 a b c), fun a => congrArg some (hn a)⟩

/-! ### A flush edge (R221, R222) -/

/-- The flush once the flush edge of a side has passed, `n` more discarded. -/
def flushLeft (f : Flush) (side : Side) (ed : Side → Nat) (n : Nat) : Flush :=
  match side with
  | .writer => { f with n := f.n + n, ackFrom := some (ed f.starter), wDue := false }
  | .reader => { f with n := f.n + n, ackFrom := some (ed f.starter), rDue := false }

theorem flushEdge_some {q : Chan} {f : Flush} (side : Side) (ed : Side → Nat) (n : Nat) (hf : q.flush = some f) :
    q.flushEdge side ed n = { q with flush := some (flushLeft f side ed n) } := by
  unfold Chan.flushEdge
  rw [hf]
  cases side <;> rfl

/-- The record is made at the later flush edge. -/
theorem passed_flushLeft (f : Flush) (side : Side) (ed : Side → Nat) (n : Nat) :
    (flushLeft f side ed n).passed = !f.due (otherSide side) := by
  cases side <;> simp [flushLeft, Flush.passed, Flush.due, otherSide]

theorem flushPassed_flushLeft (f : Flush) (side : Side) (ed : Side → Nat) (n : Nat) :
    FlushPassed f { flushLeft f side ed n with recorded := !f.due (otherSide side) } side (otherSide side) n
      (ed .writer) (ed .reader) := by
  have hack : some (ed f.starter) = some (if f.cause = 1 then ed .writer else ed .reader) := by
    unfold Flush.starter
    split <;> rfl
  cases side <;> exact ⟨rfl, rfl, rfl, rfl, hack, rfl⟩

theorem flushes_of_mayCome {s : State} {q : Chan} {side : Side} {r : Nat} {f : Flush} {ed : Side → Nat}
    (h : FlushMayCome s q side r f) (hed : ed side = (s.rgn r).edges) : (q.flushes side ed && s.atEdge r) = true := by
  obtain ⟨hf, hd, hseen, hat⟩ := h
  rw [(atEdge_iff s r).1 hat, Bool.and_true]
  unfold Chan.flushes
  rw [hf, Option.any_some, hd, hed, Bool.true_and]
  exact (seenAfter_iff _ _ _).1 hseen

/-! ### The end of a handshake (R222, R603) -/

/-- The channel after the step of a handshake that a side sees last. -/
theorem ends_of_ending {q : Chan} {side : Side} {ed : Side → Nat} {h : Hand} (he : Ending q side (ed side) h) :
    ∃ q', q.ends side ed = some q' ∧ Ended q q' (ed (otherSide side)) h ∧ q'.hand.isNone = decide (h.step = 4) := by
  obtain ⟨hh, hseen, hstep⟩ := he
  rw [seenAfter_iff] at hseen
  unfold Chan.ends Ended
  rw [hh]
  rcases hstep with ⟨h3, hs⟩ | ⟨h4, hs⟩
  · refine ⟨_, if_pos ⟨h3, hs.symm, hseen⟩, ?_, by rw [h3]; rfl⟩
    rw [if_pos h3, eq_otherSide hs]
  · refine ⟨_, (if_neg (by omega)).trans (if_pos ⟨h4, hs.symm, hseen⟩), ?_, by rw [h4]; rfl⟩
    rw [if_neg (by omega)]

end Sys2Proof.Claim
end

section
/-! SUPPORT. A posting made once others have moved, and flags that hardware sets at a region's edge (R9, R445, R447, R449). -/

namespace Sys2Proof.Machine

/-! ### Flags set at an edge (R9) -/

theorem State.setFlagEdge_frame (s : State) (r : Nat) (f : Fld) (u : Nat) :
    s.setFlagEdge r f u =
      { s with regs := (s.setFlagEdge r f u).regs, fresh := (s.setFlagEdge r f u).fresh
               freshMid := (s.setFlagEdge r f u).freshMid } := by
  unfold State.setFlagEdge State.setBitsEdge
  split <;> rfl

/-- The flag is set at the tick edge or after it; the register takes the same word. -/
theorem State.fget_setFlagEdge (s : State) (r : Nat) (f : Fld) (u : Nat) (g : Fld) (w : Nat) :
    (s.setFlagEdge r f u).fget g w = (s.setFlag f u).fget g w := by
  unfold State.setFlagEdge State.setBitsEdge
  split <;> rfl

theorem FldsKeep.setFlagEdge {P : Fld → Nat → Prop} {s t : State} (h : FldsKeep P s t) (r : Nat) {f : Fld} {u : Nat}
    (hf : P f u) : FldsKeep P s (t.setFlagEdge r f u) :=
  fun g w hg => (State.fget_setFlagEdge t r f u g w).trans (h.setFlag hf g w hg)

theorem State.on_setFlagEdge (s : State) (r : Nat) (f : Fld) (u : Nat) (hw : f.w = 1) (hl : f.lo < 32) :
    (s.setFlagEdge r f u).on f u = true :=
  (State.on_congr (State.fget_setFlagEdge s r f u f u)).trans (State.on_setFlag s f u hw hl)

end Sys2Proof.Machine

namespace Sys2Proof.Claim

open Sys2Proof.Machine

/-! ### Postings (R445, R447, R449) -/

/-- The state shows the event sources as another does: the log's record, the Station's and EVT_CTRL are the same. -/
def PostsAs (s u : State) : Prop := u.log = s.log ∧ u.stn = s.stn ∧ u.fget F.EVT_CTRL_EN 0 = s.fget F.EVT_CTRL_EN 0

/-- A posting of a payload that fits its word, made in a state that shows the event sources as `s` does. -/
theorem posted_post {s u : State} (h : PostsAs s u) (src cls code : Nat) {l : List PItem} {pay : Nat} (hl : payload l = pay)
    (hp : pay < 2 ^ 32) : Posted s (u.post src cls code l) src cls code pay := by
  obtain ⟨hlog, hstn, hen⟩ := h
  have hsrc (x : Nat) : u.source x = s.source x := by unfold State.source; rw [hlog]
  have hready : u.logReady = s.logReady := by unfold State.logReady State.on; rw [hlog, hen]
  have hcount : u.count = s.count := by unfold State.count; rw [hstn]
  refine ⟨?_, fun x hx => ?_, ?_⟩
  · refine (State.source_setSource_same u src _).trans ?_
    rw [hl, Nat.mod_eq_of_lt hp, hsrc, hready, hcount]
  · exact (State.source_setSource u src x _).trans ((if_neg hx).trans (hsrc x))
  · rw [← hlog]
    rfl

/-- Three items of 8, 8 and at most 16 bits (R445). -/
theorem payload_two_bytes (a b c : Nat) (hc : c < 16) :
    payload [pOther a, pOther b, pEnum c] = min a 255 * 2 ^ 24 + min b 255 * 2 ^ 16 + c := by
  have : min c 65535 = c := by omega
  simp [payload, packItems, PItem.packed, PItem.last, PItem.width, pOther, pEnum, satU, this, Nat.add_assoc]

end Sys2Proof.Claim
end

section
/-!
SUPPORT. The fields of a Junction or an Interchange, what its commands answer, its frames; the reset inputs of its sides and its
restart (R220–R224, R231, R602, R603).
-/

namespace Sys2Proof.Machine

/-! ### The fields of a cell -/

theorem Cell.fld_cases (c : Cell) {P : Fld → Prop} {j i : Fld} (hj : P j) (hi : P i) : P (c.fld j i) := by
  unfold Cell.fld
  split
  · exact hj
  · exact hi

/-- Two fields of a cell that share no bit, of a Junction and of an Interchange. -/
theorem Cell.fld_apart (c : Cell) {j i j' i' : Fld} {u w : Nat}
    (hj : j.reg ≠ j'.reg ∨ j.lo + j.w ≤ j'.lo ∨ j'.lo + j'.w ≤ j.lo)
    (hi : i.reg ≠ i'.reg ∨ i.lo + i.w ≤ i'.lo ∨ i'.lo + i'.w ≤ i.lo) : (c.fld j i).Apart u (c.fld j' i') w := by
  unfold Cell.fld
  split
  · exact hj.imp_right .inr
  · exact hi.imp_right .inr

theorem Cell.fld_fits (c : Cell) {j i : Fld} (hj : j.lo + j.w ≤ 32) (hi : i.lo + i.w ≤ 32) :
    (c.fld j i).lo + (c.fld j i).w ≤ 32 := c.fld_cases (P := fun f => f.lo + f.w ≤ 32) hj hi

theorem Cell.on_setFlagEdge (c : Cell) {j i : Fld} (s : State) (r : Nat) (hj : j.w = 1 ∧ j.lo < 32) (hi : i.w = 1 ∧ i.lo < 32) :
    (s.setFlagEdge r (c.fld j i) c.idx).on (c.fld j i) c.idx = true := by
  obtain ⟨hw, hl⟩ := c.fld_cases (P := fun f => f.w = 1 ∧ f.lo < 32) hj hi
  exact State.on_setFlagEdge s r _ _ hw hl

/-- STATE after a write of it. -/
theorem State.xState_fset (s : State) (c : Cell) {v : Nat} (hv : v < 4) : (s.fset c.stateF c.idx v).xState c = v :=
  State.fget_fset_fits s c.stateF c.idx (c.fld_fits (by decide) (by decide)) (by
    unfold Cell.stateF
    rwa [c.fld_cases (P := fun f => f.w = 2) rfl rfl])

theorem State.xing_setXing_ne (s : State) {k j : Nat} (v : Xing) (h : j ≠ k) : (s.setXing k v).xing j = s.xing j :=
  (State.xing_setXing s k j v).trans (if_neg h)

/-! ### A reset input is asserted (R220, R602) -/

/-- The record of a cell in STATE OFF whose side's reset input is asserted. -/
def Xing.resetOff (x : Xing) (side : Side) : Xing :=
  { (x.clearHalf .writer).clearHalf .reader with
    entries := []
    chan := match side with
      | .writer => { x.chan with wRst := true, hand := none }
      | .reader => { x.chan with rRst := true, hand := none } }

theorem State.xResetOff_eq (s : State) (c : Cell) (side : Side) :
    s.xResetOff c side = s.setXing c.key ((s.xing c.key).resetOff side) := by cases side <;> rfl

/-- The record of a cell in another STATE whose side's reset input is asserted. -/
def Xing.resetOn (x : Xing) (side : Side) (ed : Side → Nat) : Xing :=
  { x.clearHalf side with
    chan := x.chan.assert side ed (if x.chan.rst (otherSide side) then x.entries.length else 0)
    entries := if x.chan.rst (otherSide side) then [] else x.entries }

theorem State.xReset_eq (s : State) (c : Cell) (side : Side) :
    s.xReset c side = (s.setXing c.key ((s.xing c.key).resetOn side (s.cellEdges c))).fset c.stateF c.idx 2 := rfl

theorem State.xResetAssert_held {s : State} {c : Cell} {side : Side} (h : (s.xing c.key).chan.rst side = true) :
    s.xResetAssert c side = s := if_pos h

theorem State.xResetAssert_off {s : State} {c : Cell} {side : Side} (h : (s.xing c.key).chan.rst side = false)
    (h0 : s.xState c = 0) : s.xResetAssert c side = s.setXing c.key ((s.xing c.key).resetOff side) := by
  unfold State.xResetAssert
  rw [h, if_neg Bool.false_ne_true, if_pos h0, State.xResetOff_eq]

theorem State.xResetAssert_on {s : State} {c : Cell} {side : Side} (h : (s.xing c.key).chan.rst side = false)
    (h0 : s.xState c ≠ 0) :
    s.xResetAssert c side = (s.setXing c.key ((s.xing c.key).resetOn side (s.cellEdges c))).fset c.stateF c.idx 2 := by
  unfold State.xResetAssert
  rw [h, if_neg Bool.false_ne_true, if_neg h0, State.xReset_eq]

/-! ### The handshake starts and ends (R222, R231) -/

theorem State.xRestarts_eq (s : State) (c : Cell) :
    s.xRestarts c = if s.xState c = 2 ∧ (s.xing c.key).chan.hand ≠ none then s.fset c.stateF c.idx 3 else s := by
  unfold State.xRestarts
  simp only [Option.isSome_iff_ne_none]

/-- STATE reads RESTART while the handshake that ends a flush runs. -/
theorem State.xState_xRestarts (s : State) (c : Cell) :
    (s.xRestarts c).xState c = if s.xState c = 2 ∧ (s.xing c.key).chan.hand ≠ none then 3 else s.xState c := by
  rw [State.xRestarts_eq]
  split
  · exact State.xState_fset s c (by decide)
  · rfl

theorem State.xRestarts_flds (s : State) (c : Cell) : FldsKeep (Listed [(c.stateF, c.idx)]) s (s.xRestarts c) := by
  unfold State.xRestarts
  split
  · exact (FldsKeep.refl _ s).fset 3 (List.mem_singleton_self _)
  · exact FldsKeep.refl _ s

theorem State.xRestarts_frame (s : State) (c : Cell) : s.xRestarts c = { s with regs := (s.xRestarts c).regs } := by
  unfold State.xRestarts
  split <;> rfl

theorem State.xing_xRestarts (s : State) (c : Cell) (k : Nat) : (s.xRestarts c).xing k = s.xing k := by
  rw [State.xRestarts_frame]
  rfl

/-- The record of a cell a side of which comes to run. -/
def Xing.halfStarted (x : Xing) (side : Side) (chan : Chan) : Xing :=
  match side with
  | .writer => { x.clearHalf .writer with chan, wRun := true }
  | .reader => { x.clearHalf .reader with chan, rRun := true }

theorem Xing.chan_halfStarted (x : Xing) (side : Side) (chan : Chan) : (x.halfStarted side chan).chan = chan := by
  cases side <;> rfl

/-- STATE returns to RUN and REALIGN clears. -/
def State.xRuns (s : State) (c : Cell) : State := (s.fset c.stateF c.idx 1).fset c.realignF c.idx 0

theorem State.xHandshake_eq {s : State} {c : Cell} {side : Side} {q : Chan}
    (h : (s.xing c.key).chan.ends side (s.cellEdges c) = some q) (hat : s.atEdge (c.side side) = true) :
    s.xHandshake c side =
      if q.hand.isNone then (s.setXing c.key ((s.xing c.key).halfStarted side q)).xRuns c
      else s.setXing c.key ((s.xing c.key).halfStarted side q) := by
  unfold State.xHandshake
  dsimp only
  rw [h]
  dsimp only
  rw [hat, if_neg (by decide)]
  cases side <;> rfl

theorem State.xState_xRuns (s : State) (c : Cell) : (s.xRuns c).xState c = 1 :=
  (State.fget_fset_apart _ _ (c.fld_apart (by decide) (by decide))).trans (State.xState_fset s c (by decide))

theorem State.on_realign_xRuns (s : State) (c : Cell) : (s.xRuns c).on c.realignF c.idx = false := by
  obtain ⟨hw, hl⟩ := c.fld_cases (P := fun f => f.w = 1 ∧ f.lo < 32) (j := F.JCT_CFG_REALIGN) (i := F.ICH_CFG_REALIGN)
    (by decide) (by decide)
  exact State.on_fsetB (s.fset c.stateF c.idx 1) c.realignF c.idx false hw hl

theorem State.xRuns_flds (s : State) (c : Cell) : FldsKeep (Listed [(c.stateF, c.idx), (c.realignF, c.idx)]) s (s.xRuns c) :=
  ((FldsKeep.refl _ s).fset 1 List.mem_cons_self).fset 0 (List.mem_cons_of_mem _ List.mem_cons_self)

/-- Where no write waits nothing applies as a unit becomes ready (R541). -/
theorem State.applyReady_none {s : State} (a : Nat) (h : s.shadow = []) :
    { s with shadow := dropRealign a s.shadow }.applyReady = s := by
  have hs : { s with shadow := ([] : List Shadow) } = s := by rw [← h]
  unfold State.applyReady State.applyShadows
  rw [h]
  exact hs

end Sys2Proof.Machine

namespace Sys2Proof.Claim

open Sys2Proof.Machine

/-! ### What the commands answer -/

/-- A command whose effect is known answers it. -/
theorem Runs.of_effect {c : Instr} {s t : State} {P : State → Prop} {f : State → State} (hc : exec c s = s.act f)
    (hp : s.por = false) (hf : f s = t) (hl : Lives s t) (h : P t) : Runs c s P :=
  Runs.of_act hc hp (hf ▸ hl) (hf ▸ h)

section
variable {s : State} {x : XId} {c : Cell} {P : State → Prop} (hp : s.por = false) (hx : s.build.cell x = some c) (side : Side)
include hp hx

theorem Runs.of_xResetAssert (hl : Lives s (s.xResetAssert c side)) (h : P (s.xResetAssert c side)) :
    Runs (.crossingResetAssert x side) s P := by
  have hc : exec (.crossingResetAssert x side) s = execCrossingResetAssert x side s := rfl
  unfold execCrossingResetAssert at hc
  refine Runs.of_effect hc hp ?_ hl h
  cases x with
  | tok k => cases hx
  | jct j => simp only [hx]
  | ich i => simp only [hx]

theorem Runs.of_xFlush (hl : Lives s (s.xFlush c side)) (h : P (s.xFlush c side)) : Runs (.crossingFlush x side) s P := by
  have hc : exec (.crossingFlush x side) s = execCrossingFlush x side s := rfl
  unfold execCrossingFlush at hc
  refine Runs.of_effect hc hp ?_ hl h
  cases x with
  | tok k => cases hx
  | jct j => simp only [hx]
  | ich i => simp only [hx]

theorem Runs.of_xResetDeassert (hat : s.atEdge (c.side side) = true) (hl : Lives s (s.xResetDeassert c side))
    (h : P (s.xResetDeassert c side)) : Runs (.crossingResetDeassert x side) s P := by
  have hc : exec (.crossingResetDeassert x side) s = execCrossingResetDeassert x side s := rfl
  unfold execCrossingResetDeassert at hc
  refine Runs.of_effect hc hp ?_ hl h
  cases x with
  | tok k => cases hx
  | jct j => simp only [hx, hat, State.iff_true]
  | ich i => simp only [hx, hat, State.iff_true]

theorem Runs.of_xHandshake (hs : (s.xHandshake c side).shadow = []) (hl : Lives s (s.xHandshake c side))
    (h : P (s.xHandshake c side)) : Runs (.crossingHandshakeDone x side) s P := by
  have hc : exec (.crossingHandshakeDone x side) s = execCrossingHandshakeDone x side s := rfl
  unfold execCrossingHandshakeDone at hc
  refine Runs.of_effect hc hp ?_ hl h
  cases x with
  | tok k => cases hx
  | jct j => simp only [hx, State.applyReady_none c.cfgAddr hs, ite_self]
  | ich i => simp only [hx, State.applyReady_none c.cfgAddr hs, ite_self]

end

/-! ### Frames of a cell -/

theorem only_xings {l : List (Fld × Nat)} {s t : State} (hf : FldsKeep (Listed l) s t)
    (hr : t = { s with regs := t.regs, fresh := t.fresh, freshMid := t.freshMid, xings := t.xings }) :
    Only { s with xings := t.xings } t l := ⟨hf.bitsKeep, hr⟩

/-- Nothing changes but registers with the marks of R9, cells and the event log. -/
def CellFrame (s t : State) : Prop :=
  t = { s with regs := t.regs, fresh := t.fresh, freshMid := t.freshMid, xings := t.xings, log := t.log }

theorem CellFrame.trans {s t v : State} (h : CellFrame s t) (h' : CellFrame t v) : CellFrame s v := by
  unfold CellFrame at h h'
  rw [h] at h'
  exact h'

theorem only_xings_log {l : List (Fld × Nat)} {s t : State} (hf : FldsKeep (Listed l) s t) (hr : CellFrame s t) :
    Only { s with xings := t.xings, log := t.log } t l := ⟨hf.bitsKeep, hr⟩

/-! ### CROSSING_RESET_ASSERT (R220, R223, R224, R602) -/

theorem halfClear_resetOff (x : Xing) (side : Side) : HalfClear (x.resetOff side) side := by
  cases side
  · exact ⟨rfl, rfl, rfl, rfl, rfl⟩
  · exact ⟨rfl, rfl, rfl⟩

theorem halfClear_resetOn (x : Xing) (side : Side) (ed : Side → Nat) : HalfClear (x.resetOn side ed) side := by
  cases side
  · exact ⟨rfl, rfl, rfl, rfl, rfl⟩
  · exact ⟨rfl, rfl, rfl⟩

theorem chan_resetOff (x : Xing) (side : Side) :
    (x.resetOff side).chan.rst side = true ∧ (x.resetOff side).chan.hand = none ∧ (x.resetOff side).chan.flush = x.chan.flush := by
  cases side <;> exact ⟨rfl, rfl, rfl⟩

theorem xResetAssert (s : State) (x : XId) (c : Cell) (side other : Side) : Claim.XResetAssert s x c side other := by
  intro hp hx hne
  obtain rfl := eq_otherSide hne
  cases hr : (s.xing c.key).chan.rst side with
  | true =>
    have heq : s.xResetAssert c side = s := State.xResetAssert_held hr
    have honly : Only { s with xings := s.xings } s [(c.stateF, c.idx)] := only_xings (FldsKeep.refl _ s) rfl
    refine Runs.of_xResetAssert hp hx.1 side (by rw [heq]; exact honly.lives) ?_
    rw [heq]
    exact ⟨fun _ => rfl, fun h => absurd h (by decide), fun _ _ => rfl, honly⟩
  | false =>
    by_cases h0 : s.xState c = 0
    · have heq := State.xResetAssert_off hr h0
      have hself := State.xing_setXing_same s c.key ((s.xing c.key).resetOff side)
      have honly : Only { s with xings := (s.setXing c.key ((s.xing c.key).resetOff side)).xings }
          (s.setXing c.key ((s.xing c.key).resetOff side)) [(c.stateF, c.idx)] := only_xings (FldsKeep.ofRegs rfl rfl) rfl
      refine Runs.of_xResetAssert hp hx.1 side (by rw [heq]; exact honly.lives) ?_
      rw [heq, hself]
      obtain ⟨hin, hhand, hflush⟩ := chan_resetOff (s.xing c.key) side
      exact ⟨fun h => absurd h (by decide),
        fun _ => ⟨halfClear_resetOff _ side, fun _ => ⟨h0, rfl, hin, hhand, hflush⟩, fun h => absurd h0 h⟩,
        fun k hk => State.xing_setXing_ne s _ hk, honly⟩
    · have heq := State.xResetAssert_on hr h0
      have hself : ((s.setXing c.key ((s.xing c.key).resetOn side (s.cellEdges c))).fset c.stateF c.idx 2).xing c.key = _ :=
        State.xing_setXing_same s c.key _
      have honly := only_xings (s := s) (FldsKeep.fset (FldsKeep.ofRegs rfl rfl :
        FldsKeep (Listed [(c.stateF, c.idx)]) s (s.setXing c.key ((s.xing c.key).resetOn side (s.cellEdges c)))) 2
        (List.mem_singleton_self _)) rfl
      refine Runs.of_xResetAssert hp hx.1 side (by rw [heq]; exact honly.lives) ?_
      rw [heq, hself]
      exact ⟨fun h => absurd h (by decide),
        fun _ => ⟨halfClear_resetOn _ side _, fun h => absurd h h0, fun _ => ⟨State.xState_fset _ c (by decide), rfl,
          asserted_assert _ side (s.cellEdges c) _⟩⟩,
        fun k hk => State.xing_setXing_ne s _ hk, honly⟩

/-! ### CROSSING_RESET_DEASSERT and CROSSING_HANDSHAKE_DONE (R220, R222, R231, R603) -/

/-- CROSSING_RESET_DEASSERT of a cell. -/
theorem xDeasserts {s : State} {x : XId} {c : Cell} {side : Side} (hp : s.por = false) (hx : HasCell s x c)
    (hat : s.atEdge (c.side side) = true) :
    Runs (.crossingResetDeassert x side) s fun t =>
      Deasserted (s.xing c.key).chan (t.xing c.key).chan side (s.rgn (c.side (otherSide side))).edges ∧
      t.xing c.key = { s.xing c.key with chan := (t.xing c.key).chan } ∧
      t.xState c = (if s.xState c = 2 ∧ (t.xing c.key).chan.hand ≠ none then 3 else s.xState c) ∧
      OtherCells s t c ∧ Only { s with xings := t.xings } t [(c.stateF, c.idx)] := by
  have hself : (s.xResetDeassert c side).xing c.key =
      { s.xing c.key with chan := (s.xing c.key).chan.deassert side (s.cellEdges c) } :=
    (State.xing_xRestarts _ c c.key).trans (State.xing_setXing_same s c.key _)
  have hstate : (s.xResetDeassert c side).xState c =
      if s.xState c = 2 ∧ ((s.xing c.key).chan.deassert side (s.cellEdges c)).hand ≠ none then 3 else s.xState c := by
    refine (State.xState_xRestarts _ c).trans ?_
    rw [State.xing_setXing_same]
    rfl
  have honly : Only { s with xings := (s.xResetDeassert c side).xings } (s.xResetDeassert c side) [(c.stateF, c.idx)] := by
    refine only_xings ((FldsKeep.ofRegs rfl rfl).trans (State.xRestarts_flds _ c)) ?_
    unfold State.xResetDeassert
    rw [State.xRestarts_frame]
    rfl
  refine Runs.of_xResetDeassert hp hx.1 side hat honly.lives ?_
  rw [hself]
  exact ⟨deasserted_deassert _ side (s.cellEdges c), rfl, hstate,
    fun k hk => (State.xing_xRestarts _ c k).trans (State.xing_setXing_ne s _ hk), honly⟩

theorem halfRuns_halfStarted (x : Xing) (side : Side) (chan : Chan) : HalfRuns (x.halfStarted side chan) side := by
  cases side <;> exact ⟨rfl, rfl, rfl⟩

/-- CROSSING_HANDSHAKE_DONE of a cell. -/
theorem xHandshakes {s : State} {x : XId} {c : Cell} {side : Side} {h : Hand} (hp : s.por = false) (hx : HasCell s x c)
    (hat : s.atEdge (c.side side) = true) (hs : s.shadow = [])
    (he : Ending (s.xing c.key).chan side (s.rgn (c.side side)).edges h) :
    Runs (.crossingHandshakeDone x side) s fun t =>
      HalfRuns (t.xing c.key) side ∧
      Ended (s.xing c.key).chan (t.xing c.key).chan (s.rgn (c.side (otherSide side))).edges h ∧
      (h.step = 4 → t.xState c = 1 ∧ t.on c.realignF c.idx = false) ∧
      (h.step = 3 → Only { s with xings := t.xings } t []) ∧
      OtherCells s t c ∧ Only { s with xings := t.xings } t [(c.stateF, c.idx), (c.realignF, c.idx)] := by
  obtain ⟨q, hends, hended, hnone⟩ := ends_of_ending (ed := s.cellEdges c) he
  have heq := State.xHandshake_eq hends hat
  have hself := State.xing_setXing_same s c.key ((s.xing c.key).halfStarted side q)
  have hothers (k : Nat) (hk : k ≠ c.key) := State.xing_setXing_ne s ((s.xing c.key).halfStarted side q) hk
  have hkeep (l : List (Fld × Nat)) : FldsKeep (Listed l) s (s.setXing c.key ((s.xing c.key).halfStarted side q)) :=
    FldsKeep.ofRegs rfl rfl
  have hruns := halfRuns_halfStarted (s.xing c.key) side q
  by_cases h4 : h.step = 4
  · rw [hnone, decide_eq_true h4, if_pos rfl] at heq
    have honly := only_xings ((hkeep _).trans (State.xRuns_flds _ c)) rfl
    refine Runs.of_xHandshake hp hx.1 side (by rw [heq]; exact hs) (by rw [heq]; exact honly.lives) ?_
    rw [heq]
    have hself' : ((s.setXing c.key ((s.xing c.key).halfStarted side q)).xRuns c).xing c.key = _ := hself
    rw [hself', Xing.chan_halfStarted]
    exact ⟨hruns, hended, fun _ => ⟨State.xState_xRuns _ c, State.on_realign_xRuns _ c⟩,
      fun h3 => absurd (h3.symm.trans h4) (by decide), hothers, honly⟩
  · rw [hnone, decide_eq_false h4, if_neg Bool.false_ne_true] at heq
    refine Runs.of_xHandshake hp hx.1 side (by rw [heq]; exact hs)
      (by rw [heq]; exact (only_xings (hkeep []) rfl).lives) ?_
    rw [heq, hself, Xing.chan_halfStarted]
    exact ⟨hruns, hended, fun hh => absurd hh h4, fun _ => only_xings (hkeep []) rfl, hothers, only_xings (hkeep _) rfl⟩

theorem xRestart (s : State) (x : XId) (c : Cell) (side other : Side) (h : Hand) : Claim.XRestart s x c side other h := by
  intro hp hx hne hat hs
  obtain rfl := eq_otherSide hne
  have hat' := (atEdge_iff s (c.side side)).1 hat
  exact ⟨xDeasserts hp hx hat', xHandshakes hp hx hat' hs⟩

end Sys2Proof.Claim
end

section
/-! SUPPORT. CROSSING_FLUSH and POINTER_PARITY: what the record and the event of a cell say (R221, R228, R229, R445, R603). -/

namespace Sys2Proof.Machine

/-! ### A flush edge of a cell (R221) -/

/-- The record of a cell that the flush edge of a side has emptied. -/
def Xing.halfFlushed (x : Xing) (side : Side) (chan : Chan) : Xing :=
  match side with
  | .writer => { x with chan, entries := [], wRun := false, wReady := false, reads := [], gone := 0 }
  | .reader => { x with chan, entries := [], rRun := false, rValid := false, gone := x.gone + x.entries.length }

theorem Xing.chan_halfFlushed (x : Xing) (side : Side) (chan : Chan) : (x.halfFlushed side chan).chan = chan := by
  cases side <;> rfl

theorem Xing.entries_halfFlushed (x : Xing) (side : Side) (chan : Chan) : (x.halfFlushed side chan).entries = [] := by
  cases side <;> rfl

theorem Xing.halfFlushed_chan (x : Xing) (side : Side) (chan chan' : Chan) :
    { x.halfFlushed side chan with chan := chan' } = x.halfFlushed side chan' := by cases side <;> rfl

theorem State.xFlush_eq {s : State} {c : Cell} {side : Side}
    (h : ((s.xing c.key).chan.flushes side (s.cellEdges c) && s.atEdge (c.side side)) = true) :
    s.xFlush c side = (s.setXing c.key ((s.xing c.key).halfFlushed side
      ((s.xing c.key).chan.flushEdge side (s.cellEdges c) (s.xing c.key).entries.length))).xRecord c (c.side side) := by
  unfold State.xFlush
  dsimp only
  rw [h, if_neg (by decide)]
  cases side <;> rfl

/-- The registers of a cell's record of a flush (R603). -/
def State.xShown (s : State) (c : Cell) (r : Nat) (f : Flush) : State :=
  ((s.fset c.flushedF c.idx (satU c.flushedF.w f.n)).fset c.causeF c.idx f.cause).setFlagEdge r c.flushF c.idx

/-- The fields of the record. -/
def Cell.recordFields (c : Cell) : List (Fld × Nat) := [(c.flushedF, c.idx), (c.causeF, c.idx), (c.flushF, c.idx)]

theorem State.xRecord_waits {s : State} {c : Cell} {f : Flush} (r : Nat) (hf : (s.xing c.key).chan.flush = some f)
    (hp : f.passed = false) : s.xRecord c r = s := by
  unfold State.xRecord
  dsimp only
  rw [hf]
  dsimp only
  rw [hp, if_pos (by simp)]

theorem State.xRecord_makes {s : State} {c : Cell} {f : Flush} (r : Nat) (hf : (s.xing c.key).chan.flush = some f)
    (hr : f.recorded = false) (hp : f.passed = true) :
    s.xRecord c r = ((s.setXing c.key { s.xing c.key with
        chan := { (s.xing c.key).chan with flush := some { f with recorded := true } } }).xShown c r f).post
      c.reader 4 (if c.isJct then 3 else 4) [c.item, pOther f.n, pEnum f.cause] := by
  unfold State.xRecord
  dsimp only
  rw [hf]
  dsimp only
  rw [hr, hp, if_neg (by decide)]
  rfl

theorem State.xShown_flds (s : State) (c : Cell) (r : Nat) (f : Flush) :
    FldsKeep (Listed c.recordFields) s (s.xShown c r f) :=
  (((FldsKeep.refl _ s).fset _ List.mem_cons_self).fset _ (List.mem_cons_of_mem _ List.mem_cons_self)).setFlagEdge r
    (List.mem_cons_of_mem _ (List.mem_cons_of_mem _ List.mem_cons_self))

theorem State.xShown_frame (s : State) (c : Cell) (r : Nat) (f : Flush) :
    s.xShown c r f = { s with regs := (s.xShown c r f).regs, fresh := (s.xShown c r f).fresh
                              freshMid := (s.xShown c r f).freshMid } := by
  unfold State.xShown
  rw [State.setFlagEdge_frame]
  rfl

/-- What the registers show of a record. -/
theorem State.shows_xShown (s : State) (c : Cell) (r : Nat) (f : Flush) :
    (s.xShown c r f).fget c.flushedF c.idx = min f.n (2 ^ c.flushedF.w - 1) ∧
      (s.xShown c r f).fget c.causeF c.idx = f.cause % 2 ^ c.causeF.w ∧ (s.xShown c r f).on c.flushF c.idx = true := by
  have keep {g : Fld} (u : State) (hg : g.Apart c.idx c.flushF c.idx) :
      (u.setFlagEdge r c.flushF c.idx).fget g c.idx = u.fget g c.idx :=
    (State.fget_setFlagEdge u r c.flushF c.idx g c.idx).trans (State.fget_fset_apart u _ hg)
  refine ⟨?_, ?_, c.on_setFlagEdge _ r (by decide) (by decide)⟩
  · refine (keep _ (c.fld_apart (by decide) (by decide))).trans ?_
    refine (State.fget_fset_apart _ _ (c.fld_apart (by decide) (by decide))).trans ?_
    refine State.fget_fset_fits s c.flushedF c.idx (c.fld_fits (by decide) (by decide)) ?_
    have := Nat.two_pow_pos c.flushedF.w
    unfold satU
    omega
  · refine (keep _ (c.fld_apart (by decide) (by decide))).trans ?_
    exact State.fget_fset_same _ c.causeF c.idx _ (c.fld_fits (by decide) (by decide))

/-! ### A pointer's parity fails (R228, R229) -/

/-- PARITY and its event. -/
def State.parityShown (s : State) (c : Cell) (pointer side : Side) : State :=
  (s.setFlagEdge (c.side side) c.parityF c.idx).post c.reader 4 (if c.isJct then 1 else 2)
    [c.item, pEnum (if pointer = .writer then 0 else 1)]

theorem State.parityShown_flds (s : State) (c : Cell) (p side : Side) :
    FldsKeep (Listed [(c.parityF, c.idx)]) s (s.parityShown c p side) :=
  ((FldsKeep.refl _ s).setFlagEdge (c.side side) (List.mem_singleton_self _)).beside rfl rfl

theorem State.parityShown_frame (s : State) (c : Cell) (p side : Side) :
    s.parityShown c p side = { s with
      regs := (s.parityShown c p side).regs, fresh := (s.parityShown c p side).fresh
      freshMid := (s.parityShown c p side).freshMid, log := (s.parityShown c p side).log } := by
  unfold State.parityShown
  rw [State.setFlagEdge_frame]
  rfl

theorem State.xParity_eq (s : State) (c : Cell) (p side : Side) :
    s.xParity c p side =
      if s.xState c = 0 ∨ (s.xing c.key).chan.wRst = true ∨ (s.xing c.key).chan.rRst = true then s.parityShown c p side
      else (s.parityShown c p side).xRealign c 4 := by
  have hst : (s.parityShown c p side).xState c = s.xState c :=
    State.parityShown_flds s c p side c.stateF c.idx
      (Listed.apart fun x hx => by rw [List.mem_singleton.1 hx]; exact c.fld_apart (by decide) (by decide))
  have hxi : (s.parityShown c p side).xing c.key = s.xing c.key := by
    rw [State.parityShown_frame]
    rfl
  rw [← hst, ← hxi]
  unfold State.xParity State.parityShown
  simp only [Bool.or_eq_true, decide_eq_true_eq, or_assoc]

end Sys2Proof.Machine

namespace Sys2Proof.Claim

open Sys2Proof.Machine

/-! ### Payloads of a cell's events (R445) -/

theorem payload_jct_flush {i : Nat} (n : Nat) {cause : Nat} (hi : i < 2048) (hc : cause < 16) :
    payload [.num 11 i, pOther n, pEnum cause] = i * 2 ^ 21 + min n 255 * 2 ^ 13 + cause := by
  have h1 : min i 2047 = i := by omega
  have h2 : min cause 8191 = cause := by omega
  simp [payload, packItems, PItem.packed, PItem.last, PItem.width, pOther, pEnum, satU, h1, h2, Nat.add_assoc]

theorem payload_jct_parity {i : Nat} {p : Nat} (hi : i < 2048) (hp : p < 16) :
    payload [.num 11 i, pEnum p] = i * 2 ^ 21 + p := by
  have h1 : min i 2047 = i := by omega
  have h2 : min p 2097151 = p := by omega
  simp [payload, packItems, PItem.packed, PItem.last, PItem.width, pEnum, satU, h1, h2]

theorem payload_ich_parity (i : Nat) {p : Nat} (hp : p < 16) : payload [pOther i, pEnum p] = min i 255 * 2 ^ 24 + p := by
  have h2 : min p 16777215 = p := by omega
  simp [payload, packItems, PItem.packed, PItem.last, PItem.width, pOther, pEnum, satU, h2]

/-- The event of a flush of a cell. -/
theorem posted_flush {s u : State} (h : PostsAs s u) (c : Cell) (n : Nat) {cause : Nat} (hi : c.idx < 2048) (hc : cause < 16) :
    let t := u.post c.reader 4 (if c.isJct then 3 else 4) [c.item, pOther n, pEnum cause]
    if c.isJct then Posted s t c.reader 4 3 (c.idx * 2 ^ 21 + min n 255 * 2 ^ 13 + cause)
    else Posted s t c.reader 4 4 (min c.idx 255 * 2 ^ 24 + min n 255 * 2 ^ 16 + cause) := by
  unfold Cell.item
  cases c.isJct with
  | true => exact posted_post h c.reader 4 3 (payload_jct_flush n hi hc) (by omega)
  | false => exact posted_post h c.reader 4 4 (payload_two_bytes c.idx n cause hc) (by omega)

/-- The event of a parity error in a cell. -/
theorem posted_parity {s u : State} (h : PostsAs s u) (c : Cell) {p : Nat} (hi : c.idx < 2048) (hp : p < 16) :
    Posted s (u.post c.reader 4 (if c.isJct then 1 else 2) [c.item, pEnum p]) c.reader 4 (if c.isJct then 1 else 2)
      ((if c.isJct then c.idx * 2 ^ 21 else min c.idx 255 * 2 ^ 24) + p) := by
  unfold Cell.item
  cases c.isJct with
  | true => exact posted_post h c.reader 4 1 (payload_jct_parity hi hp) (by simp only [if_true]; omega)
  | false => exact posted_post h c.reader 4 2 (payload_ich_parity c.idx hp) (by simp only [Bool.false_eq_true, if_false]; omega)

/-! ### CROSSING_FLUSH (R221, R603) -/

theorem halfStopped_halfFlushed (x : Xing) (side : Side) (chan : Chan) : HalfStopped (x.halfFlushed side chan) side := by
  cases side
  · exact ⟨rfl, rfl, rfl⟩
  · exact ⟨rfl, rfl⟩

theorem recorded_flushLeft {f : Flush} (side : Side) (ed : Side → Nat) (n : Nat) :
    (flushLeft f side ed n).recorded = f.recorded ∧ (flushLeft f side ed n).cause = f.cause ∧ (flushLeft f side ed n).n = f.n + n := by
  cases side <;> exact ⟨rfl, rfl, rfl⟩

theorem flushLeft_of_recorded {f : Flush} {b : Bool} (side : Side) (ed : Side → Nat) (n : Nat) (h : f.recorded = b) :
    { flushLeft f side ed n with recorded := b } = flushLeft f side ed n := by
  subst h
  cases side <;> rfl

/-- The channel after the flush edge of a side, its record made where it is the later one. -/
def flushedChan (q : Chan) (f : Flush) (side : Side) (ed : Side → Nat) (n : Nat) : Chan :=
  { q with flush := some { flushLeft f side ed n with recorded := !f.due (otherSide side) } }

/-- One cell holds `x`, and nothing else has changed. -/
structure CellMoved (s u : State) (c : Cell) (x : Xing) : Prop where
  self : u.xing c.key = x
  others : OtherCells s u c
  rest : u = { s with xings := u.xings }

theorem cellMoved_setXing (s : State) (c : Cell) (x : Xing) : CellMoved s (s.setXing c.key x) c x :=
  ⟨State.xing_setXing_same s c.key x, fun _ hk => State.xing_setXing_ne s x hk, rfl⟩

theorem CellMoved.setXing {s u : State} {c : Cell} {x : Xing} (h : CellMoved s u c x) (y : Xing) :
    CellMoved s (u.setXing c.key y) c y := by
  refine ⟨State.xing_setXing_same u c.key y, fun k hk => (State.xing_setXing_ne u y hk).trans (h.others k hk), ?_⟩
  have e := congrArg (fun w : State => { w with xings := (u.setXing c.key y).xings }) h.rest
  exact e

section
variable {s : State} {c : Cell} {side : Side} {f : Flush} (hm : FlushMayCome s (s.xing c.key).chan side (c.side side) f)
  (hr : f.recorded = false)
include hm hr

/-- The earlier flush edge makes no record. -/
theorem xFlush_earlier (hd : f.due (otherSide side) = true) :
    CellMoved s (s.xFlush c side) c ((s.xing c.key).halfFlushed side
      (flushedChan (s.xing c.key).chan f side (s.cellEdges c) (s.xing c.key).entries.length)) := by
  have hleft : flushedChan (s.xing c.key).chan f side (s.cellEdges c) (s.xing c.key).entries.length =
      { (s.xing c.key).chan with flush := some (flushLeft f side (s.cellEdges c) (s.xing c.key).entries.length) } := by
    unfold flushedChan
    rw [hd, Bool.not_true, flushLeft_of_recorded side _ _ hr]
  rw [State.xFlush_eq (flushes_of_mayCome hm rfl), flushEdge_some side _ _ hm.1, hleft]
  rw [State.xRecord_waits (c.side side) (f := flushLeft f side (s.cellEdges c) (s.xing c.key).entries.length)]
  · exact cellMoved_setXing s c _
  · rw [State.xing_setXing_same, Xing.chan_halfFlushed]
  · rw [passed_flushLeft, hd]
    rfl

/-- The later flush edge makes the record. -/
theorem xFlush_later (hd : f.due (otherSide side) = false) :
    ∃ u g, CellMoved s u c ((s.xing c.key).halfFlushed side
        (flushedChan (s.xing c.key).chan f side (s.cellEdges c) (s.xing c.key).entries.length)) ∧
      g.n = f.n + (s.xing c.key).entries.length ∧ g.cause = f.cause ∧
      s.xFlush c side = (u.xShown c (c.side side) g).post c.reader 4 (if c.isJct then 3 else 4)
        [c.item, pOther g.n, pEnum g.cause] := by
  obtain ⟨hrec, hcause, hn⟩ := recorded_flushLeft (f := f) side (s.cellEdges c) (s.xing c.key).entries.length
  rw [State.xFlush_eq (flushes_of_mayCome hm rfl), flushEdge_some side _ _ hm.1]
  rw [State.xRecord_makes (c.side side) (f := flushLeft f side (s.cellEdges c) (s.xing c.key).entries.length) ?_
    (hrec.trans hr) (by rw [passed_flushLeft, hd]; rfl)]
  · refine ⟨_, _, ?_, hn, hcause, rfl⟩
    rw [State.xing_setXing_same, Xing.halfFlushed_chan, Xing.chan_halfFlushed]
    unfold flushedChan
    rw [hd]
    exact (cellMoved_setXing s c _).setXing _
  · rw [State.xing_setXing_same, Xing.chan_halfFlushed]

end

/-- EVT_CTRL.EN and what a posting shows beside it stay where only a cell and its fields have changed. -/
theorem postsAs_of_flds {s v : State} {l : List (Fld × Nat)} (hf : FldsKeep (Listed l) s v)
    (hl : ∀ x ∈ l, F.EVT_CTRL_EN.reg ≠ x.1.reg) (hlog : v.log = s.log) (hstn : v.stn = s.stn) : PostsAs s v :=
  ⟨hlog, hstn, hf _ _ (Listed.apart fun x hx => .inl (hl x hx))⟩

/-- The record and its event, once the cell has moved. -/
theorem recordMade_of_moved {s u : State} {c : Cell} {x : Xing} (h : CellMoved s u c x) (r : Nat) (f : Flush) (code : Nat)
    (l : List PItem) :
    let t := (u.xShown c r f).post c.reader 4 code l
    PostsAs s (u.xShown c r f) ∧ t.xings = u.xings ∧ Only { s with xings := t.xings, log := t.log } t c.recordFields := by
  intro t
  have hframe := State.xShown_frame u c r f
  have hflds : FldsKeep (Listed c.recordFields) s (u.xShown c r f) :=
    (FldsKeep.ofRegs (by rw [h.rest]) (by rw [h.rest])).trans (State.xShown_flds u c r f)
  have hregs : ∀ x ∈ c.recordFields, F.EVT_CTRL_EN.reg ≠ x.1.reg := by
    unfold Cell.recordFields
    simp only [List.forall_mem_cons, List.not_mem_nil, false_implies, implies_true, and_true]
    exact ⟨c.fld_cases (P := fun f => F.EVT_CTRL_EN.reg ≠ f.reg) (by decide) (by decide),
      c.fld_cases (P := fun f => F.EVT_CTRL_EN.reg ≠ f.reg) (by decide) (by decide),
      c.fld_cases (P := fun f => F.EVT_CTRL_EN.reg ≠ f.reg) (by decide) (by decide)⟩
  refine ⟨postsAs_of_flds hflds hregs (by rw [hframe, h.rest]) (by rw [hframe, h.rest]), ?_,
    only_xings_log (hflds.beside rfl rfl) ?_⟩
  · show (u.xShown c r f).xings = u.xings
    rw [hframe]
  · have h1 : CellFrame s u := by unfold CellFrame; rw [h.rest]
    have h2 : CellFrame u (u.xShown c r f) := by unfold CellFrame; rw [hframe]
    exact (h1.trans h2).trans rfl

theorem xFlush (s : State) (x : XId) (c : Cell) (side other : Side) (f : Flush) : Claim.XFlush s x c side other f := by
  intro hp hx hi hne hm hr hc
  obtain rfl := eq_otherSide hne
  have hpassed := flushPassed_flushLeft f side (s.cellEdges c) (s.xing c.key).entries.length
  cases hd : f.due (otherSide side) with
  | true =>
    obtain ⟨hself, hothers, hrest⟩ := xFlush_earlier hm hr hd
    have honly (l : List (Fld × Nat)) : Only { s with xings := (s.xFlush c side).xings } (s.xFlush c side) l :=
      only_xings (FldsKeep.ofRegs (by rw [hrest]) (by rw [hrest])) (by rw [hrest])
    have hlog : (s.xFlush c side).log = s.log := by rw [hrest]
    refine Runs.of_xFlush hp hx.1 side (honly []).lives ?_
    rw [hself, hlog]
    exact ⟨Xing.entries_halfFlushed _ side _, halfStopped_halfFlushed _ side _,
      ⟨_, Xing.chan_halfFlushed _ side _, hpassed⟩, fun h => absurd h (by decide), fun _ => ⟨rfl, honly []⟩, hothers, honly _⟩
  | false =>
    obtain ⟨u, g, ⟨hself, hothers, hrest⟩, hn, hcause, heq⟩ := xFlush_later hm hr hd
    obtain ⟨hposts, hxings, honly⟩ := recordMade_of_moved ⟨hself, hothers, hrest⟩ (c.side side) g
      (if c.isJct then 3 else 4) [c.item, pOther g.n, pEnum g.cause]
    obtain ⟨hflushed, hcaused, hflag⟩ := State.shows_xShown u c (c.side side) g
    rw [← heq] at hxings honly
    refine Runs.of_xFlush hp hx.1 side honly.lives ?_
    have hcell (k : Nat) : (s.xFlush c side).xing k = u.xing k := by
      unfold State.xing
      rw [hxings]
    rw [hcell, hself]
    refine ⟨Xing.entries_halfFlushed _ side _, halfStopped_halfFlushed _ side _,
      ⟨_, Xing.chan_halfFlushed _ side _, hpassed⟩, fun _ => ?_, fun h => absurd h (by decide),
      fun k hk => (hcell k).trans (hothers k hk), honly⟩
    rw [heq, ← hn]
    exact ⟨hflushed, hcaused.trans (by rw [hcause]), hflag, hcause ▸ posted_flush hposts c g.n hi (hcause.symm ▸ hc)⟩

/-! ### POINTER_PARITY (R228, R229) -/

theorem realigns_xRealign {s u : State} {c : Cell} {cause : Nat} (hx : u.xing c.key = s.xing c.key) (hr : u.rgns = s.rgns) :
    Realigns s (u.xRealign c cause) c cause := by
  refine ⟨State.xState_fset _ c (by decide), (State.xing_setXing_same u c.key _).trans ?_⟩
  have hed (r : Nat) : (u.rgn r).edges = (s.rgn r).edges := by unfold State.rgn; rw [hr]
  unfold Chan.realign State.cellEdges
  rw [hx, hed, hed]
  rfl

theorem xRealign_flds (u : State) (c : Cell) (cause : Nat) : FldsKeep (Listed [(c.stateF, c.idx)]) u (u.xRealign c cause) :=
  FldsKeep.fset (FldsKeep.ofRegs rfl rfl) 2 (List.mem_singleton_self _)

theorem xing_xRealign_ne (u : State) {c : Cell} {k : Nat} (cause : Nat) (hk : k ≠ c.key) :
    (u.xRealign c cause).xing k = u.xing k := State.xing_setXing_ne u _ hk

theorem postsAs_parity (s : State) (c : Cell) (r : Nat) : PostsAs s (s.setFlagEdge r c.parityF c.idx) := by
  have hf := (FldsKeep.refl (Listed [(c.parityF, c.idx)]) s).setFlagEdge r (List.mem_singleton_self _)
  refine postsAs_of_flds hf (fun x hx => ?_) (by rw [State.setFlagEdge_frame]) (by rw [State.setFlagEdge_frame])
  rw [List.mem_singleton.1 hx]
  exact c.fld_cases (P := fun f => F.EVT_CTRL_EN.reg ≠ f.reg) (by decide) (by decide)

/-- PARITY and its event, as they are read. -/
theorem shows_parityShown (s : State) (c : Cell) (p side : Side) (hi : c.idx < 2048) :
    (s.parityShown c p side).on c.parityF c.idx = true ∧
      Posted s (s.parityShown c p side) c.reader 4 (if c.isJct then 1 else 2)
        ((if c.isJct then c.idx * 2 ^ 21 else min c.idx 255 * 2 ^ 24) + if p = .writer then 0 else 1) ∧
      (s.parityShown c p side).xState c = s.xState c ∧ (s.parityShown c p side).xings = s.xings ∧
      (s.parityShown c p side).rgns = s.rgns := by
  have hframe := State.parityShown_frame s c p side
  refine ⟨c.on_setFlagEdge s (c.side side) (by decide) (by decide), posted_parity (postsAs_parity s c (c.side side)) c hi ?_,
    ?_, by rw [hframe], by rw [hframe]⟩
  · split <;> decide
  · exact State.parityShown_flds s c p side c.stateF c.idx
      (Listed.apart fun x hx => by rw [List.mem_singleton.1 hx]; exact c.fld_apart (by decide) (by decide))

theorem xParity (s : State) (x : XId) (c : Cell) (p side : Side) : Claim.XParity s x c p side := by
  intro hp hx hi hhold hat
  have hgo : (c.holds p side && s.atEdge (c.side side)) = true := by
    rw [(atEdge_iff s (c.side side)).1 hat, Bool.and_true]
    unfold Cell.holds
    rwa [Bool.or_eq_true, beq_iff_eq]
  obtain ⟨hpar, hposted, hstate, hxings, hrgns⟩ := shows_parityShown s c p side hi
  have hxing (k : Nat) : (s.parityShown c p side).xing k = s.xing k := by unfold State.xing; rw [hxings]
  have hframe : CellFrame s (s.parityShown c p side) := by
    unfold CellFrame
    rw [State.parityShown_frame]
  have hflds := (State.parityShown_flds s c p side).mono (Q := Listed [(c.parityF, c.idx), (c.stateF, c.idx)]) fun _ _ h =>
    List.mem_cons.2 (.inl (List.mem_singleton.1 h))
  have hc : exec (.pointerParity x p side) s = execPointerParity x p side s := rfl
  unfold execPointerParity at hc
  by_cases hoff : s.xState c = 0 ∨ (s.xing c.key).chan.wRst = true ∨ (s.xing c.key).chan.rRst = true
  · have honly := only_xings_log hflds hframe
    refine Runs.of_effect (t := s.parityShown c p side) hc hp ?_ honly.lives
      ⟨hpar, hposted, fun h0 hw hr => ?_, fun _ => ⟨hxings, hstate⟩, fun k _ => hxing k, honly⟩
    · simp only [hx.1, hgo, State.iff_true, State.xParity_eq, if_pos hoff]
    · rw [hw, hr] at hoff
      simp [h0] at hoff
  · have honly := only_xings_log
      (hflds.trans ((xRealign_flds (s.parityShown c p side) c 4).mono fun _ _ h => List.mem_cons_of_mem _ h)) (hframe.trans rfl)
    have hon : ((s.parityShown c p side).xRealign c 4).on c.parityF c.idx = true := by
      refine (State.on_congr (xRealign_flds (s.parityShown c p side) c 4 c.parityF c.idx (Listed.apart fun y hy => ?_))).trans hpar
      rw [List.mem_singleton.1 hy]
      exact c.fld_apart (by decide) (by decide)
    refine Runs.of_effect (t := (s.parityShown c p side).xRealign c 4) hc hp ?_ honly.lives
      ⟨hon, hposted, fun _ _ _ => realigns_xRealign (hxing c.key) hrgns, fun h => absurd h hoff,
        fun k hk => (xing_xRealign_ne _ 4 hk).trans (hxing k), honly⟩
    simp only [hx.1, hgo, State.iff_true, State.xParity_eq, if_neg hoff]

end Sys2Proof.Claim
end

section
/-!
SUPPORT. The host's writes of a crossing's configuration register, CROSSING_ALIGN and OCC_REFRESH (R231, R232, R234); the
statement on resets and alignment of a Junction or an Interchange as a whole.
-/

namespace Sys2Proof.Machine

/-! ### Where a cell's configuration register lies -/

theorem jctCfg_lies : Reg.LiesAt .JCT_CFG .jct 8 := by unfold Reg.LiesAt; decide
theorem ichCfg_lies : Reg.LiesAt .ICH_CFG .ich 16 := by unfold Reg.LiesAt; decide
theorem jctCfg_plain : Reg.Plain .JCT_CFG := ⟨fun _ _ _ _ => rfl, fun _ => rfl, by decide⟩
theorem ichCfg_plain : Reg.Plain .ICH_CFG := ⟨fun _ _ _ _ => rfl, fun _ => rfl, by decide⟩
theorem jctRealign_w1s : F.JCT_CFG_REALIGN.W1s := ⟨rfl, by decide, by decide, by decide, by decide, by decide⟩
theorem ichRealign_w1s : F.ICH_CFG_REALIGN.W1s := ⟨rfl, by decide, by decide, by decide, by decide, by decide⟩

theorem wordAddr_jctCfg {j : Nat} (hj : j < 1536) : wordAddr (regAddr .JCT_CFG j) = 0xC0000 + 8 * j := by
  have ha : regAddr .JCT_CFG j = 0xC0000 + 8 * j := by simp [regAddr, Reg.info]
  rw [ha]
  exact wordAddr_of_lt (by omega) (by omega)

theorem wordAddr_ichCfg {i : Nat} (hi : i < 240) : wordAddr (regAddr .ICH_CFG i) = 0xC3000 + 16 * i := by
  have ha : regAddr .ICH_CFG i = 0xC3000 + 16 * i := by simp [regAddr, Reg.info]
  rw [ha]
  exact wordAddr_of_lt (by omega) (by omega)

theorem Build.place_jctCfg (b : Build) {j : Nat} (hj : j < b.junctions.length) (hn : b.junctions.length ≤ 1536) :
    b.place (wordAddr (regAddr .JCT_CFG j)) = .reg .JCT_CFG j := by
  rw [wordAddr_jctCfg (by omega), ← regPlace_lies jctCfg_lies j]
  have hq : (0xC0000 + 8 * j - 0xC0000) / 8 = j := by omega
  have hm : (0xC0000 + 8 * j) % 8 = 0 := by omega
  unfold Build.place
  iterate 18 rw [if_neg (by omega)]
  rw [if_pos (by omega), hq, hm, if_pos hj]
  rfl

theorem Build.place_ichCfg (b : Build) {i : Nat} (hi : i < b.interchanges.length) (hn : b.interchanges.length ≤ 240) :
    b.place (wordAddr (regAddr .ICH_CFG i)) = .reg .ICH_CFG i := by
  rw [wordAddr_ichCfg (by omega), ← regPlace_lies ichCfg_lies i]
  have hq : (0xC3000 + 16 * i - 0xC3000) / 16 = i := by omega
  have hm : (0xC3000 + 16 * i) % 16 = 0 := by omega
  unfold Build.place
  iterate 19 rw [if_neg (by omega)]
  rw [if_pos (by omega), hq, hm, if_pos hi]
  rfl

theorem mapped_jctCfg {j : Nat} (hj : j < 1536) : mapped (regAddr .JCT_CFG j) = true := by
  simp only [mapped, wordAddr_jctCfg hj, Bool.not_eq_true', Bool.or_eq_false_iff, Bool.and_eq_false_iff, decide_eq_false_iff_not]
  omega

theorem mapped_ichCfg {i : Nat} (hi : i < 240) : mapped (regAddr .ICH_CFG i) = true := by
  simp only [mapped, wordAddr_ichCfg hi, Bool.not_eq_true', Bool.or_eq_false_iff, Bool.and_eq_false_iff, decide_eq_false_iff_not]
  omega

/-! ### The effect of a stored configuration register -/

/-- With the offsets as they were and no CLR_MAX a write of JCT_CFG is a write of REALIGN. -/
theorem State.jctCfgWritten_realign {s : State} {j : Nat} {old w : Word} (hp : getF old 4 8 = getF (s.reg .JCT_CFG j) 4 8)
    (hw : getF w F.JCT_CFG_CLR_MAX.lo 1 ≠ 1) : s.jctCfgWritten j old w = s.realignWritten (.jct j) old := by
  unfold State.jctCfgWritten
  dsimp only
  rw [if_neg (not_not.2 hp), if_neg hw]

theorem State.jctCfgWritten_clrMax {s : State} {j : Nat} {old w : Word} (hp : getF old 4 8 = getF (s.reg .JCT_CFG j) 4 8)
    (hw : getF w F.JCT_CFG_CLR_MAX.lo 1 = 1) :
    s.jctCfgWritten j old w = (s.occClrMax (.jct j)).realignWritten (.jct j) old := by
  unfold State.jctCfgWritten
  dsimp only
  rw [if_neg (not_not.2 hp), if_pos hw]

theorem State.ichCfgWritten_realign {s : State} {i : Nat} {old w : Word} (hw : getF w F.ICH_CFG_CLR_MAX.lo 1 ≠ 1) :
    s.ichCfgWritten i old w = s.realignWritten (.ich i) old := by
  unfold State.ichCfgWritten
  dsimp only
  rw [if_neg hw]

theorem State.ichCfgWritten_clrMax {s : State} {i : Nat} {old w : Word} (hw : getF w F.ICH_CFG_CLR_MAX.lo 1 = 1) :
    s.ichCfgWritten i old w = (s.occClrMax (.ich i)).realignWritten (.ich i) old := by
  unfold State.ichCfgWritten
  dsimp only
  rw [if_pos hw]

/-- The bit of REALIGN in a cell's configuration register. -/
theorem State.getF_realign (s : State) (c : Cell) : getF (s.reg c.realignF.reg c.idx) 1 1 = (s.on c.realignF c.idx).toNat := by
  have hw : c.realignF.w = 1 := c.fld_cases (P := fun f => f.w = 1) rfl rfl
  have hl : c.realignF.lo = 1 := c.fld_cases (P := fun f => f.lo = 1) rfl rfl
  rw [← State.fget_of_on s c.realignF c.idx hw]
  unfold State.fget
  rw [hw, hl]

/-- A REALIGN that was 0 and is 1 realigns a cell in RUN (R231). -/
theorem State.realignWritten_eq {s : State} {x : XId} {c : Cell} {old : Word} (hx : s.build.cell x = some c) :
    s.realignWritten x old =
      if getF old 1 1 = 0 ∧ s.on c.realignF c.idx = true ∧ s.xState c = 1 then s.xRealign c 5 else s := by
  unfold State.realignWritten
  rw [hx]

end Sys2Proof.Machine

namespace Sys2Proof.Claim

open Sys2Proof.Machine

/-! ### The host writes a cell's configuration register -/

theorem hostCrossing_jct {s : State} {n : Nat} (f g : Fld) (h : n < s.build.junctions.length) :
    s.hostCrossing f g (.jct n) = s.hostBit f n := by simp [State.hostCrossing, State.iff, h]

theorem hostCrossing_ich {s : State} {n : Nat} (f g : Fld) (h : n < s.build.interchanges.length) :
    s.hostCrossing f g (.ich n) = s.hostBit g n := by simp [State.hostCrossing, State.iff, h]

/-- Where the write of a Junction's JCT_CFG goes. -/
theorem HostCell.jct {s : State} {n : Nat} {c : Cell} (h : HostCell s (.jct n) c) :
    HostMay s .JCT_CFG n ∧ s.build.place (wordAddr (regAddr .JCT_CFG n)) = .reg .JCT_CFG n ∧
      mapped (regAddr .JCT_CFG n) = true ∧ n < s.build.junctions.length ∧ c.realignF = F.JCT_CFG_REALIGN ∧ c.idx = n := by
  obtain ⟨hm, hx, hj, -⟩ := h
  obtain ⟨x, hn, rfl⟩ := Option.map_eq_some_iff.1 (show s.build.junctions[n]?.map _ = some c from hx)
  have hlt := (List.getElem?_eq_some_iff.1 hn).1
  exact ⟨hm, s.build.place_jctCfg hlt hj, mapped_jctCfg (by omega), hlt, rfl, rfl⟩

/-- Where the write of an Interchange's ICH_CFG goes. -/
theorem HostCell.ich {s : State} {n : Nat} {c : Cell} (h : HostCell s (.ich n) c) :
    HostMay s .ICH_CFG n ∧ s.build.place (wordAddr (regAddr .ICH_CFG n)) = .reg .ICH_CFG n ∧
      mapped (regAddr .ICH_CFG n) = true ∧ n < s.build.interchanges.length ∧ c.realignF = F.ICH_CFG_REALIGN ∧ c.idx = n := by
  obtain ⟨hm, hx, -, hi⟩ := h
  obtain ⟨x, hn, rfl⟩ := Option.map_eq_some_iff.1 (show s.build.interchanges[n]?.map _ = some c from hx)
  have hlt := (List.getElem?_eq_some_iff.1 hn).1
  exact ⟨hm, s.build.place_ichCfg hlt hi, mapped_ichCfg (by omega), hlt, rfl, rfl⟩

/-- The host writes 1 to REALIGN: the bit is stored, and what the write starts follows. -/
theorem HostCell.realign {s : State} {x : XId} {c : Cell} (h : HostCell s x c) :
    ∃ j, Stored [(c.realignF, c.idx)] s j ∧ j.on c.realignF c.idx = true ∧
      s.hostCrossing F.JCT_CFG_REALIGN F.ICH_CFG_REALIGN x = j.realignWritten x (s.reg c.realignF.reg c.idx) := by
  cases x with
  | tok k => cases h.2.1
  | jct n =>
    obtain ⟨hm, hplace, hmap, hn, hreal, hidx⟩ := h.jct
    obtain ⟨j, p, hs, hval, hw⟩ := State.hostBit_w1s (f := F.JCT_CFG_REALIGN) s jctCfg_plain jctRealign_w1s hm hplace hmap
      (safeKept_of_ne s (by decide))
    have hph : j.fget ⟨.JCT_CFG, 4, 8⟩ n = s.fget ⟨.JCT_CFG, 4, 8⟩ n := hs.fget (fun x hx => by
      rw [List.mem_singleton.1 hx]
      exact .inr (.inr (.inr (by decide : F.JCT_CFG_REALIGN.lo + F.JCT_CFG_REALIGN.w ≤ 4)))) (by decide)
    rw [hreal, hidx, hostCrossing_jct _ _ hn]
    exact ⟨j, hs, by unfold State.on; rw [hval]; rfl, hw.trans (State.jctCfgWritten_realign hph.symm (by decide))⟩
  | ich n =>
    obtain ⟨hm, hplace, hmap, hn, hreal, hidx⟩ := h.ich
    obtain ⟨j, p, hs, hval, hw⟩ := State.hostBit_w1s (f := F.ICH_CFG_REALIGN) s ichCfg_plain ichRealign_w1s hm hplace hmap
      (safeKept_of_ne s (by decide))
    rw [hreal, hidx, hostCrossing_ich _ _ hn]
    exact ⟨j, hs, by unfold State.on; rw [hval]; rfl, hw.trans (State.ichCfgWritten_realign (by decide))⟩

/-- The host writes 1 to CLR_MAX: nothing is stored, and what the write starts follows. -/
theorem HostCell.clrMax {s : State} {x : XId} {c : Cell} (h : HostCell s x c) :
    ∃ j, Stored [] s j ∧ s.hostCrossing F.JCT_CFG_CLR_MAX F.ICH_CFG_CLR_MAX x =
      (j.occClrMax x).realignWritten x (s.reg c.realignF.reg c.idx) := by
  cases x with
  | tok k => cases h.2.1
  | jct n =>
    obtain ⟨hm, hplace, hmap, hn, hreal, hidx⟩ := h.jct
    obtain ⟨j, p, hs, hw⟩ := State.hostWord_wo s (putF 0 2 1 1) (maskF 2 1) jctCfg_plain (by decide) (by decide) (by decide)
      (by decide) hm hplace hmap (safeKept_of_ne s (by decide))
    have hph : j.fget ⟨.JCT_CFG, 4, 8⟩ n = s.fget ⟨.JCT_CFG, 4, 8⟩ n := hs.fget (fun x hx => by cases hx) (by decide)
    rw [hreal, hidx, hostCrossing_jct _ _ hn]
    exact ⟨j, hs, hw.trans (State.jctCfgWritten_clrMax hph.symm (by decide))⟩
  | ich n =>
    obtain ⟨hm, hplace, hmap, hn, hreal, hidx⟩ := h.ich
    obtain ⟨j, p, hs, hw⟩ := State.hostWord_wo s (putF 0 2 1 1) (maskF 2 1) ichCfg_plain (by decide) (by decide) (by decide)
      (by decide) hm hplace hmap (safeKept_of_ne s (by decide))
    rw [hreal, hidx, hostCrossing_ich _ _ hn]
    exact ⟨j, hs, hw.trans (State.ichCfgWritten_clrMax (by decide))⟩

/-- The host's write and an effect on listed fields and on cells. -/
theorem HostOnly.of_stored_xings {l l' : List (Fld × Nat)} {s j t : State} (hj : Stored l s j) (ht : FldsKeep (Listed l') j t)
    (hl : ∀ x ∈ l, x ∈ l') (hr : t = { j with regs := t.regs, fresh := t.fresh, xings := t.xings }) :
    HostOnly { s with xings := t.xings } t l' := by
  obtain ⟨hbits, hbytes, hsrcs, hrest⟩ := HostOnly.of_stored_only (t := { t with xings := j.xings }) hj
    (ht.trans (FldsKeep.ofRegs rfl rfl)) hl (congrArg (fun w : State => { w with xings := j.xings }) hr)
  exact ⟨hbits, hbytes, hsrcs, congrArg (fun w : State => { w with xings := t.xings }) hrest⟩

/-- A field of a cell's registers that the host's write does not meet. -/
theorem fget_cell_stored {l : List (Fld × Nat)} {s j : State} {c : Cell} {f g : Fld} (h : Stored l s j)
    (hl : ∀ x ∈ l, (c.fld f g).Apart c.idx x.1 x.2) (hf : ∀ x ∈ jnlFields, f.reg ≠ x.1.reg) (hg : ∀ x ∈ jnlFields, g.reg ≠ x.1.reg) :
    j.fget (c.fld f g) c.idx = s.fget (c.fld f g) c.idx :=
  h.fget hl (c.fld_cases (P := fun f => ∀ x ∈ jnlFields, f.reg ≠ x.1.reg) hf hg)

/-- CROSSING_REALIGN (R231). -/
theorem xRealigns {s : State} {x : XId} {c : Cell} (h : HostCell s x c) :
    Runs (.crossingRealign x) s fun t =>
      t.on c.realignF c.idx = true ∧
      (s.on c.realignF c.idx = false → s.xState c = 1 → Realigns s t c 5) ∧
      (s.on c.realignF c.idx = true ∨ s.xState c ≠ 1 → t.xings = s.xings ∧ t.xState c = s.xState c) ∧
      OtherCells s t c ∧ HostOnly { s with xings := t.xings } t [(c.realignF, c.idx), (c.stateF, c.idx)] := by
  obtain ⟨j, hs, hon, hw⟩ := h.realign
  have hstate : j.xState c = s.xState c := fget_cell_stored hs (fun y hy => by
    rw [List.mem_singleton.1 hy]
    exact c.fld_apart (by decide) (by decide)) (by decide) (by decide)
  have hxings : j.xings = s.xings := by rw [hs.rest]
  have hxing (k : Nat) : j.xing k = s.xing k := by unfold State.xing; rw [hxings]
  have hmem : ∀ y ∈ [(c.realignF, c.idx)], y ∈ [(c.realignF, c.idx), (c.stateF, c.idx)] := fun y hy =>
    List.mem_cons.2 (.inl (List.mem_singleton.1 hy))
  rw [State.realignWritten_eq (by rw [hs.build]; exact h.2.1), State.getF_realign, hstate] at hw
  have hc : exec (.crossingRealign x) s = execCrossingRealign x s := rfl
  unfold execCrossingRealign at hc
  by_cases hgo : s.on c.realignF c.idx = false ∧ s.xState c = 1
  · rw [hgo.1, if_pos ⟨rfl, hon, hgo.2⟩] at hw
    have hflds := xRealign_flds j c 5
    have honly := HostOnly.of_stored_xings hs (hflds.mono fun _ _ hy => List.mem_cons_of_mem _ hy) hmem rfl
    have hon' : (j.xRealign c 5).on c.realignF c.idx = true := by
      refine (State.on_congr (hflds _ _ (Listed.apart fun y hy => ?_))).trans hon
      rw [List.mem_singleton.1 hy]
      exact c.fld_apart (by decide) (by decide)
    refine Runs.of_effect hc h.1.1 hw honly.lives
      ⟨hon', fun _ _ => realigns_xRealign (hxing c.key) hs.rgns, fun hn => ?_,
        fun k hk => (xing_xRealign_ne j 5 hk).trans (hxing k), honly⟩
    rcases hn with hn | hn
    · rw [hgo.1] at hn
      cases hn
    · exact absurd hgo.2 hn
  · rw [if_neg fun hh => hgo ⟨by simpa using hh.1, hh.2.2⟩] at hw
    have honly := HostOnly.of_stored_xings (t := j) hs (FldsKeep.refl _ j) hmem rfl
    exact Runs.of_effect hc h.1.1 hw honly.lives
      ⟨hon, fun h0 h1 => absurd ⟨h0, h1⟩ hgo, fun _ => ⟨hxings, hstate⟩, fun k _ => hxing k, honly⟩

/-- The fields OCC and OCC_MAX of a cell are of one width. -/
theorem occMax_width (c : Cell) : c.occMaxF.w = c.occF.w := by
  unfold Cell.occMaxF Cell.occF Cell.fld
  cases c.isJct <;> rfl

/-- OCC_CLR_MAX (R234). -/
theorem occClrMaxes {s : State} {x : XId} {c : Cell} (h : HostCell s x c) :
    Runs (.occClrMax x) s fun t => t.fget c.occMaxF c.idx = s.fget c.occF c.idx ∧ HostOnly s t [(c.occMaxF, c.idx)] := by
  obtain ⟨j, hs, hw⟩ := h.clrMax
  have hnil (P : Fld × Nat → Prop) : ∀ y ∈ ([] : List (Fld × Nat)), P y := fun y hy => by cases hy
  have hx : j.build.cell x = some c := by rw [hs.build]; exact h.2.1
  have hclr : j.occClrMax x = j.fset c.occMaxF c.idx (j.fget c.occF c.idx) := by
    unfold State.occClrMax
    rw [hx]
  have hreal : (j.occClrMax x).on c.realignF c.idx = s.on c.realignF c.idx := by
    rw [hclr]
    exact State.on_congr ((State.fget_fset_apart _ _ (c.fld_apart (by decide) (by decide))).trans
      (fget_cell_stored hs (hnil _) (by decide) (by decide)))
  have hocc : j.fget c.occF c.idx = s.fget c.occF c.idx := fget_cell_stored hs (hnil _) (by decide) (by decide)
  have hsame : (j.occClrMax x).realignWritten x (s.reg c.realignF.reg c.idx) = j.occClrMax x := by
    rw [State.realignWritten_eq (by rw [hclr]; exact hx), State.getF_realign, hreal]
    refine if_neg fun hh => ?_
    rw [hh.2.1] at hh
    exact absurd hh.1 (by decide)
  have hc : exec (.occClrMax x) s = execOccClrMax x s := rfl
  unfold execOccClrMax at hc
  have honly : HostOnly s (j.fset c.occMaxF c.idx (j.fget c.occF c.idx)) [(c.occMaxF, c.idx)] :=
    HostOnly.of_stored_only hs ((FldsKeep.refl _ j).fset _ (List.mem_singleton_self _)) (hnil _) rfl
  refine Runs.of_effect hc h.1.1 (hw.trans (hsame.trans hclr)) honly.lives ⟨?_, honly⟩
  rw [← hocc]
  exact State.fget_fset_fits j c.occMaxF c.idx (c.fld_fits (by decide) (by decide))
    (by rw [occMax_width]; exact State.fget_lt j c.occF c.idx)

theorem xWrites (s : State) (x : XId) (c : Cell) : Claim.XWrites s x c := fun h => ⟨xRealigns h, occClrMaxes h⟩

/-! ### CROSSING_ALIGN and OCC_REFRESH (R232, R234) -/

/-- CROSSING_ALIGN of a cell. -/
theorem xAligns {s : State} {x : XId} {c : Cell} (hp : s.por = false) (hx : s.build.cell x = some c) (h0 : s.xState c = 0)
    (hh : (s.xing c.key).chan.hand = none) (hw : (s.xing c.key).chan.wRst = false) (hr : (s.xing c.key).chan.rRst = false)
    (hcw : (s.sec (s.build.sectionOf c.writer)).released = true) (hcr : (s.sec (s.build.sectionOf c.reader)).released = true) :
    Runs (.crossingAlign x) s fun t =>
      t.xing c.key = { s.xing c.key with chan := { (s.xing c.key).chan with hand := some { starter := .reader } } } ∧
      OtherCells s t c ∧ t = { s with xings := t.xings } := by
  have hc : exec (.crossingAlign x) s = execCrossingAlign x s := rfl
  unfold execCrossingAlign at hc
  refine Runs.of_effect (t := s.xAlign c) hc hp ?_ ⟨rfl, rfl, rfl⟩
    ⟨State.xing_setXing_same s c.key _, fun k hk => State.xing_setXing_ne s _ hk, rfl⟩
  simp only [hx, h0, hh, hw, hr, hcw, hcr]
  rfl

/-- OCC_REFRESH of a cell. -/
theorem occRefreshes {s : State} {x : XId} {c : Cell} (hp : s.por = false) (hx : s.build.cell x = some c)
    (hl : s.stn.locked = true) (hn : s.count % 64 = 0) (hfit : (s.xing c.key).entries.length < 2 ^ c.occF.w) :
    Runs (.occRefresh x) s fun t =>
      t.fget c.occF c.idx = (s.xing c.key).entries.length ∧
      t.fget c.occMaxF c.idx = max (s.xing c.key).entries.length (s.fget c.occMaxF c.idx) ∧
      Only s t [(c.occF, c.idx), (c.occMaxF, c.idx)] := by
  have hc : exec (.occRefresh x) s = execOccRefresh x s := rfl
  unfold execOccRefresh at hc
  have honly : Only s ((s.fset c.occF c.idx (s.xing c.key).entries.length).fset c.occMaxF c.idx
      (max (s.xing c.key).entries.length (s.fget c.occMaxF c.idx))) [(c.occF, c.idx), (c.occMaxF, c.idx)] :=
    ⟨(((FldsKeep.refl _ s).fset _ List.mem_cons_self).fset _ (List.mem_cons_of_mem _ List.mem_cons_self)).bitsKeep, rfl⟩
  refine Runs.of_effect hc hp ?_ honly.lives ⟨?_, ?_, honly⟩
  · simp only [hx, hl, hn]
    rfl
  · refine (State.fget_fset_apart _ _ (c.fld_apart (by decide) (by decide))).trans ?_
    exact State.fget_fset_fits s c.occF c.idx (c.fld_fits (by decide) (by decide)) hfit
  · have hmax := State.fget_lt s c.occMaxF c.idx
    refine State.fget_fset_fits _ c.occMaxF c.idx (c.fld_fits (by decide) (by decide)) ?_
    rw [occMax_width] at hmax ⊢
    exact max_lt hfit hmax

theorem xAlign (s : State) (x : XId) (c : Cell) : Claim.XAlign s x c := fun hp hx => ⟨xAligns hp hx, occRefreshes hp hx⟩

/-- Settles O36: each command's effect is one record of the cell, a control channel's step, and the fields that show it. -/
theorem crossingResetsAndAlignment : Obligations.CrossingResetsAndAlignment := fun s x c side other f h =>
  ⟨xResetAssert s x c side other, xFlush s x c side other f, xRestart s x c side other h, xParity s x c side other,
    xParity s x c side side, xWrites s x c, xAlign s x c⟩

end Sys2Proof.Claim
end

section
/-! SUPPORT. The commands of a Token crossing: transfers, and the resets of its sides (R214–R225, R603). -/

namespace Sys2Proof.Machine

/-! ### The records of a Token crossing -/

/-- The record after a transfer of `v` has launched, at `n` edges of the destination (R217). -/
def Tok.launched (q : Tok) (v n : Nat) : Tok := { q with out := some v, arr := some v, req := true, reqAt := n, seenAt := none }

/-- The pending count after the source's edge, with or without a pulse (R217). -/
def Tok.counted (q : Tok) (pulse : Bool) : Nat := if pulse then min 65535 (q.p + 1) else q.p

/-- The record after the source's work at an edge (R217). -/
def Tok.sourced (q : Tok) (pulse : Bool) (n : Nat) : Tok :=
  if q.out.isNone = true ∧ 0 < q.counted pulse then { q with p := 0 }.launched (q.counted pulse) n
  else { q with p := q.counted pulse }

/-- The record once the destination has seen the request, at `n` of its edges (R214, R225). -/
def Tok.requestSeen (q : Tok) (n : Nat) : Tok := { q with seenAt := some (q.seenAt.getD n) }

/-- The record once `v` is delivered and acknowledged, at `n` edges of the source (R214, R215). -/
def Tok.delivered (q : Tok) (v n : Nat) : Tok := { q with arr := none, ack := true, ackAt := n, last := v, tdValid := false }

end Sys2Proof.Machine

namespace Sys2Proof.Claim

open Sys2Proof.Machine

/-! ### One crossing moves -/

/-- One Token crossing holds `q`, and nothing else has changed. -/
structure TokMoved (s u : State) (k : Nat) (q : Tok) : Prop where
  self : u.tok k = q
  only : TokOnly s u k

section
variable {s u : State} {k : Nat} {q : Tok} (h : TokMoved s u k q)
include h

theorem TokMoved.setTok (q' : Tok) : TokMoved s (u.setTok k q') k q' := by
  obtain ⟨-, hothers, hrest⟩ := h
  refine ⟨State.tok_setTok_same u k q', fun j hj => ?_, ?_⟩
  · exact ((State.tok_setTok u k j q').trans (if_neg hj)).trans (hothers j hj)
  · exact congrArg (fun w : State => { w with toks := (u.setTok k q').toks }) hrest

theorem TokMoved.rgn (r : Nat) : u.rgn r = s.rgn r := by
  obtain ⟨-, -, hrest⟩ := h
  rw [hrest]
  rfl

theorem TokMoved.lives : Lives s u := by
  obtain ⟨-, -, hrest⟩ := h
  unfold Lives
  rw [hrest]
  exact ⟨rfl, rfl, rfl⟩

theorem TokMoved.launch (b : TokBuild) (v : Nat) :
    TokMoved s (u.tokLaunch k b v) k (q.launched v (s.rgn b.dst).edges) := by
  unfold State.tokLaunch
  rw [h.rgn, h.self]
  exact h.setTok _

theorem TokMoved.source (b : TokBuild) (pulse : Bool) :
    TokMoved s (u.tokSource k b pulse) k (q.sourced pulse (s.rgn b.dst).edges) := by
  have heq : u.tokSource k b pulse = if (u.tok k).out.isNone = true ∧ 0 < (u.tok k).counted pulse
      then (u.setTok k { u.tok k with p := 0 }).tokLaunch k b ((u.tok k).counted pulse)
      else u.setTok k { u.tok k with p := (u.tok k).counted pulse } := rfl
  rw [heq, h.self]
  unfold Tok.sourced
  split
  · exact (h.setTok _).launch b _
  · exact h.setTok _

theorem TokMoved.sees (b : TokBuild) :
    TokMoved s (u.tokSees k b) k (q.requestSeen (s.rgn b.dst).edges) := by
  unfold State.tokSees
  rw [h.rgn, h.self]
  exact h.setTok _

theorem TokMoved.ack (b : TokBuild) (v : Nat) :
    TokMoved s (u.tokAck k b v) k (q.delivered v (s.rgn b.src).edges) := by
  unfold State.tokAck
  rw [h.rgn, h.self]
  exact h.setTok _

/-- Once the crossing has moved, a counter of the Station counts one and an event is posted (R218, R603). -/
theorem TokMoved.countAndPost {f : Fld} (hf : f.lo + f.w ≤ 32) (hen : F.EVT_CTRL_EN.reg ≠ f.reg) (src cls code : Nat)
    {l : List PItem} {pay : Nat} (hl : payload l = pay) (hp : pay < 2 ^ 32) :
    let t := (u.faddSat f 0 1).post src cls code l
    t.fget f 0 = satU f.w (s.fget f 0 + 1) ∧ Posted s t src cls code pay ∧ t.tok k = q ∧ (∀ j, j ≠ k → t.tok j = s.tok j) ∧
      Only { s with toks := t.toks, log := t.log } t [(f, 0)] := by
  obtain ⟨hself, hothers, hrest⟩ := h
  have hword (g : Fld) : u.fget g 0 = s.fget g 0 := by rw [hrest]; rfl
  have hposts : PostsAs s (u.faddSat f 0 1) := by
    refine ⟨by rw [hrest]; rfl, by rw [hrest]; rfl, ?_⟩
    exact (State.fget_fset_apart u _ (.inl hen)).trans (hword _)
  have hkeep : FldsKeep (Listed [(f, 0)]) s (u.faddSat f 0 1) :=
    FldsKeep.fset (FldsKeep.ofRegs (by rw [hrest]) (by rw [hrest])) _ (List.mem_singleton_self _)
  refine ⟨?_, posted_post hposts src cls code hl hp, hself, hothers, (hkeep.beside rfl rfl).bitsKeep, by rw [hrest]; rfl⟩
  rw [← hword]
  exact State.fget_faddSat u f 0 1 hf

end

/-- Where nothing has moved the crossing holds what it held. -/
theorem tokMoved_refl (s : State) (k : Nat) : TokMoved s s k (s.tok k) := ⟨rfl, fun _ _ => rfl, rfl⟩

theorem tokMoved_setTok (s : State) (k : Nat) (q : Tok) : TokMoved s (s.setTok k q) k q := (tokMoved_refl s k).setTok q

/-! ### What the commands answer -/

section
variable {c : Instr} {s : State} {k : Nat} {b : TokBuild} {P : State → Prop} {due : State → TokBuild → Bool}
  {f : State → TokBuild → State} (hc : exec c s = s.act fun s => s.onTok k (due s) (f s)) (hp : s.por = false)
  (hb : s.build.tokens[k]? = some b)
include hc hp hb

/-- A command of a Token crossing that is due answers its effect. -/
theorem Runs.of_onTok (hd : due s b = true) (hl : Lives s (f s b)) (h : P (f s b)) : Runs c s P := by
  have heq : s.onTok k (due s) (f s) = f s b := by
    unfold State.onTok Build.token
    rw [hb]
    exact if_pos hd
  exact Runs.of_effect hc hp heq hl h

/-- One that is not due changes nothing. -/
theorem Runs.of_onTok_idle (hd : due s b = false) (h : P s) : Runs c s P := by
  have heq : s.onTok k (due s) (f s) = s := by
    unfold State.onTok Build.token
    rw [hb]
    exact if_neg (by rw [hd]; exact Bool.false_ne_true)
  exact Runs.of_effect hc hp heq ⟨rfl, rfl, rfl⟩ h

/-- One that moves the crossing alone. -/
theorem Runs.of_tokMoved {q : Tok} (hd : due s b = true) (hm : TokMoved s (f s b) k q)
    (h : ∀ t, t.tok k = q → TokOnly s t k → P t) : Runs c s P :=
  Runs.of_onTok hc hp hb hd hm.lives (h _ hm.self hm.only)

end

theorem tokSrc_of_srcEdge {s : State} {k : Nat} {b : TokBuild} (h : SrcEdge s k b) : s.tokSrc k b = true := by
  obtain ⟨-, -, hat, hrun, hrst⟩ := h
  unfold State.tokSrc
  rw [(atEdge_iff s b.src).1 hat, hrun, hrst]
  rfl

theorem tokDst_of_dstEdge {s : State} {k : Nat} {b : TokBuild} (h : DstEdge s k b) : s.tokDst k b = true := by
  obtain ⟨-, -, hat, hrun, hrst⟩ := h
  unfold State.tokDst
  rw [(atEdge_iff s b.dst).1 hat, hrun, hrst]
  rfl

/-! ### TOKEN_PULSE and TOKEN_WORD_OFFER (R216, R217) -/

theorem launched_of_tok {s t : State} {k : Nat} {b : TokBuild} {q : Tok} {v : Nat}
    (h : t.tok k = q.launched v (s.rgn b.dst).edges) : Launched s t k b v := by
  unfold Launched
  rw [h]
  exact ⟨rfl, rfl, rfl, rfl, rfl⟩

theorem sourced_launches {q : Tok} {pulse : Bool} {n : Nat} (ho : q.out = none) (hp : 0 < q.counted pulse) :
    q.sourced pulse n = { q with p := 0 }.launched (q.counted pulse) n :=
  if_pos ⟨Option.isNone_iff_eq_none.2 ho, hp⟩

theorem sourced_adds {q : Tok} {pulse : Bool} {n : Nat} (h : q.out ≠ none ∨ q.counted pulse = 0) :
    q.sourced pulse n = { q with p := q.counted pulse } := by
  refine if_neg fun hh => ?_
  obtain ⟨ho, hp⟩ := hh
  rcases h with h | h
  · exact h (Option.isNone_iff_eq_none.1 ho)
  · omega

theorem counted_pulse_pos (q : Tok) : 0 < q.counted true := by
  show 0 < min 65535 (q.p + 1)
  omega

theorem tokPulses {s : State} {k : Nat} {b : TokBuild} (h : SrcEdge s k b) (hw : b.word = false) :
    Runs (.tokenPulse k) s fun t =>
      let p := min 65535 ((s.tok k).p + 1)
      ((s.tok k).out = none → Launched s t k b p ∧ (t.tok k).p = 0) ∧
      ((s.tok k).out ≠ none → t.tok k = { s.tok k with p }) ∧ TokOnly s t k := by
  obtain ⟨hp, hb, -⟩ := id h
  have hc : exec (.tokenPulse k) s = execTokenPulse k s := rfl
  unfold execTokenPulse at hc
  refine Runs.of_tokMoved hc hp hb (by rw [tokSrc_of_srcEdge h, hw]; rfl) ((tokMoved_refl s k).source b true) ?_
  intro t ht honly
  refine ⟨fun ho => ?_, fun ho => ht.trans (sourced_adds (.inl ho)), honly⟩
  rw [sourced_launches ho (counted_pulse_pos _)] at ht
  exact ⟨launched_of_tok ht, by rw [ht]; rfl⟩

theorem tokSends (s : State) (k : Nat) (b : TokBuild) (data : Nat) : TokSends s k b data := by
  intro h
  obtain ⟨hp, hb, -⟩ := id h
  have hc : exec (.tokenWordOffer k data) s = execTokenWordOffer k data s := rfl
  unfold execTokenWordOffer at hc
  refine ⟨tokPulses h, fun hw ho => ?_, fun hw ho => ?_⟩
  · refine Runs.of_tokMoved hc hp hb (by rw [tokSrc_of_srcEdge h, hw, ho]; rfl) ((tokMoved_refl s k).launch b _) ?_
    exact fun t ht honly => ⟨launched_of_tok ht, honly⟩
  · refine Runs.of_onTok_idle hc hp hb ?_ rfl
    rw [Option.isNone_eq_false_iff.2 (Option.isSome_iff_ne_none.2 ho), Bool.and_false]

/-! ### TOKEN_DELIVER and TOKEN_WORD_DELIVER (R215, R216, R218) -/

/-- The reader's flush edge need not come yet (R221, R225). -/
theorem mustFlush_reader_false {q : Chan} (ed : Side → Nat)
    (h : ∀ f, q.flush = some f → f.rDue = true → ¬ SeenAfter true f.rFrom (ed .reader)) : q.mustFlush .reader ed = false := by
  unfold Chan.mustFlush
  cases hf : q.flush with
  | none => rfl
  | some f =>
    show (f.rDue && seenBy true f.rFrom (ed .reader)) = false
    refine Bool.eq_false_iff.2 fun hm => ?_
    obtain ⟨hd, hs⟩ := Bool.and_eq_true_iff.1 hm
    exact h f hf hd ((seenAfter_iff _ _ _).2 hs)

theorem tokComes_of_arrives {s : State} {k : Nat} {b : TokBuild} {v : Nat} (h : DstEdge s k b) (ha : Arrives s k b v) :
    s.tokComes k b = true := by
  obtain ⟨harr, hseen⟩ := ha
  unfold State.tokComes
  rw [harr, tokDst_of_dstEdge h]
  rcases hseen with hseen | ⟨hreq, hflush⟩
  · rw [Option.isSome_iff_ne_none.2 hseen]
    rfl
  · have hr : s.reqSeen k b = true := (seenAfter_iff _ _ _).1 hreq
    rw [hr, mustFlush_reader_false (s.tokEdges b) hflush]
    simp

theorem payload_number (k : Nat) : payload [.num 32 k] = min k (2 ^ 32 - 1) := by
  simp [payload, packItems, PItem.last, satU]

/-- TOKEN_DELIVER (R215, R218). -/
theorem tokCountDelivers {s : State} {k : Nat} {b : TokBuild} {v : Nat} (h : DstEdge s k b) (ha : Arrives s k b v)
    (hw : b.word = false) :
    Runs (.tokenDeliver k) s fun t =>
      t.tok k = ((s.tok k).requestSeen (s.rgn b.dst).edges).delivered v (s.rgn b.src).edges ∧
      (v ≠ 65535 → TokOnly s t k) ∧
      (v = 65535 → t.fget F.JCT_TOK_CNT_SAT 0 = satU F.JCT_TOK_CNT_SAT.w (s.fget F.JCT_TOK_CNT_SAT 0 + 1) ∧
        Posted s t b.dst 4 6 (min k (2 ^ 32 - 1)) ∧ (∀ j, j ≠ k → t.tok j = s.tok j) ∧
        Only { s with toks := t.toks, log := t.log } t [(F.JCT_TOK_CNT_SAT, 0)]) := by
  obtain ⟨hp, hb, -⟩ := id h
  have hc : exec (.tokenDeliver k) s = execTokenDeliver k s := rfl
  unfold execTokenDeliver at hc
  have hv : (s.tok k).arr.getD 0 = v := by rw [ha.1]; rfl
  have hdue : (!b.word && s.tokComes k b) = true := by rw [hw, tokComes_of_arrives h ha]; rfl
  have hack := ((tokMoved_refl s k).sees b).ack b v
  by_cases hsat : v = 65535
  · obtain ⟨hcount, hpost, hself, hothers, honly⟩ := hack.countAndPost (f := F.JCT_TOK_CNT_SAT) (by decide) (by decide)
      b.dst 4 6 (l := [.num 32 k]) (payload_number k) (by omega)
    refine Runs.of_onTok hc hp hb hdue ?_ ?_
    · dsimp only
      rw [hv, if_pos hsat]
      exact honly.lives
    · dsimp only
      rw [hv, if_pos hsat]
      exact ⟨hself, fun hne => absurd hsat hne, fun _ => ⟨hcount, hpost, hothers, honly⟩⟩
  · refine Runs.of_tokMoved hc hp hb hdue (q := ((s.tok k).requestSeen (s.rgn b.dst).edges).delivered v (s.rgn b.src).edges)
      ?_ fun t ht honly => ⟨ht, fun _ => honly, fun e => absurd e hsat⟩
    dsimp only
    rw [hv, if_neg hsat]
    exact hack

/-- TOKEN_WORD_DELIVER (R216). -/
theorem tokWordDelivers {s : State} {k : Nat} {b : TokBuild} {v : Nat} (taken : Bool) (h : DstEdge s k b) (ha : Arrives s k b v)
    (hw : b.word = true) :
    Runs (.tokenWordDeliver k taken) s fun t =>
      t.tok k = (if taken then ((s.tok k).requestSeen (s.rgn b.dst).edges).delivered v (s.rgn b.src).edges
        else { (s.tok k).requestSeen (s.rgn b.dst).edges with last := v, tdValid := true }) ∧ TokOnly s t k := by
  obtain ⟨hp, hb, -⟩ := id h
  have hc : exec (.tokenWordDeliver k taken) s = execTokenWordDeliver k taken s := rfl
  unfold execTokenWordDeliver at hc
  have hv : (s.tok k).arr.getD 0 = v := by rw [ha.1]; rfl
  have hdue : (b.word && s.tokComes k b) = true := by rw [hw, tokComes_of_arrives h ha]; rfl
  have hsees := (tokMoved_refl s k).sees b
  refine Runs.of_tokMoved hc hp hb hdue ?_ fun t ht honly => ⟨ht, honly⟩
  dsimp only
  rw [hv, hsees.self]
  cases taken with
  | true => exact hsees.ack b v
  | false => exact hsees.setTok _

theorem tokDelivers (s : State) (k : Nat) (b : TokBuild) (v : Nat) (taken : Bool) : TokDelivers s k b v taken :=
  fun h ha => ⟨tokCountDelivers h ha, tokWordDelivers taken h ha⟩

/-! ### ACKNOWLEDGE_RISE_SEEN, REQUEST_FALL_SEEN and TOKEN_ACKNOWLEDGE (R214, R217) -/

theorem tokAcknowledges {s : State} {k : Nat} {b : TokBuild} (pulse : Bool) (h : SrcEdge s k b) (ho : (s.tok k).out ≠ none)
    (hreq : (s.tok k).req = false) (hack : (s.tok k).ack = false)
    (hseen : SeenAfter false (s.tok k).ackAt (s.rgn b.src).edges) :
    Runs (.tokenAcknowledge k pulse) s fun t =>
      let p := if pulse then min 65535 ((s.tok k).p + 1) else (s.tok k).p
      (b.word = true ∨ p = 0 → t.tok k = { s.tok k with out := none, p := (t.tok k).p }) ∧
      (b.word = false → (0 < p → Launched s t k b p) ∧ (t.tok k).p = 0) ∧ TokOnly s t k := by
  obtain ⟨hp, hb, -⟩ := id h
  have hc : exec (.tokenAcknowledge k pulse) s = execTokenAcknowledge k pulse s := rfl
  unfold execTokenAcknowledge at hc
  have hs : s.ackSeen k b = true := (seenAfter_iff _ _ _).1 hseen
  have hdue : (s.tokSrc k b && (s.tok k).out.isSome && !(s.tok k).req && !(s.tok k).ack && s.ackSeen k b) = true := by
    rw [tokSrc_of_srcEdge h, Option.isSome_iff_ne_none.2 ho, hreq, hack, hs]
    rfl
  have hover := tokMoved_setTok s k { s.tok k with out := none }
  cases hw : b.word with
  | true =>
    refine Runs.of_tokMoved hc hp hb hdue (q := { s.tok k with out := none }) ?_ fun t ht honly => ?_
    · simpa only [hw, if_true] using hover
    · exact ⟨fun _ => by rw [ht], fun hn => absurd hn (by decide), honly⟩
  | false =>
    refine Runs.of_tokMoved hc hp hb hdue
      (q := ({ s.tok k with out := none } : Tok).sourced pulse (s.rgn b.dst).edges) ?_ fun t ht honly => ?_
    · simpa only [hw, if_false, Bool.false_eq_true] using hover.source b pulse
    · intro p
      rcases Nat.eq_zero_or_pos p with h0 | h0
      · replace ht := ht.trans (sourced_adds (.inr h0))
        exact ⟨fun _ => by rw [ht], fun _ => ⟨fun hn => by omega, by rw [ht]; exact h0⟩, honly⟩
      · replace ht := ht.trans (sourced_launches rfl h0)
        refine ⟨fun hor => ?_, fun _ => ⟨fun _ => launched_of_tok ht, by rw [ht]; rfl⟩, honly⟩
        rcases hor with hor | hor
        · exact absurd hor (by decide)
        · omega

theorem tokCompletes (s : State) (k : Nat) (b : TokBuild) (pulse : Bool) : TokCompletes s k b pulse := by
  refine ⟨fun h hreq hack hseen => ?_, fun h hreq hack hseen => ?_, fun h ho hreq hack hseen =>
    tokAcknowledges pulse h ho hreq hack hseen⟩
  · obtain ⟨hp, hb, -⟩ := id h
    have hc : exec (.acknowledgeRiseSeen k) s = execAcknowledgeRiseSeen k s := rfl
    unfold execAcknowledgeRiseSeen at hc
    have hs : s.ackSeen k b = true := (seenAfter_iff _ _ _).1 hseen
    exact Runs.of_tokMoved hc hp hb (by rw [tokSrc_of_srcEdge h, hreq, hack, hs]; rfl) (tokMoved_setTok s k _)
      fun t ht honly => ⟨ht, honly⟩
  · obtain ⟨hp, hb, -⟩ := id h
    have hc : exec (.requestFallSeen k) s = execRequestFallSeen k s := rfl
    unfold execRequestFallSeen at hc
    have hs : s.reqSeen k b = true := (seenAfter_iff _ _ _).1 hseen
    exact Runs.of_tokMoved hc hp hb (by rw [tokDst_of_dstEdge h, hreq, hack, hs]; rfl) (tokMoved_setTok s k _)
      fun t ht honly => ⟨ht, honly⟩

end Sys2Proof.Claim
end

section
/-! SUPPORT. The resets of a Token crossing's sides, and its restart (R220–R225, R603). -/

namespace Sys2Proof.Machine

/-! ### The records of a Token crossing whose side is reset or flushed -/

/-- What the flush of a side discards: the transfer not delivered and, at the source, its pending count. -/
def Tok.discarded (q : Tok) (b : TokBuild) (side : Side) : Nat := q.undelivered b + if side = .writer then q.p else 0

/-- The record once the reset input of a side is asserted (R220, R223–R225). -/
def Tok.resetOn (q : Tok) (b : TokBuild) (side : Side) (ed : Side → Nat) : Tok :=
  { q.clearHalf side with
    chan := q.chan.assert side ed
      ((if q.chan.rst (otherSide side) then q.undelivered b else 0) + if side = .writer then q.p else 0)
    arr := if q.chan.rst (otherSide side) then none else q.arr }

theorem State.tokReset_eq (s : State) (k : Nat) (b : TokBuild) (side : Side) :
    s.tokReset k b side = s.setTok k ((s.tok k).resetOn b side (s.tokEdges b)) := rfl

/-- The record after the flush edge of a side (R221). -/
def Tok.flushed (q : Tok) (side : Side) (chan : Chan) : Tok := { q.clearHalf side with chan, arr := none }

theorem Tok.flushed_chan (q : Tok) (side : Side) (chan chan' : Chan) :
    { q.flushed side chan with chan := chan' } = q.flushed side chan' := rfl

theorem State.tokFlush_eq {s : State} {k : Nat} {b : TokBuild} {side : Side}
    (h : ((s.tok k).chan.flushes side (s.tokEdges b) && s.atEdge (b.side side)) = true)
    (hsaw : side = .reader → (s.tok k).seenAt ≠ some (s.rgn b.dst).edges) :
    s.tokFlush k b side = (s.setTok k ((s.tok k).flushed side
      ((s.tok k).chan.flushEdge side (s.tokEdges b) ((s.tok k).discarded b side)))).tokRecord k b := by
  have hnot : (side == .reader && (s.tok k).seenAt == some (s.rgn b.dst).edges) = false := by
    refine Bool.eq_false_iff.2 fun hh => ?_
    obtain ⟨h1, h2⟩ := Bool.and_eq_true_iff.1 hh
    exact hsaw (eq_of_beq h1) (eq_of_beq h2)
  unfold State.tokFlush
  dsimp only
  rw [h, hnot, if_neg (by decide)]
  rfl

theorem State.tokRecord_waits {s : State} {k : Nat} {f : Flush} (b : TokBuild) (hf : (s.tok k).chan.flush = some f)
    (hp : f.passed = false) : s.tokRecord k b = s := by
  unfold State.tokRecord
  dsimp only
  rw [hf]
  dsimp only
  rw [hp, if_pos (by simp)]

theorem State.tokRecord_makes {s : State} {k : Nat} {f : Flush} (b : TokBuild) (hf : (s.tok k).chan.flush = some f)
    (hr : f.recorded = false) (hp : f.passed = true) :
    s.tokRecord k b = ((s.setTok k { s.tok k with
        chan := { (s.tok k).chan with flush := some { f with recorded := true } } }).faddSat F.JCT_TOK_CNT_FLUSHES 0 1).post
      b.dst 4 5 [pOther k, pOther f.n, pEnum f.cause] := by
  unfold State.tokRecord
  dsimp only
  rw [hf]
  dsimp only
  rw [hr, hp, if_neg (by decide)]

/-- The record once a side's half runs (R222). -/
def Tok.halfStarted (q : Tok) (side : Side) (chan : Chan) : Tok :=
  match side with
  | .writer => { q with chan, sRun := true, p := 0 }
  | .reader => { q with chan, dRun := true }

theorem Tok.chan_halfStarted (q : Tok) (side : Side) (chan : Chan) : (q.halfStarted side chan).chan = chan := by
  cases side <;> rfl

theorem State.tokHandshake_eq {s : State} {k : Nat} {b : TokBuild} {side : Side} {q : Chan}
    (h : (s.tok k).chan.ends side (s.tokEdges b) = some q) (hat : s.atEdge (b.side side) = true) :
    s.tokHandshake k b side = s.setTok k ((s.tok k).halfStarted side q) := by
  unfold State.tokHandshake
  dsimp only
  rw [h]
  dsimp only
  rw [hat, if_neg (by decide)]
  cases side <;> rfl

/-! ### A side's region and the other's -/

theorem TokBuild.side_eq (b : TokBuild) (side : Side) : b.side side = if side = .writer then b.src else b.dst := by
  cases side <;> rfl

theorem State.tokEdges_side (s : State) (b : TokBuild) (side : Side) :
    s.tokEdges b side = (s.rgn (if side = .writer then b.src else b.dst)).edges := by cases side <;> rfl

theorem State.tokEdges_other (s : State) (b : TokBuild) (side : Side) :
    s.tokEdges b (otherSide side) = (s.rgn (if side = .writer then b.dst else b.src)).edges := by cases side <;> rfl

end Sys2Proof.Machine

namespace Sys2Proof.Claim

open Sys2Proof.Machine

theorem tokClear_clearHalf (q : Tok) (side : Side) : TokClear (q.clearHalf side) side := by
  cases side
  · exact ⟨rfl, rfl, rfl, rfl⟩
  · exact ⟨rfl, rfl, rfl⟩

theorem tokClear_congr {q q' : Tok} {chan : Chan} {arr : Option Nat} (side : Side) (h : TokClear q side)
    (hq : q' = { q with chan, arr }) : TokClear q' side := by
  subst hq
  cases side <;> exact h

/-! ### CROSSING_RESET_ASSERT (R220, R223–R225) -/

section
variable {s : State} {k : Nat} {b : TokBuild} (hp : s.por = false) (hb : s.build.tokens[k]? = some b) (side : Side)
include hp hb

theorem tokResetAsserts :
    let m := (s.rgn (if side = .writer then b.dst else b.src)).edges
    let pend := if side = .writer then (s.tok k).p else 0
    Runs (.crossingResetAssert (.tok k) side) s fun t =>
      ((s.tok k).chan.rst side = true → t = s) ∧
      ((s.tok k).chan.rst side = false → TokClear (t.tok k) side ∧
        (t.tok k).arr = (if (s.tok k).chan.rst (otherSide side) then none else (s.tok k).arr) ∧
        Asserted (s.tok k).chan (t.tok k).chan side (otherSide side) m
          ((if (s.tok k).chan.rst (otherSide side) then undelivered (s.tok k) b else 0) + pend)) ∧
      TokOnly s t k := by
  intro m pend
  have hc : exec (.crossingResetAssert (.tok k) side) s = execCrossingResetAssert (.tok k) side s := rfl
  unfold execCrossingResetAssert at hc
  cases hr : (s.tok k).chan.rst side with
  | true =>
    refine Runs.of_onTok_idle hc hp hb (by rw [hr]; rfl) ?_
    exact ⟨fun _ => rfl, fun h => absurd h (by decide), (tokMoved_refl s k).only⟩
  | false =>
    refine Runs.of_tokMoved hc hp hb (by rw [hr]; rfl) (State.tokReset_eq s k b side ▸ tokMoved_setTok s k _)
      fun t ht honly => ?_
    refine ⟨fun h => absurd h (by decide), fun _ => ?_, honly⟩
    rw [ht]
    refine ⟨tokClear_congr side (tokClear_clearHalf (s.tok k) side) rfl, rfl, ?_⟩
    have h := asserted_assert (s.tok k).chan side (s.tokEdges b)
    rw [State.tokEdges_other] at h
    exact h _

/-! ### CROSSING_RESET_DEASSERT and CROSSING_HANDSHAKE_DONE (R220, R222, R603) -/

theorem tokDeasserts (hat : AtEdge s (if side = .writer then b.src else b.dst)) :
    Runs (.crossingResetDeassert (.tok k) side) s fun t =>
      t.tok k = { s.tok k with chan := (t.tok k).chan } ∧
      Deasserted (s.tok k).chan (t.tok k).chan side (s.rgn (if side = .writer then b.dst else b.src)).edges ∧
      TokOnly s t k := by
  have hc : exec (.crossingResetDeassert (.tok k) side) s = execCrossingResetDeassert (.tok k) side s := rfl
  unfold execCrossingResetDeassert at hc
  have hdue : s.atEdge (b.side side) = true := by
    rw [TokBuild.side_eq]
    exact (atEdge_iff s _).1 hat
  refine Runs.of_tokMoved hc hp hb hdue (tokMoved_setTok s k _) fun t ht honly => ?_
  rw [ht]
  refine ⟨rfl, ?_, honly⟩
  rw [← State.tokEdges_other]
  exact deasserted_deassert _ side _

theorem tokHandshakes {h : Hand} (hat : AtEdge s (if side = .writer then b.src else b.dst))
    (he : Ending (s.tok k).chan side (s.rgn (if side = .writer then b.src else b.dst)).edges h) :
    Runs (.crossingHandshakeDone (.tok k) side) s fun t =>
      t.tok k = (if side = .writer then { s.tok k with chan := (t.tok k).chan, sRun := true, p := 0 }
        else { s.tok k with chan := (t.tok k).chan, dRun := true }) ∧
      Ended (s.tok k).chan (t.tok k).chan (s.rgn (if side = .writer then b.dst else b.src)).edges h ∧ TokOnly s t k := by
  have hc : exec (.crossingHandshakeDone (.tok k) side) s = execCrossingHandshakeDone (.tok k) side s := rfl
  unfold execCrossingHandshakeDone at hc
  rw [← State.tokEdges_side] at he
  obtain ⟨q, hends, hended, -⟩ := ends_of_ending he
  have heq := State.tokHandshake_eq hends (by rw [TokBuild.side_eq]; exact (atEdge_iff s _).1 hat)
  refine Runs.of_tokMoved hc hp hb rfl (q := (s.tok k).halfStarted side q) (heq ▸ tokMoved_setTok s k _) fun t ht honly => ?_
  rw [ht, Tok.chan_halfStarted, ← State.tokEdges_other]
  refine ⟨?_, hended, honly⟩
  cases side <;> rfl

end

/-! ### CROSSING_FLUSH (R221, R225, R603) -/

section
variable {s : State} {k : Nat} {b : TokBuild} {side : Side} {f : Flush}
  (hm : FlushMayCome s (s.tok k).chan side (b.side side) f) (hr : f.recorded = false)
  (hsaw : side = .reader → (s.tok k).seenAt ≠ some (s.rgn b.dst).edges)
include hm hr hsaw

/-- The earlier flush edge makes no record. -/
theorem tokFlush_earlier (hd : f.due (otherSide side) = true) :
    TokMoved s (s.tokFlush k b side) k ((s.tok k).flushed side
      (flushedChan (s.tok k).chan f side (s.tokEdges b) ((s.tok k).discarded b side))) := by
  have hleft : flushedChan (s.tok k).chan f side (s.tokEdges b) ((s.tok k).discarded b side) =
      { (s.tok k).chan with flush := some (flushLeft f side (s.tokEdges b) ((s.tok k).discarded b side)) } := by
    unfold flushedChan
    rw [hd, Bool.not_true, flushLeft_of_recorded side _ _ hr]
  rw [State.tokFlush_eq (flushes_of_mayCome hm (by cases side <;> rfl)) hsaw, flushEdge_some side _ _ hm.1, hleft]
  rw [State.tokRecord_waits b (f := flushLeft f side (s.tokEdges b) ((s.tok k).discarded b side))]
  · exact tokMoved_setTok s k _
  · rw [State.tok_setTok_same]
    rfl
  · rw [passed_flushLeft, hd]
    rfl

/-- The later flush edge makes the record. -/
theorem tokFlush_later (hd : f.due (otherSide side) = false) :
    ∃ (u : State) (g : Flush), TokMoved s u k ((s.tok k).flushed side
        (flushedChan (s.tok k).chan f side (s.tokEdges b) ((s.tok k).discarded b side))) ∧
      g.n = f.n + (s.tok k).discarded b side ∧ g.cause = f.cause ∧
      s.tokFlush k b side = (u.faddSat F.JCT_TOK_CNT_FLUSHES 0 1).post b.dst 4 5 [pOther k, pOther g.n, pEnum g.cause] := by
  obtain ⟨hrec, hcause, hn⟩ := recorded_flushLeft (f := f) side (s.tokEdges b) ((s.tok k).discarded b side)
  rw [State.tokFlush_eq (flushes_of_mayCome hm (by cases side <;> rfl)) hsaw, flushEdge_some side _ _ hm.1]
  rw [State.tokRecord_makes b (f := flushLeft f side (s.tokEdges b) ((s.tok k).discarded b side)) ?_
    (hrec.trans hr) (by rw [passed_flushLeft, hd]; rfl)]
  · refine ⟨_, _, ?_, hn, hcause, rfl⟩
    rw [State.tok_setTok_same, Tok.flushed_chan]
    unfold flushedChan
    rw [hd]
    exact (tokMoved_setTok s k _).setTok _
  · rw [State.tok_setTok_same]
    rfl

end

/-- What the claim says of the record that a flush edge leaves. -/
theorem flushed_flushedChan (s : State) (k : Nat) (b : TokBuild) (side : Side) (f : Flush) :
    let n := (s.tok k).discarded b side
    let q := (s.tok k).flushed side (flushedChan (s.tok k).chan f side (s.tokEdges b) n)
    TokClear q side ∧ q.arr = none ∧ ∃ g, q.chan = { (s.tok k).chan with flush := some g } ∧
      FlushPassed f g side (otherSide side) n (s.rgn b.src).edges (s.rgn b.dst).edges :=
  ⟨tokClear_congr side (tokClear_clearHalf (s.tok k) side) rfl, rfl, _, rfl, flushPassed_flushLeft f side (s.tokEdges b) _⟩

theorem tokFlushes {s : State} {k : Nat} {b : TokBuild} {side : Side} {f : Flush} (hp : s.por = false)
    (hb : s.build.tokens[k]? = some b) (hm : FlushMayCome s (s.tok k).chan side (b.side side) f) (hr : f.recorded = false)
    (hcause : f.cause < 16) (hsaw : side = .reader → (s.tok k).seenAt ≠ some (s.rgn b.dst).edges) :
    let d := (s.tok k).discarded b side
    Runs (.crossingFlush (.tok k) side) s fun t =>
      TokClear (t.tok k) side ∧ (t.tok k).arr = none ∧
      (∃ g, (t.tok k).chan = { (s.tok k).chan with flush := some g } ∧
        FlushPassed f g side (otherSide side) d (s.rgn b.src).edges (s.rgn b.dst).edges) ∧
      (f.due (otherSide side) = true → TokOnly s t k) ∧
      (f.due (otherSide side) = false →
        Posted s t b.dst 4 5 (min k 255 * 2 ^ 24 + min (f.n + d) 255 * 2 ^ 16 + f.cause) ∧
        t.fget F.JCT_TOK_CNT_FLUSHES 0 = satU F.JCT_TOK_CNT_FLUSHES.w (s.fget F.JCT_TOK_CNT_FLUSHES 0 + 1) ∧
        (∀ j, j ≠ k → t.tok j = s.tok j) ∧
        Only { s with toks := t.toks, log := t.log } t [(F.JCT_TOK_CNT_FLUSHES, 0)]) := by
  intro d
  have hc : exec (.crossingFlush (.tok k) side) s = execCrossingFlush (.tok k) side s := rfl
  unfold execCrossingFlush at hc
  obtain ⟨hclear, harr, hchan⟩ := flushed_flushedChan s k b side f
  cases hd : f.due (otherSide side) with
  | true =>
    refine Runs.of_tokMoved hc hp hb rfl (tokFlush_earlier hm hr hsaw hd) fun t ht honly => ?_
    rw [ht]
    exact ⟨hclear, harr, hchan, fun _ => honly, fun h => absurd h (by decide)⟩
  | false =>
    obtain ⟨u, g, hmoved, hn, hgc, heq⟩ := tokFlush_later hm hr hsaw hd
    obtain ⟨hcount, hposted, hself, hothers, honly⟩ := hmoved.countAndPost (f := F.JCT_TOK_CNT_FLUSHES) (by decide) (by decide)
      b.dst 4 5 (payload_two_bytes k g.n g.cause (hgc.symm ▸ hcause)) (by omega)
    rw [← heq] at hcount hposted hself hothers honly
    refine Runs.of_onTok hc hp hb rfl honly.lives ?_
    rw [hn, hgc] at hposted
    rw [hself]
    exact ⟨hclear, harr, hchan, fun h => absurd h (by decide), fun _ => ⟨hposted, hcount, hothers, honly⟩⟩

theorem tokResets (s : State) (k : Nat) (b : TokBuild) (side other : Side) (f : Flush) (h : Hand) :
    TokResets s k b side other f h := by
  intro hp hb hne
  obtain rfl := eq_otherSide hne
  refine ⟨tokResetAsserts hp hb side, fun hm hr hcause hsaw => ?_, tokDeasserts hp hb side, tokHandshakes hp hb side⟩
  rw [← b.side_eq] at hm
  rw [Nat.add_assoc f.n]
  exact tokFlushes hp hb hm hr hcause fun hs => by simpa only [hs, reduceCtorEq, if_false] using hsaw hs

end Sys2Proof.Claim
end

section
/-! SUPPORT. What a region edge leaves as it is: the Token crossings, until their control channels take it, and every other region
(R22, R214). -/

namespace Sys2Proof.Machine

/-- The build, the Token crossings and every region but `r` stay as they are. -/
structure EdgeLeaves (r : Nat) (s t : State) : Prop where
  build : t.build = s.build
  toks : t.toks = s.toks
  rgns : ∀ q, q ≠ r → t.rgn q = s.rgn q

section
variable {r : Nat} {s t v : State}

theorem EdgeLeaves.refl (r : Nat) (s : State) : EdgeLeaves r s s := ⟨rfl, rfl, fun _ _ => rfl⟩

theorem EdgeLeaves.trans (h : EdgeLeaves r s t) (h' : EdgeLeaves r t v) : EdgeLeaves r s v :=
  ⟨h'.build.trans h.build, h'.toks.trans h.toks, fun q hq => (h'.rgns q hq).trans (h.rgns q hq)⟩

/-- A change beside them. -/
theorem EdgeLeaves.beside (h : EdgeLeaves r s t) (hb : v.build = t.build) (ht : v.toks = t.toks) (hr : v.rgns = t.rgns) :
    EdgeLeaves r s v := h.trans ⟨hb, ht, fun q _ => by unfold State.rgn; rw [hr]⟩

/-- The region itself moves. -/
theorem EdgeLeaves.setRgn (h : EdgeLeaves r s t) (g : Rgn) : EdgeLeaves r s (t.setRgn r g) :=
  h.trans ⟨rfl, rfl, fun q hq => (State.rgn_setRgn t r q g).trans (if_neg hq)⟩

theorem EdgeLeaves.setFlagEdge (h : EdgeLeaves r s t) (q : Nat) (f : Fld) (u : Nat) : EdgeLeaves r s (t.setFlagEdge q f u) := by
  rw [State.setFlagEdge_frame]
  exact h.beside rfl rfl rfl

theorem EdgeLeaves.setBitsEdge (h : EdgeLeaves r s t) (q : Nat) (f : Fld) (u n : Nat) :
    EdgeLeaves r s (t.setBitsEdge q f u n) := by
  unfold State.setBitsEdge
  split
  · exact h.beside rfl rfl rfl
  · exact h.beside rfl rfl rfl

theorem EdgeLeaves.each {α : Type} {l : List α} {f : State → α → State} (hf : ∀ u a, EdgeLeaves r u (f u a))
    (h : EdgeLeaves r s t) : EdgeLeaves r s (t.each l f) :=
  State.each_keeps (EdgeLeaves r s) l f (fun u a _ hu => hu.trans (hf u a)) t h

theorem EdgeLeaves.iff {c : Bool} {f : State → State} (hf : ∀ u, EdgeLeaves r u (f u)) (h : EdgeLeaves r s t) :
    EdgeLeaves r s (t.iff c f) := by
  cases c with
  | true => exact h.trans (hf t)
  | false => exact h

theorem EdgeLeaves.ite {c : Prop} [Decidable c] (ht : EdgeLeaves r s t) (hv : EdgeLeaves r s v) :
    EdgeLeaves r s (if c then t else v) := by
  split
  · exact ht
  · exact hv

theorem EdgeLeaves.setFlag (h : EdgeLeaves r s t) (f : Fld) (u : Nat) : EdgeLeaves r s (t.setFlag f u) := h.beside rfl rfl rfl
theorem EdgeLeaves.fset (h : EdgeLeaves r s t) (f : Fld) (u x : Nat) : EdgeLeaves r s (t.fset f u x) := h.beside rfl rfl rfl
theorem EdgeLeaves.fsetB (h : EdgeLeaves r s t) (f : Fld) (u : Nat) (x : Bool) : EdgeLeaves r s (t.fsetB f u x) :=
  h.beside rfl rfl rfl
theorem EdgeLeaves.faddSat (h : EdgeLeaves r s t) (f : Fld) (u n : Nat) : EdgeLeaves r s (t.faddSat f u n) :=
  h.beside rfl rfl rfl
theorem EdgeLeaves.faddWrap (h : EdgeLeaves r s t) (f : Fld) (u n : Nat) : EdgeLeaves r s (t.faddWrap f u n) :=
  h.beside rfl rfl rfl
theorem EdgeLeaves.setSec (h : EdgeLeaves r s t) (k : Nat) (c : Sec) : EdgeLeaves r s (t.setSec k c) := h.beside rfl rfl rfl
theorem EdgeLeaves.setXing (h : EdgeLeaves r s t) (k : Nat) (x : Xing) : EdgeLeaves r s (t.setXing k x) := h.beside rfl rfl rfl
theorem EdgeLeaves.post (h : EdgeLeaves r s t) (a b c : Nat) (l : List PItem) : EdgeLeaves r s (t.post a b c l) :=
  h.beside rfl rfl rfl

end

/-! ### The ledger, the tests that fall due, the delivery (R175, R176, R600) -/

section
variable (s : State) (r : Nat)

theorem setRequest_leaves (on : Bool) : EdgeLeaves r s (s.setRequest r on) := by
  have h0 := (EdgeLeaves.refl r s).setRgn { s.rgn r with symEnd := (s.rgn r).symEnd && on }
  have hcount (u : State) (k n : Nat) : EdgeLeaves r u (u.busCount r k n) := by
    have h := ((EdgeLeaves.refl r u).fset F.SEC_SYM_STATUS_REQUESTERS k n).fsetB F.SEC_SYM_STATUS_ACTIVE k (n != 0)
    unfold State.busCount
    dsimp only
    split
    · exact (h.setFlagEdge r _ _).faddWrap _ _ _
    · exact h
  unfold State.setRequest
  dsimp only
  split
  · exact h0
  · exact (h0.fsetB _ _ _).trans (hcount _ _ _)

theorem alignPhNow_leaves : EdgeLeaves r s (s.alignPhNow r) := by
  rw [State.alignPhNow_frame]
  exact (EdgeLeaves.refl r s).beside rfl rfl rfl

theorem takeWriteOff_leaves : EdgeLeaves r s (s.takeWriteOff r) := by
  unfold State.takeWriteOff
  dsimp only
  split
  · exact EdgeLeaves.refl r s
  · exact (((EdgeLeaves.refl r s).setRgn _).trans (setRequest_leaves _ r false)).fset _ _ _ |>.trans (alignPhNow_leaves _ r)

theorem ledgerVote_leaves (inp : EdgeIn) : EdgeLeaves r s (s.ledgerVote r inp) := by
  unfold State.ledgerVote
  dsimp only
  have h (m n : Nat) (c : Bool) :=
    ((EdgeLeaves.refl r s).setRgn ((s.rgn r).setLedger m)).iff (c := c) fun u => (EdgeLeaves.refl r u).faddSat F.SB_SLIP_CORR r n
  split
  · exact (h _ _ _).post _ _ _ _
  · exact h _ _ _

theorem tcSchedule_leaves : EdgeLeaves r s (s.tcSchedule r) := by
  unfold State.tcSchedule
  dsimp only
  split
  · exact EdgeLeaves.refl r s
  · exact (EdgeLeaves.refl r s).setRgn _

theorem deliver_leaves (p : Placed) (act : Nat) : EdgeLeaves r s (s.deliver r p act) :=
  ((EdgeLeaves.refl r s).setRgn _).fset _ _ _

/-! ### The vote, the playback and what the edge decides (R135–R162, R179–R185, R496) -/

theorem loneAlarm_leaves (rd : List Nat) : EdgeLeaves r s (s.loneAlarm r rd) := by
  have h := (EdgeLeaves.refl r s).setRgn
  unfold State.loneAlarm
  dsimp only
  split
  · exact .ite (h _) (h _)
  · exact h _

theorem sense_leaves (rd : List Nat) (v : Option (Nat × Nat)) : EdgeLeaves r s (s.sense r rd v) := by
  have hlone (g : Rgn) := ((EdgeLeaves.refl r s).setRgn g).trans (loneAlarm_leaves _ r rd)
  have hlow (u : State) : EdgeLeaves r u (match v with
      | some (x, i) =>
        if x < u.fget F.SB_TC_MIN_LOW r then (u.fset F.SB_TC_MIN_LOW r x).fset F.SB_TC_MIN_LOW_TC r i else u
      | none => u) := by
    split
    · exact .ite (((EdgeLeaves.refl r u).fset _ _ _).fset _ _ _) (EdgeLeaves.refl r u)
    · exact EdgeLeaves.refl r u
  have hcounts (g : Rgn) := EdgeLeaves.ite (c := s.voteAlarms r v = true) (((hlone g).trans (hlow _)).faddWrap F.SB_TC_ALARMS_COUNT r 1)
    ((hlone g).trans (hlow _))
  exact .ite (.ite (((hcounts _).setFlagEdge _ _ _).post _ _ _ _) ((hcounts _).setFlagEdge _ _ _)) (hcounts _)

theorem boundHit_leaves (denied : Nat) (v : Option (Nat × Nat)) : EdgeLeaves r s (s.boundHit r denied v) := by
  have h := (EdgeLeaves.refl r s).setRgn
  unfold State.boundHit
  dsimp only
  split
  · exact (((h _).setSec _ _).setFlagEdge _ _ _).post _ _ _ _
  · split
    · exact h _
    · exact EdgeLeaves.refl r s

theorem playEdge_leaves (alarm : Bool) (v : Option (Nat × Nat)) : EdgeLeaves r s (s.playEdge r alarm v) := by
  have h := (EdgeLeaves.refl r s).setRgn
  unfold State.playEdge
  dsimp only
  split
  · exact EdgeLeaves.refl r s
  · split
    · exact h _
    · split
      · exact h _
      · exact (h _).faddWrap _ _ _

theorem busParity_leaves (bad : Bool) (edges : Nat) : EdgeLeaves r s (s.busParity r bad edges) := by
  have h := (EdgeLeaves.refl r s).setRgn
  unfold State.busParity
  dsimp only
  split
  · exact h _
  · split
    · exact (((h _).trans (setRequest_leaves _ r false)).setFlagEdge _ _ _).post _ _ _ _
    · exact h _

theorem requestEdge_leaves : EdgeLeaves r s (s.requestEdge r) := by
  unfold State.requestEdge
  dsimp only
  split
  · exact setRequest_leaves s r _
  · exact setRequest_leaves s r _

theorem publish_leaves (own : Nat) : EdgeLeaves r s (s.publish r own) := by
  unfold State.publish
  dsimp only
  split
  · exact (EdgeLeaves.refl r s).setSec _ _
  · exact EdgeLeaves.refl r s

theorem decideNext_leaves (v : Option (Nat × Nat)) : EdgeLeaves r s (s.decideNext r v) := by
  have hrestore : EdgeLeaves r s (s.restore r v) := ((EdgeLeaves.refl r s).setRgn _).fsetB _ _ _
  exact ((hrestore.trans (requestEdge_leaves _ r)).setRgn _).trans (publish_leaves _ r _)

/-! ### Activity, the spindle, the walks and the tests (R128, R145–R159, R247, R495) -/

theorem calDisturb_leaves (q : Nat) : EdgeLeaves r s (s.calDisturb q) := by
  rw [State.calDisturb_frame]
  exact (EdgeLeaves.refl r s).beside rfl rfl rfl

theorem calDisturbReaders_leaves : EdgeLeaves r s (s.calDisturbReaders r) := by
  have heye (u : State) (j : Nat) : EdgeLeaves r u (u.calDisturbEye j) := by
    unfold State.calDisturbEye
    split
    · exact (EdgeLeaves.refl r u).iff fun w => calDisturb_leaves w r _
    · exact EdgeLeaves.refl r u
  exact (EdgeLeaves.refl r s).each fun u j => (EdgeLeaves.refl r u).iff fun w => heye w j

theorem idleViolation_leaves : EdgeLeaves r s (s.idleViolation r) :=
  ((((EdgeLeaves.refl r s).setRgn _).setFlagEdge _ _ _).faddSat _ _ _).trans (calDisturb_leaves _ r r)

theorem activity_leaves (act : Nat) (idle : Bool) : EdgeLeaves r s (s.activity r act idle) := by
  have h (g : Rgn) := ((EdgeLeaves.refl r s).setRgn g).fsetB F.SB_WHISTLE_IDLE r idle
  have hviol {c : Prop} [Decidable c] (u : State) : EdgeLeaves r u (if c then u.idleViolation r else u) :=
    .ite (idleViolation_leaves u r) (EdgeLeaves.refl r u)
  have hcal (u : State) : EdgeLeaves r u (if act > 1 then (u.calDisturb r).calDisturbReaders r else u) :=
    .ite ((calDisturb_leaves u r r).trans (calDisturbReaders_leaves _ r)) (EdgeLeaves.refl r u)
  exact (((h _).trans (hviol _)).trans (hviol _)).trans (hcal _)

theorem regionFault_leaves (onTick : Bool) (cause code : Nat) (items : List PItem) :
    EdgeLeaves r s (s.regionFault r onTick cause code items) := by
  have hcause (u : State) : EdgeLeaves r u (u.causeBegun r) := by
    unfold State.causeBegun
    dsimp only
    split
    · exact (EdgeLeaves.refl r u).setRgn _
    · exact (EdgeLeaves.refl r u).setRgn _
  have hflag : EdgeLeaves r s (if onTick then s.setFlag F.SB_GATE_FAULT r else s.setFlagMid F.SB_GATE_FAULT r) := by
    split
    · exact (EdgeLeaves.refl r s).setFlag _ _
    · exact (EdgeLeaves.refl r s).beside rfl rfl rfl
  unfold State.regionFault
  dsimp only
  split
  · exact EdgeLeaves.refl r s
  · exact (((hflag.fset _ _ _).trans (hcause _)).setRgn _).post _ _ _ _

theorem spindleEdge_leaves (bad : Option Nat) : EdgeLeaves r s (s.spindleEdge r bad) := by
  have h := (EdgeLeaves.refl r s).setRgn { s.rgn r with spindleBad := bad }
  unfold State.spindleEdge
  dsimp only
  split
  · split
    · exact (h.setFlagEdge _ _ _).trans (regionFault_leaves _ r _ _ _ _)
    · exact h
  · exact h

theorem walkTaps_leaves : EdgeLeaves r s (s.walkTaps r) := by
  unfold State.walkTaps
  dsimp only
  split
  · exact EdgeLeaves.refl r s
  · exact ((EdgeLeaves.refl r s).setRgn _).fsetB _ _ _

theorem alignReached_leaves : EdgeLeaves r s (s.alignReached r) := by
  unfold State.alignReached
  split
  · split
    · exact ((EdgeLeaves.refl r s).setRgn _).fsetB _ _ _
    · exact EdgeLeaves.refl r s
  · exact EdgeLeaves.refl r s

theorem alignWalk_leaves : EdgeLeaves r s (s.alignWalk r) := by
  unfold State.alignWalk
  split
  · exact ((EdgeLeaves.refl r s).fset _ _ _).trans (alignReached_leaves _ r)
  · exact EdgeLeaves.refl r s

theorem tcExclude_leaves (tc : Nat) (byp : Bool) : EdgeLeaves r s (s.tcExclude r tc byp) := by
  have hout (g : Rgn) (n : Nat) := ((((EdgeLeaves.refl r s).setRgn g).fset F.SB_TC_STATUS_EXCL r n).setBitsEdge r
    (if byp then F.SB_TC_STATUS_ALARM_FAIL else F.SB_TC_STATUS_QUIET_FAIL) r (2 ^ tc)).post r 0 0x14
      [.num 3 tc, pOther (if byp then 1 else 2)]
  exact .ite (EdgeLeaves.refl r s) (.ite (hout _ _) (((((hout _ _).fset _ _ _).fset _ _ _).fset _ _ _).post _ _ _ _))

theorem tcReturn_leaves (tc : Nat) : EdgeLeaves r s (s.tcReturn r tc) := by
  unfold State.tcReturn
  split
  · exact EdgeLeaves.refl r s
  · exact ((EdgeLeaves.refl r s).fset _ _ _).fset _ _ _

theorem tcEnds_leaves (x : TcRun) (pass byp : Bool) : EdgeLeaves r s (s.tcEnds r x pass byp) := by
  have h := (EdgeLeaves.refl r s).setRgn { s.rgn r with tcTest := none }
  unfold State.tcEnds
  dsimp only
  split
  · split
    · exact (h.fset _ _ _).trans (tcReturn_leaves _ r _)
    · exact (h.fset _ _ _).trans (tcExclude_leaves _ r _ byp)
  · split
    · exact h
    · exact h.trans (tcExclude_leaves _ r _ byp)

theorem tcTestEdge_leaves (raw : List Nat) : EdgeLeaves r s (s.tcTestEdge r raw) := by
  have h := (EdgeLeaves.refl r s).setRgn
  unfold State.tcTestEdge
  dsimp only
  split
  · exact EdgeLeaves.refl r s
  · split
    · exact h _
    · split
      · exact tcEnds_leaves s r _ _ _
      · exact h _

/-! ### The cells (R199–R208) -/

theorem xEdge_leaves (c : Cell) (late : Bool) (side : Side) : EdgeLeaves r s (s.xEdge c late side) := by
  have hrestarts (u : State) : EdgeLeaves r u (u.xRestarts c) := by
    rw [State.xRestarts_frame]
    exact (EdgeLeaves.refl r u).beside rfl rfl rfl
  have hreader (u : State) : EdgeLeaves r u (u.xReaderEdge c late) := by
    unfold State.xReaderEdge
    dsimp only
    split
    · split
      · exact (EdgeLeaves.refl r u).setXing _ _
      · exact (EdgeLeaves.refl r u).setXing _ _
    · exact (EdgeLeaves.refl r u).setXing _ _
  have h (x : Xing) := ((EdgeLeaves.refl r s).setXing c.key x).trans (hrestarts _)
  unfold State.xEdge
  cases side with
  | writer => exact (h _).setXing _ _
  | reader => exact (h _).trans (hreader _)

theorem cellsEdge_leaves (late : List XId) : EdgeLeaves r s (s.cellsEdge r late) := by
  refine (EdgeLeaves.refl r s).each fun u x => ?_
  split
  · exact EdgeLeaves.refl r u
  · exact (EdgeLeaves.ite (xEdge_leaves u r _ _ _) (EdgeLeaves.refl r u)).trans
      (.ite (xEdge_leaves _ r _ _ _) (EdgeLeaves.refl r _))

end

end Sys2Proof.Machine
end

section
/-! SUPPORT. REGION_EDGE in the control channel of a Token crossing (R22, R214, R222). -/

namespace Sys2Proof.Machine

/-! ### One unit's turn in a list without repetitions -/

/-- Where only the turn of `a` moves a part `g` of the state, the list moves it as that turn does. -/
theorem State.each_once {α β : Type} (I : State → Prop) (g : State → β) {l : List α} {f : State → α → State} {a : α}
    (hl : l.Nodup) (ha : a ∈ l) (hI : ∀ u c, I u → I (f u c)) (hg : ∀ u c, c ≠ a → g (f u c) = g u) (s : State) (h : I s) :
    ∃ u, I u ∧ g u = g s ∧ g (s.each l f) = g (f u a) := by
  obtain ⟨l₁, l₂, rfl⟩ := List.append_of_mem ha
  obtain ⟨hnot, -⟩ := List.nodup_cons.1 (List.nodup_middle.1 hl)
  have hkeep (m : List α) (hm : ∀ c ∈ m, c ≠ a) (u : State) : g (u.each m f) = g u :=
    State.each_eq g m f (fun u c hc => hg u c (hm c hc)) u
  have h₁ : ∀ c ∈ l₁, c ≠ a := fun c hc e => hnot (e ▸ List.mem_append_left l₂ hc)
  have h₂ : ∀ c ∈ l₂, c ≠ a := fun c hc e => hnot (e ▸ List.mem_append_right l₁ hc)
  refine ⟨s.each l₁ f, State.each_keeps I l₁ f (fun u c _ => hI u c) s h, hkeep l₁ h₁ s, ?_⟩
  have happ : s.each (l₁ ++ a :: l₂) f = (f (s.each l₁ f) a).each l₂ f := List.foldl_append
  rw [happ]
  exact hkeep l₂ h₂ _

/-! ### The Token crossings at an edge (R214, R222) -/

/-- The control channel of one Token crossing takes an edge of a side's region. -/
def State.tokStep (s : State) (k : Nat) (b : TokBuild) (late : List XId) (side : Side) : State :=
  s.setTok k { s.tok k with chan := (s.tok k).chan.edge side (s.tokEdges b) (late.contains (.tok k)) }

/-- The turn of one Token crossing at an edge of a region. -/
def State.tokTurn (r : Nat) (late : List XId) (s : State) (k : Nat) : State :=
  match s.build.token k with
  | none => s
  | some b =>
    let s := if b.src = r then s.tokStep k b late .writer else s
    if b.dst = r then s.tokStep k b late .reader else s

theorem State.toksEdge_eq (s : State) (r : Nat) (late : List XId) :
    s.toksEdge r late = s.each (List.range s.build.tokens.length) (State.tokTurn r late) := rfl

/-- A turn moves its own crossing alone. -/
theorem State.tokTurn_only (s : State) (r k : Nat) (late : List XId) : Claim.TokOnly s (s.tokTurn r late k) k := by
  have hstep (u : State) (b : TokBuild) (side : Side) (h : Claim.TokOnly s u k) :
      Claim.TokOnly s (u.tokStep k b late side) k :=
    ((Claim.TokMoved.mk rfl h).setTok _).only
  have hrefl := (Claim.tokMoved_refl s k).only
  unfold State.tokTurn
  split
  · exact hrefl
  · have hfirst {c : Prop} [Decidable c] (b : TokBuild) : Claim.TokOnly s (if c then s.tokStep k b late .writer else s) k := by
      split
      · exact hstep s b .writer hrefl
      · exact hrefl
    dsimp only
    split
    · exact hstep _ _ .reader (hfirst _)
    · exact hfirst _

/-- At an edge of one of its regions a crossing's turn is that side's step. -/
theorem State.tokTurn_eq {s : State} {k : Nat} {b : TokBuild} (late : List XId) (side : Side)
    (hb : s.build.tokens[k]? = some b) (hne : b.src ≠ b.dst) :
    s.tokTurn (b.side side) late k = s.tokStep k b late side := by
  unfold State.tokTurn Build.token
  rw [hb]
  dsimp only
  cases side with
  | writer => exact (if_neg hne.symm).trans (if_pos rfl)
  | reader => exact (if_pos rfl).trans (congrArg (fun u : State => u.tokStep k b late .reader) (if_neg hne))

/-- The channels of the Token crossings move alone. -/
theorem State.toksEdge_rgns (s : State) (r : Nat) (late : List XId) : (s.toksEdge r late).rgns = s.rgns := by
  rw [State.toksEdge_eq]
  refine State.each_eq State.rgns _ _ (fun u k _ => ?_) s
  obtain ⟨-, hrest⟩ := State.tokTurn_only u r k late
  rw [hrest]

/-- The channel of one Token crossing takes the edge once. -/
theorem State.tok_toksEdge {s : State} {k : Nat} {b : TokBuild} (late : List XId) (side : Side)
    (hb : s.build.tokens[k]? = some b) (hne : b.src ≠ b.dst) :
    (s.toksEdge (b.side side) late).tok k =
      { s.tok k with chan := (s.tok k).chan.edge side (s.tokEdges b) (late.contains (.tok k)) } := by
  have hk : k ∈ List.range s.build.tokens.length := List.mem_range.2 (List.getElem?_eq_some_iff.1 hb).1
  obtain ⟨u, ⟨hbuild, hrgns⟩, htok, heq⟩ := State.each_once (fun u => u.build = s.build ∧ u.rgns = s.rgns) (fun u => u.tok k)
    (f := State.tokTurn (b.side side) late) List.nodup_range hk
    (fun u c hu => by
      obtain ⟨-, hrest⟩ := State.tokTurn_only u (b.side side) c late
      rw [hrest]
      exact hu)
    (fun u c hc => (State.tokTurn_only u (b.side side) c late).1 k hc.symm) s ⟨rfl, rfl⟩
  have hedges : u.tokEdges b = s.tokEdges b := by
    funext p
    unfold State.tokEdges State.rgn
    rw [hrgns]
  rw [State.toksEdge_eq]
  refine heq.trans ?_
  rw [State.tokTurn_eq late side (by rw [hbuild]; exact hb) hne]
  unfold State.tokStep
  rw [State.tok_setTok_same, hedges, htok]

/-- Regions and Token crossings stay as they are. -/
def TokRgnKeep (s t : State) : Prop := t.toks = s.toks ∧ t.rgns = s.rgns

/-- A calibration step moves neither. -/
theorem State.calEdge_keeps (s : State) (r : Nat) : TokRgnKeep s (s.calEdge r) := by
  have hcal (c : CalRgn) : TokRgnKeep s ((s.setCalRgn r c).calDisturb r) := by
    rw [State.calDisturb_frame]
    exact ⟨rfl, rfl⟩
  have hfree (c c' : CalRgn) : TokRgnKeep s (((s.setCalRgn r c).setCalRgn r c').eyeFree r) := by
    rw [State.eyeFree_frame]
    exact ⟨rfl, rfl⟩
  unfold State.calEdge
  split
  · exact ⟨rfl, rfl⟩
  · exact iteInduction (motive := TokRgnKeep s) (fun _ => ⟨rfl, rfl⟩) fun _ =>
      iteInduction (motive := TokRgnKeep s) (fun _ => hcal _) fun _ =>
        iteInduction (motive := TokRgnKeep s) (fun _ => hfree _ _) fun _ => ⟨rfl, rfl⟩

/-! ### The region edge before the Token crossings take it -/

/-- The state in which the Token crossings take the edge. -/
def State.edgeBeforeToks (s : State) (r : Nat) (inp : EdgeIn) : State :=
  let masked := (s.rgn r).masked
  let act := if masked then 0 else inp.act
  let idle := !masked && inp.idle
  let s := ((s.takeWriteOff r).ledgerVote r inp).tcSchedule r
  let before := (s.rgn r).duePrev
  let p := s.placeEdge r inp.busBad
  let s := s.deliver r p act
  let s := s.setRgn r { s.rgn r with reqHigh := inp.gateReq }
  let rd := s.readTcs r inp
  let v := s.vote r rd
  let alarm := s.voteAlarms r v
  let s := (s.sense r rd v).boundHit r p.denied v
  let s := (s.playEdge r alarm v).busParity r inp.busBad (p.due - before)
  let s := (s.decideNext r v).activity r act idle
  let s := ((s.spindleEdge r inp.spindle).walkTaps r).alignWalk r
  (s.tcTestEdge r inp.raw).cellsEdge r inp.late

theorem State.regionEdge_eq (s : State) (r : Nat) (inp : EdgeIn) :
    s.regionEdge r inp = ((s.edgeBeforeToks r inp).toksEdge r inp.late).calEdge r := rfl

theorem edgeBeforeToks_leaves (s : State) (r : Nat) (inp : EdgeIn) : EdgeLeaves r s (s.edgeBeforeToks r inp) := by
  have hdue (u : State) : EdgeLeaves r u (((u.takeWriteOff r).ledgerVote r inp).tcSchedule r) :=
    ((takeWriteOff_leaves u r).trans (ledgerVote_leaves _ r inp)).trans (tcSchedule_leaves _ r)
  have hdeliver (u : State) (p : Placed) (act : Nat) : EdgeLeaves r u
      ((u.deliver r p act).setRgn r { (u.deliver r p act).rgn r with reqHigh := inp.gateReq }) :=
    (deliver_leaves u r p act).setRgn _
  have hvote (u : State) (rd : List Nat) (v : Option (Nat × Nat)) (d n : Nat) (alarm : Bool) : EdgeLeaves r u
      (((((u.sense r rd v).boundHit r d v).playEdge r alarm v).busParity r inp.busBad n)) :=
    (((sense_leaves u r rd v).trans (boundHit_leaves _ r d v)).trans (playEdge_leaves _ r alarm v)).trans
      (busParity_leaves _ r inp.busBad n)
  have hwalk (u : State) (v : Option (Nat × Nat)) (act : Nat) (idle : Bool) : EdgeLeaves r u
      (((((u.decideNext r v).activity r act idle).spindleEdge r inp.spindle).walkTaps r).alignWalk r) :=
    ((((decideNext_leaves u r v).trans (activity_leaves _ r act idle)).trans (spindleEdge_leaves _ r inp.spindle)).trans
      (walkTaps_leaves _ r)).trans (alignWalk_leaves _ r)
  have htest (u : State) : EdgeLeaves r u ((u.tcTestEdge r inp.raw).cellsEdge r inp.late) :=
    (tcTestEdge_leaves u r inp.raw).trans (cellsEdge_leaves _ r inp.late)
  exact ((((hdue s).trans (hdeliver _ _ _)).trans (hvote _ _ _ _ _ _)).trans (hwalk _ _ _ _)).trans (htest _)

end Sys2Proof.Machine

namespace Sys2Proof.Claim

open Sys2Proof.Machine

/-- The coming edge, with good or bad parity on the stretch bus. -/
theorem edgeComes_of_comesOn {s : State} {r : Nat} {bad : Bool} (h : ComesOn s r bad) : s.edgeComes r bad = true := by
  obtain ⟨-, hr, hc, hd, hg, hs, hp⟩ := h
  have hrun : s.secRuns r = true := by
    unfold State.secRuns
    rcases hs with hs | hs <;> simp [hs]
  have hpos : s.posComes (s.build.sectionOf r) (s.nextPos r bad) = true := decide_eq_true (by omega)
  unfold State.edgeComes State.delivers State.isRegion
  rw [hpos, hrun, hd, hc, decide_eq_true hr, bne_iff_ne.2 hg]
  rfl

/-- What a command leaves of the Token crossings and of the regions is its effect's, whatever the effect does to the build, the
pin and the queue. -/
theorem Runs.of_tokRgn {c : Instr} {s : State} {f : State → State} {P : State → Prop} (hc : exec c s = s.act f)
    (hp : s.por = false) (h : ∀ t, (∀ k, t.tok k = (f s).tok k) → (∀ q, t.rgn q = (f s).rgn q) → P t) : Runs c s P :=
  ⟨_, hc.trans (State.act_live s f hp), h _ (fun _ => rfl) fun _ => rfl⟩

theorem Runs.of_regionEdge {s : State} {r : Nat} {inp : EdgeIn} {P : State → Prop} (hcomes : ComesOn s r inp.busBad)
    (h : ∀ t, (∀ k, t.tok k = (s.regionEdge r inp).tok k) → (∀ q, t.rgn q = (s.regionEdge r inp).rgn q) → P t) :
    Runs (.regionEdge r inp) s P := by
  have hc : exec (.regionEdge r inp) s = execRegionEdge r inp s := rfl
  unfold execRegionEdge at hc
  refine Runs.of_tokRgn hc hcomes.1 ?_
  rw [edgeComes_of_comesOn hcomes, State.iff_true]
  exact h

/-- A Token crossing at an edge of a side's region, and what its channel saw of the two regions. -/
theorem tok_regionEdge {s : State} {k : Nat} {b : TokBuild} (side : Side) (inp : EdgeIn) (hb : s.build.tokens[k]? = some b)
    (hne : b.src ≠ b.dst) :
    ∃ ed : Side → Nat, ed side = ((s.regionEdge (b.side side) inp).rgn (b.side side)).edges ∧
      ed (otherSide side) = s.tokEdges b (otherSide side) ∧
      (s.regionEdge (b.side side) inp).tok k =
        { s.tok k with chan := (s.tok k).chan.edge side ed (inp.late.contains (.tok k)) } := by
  obtain ⟨hbuild, htoks, hrgns⟩ := edgeBeforeToks_leaves s (b.side side) inp
  have htok : (s.edgeBeforeToks (b.side side) inp).tok k = s.tok k := by unfold State.tok; rw [htoks]
  obtain ⟨hcalToks, hcalRgns⟩ :=
    State.calEdge_keeps ((s.edgeBeforeToks (b.side side) inp).toksEdge (b.side side) inp.late) (b.side side)
  rw [State.regionEdge_eq]
  refine ⟨(s.edgeBeforeToks (b.side side) inp).tokEdges b, ?_, ?_, ?_⟩
  · unfold State.rgn
    rw [hcalRgns, State.toksEdge_rgns]
    cases side <;> rfl
  · cases side with
    | writer => exact congrArg Rgn.edges (hrgns b.dst hne.symm)
    | reader => exact congrArg Rgn.edges (hrgns b.src hne)
  · rw [← htok]
    unfold State.tok at *
    rw [hcalToks]
    exact State.tok_toksEdge inp.late side (by rw [hbuild]; exact hb) hne

theorem tokEdge (s : State) (k : Nat) (b : TokBuild) (side : Side) (inp : EdgeIn) : TokEdge s k b side inp := by
  unfold TokEdge
  rw [← b.side_eq]
  intro r hcomes hb hne
  refine Runs.of_regionEdge hcomes fun t ht hr => ?_
  obtain ⟨ed, hown, hother, htok⟩ := tok_regionEdge side inp hb hne
  have h := chanEdge_edge (s.tok k).chan side ed (inp.late.contains (.tok k))
  rw [hown, hother, State.tokEdges_other] at h
  rw [ht, hr, htok]
  exact ⟨rfl, h⟩

/-- Settles O38: an edge moves a crossing's control channel alone, each command moves its crossing's record alone, and what a
delivery or a flush reports is counted and posted beside it. -/
theorem tokenCrossings : Obligations.TokenCrossings := by
  unfold Obligations.TokenCrossings
  intro s k v data b f h side other pulse taken inp
  exact ⟨tokEdge s k b side inp, tokSends s k b data, tokDelivers s k b v taken, tokCompletes s k b pulse,
    tokResets s k b side other f h⟩

end Sys2Proof.Claim
end

section
/-!
SUPPORT. Semaphores: who holds one after a take and after a release, and what a list of releases frees and what it marks to
pass (R318, R319).
-/

namespace Sys2Proof.Machine

/-! ### Bits of HELD and OWNER -/

/-- Taking away a bit that is set clears it, with no borrow from another bit. -/
theorem testBit_sub_two_pow {n i : Nat} (h : n.testBit i = true) (j : Nat) :
    (n - 2 ^ i).testBit j = (n.testBit j && decide (j ≠ i)) := by
  induction i generalizing n j with
  | zero =>
    have hn : n % 2 = 1 := Nat.mod_two_eq_one_iff_testBit_zero.2 h
    cases j with
    | zero => rw [Nat.testBit_zero, Nat.testBit_zero]; simp; omega
    | succ j =>
      rw [Nat.testBit_succ, Nat.testBit_succ, show (n - 2 ^ 0) / 2 = n / 2 by omega]
      simp
  | succ i ih =>
    rw [Nat.testBit_succ] at h
    have hp : 2 ^ (i + 1) = 2 * 2 ^ i := by rw [pow_succ, Nat.mul_comm]
    cases j with
    | zero =>
      have hle : 2 ^ i ≤ n / 2 := Nat.ge_two_pow_of_testBit h
      rw [Nat.testBit_zero, Nat.testBit_zero, hp, show (n - 2 * 2 ^ i) % 2 = n % 2 by omega]
      simp
    | succ j =>
      rw [Nat.testBit_succ, Nat.testBit_succ, hp, show (n - 2 * 2 ^ i) / 2 = n / 2 - 2 ^ i by omega, ih h]
      simp

/-- A semaphore's owner is its two bits of DSP_SEM_OWNER. -/
theorem State.semOwner_eq (s : State) (i : Nat) : s.semOwner i = getF (s.reg .DSP_SEM_OWNER 0) (2 * i) 2 := by
  have h : s.fget F.DSP_SEM_OWNER_OWNER 0 = (s.reg .DSP_SEM_OWNER 0).toNat := getF_whole _
  unfold State.semOwner getF
  rw [h, pow_mul]
  rfl

theorem State.semHeld_congr {s t : State} (h : t.fget F.DSP_SEM_HELD_HELD 0 = s.fget F.DSP_SEM_HELD_HELD 0) (i : Nat) :
    t.semHeld i = s.semHeld i := by unfold State.semHeld; rw [h]

theorem State.semOwner_congr {s t : State} (h : t.fget F.DSP_SEM_OWNER_OWNER 0 = s.fget F.DSP_SEM_OWNER_OWNER 0) (i : Nat) :
    t.semOwner i = s.semOwner i := by unfold State.semOwner; rw [h]

/-- Writing one semaphore's owner leaves the other owners. -/
theorem State.semOwner_semOwn (s : State) {i d : Nat} (hi : i < 16) (j : Nat) :
    (s.semOwn i d).semOwner j = if j = i then d % 4 else s.semOwner j := by
  have hreg : (s.semOwn i d).reg .DSP_SEM_OWNER 0 = putF (s.reg .DSP_SEM_OWNER 0) (2 * i) 2 d := by
    have h := State.fget_fset_fits s F.DSP_SEM_OWNER_OWNER 0 (v := (putF (s.reg .DSP_SEM_OWNER 0) (2 * i) 2 d).toNat)
      (by decide) (BitVec.isLt _)
    exact BitVec.eq_of_toNat_eq ((getF_whole _).symm.trans h)
  rw [State.semOwner_eq, State.semOwner_eq, hreg]
  split
  next hj => rw [hj]; exact getF_putF_same _ _ _ _ (by omega)
  next hj => exact getF_putF_disj _ _ _ _ _ _ (by omega)

theorem State.semHeld_semOwn (s : State) (i d j : Nat) : (s.semOwn i d).semHeld j = s.semHeld j :=
  State.semHeld_congr (State.fget_fset_apart s _ (.inl (by decide))) j

/-! ### Taking and freeing one semaphore -/

theorem State.semHeld_semTake (s : State) (d : Nat) {i : Nat} (hi : i < 16) (j : Nat) :
    (s.semTake d i).semHeld j = (s.semHeld j || decide (i = j)) := by
  have hfit : s.fget F.DSP_SEM_HELD_HELD 0 ||| 2 ^ i < 2 ^ F.DSP_SEM_HELD_HELD.w :=
    Nat.or_lt_two_pow (State.fget_lt s _ 0) (Nat.pow_lt_pow_right (by decide) hi)
  have hval : (s.setBits F.DSP_SEM_HELD_HELD 0 (2 ^ i)).fget F.DSP_SEM_HELD_HELD 0 = s.fget F.DSP_SEM_HELD_HELD 0 ||| 2 ^ i :=
    State.fget_fset_fits s F.DSP_SEM_HELD_HELD 0 (by decide) hfit
  unfold State.semTake
  rw [State.semHeld_semOwn]
  unfold State.semHeld
  rw [hval, Nat.testBit_or, Nat.testBit_two_pow]

theorem State.semOwner_semTake (s : State) (d : Nat) {i : Nat} (hi : i < 16) (j : Nat) :
    (s.semTake d i).semOwner j = if j = i then d % 4 else s.semOwner j := by
  have hs : (s.setBits F.DSP_SEM_HELD_HELD 0 (2 ^ i)).semOwner j = s.semOwner j :=
    State.semOwner_congr (State.fget_fset_apart s _ (.inl (by decide))) j
  rw [← hs]
  exact State.semOwner_semOwn _ hi j

theorem State.semOwned_semTake (s : State) {d i : Nat} (hd : d < 4) (hi : i < 16) : (s.semTake d i).semOwned d i = true := by
  unfold State.semOwned
  rw [State.semHeld_semTake s d hi, State.semOwner_semTake s d hi, if_pos rfl, Nat.mod_eq_of_lt hd]
  simp

theorem State.semHeld_semFree (s : State) {i : Nat} (j : Nat) :
    (s.semFree i).semHeld j = (s.semHeld j && decide (j ≠ i)) := by
  unfold State.semFree
  split
  next h =>
    have hval := State.fget_fset_fits s F.DSP_SEM_HELD_HELD 0 (v := s.fget F.DSP_SEM_HELD_HELD 0 - 2 ^ i) (by decide)
      (Nat.lt_of_le_of_lt (Nat.sub_le _ _) (State.fget_lt s _ 0))
    rw [State.semHeld_semOwn]
    unfold State.semHeld at h ⊢
    rw [hval, testBit_sub_two_pow h]
  next h =>
    by_cases hj : j = i
    · rw [hj]; simpa using h
    · simp [hj]

theorem State.semOwner_semFree (s : State) {i j : Nat} (hi : i < 16) (hj : j ≠ i) : (s.semFree i).semOwner j = s.semOwner j := by
  unfold State.semFree
  split
  · rw [State.semOwner_semOwn _ hi, if_neg hj]
    exact State.semOwner_congr (State.fget_fset_apart s _ (.inl (by decide))) j
  · rfl

/-! ### The frame of what happens to semaphores -/

/-- The fields that say who holds the semaphores. -/
def semFields : List (Fld × Nat) := [(F.DSP_SEM_HELD_HELD, 0), (F.DSP_SEM_OWNER_OWNER, 0)]

/-- Nothing has changed but who holds the semaphores, and which are to pass. -/
structure SemFrame (s t : State) : Prop where
  flds : FldsKeep (Listed semFields) s t
  rest : t = { s with regs := t.regs, fresh := t.fresh, dsp := { s.dsp with passes := t.dsp.passes } }

theorem SemFrame.refl (s : State) : SemFrame s s := ⟨FldsKeep.refl _ s, rfl⟩

theorem SemFrame.trans {s t u : State} (h : SemFrame s t) (k : SemFrame t u) : SemFrame s u where
  flds := h.flds.trans k.flds
  rest := by
    have e := h.rest
    have k' := k.rest
    rw [e] at k'
    exact k'

theorem SemFrame.semOwn (s : State) (i d : Nat) : SemFrame s (s.semOwn i d) :=
  ⟨(FldsKeep.refl _ s).fset _ (by simp [Listed, semFields]), rfl⟩

theorem SemFrame.semTake (s : State) (d i : Nat) : SemFrame s (s.semTake d i) :=
  SemFrame.trans (t := s.setBits F.DSP_SEM_HELD_HELD 0 (2 ^ i))
    ⟨(FldsKeep.refl _ s).fset (f := F.DSP_SEM_HELD_HELD) (s.fget F.DSP_SEM_HELD_HELD 0 ||| 2 ^ i) (by simp [Listed, semFields]), rfl⟩
    (SemFrame.semOwn _ i d)

theorem SemFrame.semFree (s : State) (i : Nat) : SemFrame s (s.semFree i) := by
  unfold State.semFree
  split
  · exact SemFrame.trans ⟨(FldsKeep.refl _ s).fset _ (by simp [Listed, semFields]), rfl⟩ (SemFrame.semOwn _ i _)
  · exact SemFrame.refl s

theorem SemFrame.setPasses (s : State) (l : List (Nat × Nat)) : SemFrame s (s.setDsp { s.dsp with passes := l }) :=
  ⟨FldsKeep.ofRegs rfl rfl, rfl⟩

section
variable {s t : State} (h : SemFrame s t)
include h

theorem SemFrame.stn : t.stn = s.stn := by rw [h.rest]
theorem SemFrame.desks : t.dsp.desks = s.dsp.desks := by rw [h.rest]
theorem SemFrame.desk (d : Nat) : t.desk d = s.desk d := by unfold State.desk; rw [h.desks]

theorem SemFrame.reg {r : Reg} (u : Nat) (hh : r ≠ .DSP_SEM_HELD) (ho : r ≠ .DSP_SEM_OWNER) : t.reg r u = s.reg r u :=
  h.flds.reg fun g w hg => by
    rcases List.mem_cons.1 hg with hg | hg
    · cases hg; exact .inl hh
    · cases List.mem_singleton.1 hg; exact .inl ho

theorem SemFrame.fget {f : Fld} (u : Nat) (hh : f.reg ≠ .DSP_SEM_HELD) (ho : f.reg ≠ .DSP_SEM_OWNER) : t.fget f u = s.fget f u := by
  unfold State.fget; rw [h.reg u hh ho]

theorem SemFrame.deskState (d : Nat) : t.deskState d = s.deskState d := h.fget d (by decide) (by decide)

theorem SemFrame.semWaiters (i : Nat) : t.semWaiters i = s.semWaiters i := by
  unfold State.semWaiters
  simp only [h.deskState, h.desk]

end

/-! ### Releases (R319) -/

/-- A semaphore has been released with a Desk waiting for it. -/
def State.semPassing (s : State) (i : Nat) : Prop := ∃ p ∈ s.dsp.passes, p.1 = i

theorem State.semPassing_iff_any (s : State) (i : Nat) : s.dsp.passes.any (fun p => p.1 == i) = true ↔ s.semPassing i := by
  simp [State.semPassing]

/-- A release of a semaphore that nobody holds, or that is to pass already. -/
theorem State.semRelease_idle {s : State} {i : Nat} (h : s.semHeld i = false ∨ s.semPassing i) : s.semRelease i = s := by
  unfold State.semRelease
  rw [if_pos]
  rw [Bool.or_eq_true, State.semPassing_iff_any, Bool.not_eq_true']
  exact h

/-- A release of a held semaphore that nobody awaits. -/
theorem State.semRelease_frees {s : State} {i : Nat} (h : s.semHeld i = true) (hp : ¬ s.semPassing i) (hw : s.semWaiters i = []) :
    s.semRelease i = s.semFree i := by
  unfold State.semRelease
  rw [if_neg, if_pos (by rw [hw]; rfl)]
  rw [Bool.or_eq_true, State.semPassing_iff_any, Bool.not_eq_true', h]
  simp [hp]

/-- A release of a held semaphore that a Desk awaits. -/
theorem State.semRelease_passes {s : State} {i : Nat} (h : s.semHeld i = true) (hp : ¬ s.semPassing i) (hw : s.semWaiters i ≠ []) :
    s.semRelease i = s.setDsp { s.dsp with passes := s.dsp.passes ++ [(i, s.stn.elapsed)] } := by
  unfold State.semRelease
  rw [if_neg, if_neg (by simpa using hw)]
  rw [Bool.or_eq_true, State.semPassing_iff_any, Bool.not_eq_true', h]
  simp [hp]

/-- What the releases of a list of semaphores do: one that nobody awaits is free, one that a Desk awaits is to pass. -/
structure Released (L : List Nat) (s t : State) : Prop where
  frame : SemFrame s t
  held : ∀ j, t.semHeld j = true ↔ s.semHeld j = true ∧ ¬ (j ∈ L ∧ ¬ s.semPassing j ∧ s.semWaiters j = [])
  owner : ∀ j, t.semHeld j = true → t.semOwner j = s.semOwner j
  passes : ∀ j n, (j, n) ∈ t.dsp.passes ↔ (j, n) ∈ s.dsp.passes ∨
    (j ∈ L ∧ n = s.stn.elapsed ∧ s.semHeld j = true ∧ ¬ s.semPassing j ∧ s.semWaiters j ≠ [])

theorem Released.nil (s : State) : Released [] s s := ⟨SemFrame.refl s, by simp, fun _ _ => rfl, by simp⟩

/-- One release. -/
theorem Released.one (s : State) {i : Nat} (hi : i < 16) : Released [i] s (s.semRelease i) := by
  by_cases hidle : s.semHeld i = false ∨ s.semPassing i
  · rw [State.semRelease_idle hidle]
    refine ⟨SemFrame.refl s, fun j => ?_, fun _ _ => rfl, fun j n => ?_⟩
    · rw [List.mem_singleton]
      constructor
      · rintro hj
        exact ⟨hj, fun ⟨he, hp, _⟩ => by subst he; simp_all⟩
      · exact And.left
    · rw [List.mem_singleton]
      refine ⟨.inl, fun h => h.elim id ?_⟩
      rintro ⟨rfl, -, hh, hp, -⟩
      simp_all
  · obtain ⟨hh, hp⟩ := not_or.1 hidle
    rw [Bool.not_eq_false] at hh
    by_cases hw : s.semWaiters i = []
    · rw [State.semRelease_frees hh hp hw]
      have hframe := SemFrame.semFree s i
      refine ⟨hframe, fun j => ?_, fun j hj => ?_, fun j n => ?_⟩
      · rw [State.semHeld_semFree, Bool.and_eq_true, decide_eq_true_eq, List.mem_singleton]
        refine and_congr_right fun _ => not_congr ⟨?_, And.left⟩
        rintro rfl
        exact ⟨rfl, hp, hw⟩
      · rw [State.semHeld_semFree, Bool.and_eq_true, decide_eq_true_eq] at hj
        exact State.semOwner_semFree s hi hj.2
      · have hpass : (s.semFree i).dsp.passes = s.dsp.passes := by unfold State.semFree; split <;> rfl
        rw [hpass, List.mem_singleton]
        refine ⟨.inl, fun h => h.elim id ?_⟩
        rintro ⟨rfl, -, -, -, hne⟩
        exact absurd hw hne
    · rw [State.semRelease_passes hh hp hw]
      refine ⟨SemFrame.setPasses s _, fun j => ?_, fun _ _ => rfl, fun j n => ?_⟩
      · rw [List.mem_singleton]
        refine ⟨fun hj => ⟨hj, ?_⟩, And.left⟩
        rintro ⟨rfl, -, hnil⟩
        exact hw hnil
      · show (j, n) ∈ s.dsp.passes ++ [(i, s.stn.elapsed)] ↔ _
        rw [List.mem_append, List.mem_singleton, List.mem_singleton, Prod.mk.injEq]
        refine or_congr_right ⟨?_, fun h => ⟨h.1, h.2.1⟩⟩
        rintro ⟨rfl, rfl⟩
        exact ⟨rfl, rfl, hh, hp, hw⟩

/-- A release of a semaphore leaves another as it is, and whether it is to pass. -/
theorem Released.passing_ne {s t : State} {i j : Nat} (h : Released [i] s t) (hj : j ≠ i) : t.semPassing j ↔ s.semPassing j := by
  simp only [State.semPassing, Prod.exists, h.passes, List.mem_singleton]
  constructor
  · rintro ⟨a, n, hm | hm, rfl⟩
    · exact ⟨a, n, hm, rfl⟩
    · exact absurd hm.1 hj
  · rintro ⟨a, n, hm, rfl⟩
    exact ⟨a, n, .inl hm, rfl⟩

theorem Released.held_ne {s t : State} {i j : Nat} (h : Released [i] s t) (hj : j ≠ i) : t.semHeld j = s.semHeld j :=
  Bool.eq_iff_iff.2 (by rw [h.held]; simp [hj])

/-- One release and then those of a list without it. -/
theorem Released.cons {s t u : State} {i : Nat} {L : List Nat} (hi : i ∉ L) (h : Released [i] s t) (k : Released L t u) :
    Released (i :: L) s u := by
  have hne {j : Nat} (hj : j ∈ L) : j ≠ i := fun he => hi (he ▸ hj)
  have helapsed : t.stn.elapsed = s.stn.elapsed := by rw [h.frame.stn]
  refine ⟨h.frame.trans k.frame, fun j => ?_, fun j hj => ?_, fun j n => ?_⟩
  · rw [k.held, h.held, h.frame.semWaiters, List.mem_singleton, List.mem_cons, and_assoc]
    refine and_congr_right fun _ => ?_
    by_cases hj : j ∈ L
    · rw [h.passing_ne (hne hj)]
      simp [hj, hne hj]
    · simp [hj]
  · exact (k.owner j hj).trans (h.owner j ((k.held j).1 hj).1)
  · rw [k.passes, h.passes, h.frame.semWaiters, helapsed, List.mem_singleton, List.mem_cons, or_assoc]
    refine or_congr_right ?_
    by_cases hj : j ∈ L
    · rw [h.passing_ne (hne hj), h.held_ne (hne hj)]
      simp [hj, hne hj]
    · simp [hj]

/-- The releases of a list of semaphores. -/
theorem Released.each {L : List Nat} (hn : L.Nodup) (hl : ∀ i ∈ L, i < 16) (s : State) :
    Released L s (s.each L State.semRelease) := by
  induction L generalizing s with
  | nil => exact Released.nil s
  | cons i L ih =>
    obtain ⟨hi, hn'⟩ := List.nodup_cons.1 hn
    exact Released.cons hi (Released.one s (hl i (List.mem_cons_self ..)))
      (ih hn' (fun j hj => hl j (List.mem_cons_of_mem _ hj)) _)

end Sys2Proof.Machine
end

section
/-!
SUPPORT. What a Desk's commands move: the frame of an update of the Dispatcher, the start of a Dispatcher cycle, the issue of
an instruction, and the Desk's stop (R290–R297, R387).
-/

namespace Sys2Proof.Machine

/-! ### The frame of an update of the Dispatcher -/

/-- Nothing has changed but the listed fields and what the Dispatcher holds beside its registers. -/
structure DspMoves (l : List (Fld × Nat)) (s t : State) : Prop where
  flds : FldsKeep (Listed l) s t
  rest : t = { s with regs := t.regs, fresh := t.fresh, dsp := t.dsp }

theorem DspMoves.refl (l : List (Fld × Nat)) (s : State) : DspMoves l s s := ⟨FldsKeep.refl _ s, rfl⟩

theorem DspMoves.trans {l : List (Fld × Nat)} {s t u : State} (h : DspMoves l s t) (k : DspMoves l t u) : DspMoves l s u where
  flds := h.flds.trans k.flds
  rest := by
    have e := h.rest
    have k' := k.rest
    rw [e] at k'
    exact k'

theorem DspMoves.mono {l l' : List (Fld × Nat)} {s t : State} (h : DspMoves l s t) (hl : l ⊆ l') : DspMoves l' s t :=
  ⟨h.flds.mono fun _ _ hf => hl hf, h.rest⟩

theorem DspMoves.setDsp (l : List (Fld × Nat)) (s : State) (v : Dsp) : DspMoves l s (s.setDsp v) :=
  ⟨FldsKeep.ofRegs rfl rfl, rfl⟩

theorem DspMoves.setDesk (l : List (Fld × Nat)) (s : State) (d : Nat) (v : Desk) : DspMoves l s (s.setDesk d v) :=
  ⟨FldsKeep.ofRegs rfl rfl, rfl⟩

theorem DspMoves.fset {l : List (Fld × Nat)} (s : State) {f : Fld} {u : Nat} (v : Nat) (h : (f, u) ∈ l) :
    DspMoves l s (s.fset f u v) := ⟨(FldsKeep.refl _ s).fset v h, rfl⟩

theorem DspMoves.setFlag {l : List (Fld × Nat)} (s : State) {f : Fld} {u : Nat} (h : (f, u) ∈ l) :
    DspMoves l s (s.setFlag f u) := ⟨(FldsKeep.refl _ s).setFlag h, rfl⟩

theorem DspMoves.of_sems {s t : State} (h : SemFrame s t) : DspMoves semFields s t :=
  ⟨h.flds, by have e := h.rest; rw [e]⟩

section
variable {l : List (Fld × Nat)} {s t : State} (h : DspMoves l s t)
include h

theorem DspMoves.stn : t.stn = s.stn := by rw [h.rest]
theorem DspMoves.log : t.log = s.log := by rw [h.rest]
theorem DspMoves.mem : t.mem = s.mem := by rw [h.rest]
theorem DspMoves.count : t.count = s.count := by unfold State.count; rw [h.stn]
theorem DspMoves.rdByte (a : Nat) : t.rdByte a = s.rdByte a := by unfold State.rdByte; rw [h.mem]

theorem DspMoves.fget {f : Fld} {u : Nat} (hf : ∀ x ∈ l, f.Apart u x.1 x.2) : t.fget f u = s.fget f u :=
  h.flds f u (Listed.apart hf)

/-- A field that lies apart from those of the kinds listed keeps its value. -/
theorem DspMoves.fget_of_kinds {f : Fld} (u : Nat) (ks : List Fld) (hk : l.map Prod.fst = ks)
    (hf : ∀ g ∈ ks, f.reg ≠ g.reg ∨ f.lo + f.w ≤ g.lo ∨ g.lo + g.w ≤ f.lo) : t.fget f u = s.fget f u :=
  h.fget fun x hx => (hf x.1 (hk ▸ List.mem_map_of_mem hx)).imp id .inr

theorem DspMoves.reg_of_kinds {r : Reg} (u : Nat) (ks : List Fld) (hk : l.map Prod.fst = ks) (hr : ∀ g ∈ ks, r ≠ g.reg) :
    t.reg r u = s.reg r u :=
  h.flds.reg fun _ _ hg => .inl (hr _ (hk ▸ List.mem_map_of_mem hg))

theorem DspMoves.reg {r : Reg} {u : Nat} (hr : ∀ x ∈ l, r ≠ x.1.reg ∨ u ≠ x.2) : t.reg r u = s.reg r u :=
  h.flds.reg fun _ _ hg => hr _ hg

end

/-! ### Desks -/

theorem State.desk_setDesk_ne (s : State) {d e : Nat} (v : Desk) (h : e ≠ d) : (s.setDesk d v).desk e = s.desk e := by
  rw [State.desk_setDesk, if_neg h]

theorem State.desk_congr {s t : State} (h : t.dsp.desks = s.dsp.desks) (d : Nat) : t.desk d = s.desk d := by
  unfold State.desk; rw [h]

theorem State.deskState_setDeskState (s : State) (d : Nat) {n : Nat} (hn : n < 8) : (s.setDeskState d n).deskState d = n :=
  State.fget_fset_fits s F.DSP_DESK_STATUS_STATE d (by decide) hn

/-! ### A resident load that starts in passing (R309) -/

/-- The fields that the start of a resident load moves. -/
def loadFields : List (Fld × Nat) := [(F.DSP_STATUS_LOADING, 0), (F.DSP_TILE_OK_VALID, 0)]

theorem State.loadStart_moves (s : State) : DspMoves loadFields s s.loadStart := by
  unfold State.loadStart
  split
  · exact ((DspMoves.fset s 1 (by simp [loadFields])).trans (DspMoves.fset _ 0 (by simp [loadFields]))).trans
      (DspMoves.setDsp _ _ _)
  · exact DspMoves.refl _ s

theorem State.loadInCycle_moves (s : State) : DspMoves loadFields s s.loadInCycle := by
  unfold State.loadInCycle
  split
  · exact s.loadStart_moves
  · exact DspMoves.refl _ s

/-- Of the Dispatcher's record the start of a load moves what belongs to the load. -/
theorem State.dsp_loadInCycle (s : State) : s.loadInCycle.dsp =
    { s.dsp with
      loadBase := s.loadInCycle.dsp.loadBase, loadSent := s.loadInCycle.dsp.loadSent, loadErr := s.loadInCycle.dsp.loadErr } := by
  unfold State.loadInCycle State.loadStart
  split
  · split <;> rfl
  · rfl

theorem State.loadInCycle_idle {s : State} (h : s.on F.DSP_CTRL_LOAD_RES 0 = false) : s.loadInCycle = s := by
  unfold State.loadInCycle State.loadStart
  rw [h]
  simp

theorem State.desk_loadInCycle (s : State) (d : Nat) : s.loadInCycle.desk d = s.desk d :=
  State.desk_congr (by rw [State.dsp_loadInCycle]) d

/-! ### A wait is abandoned (R387) -/

/-- The instruction that waits has issued. -/
def Wait.issued : Wait → Bool
  | .tick _ | .sem _ | .read _ _ _ => true
  | _ => false

/-- The PC that a Desk shows once its wait is abandoned: that of the instruction that waits. -/
def State.waitPc (s : State) (d : Nat) : Nat := if (s.desk d).wait.issued then (s.desk d).pcWait % 2 ^ 21 else s.pc d

theorem State.abandon_eq (s : State) (d : Nat) : s.abandon d =
    if (s.desk d).wait.issued then (s.setDesk d { s.desk d with wait := .none }).setPc d (s.desk d).pcWait
    else s.setDesk d { s.desk d with wait := .none } := by
  unfold State.abandon
  cases (s.desk d).wait <;> rfl

theorem State.abandon_moves (s : State) (d : Nat) : DspMoves [(F.DSP_DESK_PC_PC, d)] s (s.abandon d) := by
  have hdesk := DspMoves.setDesk [(F.DSP_DESK_PC_PC, d)] s d { s.desk d with wait := .none }
  rw [State.abandon_eq]
  split
  · exact hdesk.trans (DspMoves.fset (f := F.DSP_DESK_PC_PC) _ _ (List.mem_singleton_self _))
  · exact hdesk

theorem State.dsp_abandon (s : State) (d : Nat) : (s.abandon d).dsp = (s.setDesk d { s.desk d with wait := .none }).dsp := by
  rw [State.abandon_eq]
  split <;> rfl

theorem State.pc_abandon (s : State) (d : Nat) : (s.abandon d).pc d = s.waitPc d := by
  rw [State.abandon_eq]
  unfold State.waitPc
  split
  · exact State.fget_fset_same _ F.DSP_DESK_PC_PC d _ (by decide)
  · rfl

theorem State.waitPc_of_none {s : State} {d : Nat} (h : (s.desk d).wait = .none) : s.waitPc d = s.pc d := by
  unfold State.waitPc
  rw [h]
  rfl

/-! ### A Desk leaves its program (R296, R331) -/

/-- A Desk with nothing under way. -/
def Desk.idle (k : Desk) : Desk := { k with wait := .none, stepping := false, stepDone := false, halting := false, page := none }

theorem Desk.idle_wait (k : Desk) : Desk.idle { k with wait := .none } = k.idle := rfl

/-- The kinds of field that show that a Desk has left its program. -/
def leaveKinds : List Fld := [F.DSP_DESK_STATUS_STATE, F.DSP_DESK_CTRL_STOP, F.DSP_DESK_CTRL_STEP, F.HIF_IRQ_SRC_DESK_STOP]

/-- Those fields of one Desk. -/
def leaveFields (d : Nat) : List (Fld × Nat) :=
  [(F.DSP_DESK_STATUS_STATE, d), (F.DSP_DESK_CTRL_STOP, d), (F.DSP_DESK_CTRL_STEP, d), (F.HIF_IRQ_SRC_DESK_STOP, 0)]

/-- STOP and STEP read 0 and the host is told. -/
def State.leaveShown (s : State) (d : Nat) : State :=
  ((s.fset F.DSP_DESK_CTRL_STOP d 0).fset F.DSP_DESK_CTRL_STEP d 0).setFlag F.HIF_IRQ_SRC_DESK_STOP 0

theorem State.leaveShown_moves (s : State) (d : Nat) :
    DspMoves [(F.DSP_DESK_CTRL_STOP, d), (F.DSP_DESK_CTRL_STEP, d), (F.HIF_IRQ_SRC_DESK_STOP, 0)] s (s.leaveShown d) :=
  ((DspMoves.fset s 0 (by simp)).trans (DspMoves.fset _ 0 (by simp))).trans (DspMoves.setFlag _ (by simp))

/-- STOP, STEP and the host's interrupt source show nothing of a Desk's STATE, CAUSE and PC. -/
theorem State.fget_leaveShown (s : State) (d : Nat) {f : Fld} (u : Nat) (hc : f.reg ≠ .DSP_DESK_CTRL) (hi : f.reg ≠ .HIF_IRQ_SRC) :
    (s.leaveShown d).fget f u = s.fget f u :=
  (s.leaveShown_moves d).fget_of_kinds u [F.DSP_DESK_CTRL_STOP, F.DSP_DESK_CTRL_STEP, F.HIF_IRQ_SRC_DESK_STOP] rfl
    (by simpa using ⟨.inl hc, .inl hc, .inl hi⟩)

theorem State.on_leaveShown (s : State) (d : Nat) :
    (s.leaveShown d).on F.DSP_DESK_CTRL_STOP d = false ∧ (s.leaveShown d).on F.DSP_DESK_CTRL_STEP d = false ∧
      (s.leaveShown d).on F.HIF_IRQ_SRC_DESK_STOP 0 = true := by
  have hflag (t : State) {f : Fld} (hf : f.reg ≠ .HIF_IRQ_SRC) :
      (t.setFlag F.HIF_IRQ_SRC_DESK_STOP 0).on f d = t.on f d :=
    State.on_congr (State.fget_fset_apart t _ (.inl hf))
  refine ⟨?_, ?_, State.on_setFlag _ _ _ rfl (by decide)⟩
  · unfold State.leaveShown
    rw [hflag _ (by decide), State.on_congr (State.fget_fset_apart _ _ (.inr (.inr (by decide))))]
    exact State.on_fsetB s F.DSP_DESK_CTRL_STOP d false rfl (by decide)
  · unfold State.leaveShown
    rw [hflag _ (by decide)]
    exact State.on_fsetB _ F.DSP_DESK_CTRL_STEP d false rfl (by decide)

theorem State.deskStopped_eq (s : State) (d : Nat) :
    s.deskStopped d = (((s.setDesk d (s.desk d).idle).setDeskState d 0).leaveShown d).loadInCycle := rfl

theorem State.deskStopped_moves (s : State) (d : Nat) : DspMoves (leaveFields d ++ loadFields) s (s.deskStopped d) :=
  ((((DspMoves.setDesk _ s d _).trans (DspMoves.fset (f := F.DSP_DESK_STATUS_STATE) _ 0 (by simp [leaveFields]))).trans
    ((State.leaveShown_moves _ d).mono (by simp [leaveFields]))).trans
    ((State.loadInCycle_moves _).mono (List.subset_append_right ..)))

/-- A load that starts in passing shows in DSP_STATUS and DSP_TILE_OK alone. -/
theorem State.fget_loadInCycle (s : State) {f : Fld} (u : Nat) (hs : f.reg ≠ .DSP_STATUS) (ht : f.reg ≠ .DSP_TILE_OK) :
    s.loadInCycle.fget f u = s.fget f u :=
  s.loadInCycle_moves.fget_of_kinds u [F.DSP_STATUS_LOADING, F.DSP_TILE_OK_VALID] rfl (by simpa using ⟨.inl hs, .inl ht⟩)

end Sys2Proof.Machine
end

section
/-!
SUPPORT. The start of a Dispatcher cycle and the issue of an instruction: that no command of a Desk moves the build, the pin or
the queue, and what an issued instruction leaves (R290–R294).
-/

namespace Sys2Proof.Machine

/-! ### What an issued instruction leaves -/

/-- A Desk's instruction has turned `b` into `b'`, at a cost of 2 tk; the PC goes on. -/
def State.issuedFrom (b b' : State) (d : Nat) : State :=
  ((b'.setDesk d { b'.desk d with
      pcWait := b.pc d, readyAt := b.stn.elapsed + 2, stepDone := (b'.desk d).stepping }).setPc d
    (nextPc (b.pc d))).faddWrap F.DSP_DESK_ISSUED_COUNT d 1

theorem State.issue_ok {b b' : State} {d : Nat} {f : State → Issue} (h : f b = .ok b') : b.issue d f = b.issuedFrom b' d :=
  State.issue_done b b' d f none 2 h

/-- The fields that every issue moves. -/
def issueFields (d : Nat) : List (Fld × Nat) := [(F.DSP_DESK_PC_PC, d), (F.DSP_DESK_ISSUED_COUNT, d)]

theorem State.issuedFrom_moves (b b' : State) (d : Nat) : DspMoves (issueFields d) b' (b.issuedFrom b' d) :=
  ((DspMoves.setDesk _ b' d _).trans (DspMoves.fset (f := F.DSP_DESK_PC_PC) _ _ (by simp [issueFields]))).trans
    (DspMoves.fset (f := F.DSP_DESK_ISSUED_COUNT) _ _ (by simp [issueFields]))

theorem State.nextPc_lt (n : Nat) : nextPc n < 2 ^ 21 := Nat.mod_lt _ (by decide)

theorem State.pc_issuedFrom (b b' : State) (d : Nat) : (b.issuedFrom b' d).pc d = nextPc (b.pc d) :=
  (State.fget_fset_apart _ _ (.inl (by decide))).trans
    (State.fget_fset_fits _ F.DSP_DESK_PC_PC d (by decide) (State.nextPc_lt _))

theorem State.issued_issuedFrom (b b' : State) (d : Nat) : (b.issuedFrom b' d).fget F.DSP_DESK_ISSUED_COUNT d =
    (b'.fget F.DSP_DESK_ISSUED_COUNT d + 1) % 2 ^ 32 := by
  refine (State.fget_fset_same _ F.DSP_DESK_ISSUED_COUNT d _ (by decide)).trans ?_
  rw [State.setPc, State.fget_fset_apart _ _ (.inl (by decide))]
  rfl

theorem State.desk_issuedFrom (b b' : State) (d : Nat) : (b.issuedFrom b' d).desk d =
    { b'.desk d with pcWait := b.pc d, readyAt := b.stn.elapsed + 2, stepDone := (b'.desk d).stepping } :=
  State.desk_setDesk_same b' d _

theorem State.desk_issuedFrom_ne (b b' : State) {d e : Nat} (h : e ≠ d) : (b.issuedFrom b' d).desk e = b'.desk e :=
  State.desk_setDesk_ne b' _ h

theorem State.dsp_issuedFrom (b b' : State) (d : Nat) :
    (b.issuedFrom b' d).dsp = { b'.dsp with desks := (b.issuedFrom b' d).dsp.desks } := rfl

theorem State.cycle_issuedFrom (b b' : State) (d : Nat) : (b.issuedFrom b' d).dsp.cycle = b'.dsp.cycle := rfl

/-! ### Registers of a Desk -/

/-- The field that a write of g[n] moves: none for g0. -/
def gFields (d n : Nat) : List (Fld × Nat) := if n % 32 = 0 then [] else [(⟨.DSP_G, 0, 32⟩, d * 32 + n % 32)]

theorem map_gFields (d n : Nat) : (gFields d n).map (fun x => (x.1.reg, x.2)) = Claim.gRegs d n := by
  unfold gFields Claim.gRegs
  split <;> rfl

theorem reg_of_mem_gFields {d n : Nat} {x : Fld × Nat} (h : x ∈ gFields d n) : x.1.reg = .DSP_G := by
  unfold gFields at h
  split at h
  · cases h
  · rw [List.mem_singleton.1 h]

theorem State.setG_moves (s : State) (d n v : Nat) : DspMoves (gFields d n) s (s.setG d n v) := by
  unfold State.setG gFields
  split
  · exact DspMoves.refl _ s
  · exact ⟨(FldsKeep.refl _ s).setReg _ (List.mem_singleton_self _), rfl⟩

theorem State.fget_setG (s : State) (d n v : Nat) {f : Fld} (u : Nat) (hf : f.reg ≠ .DSP_G) :
    (s.setG d n v).fget f u = s.fget f u :=
  (s.setG_moves d n v).fget fun _ hx => .inl (by rw [reg_of_mem_gFields hx]; exact hf)

theorem State.dsp_setG (s : State) (d n v : Nat) : (s.setG d n v).dsp = s.dsp := by
  unfold State.setG
  split <;> rfl

/-! ### The Desk that issues (R291) -/

theorem State.issuer_lt {s : State} {d : Nat} (h : s.issuer = some d) : d < 4 := by
  obtain ⟨i, -, rfl⟩ := List.mem_map.1 (List.mem_of_find?_eq_some h)
  exact Nat.mod_lt _ (by decide)

theorem State.deskState_issuer {s : State} {d : Nat} (h : s.issuer = some d) : s.deskState d = 1 := by
  have hr : s.deskReady d = true := by simpa using List.find?_some h
  unfold State.deskReady at hr
  exact beq_iff_eq.1 (Bool.and_eq_true_iff.1 hr).1

theorem State.fetched_moves (s : State) (d : Nat) :
    ∃ f, DspMoves [(F.DSP_FRAME_LAST_DESK, f)] s (s.fetched d) := by
  unfold State.fetched
  dsimp only
  split
  · exact ⟨0, DspMoves.refl _ s⟩
  · split
    next f _ => exact ⟨f, (DspMoves.setDsp _ s _).trans (DspMoves.fset _ d (List.mem_singleton_self _))⟩
    next => exact ⟨0, DspMoves.refl _ s⟩

end Sys2Proof.Machine

namespace Sys2Proof.Claim

open Sys2Proof.Machine

/-! ### The build, the pin and the queue stay -/

theorem Lives.refl (s : State) : Lives s s := ⟨rfl, rfl, rfl⟩

theorem Lives.trans {s t u : State} (h : Lives s t) (k : Lives t u) : Lives s u :=
  ⟨k.1.trans h.1, k.2.1.trans h.2.1, k.2.2.trans h.2.2⟩

theorem Lives.each {α : Type} (l : List α) {f : State → α → State} (hf : ∀ s a, Lives s (f s a)) (s : State) :
    Lives s (s.each l f) :=
  State.each_keeps (Lives s) l f (fun t a _ h => h.trans (hf t a)) s (Lives.refl s)

theorem Lives.of_moves {l : List (Fld × Nat)} {s t : State} (h : DspMoves l s t) : Lives s t := by
  unfold Lives
  rw [h.rest]
  exact ⟨rfl, rfl, rfl⟩

theorem deskStopped_lives (s : State) (d : Nat) : Lives s (s.deskStopped d) := Lives.of_moves (State.deskStopped_moves s d)

theorem semPass_lives (s : State) (i : Nat) : Lives s (s.semPass i) := by
  unfold State.semPass
  split
  · dsimp only
    split
    · exact ⟨rfl, rfl, rfl⟩
    · exact Lives.of_moves (.of_sems ((SemFrame.setPasses s _).trans (SemFrame.semFree _ i)))
  · exact Lives.refl s

/-- The part of a cycle's start that ends a Desk's wait. -/
theorem waitEnded_lives (s : State) (d : Nat) (k : Desk) : Lives s ((s.setDesk d k).setDeskState d 1) := ⟨rfl, rfl, rfl⟩

theorem cycleDesk_lives (s : State) (d : Nat) : Lives s (s.cycleDesk d) := by
  unfold State.cycleDesk
  extract_lets k s' k'
  have hwait : Lives s s' := by
    unfold s'
    split
    · split
      · split
        · exact Lives.refl s
        · split
          · exact waitEnded_lives s d _
          · split
            · exact (Lives.of_moves (State.abandon_moves s d)).trans (deskStopped_lives _ d)
            · exact Lives.refl s
      · split
        · exact waitEnded_lives s d _
        · exact Lives.refl s
      · split
        · exact waitEnded_lives s d _
        · exact Lives.refl s
      · exact Lives.refl s
    · exact Lives.refl s
  split
  · exact hwait.trans (deskStopped_lives _ d)
  · exact hwait

theorem cycleBegin_lives (s : State) : Lives s s.cycleBegin :=
  ((Lives.each _ semPass_lives s).trans (Lives.each _ cycleDesk_lives _)).trans (Lives.of_moves (State.loadStart_moves _))

/-! ### What the frame of the Dispatcher gives -/

theorem bytesKeep_of_moves {l : List (Fld × Nat)} {s t : State} (h : DspMoves l s t) (p : Nat → Prop) : BytesKeep s t p :=
  fun a _ => h.rdByte a

theorem unitsKeep_of_moves {l : List (Fld × Nat)} {s t : State} (h : DspMoves l s t) : UnitsKeep s t := by
  unfold UnitsKeep
  rw [h.rest]
  simp only [and_self]

theorem regsKeep_of_moves {l : List (Fld × Nat)} {l' : List (Reg × Nat)} {s t : State} (h : DspMoves l s t)
    (hl : l.map (fun x => (x.1.reg, x.2)) ⊆ l') : RegsKeep s t l' := fun r u hn => h.reg fun x hx => by
  by_contra hc
  obtain ⟨hr, hu⟩ := not_or.1 hc
  rw [not_ne_iff] at hr hu
  exact hn (by rw [hr, hu]; exact hl (List.mem_map_of_mem hx))

/-! ### A row of an instruction -/

theorem Issues.lives {s b : State} {d : Nat} (h : Issues s d b) : Lives s b := by
  obtain ⟨-, -, -, rfl⟩ := h
  obtain ⟨f, hf⟩ := State.fetched_moves s.cycleBegin.cycleTaken d
  exact (cycleBegin_lives s).trans (Lives.trans (t := s.cycleBegin.cycleTaken) ⟨rfl, rfl, rfl⟩ (Lives.of_moves hf))

theorem Issues.lt {s b : State} {d : Nat} (h : Issues s d b) : d < 4 := State.issuer_lt h.2.2.1

theorem Issues.running {s b : State} {d : Nat} (h : Issues s d b) : b.deskState d = 1 := by
  obtain ⟨-, -, hi, rfl⟩ := h
  obtain ⟨f, hf⟩ := State.fetched_moves s.cycleBegin.cycleTaken d
  refine Eq.trans ?_ (State.deskState_issuer hi)
  exact hf.fget fun x hx => by rw [List.mem_singleton.1 hx]; exact .inl (show Reg.DSP_DESK_STATUS ≠ .DSP_FRAME by decide)

section
variable {s b : State} {d : Nat} {c : Instr} {f : State → Issue} {P : State → Prop}
  (hc : exec c s = s.act fun s => s.issueRow d f) (h : Issues s d b)
include hc h

/-- The row of an instruction in its Desk's cycle. -/
theorem Issues.runs (hl : Lives b (b.issue d f)) (hP : P (b.issue d f)) : Runs c s P := by
  have hlives := h.lives
  obtain ⟨hp, hopen, hi, rfl⟩ := h
  have he := State.issueRow_issues s d f hopen hi
  exact Runs.of_act hc hp (by rw [he]; exact hlives.trans hl) (by rw [he]; exact hP)

/-- The row of an instruction that takes effect. -/
theorem Issues.runs_ok {b' : State} {l : List (Fld × Nat)} (hf : f b = .ok b') (hm : DspMoves l b b')
    (hP : P (b.issuedFrom b' d)) : Runs c s P := by
  have he := State.issue_ok (d := d) hf
  exact h.runs hc (by rw [he]; exact (Lives.of_moves hm).trans (Lives.of_moves (State.issuedFrom_moves b b' d)))
    (by rw [he]; exact hP)

/-- The row of an instruction that faults. -/
theorem Issues.runs_fault {cause : Nat} (hf : f b = .fault cause false) (hl : Lives b (b.deskFault d cause))
    (hP : P (b.deskFault d cause)) : Runs c s P := by
  have he := State.issue_fault b d f cause hf
  exact h.runs hc (by rw [he]; exact hl) (by rw [he]; exact hP)

end

/-- What an issued instruction that moves registers of `l` leaves. -/
theorem issued_of_moves {b b' : State} {d : Nat} {l : List (Fld × Nat)} {l' : List (Reg × Nat)} (h : DspMoves l b b')
    (hl : l.map (fun x => (x.1.reg, x.2)) ⊆ l') (hn : ∀ x ∈ l, x.1.reg ≠ .DSP_DESK_ISSUED)
    (hd : ∀ e, e ≠ d → b'.desk e = b.desk e) : Issued b (b.issuedFrom b' d) d (nextPc (b.pc d)) 2 l' := by
  have hcount : b'.fget F.DSP_DESK_ISSUED_COUNT d = b.fget F.DSP_DESK_ISSUED_COUNT d :=
    h.fget fun x hx => .inl (Ne.symm (hn x hx))
  have hissue : DspMoves (issueFields d ++ l) b (b.issuedFrom b' d) :=
    (h.mono (List.subset_append_right ..)).trans ((State.issuedFrom_moves b b' d).mono (List.subset_append_left ..))
  refine ⟨State.pc_issuedFrom b b' d, by rw [State.issued_issuedFrom, hcount], by rw [State.desk_issuedFrom],
    fun e he => (State.desk_issuedFrom_ne b b' he).trans (hd e he), regsKeep_of_moves hissue ?_⟩
  rw [List.map_append]
  exact List.cons_subset_cons _ (List.cons_subset_cons _ hl)

/-- An issued instruction that moves nothing of the Dispatcher's record but its Desks. -/
theorem alone_of_moves {b b' : State} {d : Nat} {l : List (Fld × Nat)} (h : DspMoves l b b')
    (hd : b'.dsp = { b.dsp with desks := b'.dsp.desks }) : Alone b (b.issuedFrom b' d) := by
  have hm := State.issuedFrom_moves b b' d
  refine ⟨fun a _ => (hm.rdByte a).trans (h.rdByte a), ?_, ?_⟩
  · unfold UnitsKeep
    rw [hm.rest, h.rest]
    simp only [and_self]
  · refine (State.dsp_issuedFrom b b' d).trans ?_
    rw [State.cycle_issuedFrom, hd]

end Sys2Proof.Claim
end

section
/-! SUPPORT. A Desk that runs faults (R331, R332): what its record, the actions, the semaphores and the event sources show. -/

namespace Sys2Proof.Machine

/-! ### The parts of a fault -/

/-- The Desk is FAULTED with a cause, its STEP is over, and the host is told. -/
def State.faultMarked (s : State) (d cause : Nat) : State :=
  (((s.setDesk d { s.desk d with stepping := false, stepDone := false, halting := false, page := none }).setDeskState d 4).fset
    F.DSP_DESK_STATUS_CAUSE d cause).leaveShown d

/-- A fault up to the loss of the Desk's actions. -/
def State.faultShown (s : State) (d cause : Nat) : State := ((s.abandon d).faultMarked d cause).loadInCycle

/-- An action of a Desk that has not been launched. -/
def State.unlaunched (s : State) (d : Nat) (a : Act) : Bool := a.desk == d && a.slot.any (fun x => s.count < x)

/-- The Desk's actions not launched are discarded and counted. -/
def State.actsLost (s : State) (d : Nat) : State :=
  (s.setDsp { s.dsp with acts := s.dsp.acts.filter fun a => !s.unlaunched d a }).faddSat F.DSP_DESK_LATECNT_DISCARDED d
    (s.dsp.acts.filter (s.unlaunched d)).length

/-- The Desk's semaphores are released. -/
def State.semsReleased (s : State) (d : Nat) : State := s.each ((List.range 16).filter (s.semOwned d)) State.semRelease

/-- The fault is reported; one of Desk 0 also puts every Section on SAFE 32 tk later. -/
def State.faultReported (s : State) (d cause : Nat) : State :=
  if d = 0 then
    (s.setDsp { s.dsp with safeAt := s.dsp.safeAt ++ [s.stn.elapsed + 32] }).post (srcDesk 0) 0 0x20
      [pEnum cause, pOther (s.pc 0)]
  else s.post (srcDesk d) 5 1 [.num 2 d, pEnum cause, pOther (s.pc d)]

/-- A fault up to its report. -/
def State.faultFreed (s : State) (d cause : Nat) : State := ((s.faultShown d cause).actsLost d).semsReleased d

theorem State.deskFault_eq {s : State} {d : Nat} (cause : Nat) (h : s.deskState d ≠ 4) :
    s.deskFault d cause = (s.faultFreed d cause).faultReported d cause := if_neg h

/-! ### One Desk moves -/

/-- Nothing has changed but listed fields, one Desk's record, and a resident load's. -/
structure DeskMoves (d : Nat) (l : List (Fld × Nat)) (s t : State) : Prop where
  moves : DspMoves l s t
  others : ∀ e, e ≠ d → t.desk e = s.desk e ∧ t.deskState e = s.deskState e
  acts : t.dsp.acts = s.dsp.acts
  passes : t.dsp.passes = s.dsp.passes
  safeAt : t.dsp.safeAt = s.dsp.safeAt

theorem DeskMoves.trans {d : Nat} {l : List (Fld × Nat)} {s t u : State} (h : DeskMoves d l s t) (k : DeskMoves d l t u) :
    DeskMoves d l s u :=
  ⟨h.moves.trans k.moves, fun e he => ⟨(k.others e he).1.trans (h.others e he).1, (k.others e he).2.trans (h.others e he).2⟩,
    k.acts.trans h.acts, k.passes.trans h.passes, k.safeAt.trans h.safeAt⟩

theorem DeskMoves.mono {d : Nat} {l l' : List (Fld × Nat)} {s t : State} (h : DeskMoves d l s t) (hl : l ⊆ l') :
    DeskMoves d l' s t := { h with moves := h.moves.mono hl }

theorem DeskMoves.setDesk (l : List (Fld × Nat)) (s : State) (d : Nat) (v : Desk) : DeskMoves d l s (s.setDesk d v) :=
  ⟨DspMoves.setDesk l s d v, fun _ he => ⟨State.desk_setDesk_ne s v he, rfl⟩, rfl, rfl, rfl⟩

/-- An update of fields alone, of which none is another Desk's STATE. -/
theorem DeskMoves.of_dsp {d : Nat} {l : List (Fld × Nat)} {s t : State} (h : DspMoves l s t) (hd : t.dsp = s.dsp)
    (hs : ∀ e, e ≠ d → t.deskState e = s.deskState e) : DeskMoves d l s t :=
  ⟨h, fun e he => ⟨State.desk_congr (by rw [hd]) e, hs e he⟩, by rw [hd], by rw [hd], by rw [hd]⟩

theorem DeskMoves.fset {d : Nat} {l : List (Fld × Nat)} (s : State) {f : Fld} (v : Nat) (h : (f, d) ∈ l) :
    DeskMoves d l s (s.fset f d v) :=
  .of_dsp (DspMoves.fset s v h) rfl fun _ he => State.fget_fset_apart s v (.inr (.inl he))

theorem DeskMoves.loadInCycle {l : List (Fld × Nat)} (s : State) (d : Nat) (h : loadFields ⊆ l) :
    DeskMoves d l s s.loadInCycle :=
  ⟨s.loadInCycle_moves.mono h, fun e _ => ⟨s.desk_loadInCycle e, s.fget_loadInCycle e (by decide) (by decide)⟩,
    by rw [State.dsp_loadInCycle], by rw [State.dsp_loadInCycle], by rw [State.dsp_loadInCycle]⟩

/-! ### What the Desk shows -/

/-- The fields by which a Desk that faults is shown. -/
def markFields (d : Nat) : List (Fld × Nat) := (F.DSP_DESK_STATUS_CAUSE, d) :: leaveFields d

/-- Their kinds. -/
def markKinds : List Fld := F.DSP_DESK_STATUS_CAUSE :: leaveKinds

theorem State.faultMarked_moves (s : State) (d cause : Nat) : DeskMoves d (markFields d) s (s.faultMarked d cause) := by
  have hleave (t : State) : DeskMoves d (markFields d) t (t.leaveShown d) :=
    .of_dsp ((t.leaveShown_moves d).mono (by simp [markFields, leaveFields])) rfl fun e _ =>
      t.fget_leaveShown d e (by decide) (by decide)
  exact (((DeskMoves.setDesk _ s d _).trans
    (DeskMoves.fset (f := F.DSP_DESK_STATUS_STATE) _ 4 (by simp [markFields, leaveFields]))).trans
    (DeskMoves.fset (f := F.DSP_DESK_STATUS_CAUSE) _ cause (by simp [markFields]))).trans (hleave _)

theorem State.deskState_faultMarked (s : State) (d cause : Nat) : (s.faultMarked d cause).deskState d = 4 := by
  unfold State.faultMarked State.deskState
  rw [State.fget_leaveShown _ _ _ (by decide) (by decide), State.fget_fset_apart _ _ (.inr (.inr (by decide)))]
  exact State.deskState_setDeskState _ d (by decide)

theorem State.cause_faultMarked (s : State) (d : Nat) {cause : Nat} (h : cause < 16) :
    (s.faultMarked d cause).fget F.DSP_DESK_STATUS_CAUSE d = cause := by
  unfold State.faultMarked
  rw [State.fget_leaveShown _ _ _ (by decide) (by decide)]
  exact State.fget_fset_fits _ F.DSP_DESK_STATUS_CAUSE d (by decide) h

theorem State.deskState_faultShown (s : State) (d cause : Nat) : (s.faultShown d cause).deskState d = 4 :=
  (State.fget_loadInCycle _ d (by decide) (by decide)).trans (State.deskState_faultMarked _ d cause)

theorem State.cause_faultShown (s : State) (d : Nat) {cause : Nat} (h : cause < 16) :
    (s.faultShown d cause).fget F.DSP_DESK_STATUS_CAUSE d = cause :=
  (State.fget_loadInCycle _ d (by decide) (by decide)).trans (State.cause_faultMarked _ d h)

theorem State.on_desk_stop_faultShown (s : State) (d cause : Nat) :
    (s.faultShown d cause).on F.HIF_IRQ_SRC_DESK_STOP 0 = true :=
  (State.on_congr (State.fget_loadInCycle _ 0 (by decide) (by decide))).trans (State.on_leaveShown _ d).2.2

theorem State.abandon_of_none {s : State} {d : Nat} (h : (s.desk d).wait = .none) :
    s.abandon d = s.setDesk d { s.desk d with wait := .none } := by
  rw [State.abandon_eq, h]
  rfl

/-- A fault before the load that may start in passing. -/
theorem State.faultMarked_moves_of_none {s : State} {d : Nat} (cause : Nat) (h : (s.desk d).wait = .none) :
    DeskMoves d (markFields d) s ((s.abandon d).faultMarked d cause) := by
  rw [State.abandon_of_none h]
  exact (DeskMoves.setDesk _ s d _).trans (State.faultMarked_moves _ d cause)

theorem State.faultShown_moves {s : State} {d : Nat} (cause : Nat) (h : (s.desk d).wait = .none) :
    DeskMoves d (markFields d ++ loadFields) s (s.faultShown d cause) :=
  ((State.faultMarked_moves_of_none cause h).mono (List.subset_append_left ..)).trans
    (DeskMoves.loadInCycle _ d (List.subset_append_right ..))

/-- With no resident load asked for, none starts. -/
theorem State.tileOk_faultShown {s : State} {d : Nat} (cause : Nat) (h : (s.desk d).wait = .none)
    (hl : s.on F.DSP_CTRL_LOAD_RES 0 = false) : (s.faultShown d cause).reg .DSP_TILE_OK 0 = s.reg .DSP_TILE_OK 0 := by
  have hm := (State.faultMarked_moves_of_none cause h).moves
  have hload : ((s.abandon d).faultMarked d cause).on F.DSP_CTRL_LOAD_RES 0 = false :=
    (State.on_congr (hm.fget_of_kinds 0 markKinds rfl (by decide))).trans hl
  unfold State.faultShown
  rw [State.loadInCycle_idle hload]
  exact hm.reg_of_kinds 0 markKinds rfl (by decide)

/-! ### The actions that are lost -/

theorem State.actsLost_moves (s : State) (d : Nat) : DspMoves [(F.DSP_DESK_LATECNT_DISCARDED, d)] s (s.actsLost d) :=
  (DspMoves.setDsp _ s _).trans (DspMoves.fset (f := F.DSP_DESK_LATECNT_DISCARDED) _ _ (List.mem_singleton_self _))

theorem State.acts_actsLost (s : State) (d : Nat) : (s.actsLost d).dsp.acts = s.dsp.acts.filter fun a => !s.unlaunched d a := rfl

theorem State.mem_actsLost (s : State) (d : Nat) (a : Act) :
    a ∈ (s.actsLost d).dsp.acts ↔ a ∈ s.dsp.acts ∧ ¬ (a.desk = d ∧ ∃ x, a.slot = some x ∧ s.count < x) := by
  rw [State.acts_actsLost, List.mem_filter]
  refine and_congr_right fun _ => ?_
  rw [Bool.not_eq_true', ← Bool.not_eq_true, State.unlaunched, Bool.and_eq_true, beq_iff_eq, Option.any_eq_true]
  simp only [decide_eq_true_eq]

/-- Each action is kept or discarded. -/
theorem State.length_actsLost (s : State) (d : Nat) :
    (s.dsp.acts.filter (s.unlaunched d)).length = s.dsp.acts.length - (s.actsLost d).dsp.acts.length := by
  rw [State.acts_actsLost, List.length_eq_length_filter_add (l := s.dsp.acts) (s.unlaunched d), Nat.add_sub_cancel]

theorem State.discarded_actsLost (s : State) (d : Nat) : (s.actsLost d).fget F.DSP_DESK_LATECNT_DISCARDED d =
    satU F.DSP_DESK_LATECNT_DISCARDED.w (s.fget F.DSP_DESK_LATECNT_DISCARDED d +
      (s.dsp.acts.length - (s.actsLost d).dsp.acts.length)) := by
  rw [← State.length_actsLost]
  exact State.fget_faddSat (s.setDsp _) F.DSP_DESK_LATECNT_DISCARDED d _ (by decide)

/-! ### The semaphores and the report -/

theorem State.released_semsReleased (s : State) (d : Nat) :
    Released ((List.range 16).filter (s.semOwned d)) s (s.semsReleased d) :=
  Released.each (List.nodup_range.filter _) (fun _ hi => List.mem_range.1 (List.mem_filter.1 hi).1) s

/-- The fields that a fault moves beside its Desk's. -/
def lossFields (d : Nat) : List (Fld × Nat) := (F.DSP_DESK_LATECNT_DISCARDED, d) :: semFields

/-- Their kinds. -/
def lossKinds : List Fld := [F.DSP_DESK_LATECNT_DISCARDED, F.DSP_SEM_HELD_HELD, F.DSP_SEM_OWNER_OWNER]

theorem State.losses_moves (s : State) (d : Nat) : DspMoves (lossFields d) s ((s.actsLost d).semsReleased d) :=
  ((State.actsLost_moves s d).mono (by simp [lossFields])).trans
    ((DspMoves.of_sems (State.released_semsReleased _ d).frame).mono (List.subset_cons_self ..))

theorem State.losses_dsp (s : State) (d : Nat) : ((s.actsLost d).semsReleased d).dsp =
    { s.dsp with acts := (s.actsLost d).dsp.acts, passes := ((s.actsLost d).semsReleased d).dsp.passes } := by
  rw [(State.released_semsReleased (s.actsLost d) d).frame.rest]
  rfl

/-- The counter of discarded actions is not the semaphores'. -/
theorem State.discarded_losses (s : State) (d : Nat) :
    ((s.actsLost d).semsReleased d).fget F.DSP_DESK_LATECNT_DISCARDED d = (s.actsLost d).fget F.DSP_DESK_LATECNT_DISCARDED d :=
  (State.released_semsReleased (s.actsLost d) d).frame.fget d (by decide) (by decide)

theorem State.faultReported_frame (s : State) (d cause : Nat) : s.faultReported d cause =
    { s with log := (s.faultReported d cause).log
             dsp := { s.dsp with safeAt := if d = 0 then s.dsp.safeAt ++ [s.stn.elapsed + 32] else s.dsp.safeAt } } := by
  unfold State.faultReported
  split <;> rfl

theorem payload_deskFault (d : Nat) {cause pc : Nat} (hc : cause < 16) (hp : pc < 2 ^ 21) :
    payload [pEnum cause, pOther pc] = cause * 2 ^ 28 + pc ∧
      (d < 4 → payload [.num 2 d, pEnum cause, pOther pc] = d * 2 ^ 30 + cause * 2 ^ 26 + pc) := by
  have h0 : min cause 15 = cause := by omega
  have h1 : min pc 268435455 = pc := by omega
  refine ⟨?_, fun hd => ?_⟩
  · simp [payload, packItems, PItem.packed, PItem.last, PItem.width, pOther, pEnum, satU, h0, h1]
  · have h2 : min d 3 = d := by omega
    have h3 : min pc 67108863 = pc := by omega
    simp [payload, packItems, PItem.packed, PItem.last, PItem.width, pOther, pEnum, satU, h0, h2, h3, Nat.add_assoc]

end Sys2Proof.Machine

namespace Sys2Proof.Claim

open Sys2Proof.Machine

/-- The report of a fault, made in a state that shows the event sources as `b` does. -/
theorem posted_faultReported {b u : State} {d cause : Nat} (hu : PostsAs b u) (hd : d < 4) (hc : cause < 16) (hpc : u.pc d = b.pc d) :
    if d = 0 then PostedIn b (u.faultReported d cause) 1800 0 0x20 (cause * 2 ^ 28 + b.pc 0)
    else PostedIn b (u.faultReported d cause) (1800 + d) 5 0x01 (d * 2 ^ 30 + cause * 2 ^ 26 + b.pc d) := by
  have hlt : b.pc d < 2 ^ 21 := State.fget_lt b F.DSP_DESK_PC_PC d
  obtain ⟨h0, h1⟩ := payload_deskFault d hc hlt
  unfold State.faultReported
  split
  next hz =>
    subst hz
    rw [hpc]
    exact (posted_post (u := u.setDsp _) hu 1800 0 0x20 h0 (by omega)).1
  next =>
    rw [hpc]
    exact (posted_post hu (1800 + d) 5 0x01 (h1 hd) (by omega)).1

end Sys2Proof.Claim
end

section
/-! SUPPORT. A fault of a Desk as a whole (R331, R332). -/

namespace Sys2Proof.Claim

open Sys2Proof.Machine

section
variable {b : State} {d cause : Nat} (hs : b.deskState d = 1) (hw : (b.desk d).wait = .none)
include hs hw

/-- What semaphores show once the Desk's actions are lost. -/
theorem faultLost_sems : let v := (b.faultShown d cause).actsLost d
    v.stn = b.stn ∧ v.dsp.passes = b.dsp.passes ∧ (∀ i, v.semHeld i = b.semHeld i) ∧ (∀ i, v.semOwner i = b.semOwner i) ∧
      ∀ i, v.semWaiters i = b.semWaiters i := by
  intro v
  have hshown := State.faultShown_moves cause hw
  have hlost : DspMoves [(F.DSP_DESK_LATECNT_DISCARDED, d)] (b.faultShown d cause) v := State.actsLost_moves _ d
  have hget (f : Fld) (hf : f.reg = .DSP_SEM_HELD ∨ f.reg = .DSP_SEM_OWNER) : v.fget f 0 = b.fget f 0 :=
    (hlost.fget_of_kinds 0 [F.DSP_DESK_LATECNT_DISCARDED] rfl fun g hg => .inl (by
      rcases hf with hf | hf <;> rw [hf] <;> revert g hg <;> decide)).trans
      (hshown.moves.fget_of_kinds 0 (markKinds ++ [F.DSP_STATUS_LOADING, F.DSP_TILE_OK_VALID]) rfl fun g hg => .inl (by
        rcases hf with hf | hf <;> rw [hf] <;> revert g hg <;> decide))
  refine ⟨hlost.stn.trans hshown.moves.stn, hshown.passes, State.semHeld_congr (hget _ (.inl rfl)),
    State.semOwner_congr (hget _ (.inr rfl)), fun i => ?_⟩
  unfold State.semWaiters
  refine List.filter_congr fun e _ => ?_
  have hstate : v.deskState e = (b.faultShown d cause).deskState e :=
    hlost.fget_of_kinds e [F.DSP_DESK_LATECNT_DISCARDED] rfl (by decide)
  rw [hstate]
  by_cases he : e = d
  · rw [he, State.deskState_faultShown, hs]
    rfl
  · obtain ⟨hdesk, hstate'⟩ := hshown.others e he
    have hdesk' : v.desk e = b.desk e := hdesk
    rw [hstate', hdesk']

/-- What a Desk's fault does to the semaphores (R319, R331). -/
theorem faultFreed_sems : let w := b.faultFreed d cause
    (∀ i, i < 16 → b.semOwned d i = true → (∀ p, p ∈ b.dsp.passes → p.1 ≠ i) →
      (b.semWaiters i = [] → w.semHeld i = false) ∧ (b.semWaiters i ≠ [] → (i, b.stn.elapsed) ∈ w.dsp.passes)) ∧
    (∀ i, i < 16 → b.semOwned d i = false → w.semHeld i = b.semHeld i) ∧
    (∀ i, i < 16 → w.semHeld i = true → w.semOwner i = b.semOwner i) := by
  intro w
  obtain ⟨hstn, hpasses, hheld, howner, hwaiters⟩ := faultLost_sems (cause := cause) hs hw
  have hrel : Released ((List.range 16).filter (((b.faultShown d cause).actsLost d).semOwned d))
      ((b.faultShown d cause).actsLost d) w := State.released_semsReleased _ d
  have hpassing (i : Nat) : ((b.faultShown d cause).actsLost d).semPassing i ↔ b.semPassing i := by
    unfold State.semPassing; rw [hpasses]
  have howned (i : Nat) : ((b.faultShown d cause).actsLost d).semOwned d i = b.semOwned d i := by
    unfold State.semOwned; rw [hheld, howner]
  have hmem (i : Nat) (hi : i < 16) : i ∈ (List.range 16).filter (((b.faultShown d cause).actsLost d).semOwned d) ↔
      b.semOwned d i = true := by
    rw [List.mem_filter, List.mem_range, howned]
    exact and_iff_right hi
  refine ⟨fun i hi hown hpass => ?_, fun i hi hown => ?_, fun i _ h => ?_⟩
  · have hnot : ¬ b.semPassing i := fun ⟨p, hp, he⟩ => hpass p hp he
    refine ⟨fun hnil => ?_, fun hne => ?_⟩
    · rw [← Bool.not_eq_true, hrel.held, hmem i hi, hpassing, hwaiters]
      exact fun h => h.2 ⟨hown, hnot, hnil⟩
    · rw [hrel.passes, hmem i hi, hpassing, hwaiters, hheld, hstn]
      exact .inr ⟨hown, rfl, (Bool.and_eq_true_iff.1 hown).1, hnot, hne⟩
  · rw [Bool.eq_iff_iff, hrel.held, hmem i hi, hown, hheld]
    simp
  · exact (hrel.owner i h).trans (howner i)

/-! ### A fault and its report -/

theorem deskFault_frame : b.deskFault d cause = { b.faultFreed d cause with
    log := (b.deskFault d cause).log
    dsp := { (b.faultFreed d cause).dsp with
      safeAt := if d = 0 then b.dsp.safeAt ++ [b.stn.elapsed + 32] else b.dsp.safeAt } } := by
  have hframe := State.faultReported_frame (b.faultFreed d cause) d cause
  have helapsed : (b.faultFreed d cause).stn.elapsed = b.stn.elapsed :=
    congrArg Stn.elapsed ((State.losses_moves _ d).stn.trans (State.faultShown_moves cause hw).moves.stn)
  have hsafe : (b.faultFreed d cause).dsp.safeAt = b.dsp.safeAt := by
    rw [State.faultFreed, State.losses_dsp]
    exact (State.faultShown_moves cause hw).safeAt
  rw [← State.deskFault_eq cause (by omega), helapsed, hsafe] at hframe
  exact hframe

theorem reg_deskFault (r : Reg) (u : Nat) : (b.deskFault d cause).reg r u = (b.faultFreed d cause).reg r u := by
  rw [deskFault_frame hs hw]
  rfl

theorem fget_deskFault (f : Fld) (u : Nat) : (b.deskFault d cause).fget f u = (b.faultFreed d cause).fget f u := by
  unfold State.fget
  rw [reg_deskFault hs hw]

/-- The kinds of field that a fault moves. -/
def deskFaultKinds : List Fld := markKinds ++ [F.DSP_STATUS_LOADING, F.DSP_TILE_OK_VALID] ++ lossKinds

omit hs in
theorem faultFreed_moves : DspMoves (markFields d ++ loadFields ++ lossFields d) b (b.faultFreed d cause) :=
  ((State.faultShown_moves cause hw).moves.mono (List.subset_append_left ..)).trans
    ((State.losses_moves _ d).mono (List.subset_append_right ..))

/-- STATE, CAUSE, the PC, and the host's interrupt source (R331, R524). -/
theorem deskFault_desk (hc : cause < 16) : let t := b.deskFault d cause
    t.deskState d = 4 ∧ t.fget F.DSP_DESK_STATUS_CAUSE d = cause ∧ t.pc d = b.pc d ∧ t.on F.HIF_IRQ_SRC_DESK_STOP 0 = true := by
  have hloss (f : Fld) (u : Nat) (hf : ∀ g ∈ lossKinds, f.reg ≠ g.reg) :
      (b.deskFault d cause).fget f u = (b.faultShown d cause).fget f u :=
    (fget_deskFault hs hw f u).trans ((State.losses_moves _ d).fget_of_kinds u lossKinds rfl fun g hg => .inl (hf g hg))
  refine ⟨(hloss _ d (by decide)).trans (State.deskState_faultShown b d cause),
    (hloss _ d (by decide)).trans (State.cause_faultShown b d hc), ?_,
    (State.on_congr (hloss _ 0 (by decide))).trans (State.on_desk_stop_faultShown b d cause)⟩
  exact (fget_deskFault hs hw _ d).trans ((faultFreed_moves hw).fget_of_kinds d deskFaultKinds rfl (by decide))

/-- The actions not launched are discarded and counted (R331). -/
theorem deskFault_acts : let t := b.deskFault d cause
    (∀ a, a ∈ t.dsp.acts ↔ a ∈ b.dsp.acts ∧ ¬ (a.desk = d ∧ ∃ x, a.slot = some x ∧ b.count < x)) ∧
      t.fget F.DSP_DESK_LATECNT_DISCARDED d = satU F.DSP_DESK_LATECNT_DISCARDED.w
        (b.fget F.DSP_DESK_LATECNT_DISCARDED d + (b.dsp.acts.length - t.dsp.acts.length)) := by
  intro t
  have hshown := State.faultShown_moves cause hw
  have hacts : t.dsp.acts = ((b.faultShown d cause).actsLost d).dsp.acts := by
    show (b.deskFault d cause).dsp.acts = _
    rw [deskFault_frame hs hw, State.faultFreed, State.losses_dsp]
  have hlate : (b.faultShown d cause).fget F.DSP_DESK_LATECNT_DISCARDED d = b.fget F.DSP_DESK_LATECNT_DISCARDED d :=
    hshown.moves.fget_of_kinds d (markKinds ++ [F.DSP_STATUS_LOADING, F.DSP_TILE_OK_VALID]) rfl (by decide)
  refine ⟨fun a => ?_, ?_⟩
  · rw [hacts, State.mem_actsLost, hshown.acts, hshown.moves.count]
  · refine (fget_deskFault hs hw _ d).trans ?_
    rw [State.faultFreed, State.discarded_losses, State.discarded_actsLost, hacts, hlate, hshown.acts]

/-- The event, and for Desk 0 the Sections' SAFE 32 tk later (R332). -/
theorem deskFault_posts (hd : d < 4) (hc : cause < 16) : let t := b.deskFault d cause
    if d = 0 then t.dsp.safeAt = b.dsp.safeAt ++ [b.stn.elapsed + 32] ∧ PostedIn b t 1800 0 0x20 (cause * 2 ^ 28 + b.pc 0)
    else t.dsp.safeAt = b.dsp.safeAt ∧ PostedIn b t (1800 + d) 5 0x01 (d * 2 ^ 30 + cause * 2 ^ 26 + b.pc d) := by
  have hmoves := faultFreed_moves (cause := cause) hw
  have hposts : PostsAs b (b.faultFreed d cause) :=
    ⟨hmoves.log, hmoves.stn, hmoves.fget_of_kinds 0 deskFaultKinds rfl (by decide)⟩
  have hposted := posted_faultReported hposts hd hc (hmoves.fget_of_kinds d deskFaultKinds rfl (by decide))
  rw [← State.deskFault_eq cause (by omega)] at hposted
  have hsafe : (b.deskFault d cause).dsp.safeAt = if d = 0 then b.dsp.safeAt ++ [b.stn.elapsed + 32] else b.dsp.safeAt := by
    rw [deskFault_frame hs hw]
  by_cases hz : d = 0
  · rw [if_pos hz] at hposted hsafe ⊢
    exact ⟨hsafe, hposted⟩
  · rw [if_neg hz] at hposted hsafe ⊢
    exact ⟨hsafe, hposted⟩

/-- The registers that a fault moves. -/
theorem deskFault_regs : RegsKeep b (b.deskFault d cause) [(.DSP_DESK_STATUS, d), (.DSP_DESK_CTRL, d), (.DSP_DESK_LATECNT, d),
    (.DSP_SEM_HELD, 0), (.DSP_SEM_OWNER, 0), (.HIF_IRQ_SRC, 0), (.DSP_STATUS, 0), (.DSP_TILE_OK, 0)] := fun r u hn =>
  (reg_deskFault hs hw r u).trans (regsKeep_of_moves (faultFreed_moves hw)
    (show [(Reg.DSP_DESK_STATUS, d), (.DSP_DESK_STATUS, d), (.DSP_DESK_CTRL, d), (.DSP_DESK_CTRL, d), (.HIF_IRQ_SRC, 0),
      (.DSP_STATUS, 0), (.DSP_TILE_OK, 0), (.DSP_DESK_LATECNT, d), (.DSP_SEM_HELD, 0), (.DSP_SEM_OWNER, 0)] ⊆ _ by simp) r u hn)

/-- A Desk that runs faults as R331 and R332 say. -/
theorem deskFault_faulted (hd : d < 4) (hc : cause < 16) : Faulted b (b.deskFault d cause) d cause := by
  obtain ⟨hstate, hcause, hpc, hirq⟩ := deskFault_desk (cause := cause) hs hw hc
  obtain ⟨hacts, hlate⟩ := deskFault_acts (cause := cause) hs hw
  obtain ⟨hsem, hother, howner⟩ := faultFreed_sems (cause := cause) hs hw
  have hframe := deskFault_frame (cause := cause) hs hw
  have hmoves := faultFreed_moves (cause := cause) hw
  have hheld (i : Nat) : (b.deskFault d cause).semHeld i = (b.faultFreed d cause).semHeld i :=
    State.semHeld_congr (fget_deskFault hs hw _ _) i
  have howns (i : Nat) : (b.deskFault d cause).semOwner i = (b.faultFreed d cause).semOwner i :=
    State.semOwner_congr (fget_deskFault hs hw _ _) i
  have hpasses : (b.deskFault d cause).dsp.passes = (b.faultFreed d cause).dsp.passes := by rw [hframe]
  have hdesks : (b.deskFault d cause).dsp.desks = (b.faultShown d cause).dsp.desks := by
    rw [hframe, State.faultFreed, State.losses_dsp]
  refine ⟨hstate, hcause, hpc, hacts, hlate, fun i hi hown hpass => ?_, fun i hi hown => ?_, fun i hi h => ?_,
    deskFault_posts hs hw hd hc, hirq, fun e he => ?_, deskFault_regs hs hw, fun hl => ?_, fun a _ => ?_, ?_⟩
  · rw [hheld, hpasses]
    exact hsem i hi hown hpass
  · rw [hheld]
    exact hother i hi hown
  · rw [hheld] at h
    rw [howns]
    exact howner i hi h
  · exact (State.desk_congr hdesks e).trans ((State.faultShown_moves cause hw).others e he).1
  · rw [reg_deskFault hs hw, State.faultFreed, (State.losses_moves _ d).reg_of_kinds 0 lossKinds rfl (by decide)]
    exact State.tileOk_faultShown cause hw hl
  · have h : (b.deskFault d cause).rdByte a = (b.faultFreed d cause).rdByte a := by rw [hframe]; rfl
    rw [h]
    exact hmoves.rdByte a
  · rw [hframe, hmoves.rest]
    simp only [and_self]

theorem deskFault_lives : Lives b (b.deskFault d cause) := by
  unfold Lives
  rw [deskFault_frame hs hw, (faultFreed_moves hw).rest]
  exact ⟨rfl, rfl, rfl⟩

end

end Sys2Proof.Claim
end

section
/-! SUPPORT. ACQ, REL, TRY and SEMAPHORE_PASS (R318–R320). -/

namespace Sys2Proof.Machine

/-! ### What the instructions answer -/

theorem semArg_of_lt {i : Nat} (h : i < 16) (f : Nat → Issue) : semArg i f = f i := by
  unfold semArg
  rw [Nat.mod_eq_of_lt (by omega), if_neg (by omega)]

theorem semArg_of_ge {i : Nat} (h : 16 ≤ i) (hi : i < 2 ^ 32) (f : Nat → Issue) : semArg i f = .operand := by
  unfold semArg
  rw [Nat.mod_eq_of_lt hi, if_pos h]

/-- A free semaphore is nobody's. -/
theorem State.semMine_of_free {s : State} {i : Nat} (d : Nat) (h : s.semHeld i = false) : s.semMine d i = false := by
  unfold State.semMine State.semOwned
  rw [h]
  rfl

/-- A semaphore that is the Desk's own is held by it and is not to pass. -/
theorem State.semMine_iff {s : State} {d i : Nat} : s.semMine d i = true ↔ s.semOwned d i = true ∧ ¬ s.semPassing i := by
  unfold State.semMine
  rw [Bool.and_eq_true, Bool.not_eq_true', ← Bool.not_eq_true, State.semPassing_iff_any]

theorem State.doAcq_free {s : State} {d i : Nat} (hi : i < 16) (h : s.semHeld i = false) : s.doAcq d i = .ok (s.semTake d i) := by
  simp [State.doAcq, semArg_of_lt hi, State.semMine_of_free d h, h]

theorem State.doAcq_waits {s : State} {d i : Nat} (hi : i < 16) (h : s.semHeld i = true) (hm : s.semMine d i = false) :
    s.doAcq d i = .ok ((s.setDesk d { s.desk d with wait := .sem i }).setDeskState d 2) := by
  simp [State.doAcq, semArg_of_lt hi, h, hm]

theorem State.doAcq_own {s : State} {d i : Nat} (hi : i < 16) (h : s.semMine d i = true) : s.doAcq d i = .fault 7 false := by
  simp [State.doAcq, semArg_of_lt hi, h]

theorem State.doRel_own {s : State} {d i : Nat} (hi : i < 16) (h : s.semMine d i = true) :
    s.doRel d i = .ok (s.semRelease i) := by
  simp [State.doRel, semArg_of_lt hi, h]

theorem State.doRel_other {s : State} {d i : Nat} (hi : i < 16) (h : s.semMine d i = false) : s.doRel d i = .fault 7 false := by
  simp [State.doRel, semArg_of_lt hi, h]

theorem State.doTry_free {s : State} {d i : Nat} (rd : Nat) (hi : i < 16) (h : s.semHeld i = false) :
    s.doTry d rd i = .ok ((s.semTake d i).setG d rd 1) := by
  simp [State.doTry, semArg_of_lt hi, State.semMine_of_free d h, h]

theorem State.doTry_held {s : State} {d i : Nat} (rd : Nat) (hi : i < 16) (h : s.semHeld i = true) (hm : s.semMine d i = false) :
    s.doTry d rd i = .ok (s.setG d rd 0) := by
  simp [State.doTry, semArg_of_lt hi, h, hm]

theorem State.doTry_own {s : State} {d i : Nat} (rd : Nat) (hi : i < 16) (h : s.semMine d i = true) :
    s.doTry d rd i = .fault 7 false := by
  simp [State.doTry, semArg_of_lt hi, h]

/-! ### Semaphores beside an issue -/

section
variable (b b' : State) (d : Nat)

theorem State.fget_issuedFrom {f : Fld} (u : Nat) (hp : f.reg ≠ .DSP_DESK_PC) (hi : f.reg ≠ .DSP_DESK_ISSUED) :
    (b.issuedFrom b' d).fget f u = b'.fget f u :=
  (State.issuedFrom_moves b b' d).fget_of_kinds u [F.DSP_DESK_PC_PC, F.DSP_DESK_ISSUED_COUNT] rfl
    (by simpa using ⟨.inl hp, .inl hi⟩)

theorem State.semHeld_issuedFrom (i : Nat) : (b.issuedFrom b' d).semHeld i = b'.semHeld i :=
  State.semHeld_congr (State.fget_issuedFrom b b' d 0 (by decide) (by decide)) i

theorem State.semOwner_issuedFrom (i : Nat) : (b.issuedFrom b' d).semOwner i = b'.semOwner i :=
  State.semOwner_congr (State.fget_issuedFrom b b' d 0 (by decide) (by decide)) i

theorem State.semOwned_issuedFrom (e i : Nat) : (b.issuedFrom b' d).semOwned e i = b'.semOwned e i := by
  unfold State.semOwned
  rw [State.semHeld_issuedFrom, State.semOwner_issuedFrom]

end

/-! ### g[n] beside semaphores -/

theorem State.semHeld_setG (s : State) (d n v i : Nat) : (s.setG d n v).semHeld i = s.semHeld i :=
  State.semHeld_congr (s.fget_setG d n v 0 (by decide)) i

theorem State.semOwner_setG (s : State) (d n v i : Nat) : (s.setG d n v).semOwner i = s.semOwner i :=
  State.semOwner_congr (s.fget_setG d n v 0 (by decide)) i

end Sys2Proof.Machine

namespace Sys2Proof.Claim

open Sys2Proof.Machine

/-! ### The other semaphores -/

theorem OtherSems.of_semTake (b : State) (d : Nat) {i : Nat} (hi : i < 16) : OtherSems b (b.semTake d i) i := fun j _ hj =>
  ⟨by rw [State.semHeld_semTake b d hi]; simp [Ne.symm hj], fun _ => by rw [State.semOwner_semTake b d hi, if_neg hj]⟩

theorem OtherSems.of_released {b t : State} {i : Nat} (h : Released [i] b t) : OtherSems b t i := fun j _ hj =>
  ⟨h.held_ne hj, h.owner j⟩

theorem OtherSems.congr {b t u : State} {i : Nat} (h : OtherSems b t i) (hh : ∀ j, u.semHeld j = t.semHeld j)
    (ho : ∀ j, u.semOwner j = t.semOwner j) : OtherSems b u i := fun j hj hne => by
  rw [hh, ho]
  exact h j hj hne

theorem OtherSems.issuedFrom {b b' : State} {i : Nat} (d : Nat) (h : OtherSems b b' i) : OtherSems b (b.issuedFrom b' d) i :=
  h.congr (State.semHeld_issuedFrom b b' d) (State.semOwner_issuedFrom b b' d)

/-- g[n] after it was written and the instruction issued. -/
theorem gHolds_issuedFrom (b s : State) (d n v : Nat) :
    GHolds (b.issuedFrom (s.setG d n v) d) d n (BitVec.ofNat 32 v) := by
  have hg : (b.issuedFrom (s.setG d n v) d).g d n = (s.setG d n v).g d n := by
    unfold State.g
    rw [(State.issuedFrom_moves b _ d).reg_of_kinds _ [F.DSP_DESK_PC_PC, F.DSP_DESK_ISSUED_COUNT] rfl (by decide)]
  unfold GHolds gw
  rw [hg, State.g_setG_same]
  split
  · rfl
  · exact BitVec.eq_of_toNat_eq (by simp)

/-! ### ACQ, REL and TRY -/

section
variable {s b : State} {d i : Nat} (h : Issues s d b) (hi : i < 16)
include h hi

/-- ACQ of a free semaphore. -/
theorem acq_takes (hf : b.semHeld i = false) : Runs (.acq d i) s fun t =>
    t.semOwned d i = true ∧ OtherSems b t i ∧ t.deskState d = 1 ∧
      Issued b t d (nextPc (b.pc d)) 2 [(.DSP_SEM_HELD, 0), (.DSP_SEM_OWNER, 0)] ∧ Alone b t := by
  have hframe := SemFrame.semTake b d i
  have hmoves := DspMoves.of_sems hframe
  refine h.runs_ok rfl (State.doAcq_free hi hf) hmoves ?_
  refine ⟨(State.semOwned_issuedFrom ..).trans (State.semOwned_semTake b h.lt hi), (OtherSems.of_semTake b d hi).issuedFrom d, ?_,
    issued_of_moves hmoves (List.Subset.refl _) (by decide) (fun e _ => hframe.desk e), alone_of_moves hmoves rfl⟩
  exact (State.fget_issuedFrom _ _ d d (by decide) (by decide)).trans ((hframe.deskState d).trans h.running)

/-- ACQ of a semaphore that another holds. -/
theorem acq_waits (hf : b.semHeld i = true) (hm : b.semMine d i = false) : Runs (.acq d i) s fun t =>
    t.deskState d = 2 ∧ (t.desk d).wait = .sem i ∧ Issued b t d (nextPc (b.pc d)) 2 [(.DSP_DESK_STATUS, d)] ∧ Alone b t := by
  have hmoves : DspMoves [(F.DSP_DESK_STATUS_STATE, d)] b ((b.setDesk d { b.desk d with wait := .sem i }).setDeskState d 2) :=
    (DspMoves.setDesk _ b d _).trans (DspMoves.fset _ 2 (List.mem_singleton_self _))
  refine h.runs_ok rfl (State.doAcq_waits hi hf hm) hmoves ⟨?_, ?_, ?_, alone_of_moves hmoves rfl⟩
  · exact (State.fget_issuedFrom _ _ d d (by decide) (by decide)).trans (State.deskState_setDeskState _ d (by decide))
  · rw [State.desk_issuedFrom]
    exact congrArg Desk.wait (State.desk_setDesk_same b d _)
  · exact issued_of_moves hmoves (List.Subset.refl _) (by simp; decide) fun e he => State.desk_setDesk_ne b _ he

/-- REL of the Desk's own semaphore that nobody awaits. -/
theorem rel_frees (hm : b.semMine d i = true) (hw : b.semWaiters i = []) : Runs (.rel d i) s fun t =>
    t.semHeld i = false ∧ OtherSems b t i ∧
      Issued b t d (nextPc (b.pc d)) 2 [(.DSP_SEM_HELD, 0), (.DSP_SEM_OWNER, 0)] ∧ Alone b t := by
  obtain ⟨hown, hp⟩ := State.semMine_iff.1 hm
  have hheld : b.semHeld i = true := (Bool.and_eq_true_iff.1 hown).1
  have hrel := Released.one b hi
  have hmoves := DspMoves.of_sems hrel.frame
  have hdsp : (b.semRelease i).dsp = { b.dsp with desks := (b.semRelease i).dsp.desks } := by
    rw [State.semRelease_frees hheld hp hw]
    unfold State.semFree
    split <;> rfl
  refine h.runs_ok rfl (State.doRel_own hi hm) hmoves ⟨?_, (OtherSems.of_released hrel).issuedFrom d,
    issued_of_moves hmoves (List.Subset.refl _) (by decide) (fun e _ => hrel.frame.desk e), alone_of_moves hmoves hdsp⟩
  rw [State.semHeld_issuedFrom, ← Bool.not_eq_true, hrel.held]
  exact fun hh => hh.2 ⟨List.mem_singleton_self i, hp, hw⟩

/-- REL of the Desk's own semaphore that another Desk awaits. -/
theorem rel_passes (hm : b.semMine d i = true) (hw : b.semWaiters i ≠ []) : Runs (.rel d i) s fun t =>
    t.dsp.passes = b.dsp.passes ++ [(i, b.stn.elapsed)] ∧ t.semOwned d i = true ∧ Issued b t d (nextPc (b.pc d)) 2 [] ∧
      BytesKeep b t (fun _ => False) ∧ UnitsKeep b t ∧ t.dsp = { b.dsp with desks := t.dsp.desks, passes := t.dsp.passes } := by
  obtain ⟨hown, hp⟩ := State.semMine_iff.1 hm
  have hrel := State.semRelease_passes (Bool.and_eq_true_iff.1 hown).1 hp hw
  have hmoves : DspMoves [] b (b.semRelease i) := by rw [hrel]; exact DspMoves.setDsp _ b _
  have hissue := hmoves.mono (List.nil_subset (issueFields d)) |>.trans (State.issuedFrom_moves b _ d)
  refine h.runs_ok rfl (State.doRel_own hi hm) hmoves ⟨?_, ?_, ?_, bytesKeep_of_moves hissue _, unitsKeep_of_moves hissue, ?_⟩
  · rw [hrel]; rfl
  · rw [State.semOwned_issuedFrom, hrel]; exact hown
  · exact issued_of_moves hmoves (List.nil_subset _) (fun _ hx => absurd hx List.not_mem_nil) fun e _ => by rw [hrel]; rfl
  · rw [hrel]; rfl

/-- TRY of a free semaphore. -/
theorem try_takes (rd : Nat) (hf : b.semHeld i = false) : Runs (.try d rd i) s fun t =>
    t.semOwned d i = true ∧ OtherSems b t i ∧ GHolds t d rd 1 ∧
      Issued b t d (nextPc (b.pc d)) 2 ((.DSP_SEM_HELD, 0) :: (.DSP_SEM_OWNER, 0) :: gRegs d rd) ∧ Alone b t := by
  have htake := DspMoves.of_sems (SemFrame.semTake b d i)
  have hmoves : DspMoves (semFields ++ gFields d rd) b ((b.semTake d i).setG d rd 1) :=
    (htake.mono (List.subset_append_left ..)).trans ((State.setG_moves _ d rd 1).mono (List.subset_append_right ..))
  have hdsp : ((b.semTake d i).setG d rd 1).dsp = b.dsp := State.dsp_setG _ d rd 1
  refine h.runs_ok rfl (State.doTry_free rd hi hf) hmoves ⟨?_, ?_, gHolds_issuedFrom b _ d rd 1,
    issued_of_moves hmoves ?_ ?_ fun e _ => State.desk_congr (by rw [hdsp]) e, alone_of_moves hmoves (by rw [hdsp])⟩
  · rw [State.semOwned_issuedFrom]
    unfold State.semOwned
    rw [State.semHeld_setG, State.semOwner_setG]
    exact State.semOwned_semTake b h.lt hi
  · exact ((OtherSems.of_semTake b d hi).congr (State.semHeld_setG _ d rd 1) (State.semOwner_setG _ d rd 1)).issuedFrom d
  · rw [List.map_append, map_gFields]
    exact List.Subset.refl _
  · exact List.forall_mem_append.2 ⟨by decide, fun x hx => by rw [reg_of_mem_gFields hx]; decide⟩

/-- TRY of a semaphore that another holds. -/
theorem try_fails (rd : Nat) (hf : b.semHeld i = true) (hm : b.semMine d i = false) : Runs (.try d rd i) s fun t =>
    GHolds t d rd 0 ∧ Issued b t d (nextPc (b.pc d)) 2 (gRegs d rd) ∧ Alone b t := by
  have hmoves := State.setG_moves b d rd 0
  have hdsp := State.dsp_setG b d rd 0
  refine h.runs_ok rfl (State.doTry_held rd hi hf hm) hmoves ⟨gHolds_issuedFrom b b d rd 0,
    issued_of_moves hmoves ?_ ?_ fun e _ => State.desk_congr (by rw [hdsp]) e, alone_of_moves hmoves (by rw [hdsp])⟩
  · rw [map_gFields]
    exact List.Subset.refl _
  · exact fun x hx => by rw [reg_of_mem_gFields hx]; decide

end

theorem semaphores (s b : State) (d i rd : Nat) : Semaphores s b d i rd := fun h hi =>
  ⟨acq_takes h hi, acq_waits h hi, rel_frees h hi, rel_passes h hi, try_takes h hi rd, try_fails h hi rd⟩

/-! ### Misuse -/

section
variable {s b : State} {d : Nat} (h : Issues s d b) (hw : (b.desk d).wait = .none)
include h hw

/-- A row of an instruction that faults. -/
theorem Issues.faultsWith {c : Instr} {f : State → Issue} {cause : Nat} (hc : exec c s = s.act fun s => s.issueRow d f)
    (hf : f b = .fault cause false) (hcause : cause < 16) : FaultsWith s b d cause c :=
  h.runs_fault hc hf (deskFault_lives h.running hw) (deskFault_faulted h.running hw h.lt hcause)

end

theorem semFaults (s b : State) (d i rd : Nat) : SemFaults s b d i rd := fun h hw hi => by
  refine ⟨fun hge => ⟨?_, ?_, ?_⟩, fun hlt hm => ⟨?_, ?_⟩, fun hlt hm => ?_⟩
  · exact h.faultsWith (f := fun s => s.doAcq d i) hw rfl (semArg_of_ge hge hi _) (by decide)
  · exact h.faultsWith (f := fun s => s.doRel d i) hw rfl (semArg_of_ge hge hi _) (by decide)
  · exact h.faultsWith (f := fun s => s.doTry d rd i) hw rfl (semArg_of_ge hge hi _) (by decide)
  · exact h.faultsWith (f := fun s => s.doAcq d i) hw rfl (State.doAcq_own hlt hm) (by decide)
  · exact h.faultsWith (f := fun s => s.doTry d rd i) hw rfl (State.doTry_own rd hlt hm) (by decide)
  · exact h.faultsWith (f := fun s => s.doRel d i) hw rfl (State.doRel_other hlt hm) (by decide)

/-! ### SEMAPHORE_PASS (R319) -/

/-- The lowest-numbered Desk that waits is one of the four. -/
theorem waiter_lt {s : State} {i e : Nat} {l : List Nat} (h : s.semWaiters i = e :: l) : e < 4 := by
  have he : e ∈ s.semWaiters i := h ▸ List.mem_cons_self ..
  exact List.mem_range.1 (List.mem_filter.1 he).1

/-- A released semaphore is taken off the list of those that are to pass. -/
def unlisted (s : State) (i : Nat) : State := s.setDsp { s.dsp with passes := s.dsp.passes.filter fun p => p.1 != i }

theorem unlisted_frame (s : State) (i : Nat) : SemFrame s (unlisted s i) := SemFrame.setPasses s _

/-- The semaphore has passed to a Desk, which runs on. -/
def semGiven (s : State) (i e : Nat) : State :=
  (((unlisted s i).semTake e i).setDesk e { (unlisted s i).desk e with wait := .none }).setDeskState e 1

theorem semPass_gives {s : State} {i at_ e : Nat} {l : List Nat} (hmem : (i, at_) ∈ s.dsp.passes) (hat : at_ < s.stn.elapsed)
    (hw : s.semWaiters i = e :: l) : s.semPass i = semGiven s i e := by
  have hany : s.dsp.passes.any (fun p => p.1 == i && p.2 < s.stn.elapsed) = true :=
    List.any_eq_true.2 ⟨_, hmem, by simpa using hat⟩
  have hwaiters : (unlisted s i).semWaiters i = e :: l := ((unlisted_frame s i).semWaiters i).trans hw
  unfold State.semPass
  rw [if_pos hany]
  dsimp only
  split
  next d _ he =>
    obtain rfl : d = e := (List.cons.inj (he.symm.trans hwaiters)).1
    rfl
  next he => exact absurd (he.symm.trans hwaiters) (List.cons_ne_nil _ _).symm

theorem semGiven_moves (s : State) (i e : Nat) : DspMoves (semFields ++ [(F.DSP_DESK_STATUS_STATE, e)]) s (semGiven s i e) :=
  ((DspMoves.of_sems ((unlisted_frame s i).trans (SemFrame.semTake _ e i))).mono (List.subset_append_left ..)).trans
    ((DspMoves.setDesk _ _ e _).trans (DspMoves.fset (f := F.DSP_DESK_STATUS_STATE) _ 1 (by simp)))

theorem desk_semGiven (s : State) (i e : Nat) : (semGiven s i e).desk e = { (unlisted s i).desk e with wait := .none } := by
  have h := State.desk_setDesk_same ((unlisted s i).semTake e i) e { (unlisted s i).desk e with wait := .none }
  refine Eq.trans (State.desk_congr ?_ e) h
  rfl

theorem semHeld_semGiven (s : State) {i : Nat} (e : Nat) (hi : i < 16) (j : Nat) :
    (semGiven s i e).semHeld j = (s.semHeld j || decide (i = j)) :=
  (State.semHeld_congr (State.fget_fset_apart _ _ (.inl (by decide))) j).trans (State.semHeld_semTake (unlisted s i) e hi j)

theorem semOwner_semGiven (s : State) {i : Nat} (e : Nat) (hi : i < 16) (j : Nat) :
    (semGiven s i e).semOwner j = if j = i then e % 4 else s.semOwner j :=
  (State.semOwner_congr (State.fget_fset_apart _ _ (.inl (by decide))) j).trans (State.semOwner_semTake (unlisted s i) e hi j)

theorem semaphorePass (s : State) (i at_ e : Nat) (l : List Nat) : Claim.SemaphorePass s i at_ e l := by
  intro hp hopen hi hmem hat hw
  have heq : s.iff (s.cycleOpen && i < 16) (fun s => s.semPass i) = semGiven s i e := by
    rw [hopen, decide_eq_true hi, Bool.and_self, State.iff_true, semPass_gives hmem hat hw]
  have hmoves := semGiven_moves s i e
  refine Runs.of_act (f := fun s => s.iff (s.cycleOpen && i < 16) fun s => s.semPass i) rfl hp ?_ ?_
  · rw [heq]
    exact Lives.of_moves hmoves
  · rw [heq]
    refine ⟨?_, fun j _ hj => ⟨?_, fun _ => ?_⟩, State.deskState_setDeskState _ e (by decide), ?_,
      regsKeep_of_moves hmoves (List.Subset.refl _), bytesKeep_of_moves hmoves _, unitsKeep_of_moves hmoves⟩
    · unfold State.semOwned
      rw [semHeld_semGiven s e hi, semOwner_semGiven s e hi, if_pos rfl, Nat.mod_eq_of_lt (waiter_lt hw)]
      simp
    · rw [semHeld_semGiven s e hi]
      simp [Ne.symm hj]
    · rw [semOwner_semGiven s e hi, if_neg hj]
    · rw [desk_semGiven]

/-- Settles O15: each instruction's effect on its semaphore, beside what every issue moves; a fault is that of R331. -/
theorem cloporSemaphores : Obligations.CloporSemaphores := by
  unfold Obligations.CloporSemaphores
  intro s b d i rd at_ e l
  exact ⟨semaphores s b d i rd, semFaults s b d i rd, semaphorePass s i at_ e l⟩

end Sys2Proof.Claim
end

section
/-!
SUPPORT. The host's write of a Desk's control bits: where its register lies, what each bit starts, and the frame of a write
beside which the Dispatcher's record moves (R295–R298).
-/

namespace Sys2Proof.Machine

/-! ### Where a Desk's register lies -/

theorem regAddr_desk {r : Reg} (h : r.LiesAt .desk 0x40) (d : Nat) : regAddr r d = 0x4100 + 0x40 * d + r.info.base := by
  obtain ⟨hc, hn, -, -, -⟩ := h
  simp [regAddr, hc, hn, Nat.mod_one]

theorem wordAddr_desk {r : Reg} (h : r.LiesAt .desk 0x40) {d : Nat} (hd : d < 4) :
    wordAddr (regAddr r d) = 0x4100 + 0x40 * d + r.info.base := by
  rw [regAddr_desk h]
  obtain ⟨-, -, hb, h4, -⟩ := h
  exact wordAddr_of_lt (by omega) (by omega)

theorem Build.place_desk (b : Build) {r : Reg} (h : r.LiesAt .desk 0x40) {d : Nat} (hd : d < 4) :
    b.place (wordAddr (regAddr r d)) = .reg r d := by
  rw [wordAddr_desk h hd, ← regPlace_lies h d]
  obtain ⟨-, -, hb, -, -⟩ := h
  have hq : (0x4100 + 0x40 * d + r.info.base - 0x4100) / 0x40 = d := by omega
  have hm : (0x4100 + 0x40 * d + r.info.base) % 0x40 = r.info.base := by omega
  unfold Build.place
  iterate 6 rw [if_neg (by omega)]
  rw [if_pos (by omega), hq, hm]

theorem mapped_desk {r : Reg} (h : r.LiesAt .desk 0x40) {d : Nat} (hd : d < 4) : mapped (regAddr r d) = true := by
  have ha := wordAddr_desk h hd
  obtain ⟨-, -, hb, -, -⟩ := h
  simp only [mapped, ha, Bool.not_eq_true', Bool.or_eq_false_iff, Bool.and_eq_false_iff, decide_eq_false_iff_not]
  omega

theorem deskCtrl_lies : Reg.LiesAt .DSP_DESK_CTRL .desk 0x40 := by unfold Reg.LiesAt; decide
theorem deskCtrl_plain : Reg.Plain .DSP_DESK_CTRL := ⟨fun _ _ _ _ => rfl, fun _ => rfl, by decide⟩

/-! ### What a Desk's control bits start -/

section
variable {s : State} {d : Nat}

/-- Before READY a START or STEP is held (R298). -/
theorem State.deskCtrlTake_early (h : s.on F.DSP_STATUS_READY 0 = false) : s.deskCtrlTake d = s.fset F.DSP_DESK_CTRL_STOP d 0 := by
  unfold State.deskCtrlTake
  rw [h]
  rfl

theorem State.deskCtrlTake_ready (h : s.on F.DSP_STATUS_READY 0 = true) : s.deskCtrlTake d =
    let s := if s.on F.DSP_DESK_CTRL_START d then s.deskStart d else s
    let s := if s.on F.DSP_DESK_CTRL_STEP d then s.deskStep d else s
    if s.on F.DSP_DESK_CTRL_STOP d then s.deskStop d else s := by
  unfold State.deskCtrlTake
  rw [h]
  rfl

/-- The fields that a START moves. -/
def startFields (d : Nat) : List (Fld × Nat) :=
  [(F.DSP_DESK_CTRL_START, d), (F.DSP_DESK_STATUS_STATE, d), (F.DSP_DESK_STATUS_CAUSE, d)]

theorem State.deskStart_moves (s : State) (d : Nat) : DspMoves (startFields d) s (s.deskStart d) := by
  have h := DspMoves.fset (l := startFields d) s (f := F.DSP_DESK_CTRL_START) (u := d) 0 (by simp [startFields])
  unfold State.deskStart
  dsimp only
  split
  · exact (h.trans (DspMoves.fset (f := F.DSP_DESK_STATUS_CAUSE) _ 0 (by simp [startFields]))).trans
      (DspMoves.fset (f := F.DSP_DESK_STATUS_STATE) _ 1 (by simp [startFields]))
  · exact h

theorem State.deskCtrlTake_start (h : s.on F.DSP_STATUS_READY 0 = true) (hstart : s.on F.DSP_DESK_CTRL_START d = true)
    (hstep : s.on F.DSP_DESK_CTRL_STEP d = false) (hstop : s.on F.DSP_DESK_CTRL_STOP d = false) :
    s.deskCtrlTake d = s.deskStart d := by
  have hkeep (f : Fld) (hf : ∀ g ∈ [F.DSP_DESK_CTRL_START, F.DSP_DESK_STATUS_STATE, F.DSP_DESK_STATUS_CAUSE],
      f.reg ≠ g.reg ∨ f.lo + f.w ≤ g.lo ∨ g.lo + g.w ≤ f.lo) : (s.deskStart d).on f d = s.on f d :=
    State.on_congr ((s.deskStart_moves d).fget_of_kinds d _ rfl hf)
  rw [State.deskCtrlTake_ready h, if_pos hstart]
  dsimp only
  rw [hkeep F.DSP_DESK_CTRL_STEP (by decide), hstep, if_neg Bool.false_ne_true, hkeep F.DSP_DESK_CTRL_STOP (by decide), hstop,
    if_neg Bool.false_ne_true]

/-- The fields that a STEP moves. -/
def stepFields (d : Nat) : List (Fld × Nat) := [(F.DSP_DESK_CTRL_STEP, d), (F.DSP_DESK_STATUS_STATE, d)]

theorem State.deskStep_moves (s : State) (d : Nat) : DspMoves (stepFields d) s (s.deskStep d) := by
  unfold State.deskStep
  split
  · exact (DspMoves.setDesk _ s d _).trans (DspMoves.fset (f := F.DSP_DESK_STATUS_STATE) _ 1 (by simp [stepFields]))
  · split
    · exact DspMoves.refl _ s
    · exact DspMoves.fset s 0 (by simp [stepFields])

theorem State.deskCtrlTake_step (h : s.on F.DSP_STATUS_READY 0 = true) (hstart : s.on F.DSP_DESK_CTRL_START d = false)
    (hstep : s.on F.DSP_DESK_CTRL_STEP d = true) (hstop : s.on F.DSP_DESK_CTRL_STOP d = false) :
    s.deskCtrlTake d = s.deskStep d := by
  have hkeep : (s.deskStep d).on F.DSP_DESK_CTRL_STOP d = s.on F.DSP_DESK_CTRL_STOP d :=
    State.on_congr ((s.deskStep_moves d).fget_of_kinds d [F.DSP_DESK_CTRL_STEP, F.DSP_DESK_STATUS_STATE] rfl (by decide))
  rw [State.deskCtrlTake_ready h, hstart, if_neg Bool.false_ne_true]
  dsimp only
  rw [if_pos hstep, hkeep, hstop, if_neg Bool.false_ne_true]

theorem State.deskCtrlTake_stop (h : s.on F.DSP_STATUS_READY 0 = true) (hstart : s.on F.DSP_DESK_CTRL_START d = false)
    (hstep : s.on F.DSP_DESK_CTRL_STEP d = false) (hstop : s.on F.DSP_DESK_CTRL_STOP d = true) :
    s.deskCtrlTake d = s.deskStop d := by
  rw [State.deskCtrlTake_ready h, hstart, if_neg Bool.false_ne_true]
  dsimp only
  rw [hstep, if_neg Bool.false_ne_true, if_pos hstop]

end

/-! ### START, STEP and STOP -/

section
variable {s : State} {d : Nat}

theorem State.deskStart_runs (h : s.deskState d = 0 ∨ s.deskState d = 4) : s.deskStart d =
    ((s.fset F.DSP_DESK_CTRL_START d 0).fset F.DSP_DESK_STATUS_CAUSE d 0).setDeskState d 1 := by
  have hst : (s.fset F.DSP_DESK_CTRL_START d 0).deskState d = s.deskState d := State.fget_fset_apart s 0 (.inl (by decide))
  unfold State.deskStart
  dsimp only
  rw [hst, if_pos h]

theorem State.deskStart_idle (h : ¬ (s.deskState d = 0 ∨ s.deskState d = 4)) :
    s.deskStart d = s.fset F.DSP_DESK_CTRL_START d 0 := by
  have hst : (s.fset F.DSP_DESK_CTRL_START d 0).deskState d = s.deskState d := State.fget_fset_apart s 0 (.inl (by decide))
  unfold State.deskStart
  dsimp only
  rw [hst, if_neg h]

theorem State.deskStep_runs (h : s.deskState d = 0) : s.deskStep d =
    (s.setDesk d { s.desk d with stepping := true, stepDone := false }).setDeskState d 1 := if_pos h

theorem State.deskStep_idle (h : s.deskState d ≠ 0) (hs : (s.desk d).stepping = false) :
    s.deskStep d = s.fset F.DSP_DESK_CTRL_STEP d 0 := by
  unfold State.deskStep
  rw [if_neg h, hs, if_neg Bool.false_ne_true]

theorem State.deskStop_idle (h : s.deskShows d = 0 ∨ s.deskShows d = 4) : s.deskStop d = s.fset F.DSP_DESK_CTRL_STOP d 0 :=
  if_pos h

theorem State.deskStop_waiting (h : s.deskShows d = 2) : s.deskStop d = (s.abandon d).deskStopped d := by
  unfold State.deskStop
  dsimp only
  rw [h, if_neg (by decide), if_pos rfl]

theorem State.deskStop_stalled (h : s.deskShows d = 3) : s.deskStop d = s.deskStopped d := by
  unfold State.deskStop
  dsimp only
  rw [h, if_neg (by decide), if_neg (by decide), if_pos rfl]

section
variable (h0 : ¬ (s.deskShows d = 0 ∨ s.deskShows d = 4)) (h2 : s.deskShows d ≠ 2) (h3 : s.deskShows d ≠ 3)
include h0 h2 h3

theorem State.deskStop_ready (hr : (s.desk d).readyAt ≤ s.stn.elapsed) : s.deskStop d = (s.abandon d).deskStopped d := by
  unfold State.deskStop
  dsimp only
  rw [if_neg h0, if_neg h2, if_neg h3, if_pos hr]

/-- The stop waits for the end of the issue cost. -/
theorem State.deskStop_busy (hr : ¬ (s.desk d).readyAt ≤ s.stn.elapsed) : s.deskStop d = s := by
  unfold State.deskStop
  dsimp only
  rw [if_neg h0, if_neg h2, if_neg h3, if_neg hr]

end

end

/-! ### A Desk that has stopped -/

section
variable (s : State) (d : Nat)

theorem State.fget_deskStopped {f : Fld} (u : Nat) (hs : f.reg ≠ .DSP_STATUS) (ht : f.reg ≠ .DSP_TILE_OK) :
    (s.deskStopped d).fget f u = (((s.setDesk d (s.desk d).idle).setDeskState d 0).leaveShown d).fget f u :=
  State.fget_loadInCycle _ u hs ht

theorem State.deskState_deskStopped : (s.deskStopped d).deskState d = 0 :=
  (State.fget_deskStopped s d d (by decide) (by decide)).trans
    ((State.fget_leaveShown _ d d (by decide) (by decide)).trans (State.deskState_setDeskState _ d (by decide)))

theorem State.on_deskStopped : (s.deskStopped d).on F.DSP_DESK_CTRL_STOP d = false ∧
    (s.deskStopped d).on F.DSP_DESK_CTRL_STEP d = false ∧ (s.deskStopped d).on F.HIF_IRQ_SRC_DESK_STOP 0 = true := by
  obtain ⟨hstop, hstep, hirq⟩ := State.on_leaveShown ((s.setDesk d (s.desk d).idle).setDeskState d 0) d
  exact ⟨(State.on_congr (State.fget_deskStopped s d d (by decide) (by decide))).trans hstop,
    (State.on_congr (State.fget_deskStopped s d d (by decide) (by decide))).trans hstep,
    (State.on_congr (State.fget_deskStopped s d 0 (by decide) (by decide))).trans hirq⟩

theorem State.pc_deskStopped : (s.deskStopped d).pc d = s.pc d :=
  (State.fget_deskStopped s d d (by decide) (by decide)).trans
    ((State.fget_leaveShown _ d d (by decide) (by decide)).trans (State.fget_fset_apart _ 0 (.inl (by decide))))

theorem State.desks_deskStopped (e : Nat) : (s.deskStopped d).desk e = (s.setDesk d (s.desk d).idle).desk e := by
  rw [State.deskStopped_eq, State.desk_loadInCycle]
  refine State.desk_congr ?_ e
  rfl

theorem State.desk_deskStopped : (s.deskStopped d).desk d = (s.desk d).idle := by
  rw [State.desks_deskStopped, State.desk_setDesk_same]

theorem State.desk_deskStopped_ne {e : Nat} (h : e ≠ d) : (s.deskStopped d).desk e = s.desk e := by
  rw [State.desks_deskStopped, State.desk_setDesk_ne s _ h]

/-- With no resident load asked for, the Desk's record and its fields are all that moves. -/
theorem State.deskStopped_noLoad (h : s.on F.DSP_CTRL_LOAD_RES 0 = false) :
    DspMoves (leaveFields d) s (s.deskStopped d) ∧ (s.deskStopped d).dsp = { s.dsp with desks := (s.deskStopped d).dsp.desks } := by
  have hmoves : DspMoves (leaveFields d) s (((s.setDesk d (s.desk d).idle).setDeskState d 0).leaveShown d) :=
    ((DspMoves.setDesk _ s d _).trans (DspMoves.fset (f := F.DSP_DESK_STATUS_STATE) _ 0 (by simp [leaveFields]))).trans
      ((State.leaveShown_moves _ d).mono (by simp [leaveFields]))
  have hload : (((s.setDesk d (s.desk d).idle).setDeskState d 0).leaveShown d).on F.DSP_CTRL_LOAD_RES 0 = false :=
    (State.on_congr (hmoves.fget_of_kinds 0 leaveKinds rfl (by decide))).trans h
  rw [State.deskStopped_eq, State.loadInCycle_idle hload]
  exact ⟨hmoves, rfl⟩

end

theorem Stored.dsp {l : List (Fld × Nat)} {s j : State} (h : Stored l s j) : j.dsp = s.dsp := by rw [h.rest]

theorem Stored.desk {l : List (Fld × Nat)} {s j : State} (h : Stored l s j) (d : Nat) : j.desk d = s.desk d :=
  State.desk_congr (by rw [h.dsp]) d

end Sys2Proof.Machine

namespace Sys2Proof.Claim

open Sys2Proof.Machine

/-- The host's write and a move of the Dispatcher. -/
theorem HostOnly.of_stored_dsp {l l' : List (Fld × Nat)} {s j t : State} (hj : Stored l s j) (ht : DspMoves l' j t)
    (hl : l ⊆ l') : HostOnly { s with dsp := t.dsp } t l' := by
  have hfl : FldsKeep (Listed (l' ++ jnlFields)) s t :=
    (hj.flds.mono fun f u h => (List.mem_append.1 h).elim (fun h => List.mem_append_left _ (hl h)) (List.mem_append_right l')).trans
      (ht.flds.mono fun _ _ h => List.mem_append_left _ h)
  refine ⟨FldsKeep.bitsKeep hfl, fun a ha => (ht.rdByte a).trans (hj.bytes a ha), fun x hx => ?_, ?_⟩
  · have : t.source x = j.source x := by unfold State.source; rw [ht.log]
    exact this.trans (hj.srcs x hx)
  · have h := hj.rest
    have k := ht.rest
    rw [h] at k
    rw [k]

/-- The same where the Dispatcher's record stays. -/
theorem HostOnly.of_stored_flds {l l' : List (Fld × Nat)} {s j t : State} (hj : Stored l s j) (ht : DspMoves l' j t)
    (hl : l ⊆ l') (hd : t.dsp = j.dsp) : HostOnly s t l' := by
  have h := HostOnly.of_stored_dsp hj ht hl
  rw [hd, hj.dsp] at h
  exact h

end Sys2Proof.Claim
end

section
/-!
The host starts, stops and steps Desks and releases semaphores (R295–R298, R319, R321, R387): the host's write of a bit of
DSP_DESK_CTRL or of DSP_SEM_HELD, and what the bit starts.
-/

namespace Sys2Proof.Machine

/-! ### The Journal's entry and the marks of R9 -/

/-- Setting bits of one register marks bits of that register alone. -/
theorem State.freshBits_setBits (s : State) (f : Fld) (u bits : Nat) {r : Reg} (v : Nat) (h : r ≠ f.reg) :
    (s.setBits f u bits).freshBits r v = s.freshBits r v := by
  have hk : regKey r v ≠ regKey f.reg u := fun he => h (regKey_inj.1 he).1
  have hf : Store.getD 0 (s.setBits f u bits).fresh (regKey r v) = Store.getD 0 s.fresh (regKey r v) := by
    show Store.getD 0 (if s.stn.locked then _ else _) _ = _
    split
    · rw [Store.getD_setD, if_neg hk]
      rfl
    · rfl
  unfold State.freshBits
  rw [hf]
  rfl

theorem State.freshBits_wrWord (s : State) (a : Nat) (w : Word) (r : Reg) (u : Nat) :
    (s.wrWord a w).freshBits r u = s.freshBits r u :=
  rfl

theorem State.freshBits_setReg (s : State) (g : Reg) (v : Nat) (w : Word) (r : Reg) (u : Nat) :
    (s.setReg g v w).freshBits r u = s.freshBits r u := rfl

theorem State.freshBits_setJnl (s : State) (q : Jnl) (r : Reg) (u : Nat) :
    ({ s with jnl := q } : State).freshBits r u = s.freshBits r u :=
  rfl

theorem State.freshBits_jnlHigh {r : Reg} (hi : r ≠ .HIF_IRQ_SRC) (u : Nat) (s : State) (w : Nat) :
    (s.jnlHigh w).freshBits r u = s.freshBits r u := by
  unfold State.jnlHigh
  dsimp only
  split
  · exact State.freshBits_setBits _ F.HIF_IRQ_SRC_JNL_HIGH 0 1 u hi
  · rfl

theorem State.freshBits_jnlOverrun {r : Reg} (hj : r ≠ .JNL_STATUS) (u : Nat) (s : State) :
    s.jnlOverrun.freshBits r u = s.freshBits r u := by
  unfold State.jnlOverrun
  dsimp only
  split
  · rfl
  · exact State.freshBits_setBits _ F.JNL_STATUS_OVERRUN_SEEN 0 1 u hj

section
variable {r : Reg} (hj : r ≠ .JNL_STATUS) (hi : r ≠ .HIF_IRQ_SRC) (u : Nat)
include hj hi

theorem State.freshBits_jnlStore (s : State) (tick : Nat) (e : JEntry) : (s.jnlStore tick e).freshBits r u = s.freshBits r u := by
  have h0 : (if (s.reg .JNL_WIDX 0).toNat < 1024 && s.jnl.total < 1024 then s
      else if signed 32 ((s.reg .JNL_WIDX 0).toNat + 2 ^ 32 - 1024 + 2 ^ 32 - (s.reg .JNL_RIDX 0).toNat) ≥ 0 then s.jnlOverrun
      else s).freshBits r u = s.freshBits r u := by
    split
    · rfl
    · split
      · exact State.freshBits_jnlOverrun hj u s
      · rfl
  unfold State.jnlStore
  dsimp only
  rw [State.freshBits_setJnl, State.freshBits_jnlHigh hi, State.freshBits_setReg, State.freshBits_wrWord, State.freshBits_wrWord,
    State.freshBits_wrWord, State.freshBits_wrWord, h0]

theorem State.freshBits_jnlDrain (n : Nat) (s : State) : (State.jnlDrain n s).freshBits r u = s.freshBits r u := by
  induction n generalizing s with
  | zero => rfl
  | succ n ih =>
    unfold State.jnlDrain
    split
    · rfl
    · dsimp only
      split
      · rfl
      · split <;> exact (ih _).trans (State.freshBits_jnlStore hj hi u _ _ _)

/-- Recording a write marks bits of the Journal's flags and of the host's interrupt sources alone. -/
theorem State.freshBits_journal (s : State) (src kind : Nat) (defer : Bool) (addr old new : Nat) :
    (s.journal src kind defer addr old new).freshBits r u = s.freshBits r u :=
  State.freshBits_jnlDrain hj hi u 8 _

end

/-! ### DSP_SEM_HELD (R321) -/

theorem Build.place_semHeld (b : Build) : b.place (wordAddr (regAddr .DSP_SEM_HELD 0)) = .reg .DSP_SEM_HELD 0 := by
  have ha : wordAddr (regAddr .DSP_SEM_HELD 0) = 0x4050 := by decide
  rw [ha]
  unfold Build.place
  iterate 5 rw [if_neg (by decide)]
  rw [if_pos (by decide)]
  decide

/-- A host write of DSP_SEM_HELD stores nothing: it is journaled, and the semaphores of its bits are released. -/
theorem State.hostField_semHeld {s : State} (hm : Claim.HostMay s .DSP_SEM_HELD 0) (m : Nat) :
    ∃ j, Stored [] s j ∧ j.freshBits .DSP_SEM_HELD 0 = s.freshBits .DSP_SEM_HELD 0 ∧
      s.hostField F.DSP_SEM_HELD_HELD 0 m = j.semHeldWritten (putF 0 0 16 m &&& maskF 0 16) := by
  obtain ⟨-, hw, hr, hd⟩ := hm
  have hr' : s.answered.regReady .DSP_SEM_HELD 0 = true := hr
  have hww : s.answered.writeWord wApb (regAddr .DSP_SEM_HELD 0) (putF 0 0 16 m) (maskF 0 16) none =
      s.answered.regWrite (some wApb) (wordAddr (regAddr .DSP_SEM_HELD 0)) .DSP_SEM_HELD 0 (putF 0 0 16 m) (maskF 0 16) false
        (s.answered.faultPersists 0) := by
    have hi : s.answered.imgWaits .DSP_SEM_HELD = false := rfl
    unfold State.writeWord
    simp [s.answered.build.place_semHeld, hr', hi, wApb]
  obtain ⟨n, hn⟩ := State.regWrite_journaled s.answered wApb (wordAddr (regAddr .DSP_SEM_HELD 0)) .DSP_SEM_HELD 0 (putF 0 0 16 m)
    (maskF 0 16) false (s.answered.faultPersists 0)
  refine ⟨s.answered.journal wApb 0 false (wordAddr (regAddr .DSP_SEM_HELD 0)) (s.answered.readReg .DSP_SEM_HELD 0).toNat n,
    Stored.of_jnl (t := s.answered) (FldsKeep.ofRegs rfl rfl) rfl (State.journal_frame _ _ _ _ _ _ _)
      (State.journal_flds _ _ _ _ _ _ _),
    State.freshBits_journal (by decide) (by decide) 0 s.answered _ _ _ _ _ _, ?_⟩
  refine (State.hostWord_writes s _ _ _ none (by decide) hw hd).trans (hww.trans (hn.trans ?_))
  exact State.effectOf_effect _ 0 _ _ _ _ (by decide)

end Sys2Proof.Machine

namespace Sys2Proof.Claim

open Sys2Proof.Machine

/-! ### The host's write of a control bit -/

theorem deskStart_w1s : F.DSP_DESK_CTRL_START.W1s := ⟨rfl, by decide, by decide, by decide, by decide, by decide⟩
theorem deskStop_w1s : F.DSP_DESK_CTRL_STOP.W1s := ⟨rfl, by decide, by decide, by decide, by decide, by decide⟩
theorem deskStep_w1s : F.DSP_DESK_CTRL_STEP.W1s := ⟨rfl, by decide, by decide, by decide, by decide, by decide⟩

/-- The host writes 1 to a control bit of a Desk. -/
theorem deskBit {s : State} {f : Fld} {d : Nat} (hf : f.W1s) (hr : f.reg = .DSP_DESK_CTRL) (hm : HostMay s .DSP_DESK_CTRL d)
    (hd : d < 4) : ∃ j, Stored [(f, d)] s j ∧ j.on f d = true ∧ s.hostBit f d = j.deskCtrlTake d := by
  have hm' : HostMay s f.reg d := by rw [hr]; exact hm
  obtain ⟨j, p, hs, hval, hw⟩ := State.hostBit_w1s s (by rw [hr]; exact deskCtrl_plain) hf hm'
    (by rw [hr]; exact s.build.place_desk deskCtrl_lies hd) (by rw [hr]; exact mapped_desk deskCtrl_lies hd)
    (by rw [hr]; exact safeKept_of_ne s (by decide))
  refine ⟨j, hs, by unfold State.on; rw [hval]; rfl, hw.trans ?_⟩
  rw [hr]
  rfl

/-- A command whose effect comes to a state that keeps the build, the pin and the queue. -/
theorem Runs.of_act_eq {s t : State} {c : Instr} {P : State → Prop} {f : State → State} (hc : exec c s = s.act f)
    (hp : s.por = false) (ht : f s = t) (hl : Lives s t) (hP : P t) : Runs c s P :=
  Runs.of_act hc hp (ht.symm ▸ hl) (ht.symm ▸ hP)

/-- A command that writes a control bit of a Desk that the die has. -/
theorem deskRuns {s t : State} {d : Nat} {c : Instr} {P : State → Prop} {f : State → State} (hp : s.por = false) (hd : d < 4)
    (hc : exec c s = s.act fun s => s.iff (d < 4) f) (ht : f s = t) (hl : Lives s t) (hP : P t) : Runs c s P := by
  refine Runs.of_act_eq (f := f) (hc.trans ?_) hp ht hl hP
  rw [decide_eq_true hd]
  rfl

section
variable {s j : State} {f : Fld} {d : Nat} (hs : Stored [(f, d)] s j)
include hs

/-- What shares no bit with the control bit written keeps its value. -/
theorem ctrlKept {g : Fld} (u : Nat) (hg : g.reg ≠ f.reg ∨ g.lo + g.w ≤ f.lo ∨ f.lo + f.w ≤ g.lo)
    (hj : ∀ x ∈ jnlFields, g.reg ≠ x.1.reg) : j.fget g u = s.fget g u :=
  hs.fget (fun x hx => by rw [List.mem_singleton.1 hx]; exact hg.imp id .inr) hj

theorem regKept {r : Reg} (u : Nat) (hr : r ≠ f.reg) (hj : ∀ x ∈ jnlFields, r ≠ x.1.reg) : j.reg r u = s.reg r u :=
  hs.flds.reg fun _ _ hg => .inl ((List.mem_append.1 hg).elim (fun hg => by cases List.mem_singleton.1 hg; exact hr) (hj _))

/-- Before READY the bit that the host has written stays, and nothing else moves (R298). -/
theorem heldBit (hstop : j.on F.DSP_DESK_CTRL_STOP d = false) : HostOnly s (j.fset F.DSP_DESK_CTRL_STOP d 0) [(f, d)] := by
  have hzero : j.fget F.DSP_DESK_CTRL_STOP d = 0 := by
    rw [State.fget_of_on j F.DSP_DESK_CTRL_STOP d rfl, hstop]
    rfl
  exact HostOnly.of_stored_flds hs ⟨FldsKeep.fset_self hzero, rfl⟩ (List.Subset.refl _) rfl

/-- The bit that the host has written clears, and nothing else moves. -/
theorem clearedBit : HostOnly s (j.fset f d 0) [(f, d)] :=
  HostOnly.of_stored_flds hs (DspMoves.fset j 0 (List.mem_singleton_self _)) (List.Subset.refl _) rfl

end

/-! ### DESK_START (R295) -/

theorem deskStart (s : State) (d : Nat) : Claim.DeskStart s d := by
  intro hm hd hstep hstop
  obtain ⟨j, hs, hon, hw⟩ := deskBit deskStart_w1s rfl hm hd
  have hstep' : j.on F.DSP_DESK_CTRL_STEP d = false := (State.on_congr (ctrlKept hs d (by decide) (by decide))).trans hstep
  have hstop' : j.on F.DSP_DESK_CTRL_STOP d = false := (State.on_congr (ctrlKept hs d (by decide) (by decide))).trans hstop
  have hready : j.on F.DSP_STATUS_READY 0 = s.on F.DSP_STATUS_READY 0 := State.on_congr (ctrlKept hs 0 (by decide) (by decide))
  have hstate : j.deskState d = s.deskState d := ctrlKept hs d (by decide) (by decide)
  by_cases hr : s.on F.DSP_STATUS_READY 0 = false
  · have honly := heldBit hs hstop'
    refine deskRuns hm.1 hd rfl (hw.trans (State.deskCtrlTake_early (hready.trans hr))) honly.lives ?_
    rw [if_pos hr]
    exact ⟨(State.on_congr (State.fget_fset_apart j 0 (.inr (.inr (by decide))))).trans hon, honly⟩
  · have htake := hw.trans (State.deskCtrlTake_start (hready.trans (Bool.eq_true_of_not_eq_false hr)) hon hstep' hstop')
    by_cases hrun : s.deskState d = 0 ∨ s.deskState d = 4
    · have hmoves := j.deskStart_moves d
      rw [State.deskStart_runs (hstate.symm ▸ hrun)] at htake hmoves
      have honly := HostOnly.of_stored_flds hs hmoves (by simp [startFields]) rfl
      refine deskRuns hm.1 hd rfl htake honly.lives ?_
      rw [if_neg hr, if_pos hrun]
      refine ⟨?_, State.deskState_setDeskState _ d (by decide), ?_, honly⟩
      · exact (State.on_congr ((State.fget_fset_apart _ 1 (.inl (by decide))).trans
          (State.fget_fset_apart _ 0 (.inl (by decide))))).trans (State.on_fsetB j F.DSP_DESK_CTRL_START d false rfl (by decide))
      · exact (State.fget_fset_apart _ 1 (.inr (.inr (by decide)))).trans
          (State.fget_fset_fits _ F.DSP_DESK_STATUS_CAUSE d (by decide) (by decide))
    · rw [State.deskStart_idle (hstate.symm ▸ hrun)] at htake
      have honly := clearedBit hs
      refine deskRuns hm.1 hd rfl htake honly.lives ?_
      rw [if_neg hr, if_neg hrun]
      exact ⟨State.on_fsetB j F.DSP_DESK_CTRL_START d false rfl (by decide), honly⟩

/-! ### DESK_STEP (R297) -/

theorem deskStep (s : State) (d : Nat) : Claim.DeskStep s d := by
  intro hm hd hstart hstop hidle
  obtain ⟨j, hs, hon, hw⟩ := deskBit deskStep_w1s rfl hm hd
  have hstart' : j.on F.DSP_DESK_CTRL_START d = false := (State.on_congr (ctrlKept hs d (by decide) (by decide))).trans hstart
  have hstop' : j.on F.DSP_DESK_CTRL_STOP d = false := (State.on_congr (ctrlKept hs d (by decide) (by decide))).trans hstop
  have hready : j.on F.DSP_STATUS_READY 0 = s.on F.DSP_STATUS_READY 0 := State.on_congr (ctrlKept hs 0 (by decide) (by decide))
  have hstate : j.deskState d = s.deskState d := ctrlKept hs d (by decide) (by decide)
  cases hr : s.on F.DSP_STATUS_READY 0 with
  | false =>
    have honly := heldBit hs hstop'
    refine deskRuns hm.1 hd rfl (hw.trans (State.deskCtrlTake_early (hready.trans hr))) honly.lives ⟨fun _ => ?_, ?_, ?_⟩
    · exact ⟨(State.on_congr (State.fget_fset_apart j 0 (.inr (.inr (by decide))))).trans hon, honly⟩
    · exact fun h => absurd h Bool.false_ne_true
    · exact fun h => absurd h Bool.false_ne_true
  | true =>
    have htake := hw.trans (State.deskCtrlTake_step (hready.trans hr) hstart' hon hstop')
    by_cases h0 : s.deskState d = 0
    · have hmoves := j.deskStep_moves d
      rw [State.deskStep_runs (hstate.trans h0)] at htake hmoves
      have honly := HostOnly.of_stored_dsp hs hmoves (by simp [stepFields])
      refine deskRuns hm.1 hd rfl htake honly.lives
        ⟨fun h => absurd h.symm Bool.false_ne_true, fun _ _ => ?_, fun _ h => absurd h0 h⟩
      refine ⟨(State.on_congr (State.fget_fset_apart _ 1 (.inl (by decide)))).trans hon,
        State.deskState_setDeskState _ d (by decide), ?_, fun e he => ?_, ?_, honly⟩
      · rw [← hs.desk]
        exact State.desk_setDesk_same j d _
      · rw [← hs.desk]
        exact State.desk_setDesk_ne j _ he
      · rw [← hs.dsp]
        rfl
    · rw [State.deskStep_idle (fun h => h0 (hstate.symm.trans h)) ((hs.desk d).symm ▸ hidle)] at htake
      have honly := clearedBit hs
      refine deskRuns hm.1 hd rfl htake honly.lives
        ⟨fun h => absurd h.symm Bool.false_ne_true, fun _ h => absurd h h0, fun _ _ => ?_⟩
      exact ⟨State.on_fsetB j F.DSP_DESK_CTRL_STEP d false rfl (by decide), honly⟩

/-! ### DESK_STOP (R296, R387) -/

/-- The fields that a stop may move. -/
def stopFields (d : Nat) : List (Fld × Nat) :=
  [(F.DSP_DESK_STATUS_STATE, d), (F.DSP_DESK_CTRL_STOP, d), (F.DSP_DESK_CTRL_STEP, d), (F.DSP_DESK_PC_PC, d),
   (F.HIF_IRQ_SRC_DESK_STOP, 0), (F.DSP_STATUS_LOADING, 0), (F.DSP_TILE_OK_VALID, 0)]

/-- A Desk stops, whether its wait has been abandoned before or not. -/
theorem stopped {s j u : State} {d : Nat} (hs : Stored [(F.DSP_DESK_CTRL_STOP, d)] s j)
    (hu : DspMoves [(F.DSP_DESK_PC_PC, d)] j u)
    (hidle : (u.desk d).idle = (j.desk d).idle) (hne : ∀ e, e ≠ d → u.desk e = j.desk e)
    (hdsp : u.dsp = { j.dsp with desks := u.dsp.desks }) : Stopped s (u.deskStopped d) d := by
  obtain ⟨hstop, hstep, hirq⟩ := State.on_deskStopped u d
  have hmoves : DspMoves (stopFields d) j (u.deskStopped d) :=
    (hu.mono (by simp [stopFields])).trans ((State.deskStopped_moves u d).mono (by simp [stopFields, leaveFields, loadFields]))
  refine ⟨State.deskState_deskStopped u d, hstop, hstep, hirq, ?_, fun e he => ?_, fun hl => ?_,
    HostOnly.of_stored_dsp hs hmoves (by simp)⟩
  · rw [State.desk_deskStopped, hidle, hs.desk]
    rfl
  · rw [State.desk_deskStopped_ne u d he, hne e he, hs.desk]
  · have hl' : u.on F.DSP_CTRL_LOAD_RES 0 = false :=
      (State.on_congr ((hu.fget_of_kinds 0 [F.DSP_DESK_PC_PC] rfl (by decide)).trans
      (ctrlKept hs 0 (by decide) (by decide)))).trans hl
    obtain ⟨hleave, hrec⟩ := State.deskStopped_noLoad u d hl'
    have hreg {r : Reg} (hk : ∀ g ∈ leaveKinds, r ≠ g.reg) (hp : r ≠ .DSP_DESK_PC) (hc : r ≠ .DSP_DESK_CTRL)
        (hj : ∀ x ∈ jnlFields, r ≠ x.1.reg) : (u.deskStopped d).reg r 0 = s.reg r 0 := by
      rw [hleave.reg_of_kinds 0 leaveKinds rfl hk, hu.reg_of_kinds 0 [F.DSP_DESK_PC_PC] rfl (List.forall_mem_singleton.2 hp),
        regKept hs 0 hc hj]
    refine ⟨?_, hreg (by decide) (by decide) (by decide) (by decide), hreg (by decide) (by decide) (by decide) (by decide)⟩
    rw [hrec, hdsp, hs.dsp]

/-- A Desk whose wait is abandoned stops. -/
theorem stopped_abandon {s j : State} {d : Nat} (hs : Stored [(F.DSP_DESK_CTRL_STOP, d)] s j) :
    Stopped s ((j.abandon d).deskStopped d) d := by
  have hdesk (e : Nat) : (j.abandon d).desk e = (j.setDesk d { j.desk d with wait := .none }).desk e :=
    State.desk_congr (by rw [State.dsp_abandon]) e
  refine stopped hs (j.abandon_moves d) ?_ (fun e he => ?_) ?_
  · rw [hdesk, State.desk_setDesk_same, Desk.idle_wait]
  · rw [hdesk, State.desk_setDesk_ne j _ he]
  · rw [State.dsp_abandon]
    rfl

theorem stopped_stalled {s j : State} {d : Nat} (hs : Stored [(F.DSP_DESK_CTRL_STOP, d)] s j) : Stopped s (j.deskStopped d) d :=
  stopped hs (DspMoves.refl _ j) rfl (fun _ _ => rfl) rfl

theorem Stopped.lives {s t : State} {d : Nat} (h : Stopped s t d) : Lives s t := by
  obtain ⟨-, -, -, -, -, -, -, honly⟩ := h
  exact honly.lives

theorem deskStop (s : State) (d : Nat) : Claim.DeskStop s d := by
  intro hm hd hready hstep hstart
  obtain ⟨j, hs, hon, hw⟩ := deskBit deskStop_w1s rfl hm hd
  have hstart' : j.on F.DSP_DESK_CTRL_START d = false := (State.on_congr (ctrlKept hs d (by decide) (by decide))).trans hstart
  have hstep' : j.on F.DSP_DESK_CTRL_STEP d = false := (State.on_congr (ctrlKept hs d (by decide) (by decide))).trans hstep
  have hready' : j.on F.DSP_STATUS_READY 0 = true := (State.on_congr (ctrlKept hs 0 (by decide) (by decide))).trans hready
  have hstate : j.deskState d = s.deskState d := ctrlKept hs d (by decide) (by decide)
  have hshows : j.deskShows d = s.deskShows d := by
    unfold State.deskShows State.waitCost
    rw [hstate, hs.desk, hs.stn]
  have hpc : j.pc d = s.pc d := ctrlKept hs d (by decide) (by decide)
  have hwait : j.waitPc d = s.waitPc d := by
    unfold State.waitPc
    rw [hs.desk, hpc]
  have hready : ((j.desk d).readyAt ≤ j.stn.elapsed) = ((s.desk d).readyAt ≤ s.stn.elapsed) := by rw [hs.desk, hs.stn]
  have htake := hw.trans (State.deskCtrlTake_stop hready' hstart' hstep' hon)
  by_cases h0 : s.deskShows d = 0 ∨ s.deskShows d = 4
  · rw [State.deskStop_idle (hshows.symm ▸ h0)] at htake
    have honly := clearedBit hs
    refine deskRuns hm.1 hd rfl htake honly.lives ⟨fun _ => ?_, ?_, ?_, ?_, ?_⟩
    · exact ⟨State.on_fsetB j F.DSP_DESK_CTRL_STOP d false rfl (by decide), honly⟩
    all_goals omega
  by_cases h2 : s.deskShows d = 2
  · rw [State.deskStop_waiting (hshows.trans h2)] at htake
    have hstopped := stopped_abandon hs
    refine deskRuns hm.1 hd rfl htake hstopped.lives ⟨by omega, fun _ => ⟨hstopped, ?_⟩, by omega, by omega, by omega⟩
    rw [State.pc_deskStopped, State.pc_abandon, hwait]
    unfold State.waitPc
    cases (s.desk d).wait <;> rfl
  by_cases h3 : s.deskShows d = 3
  · rw [State.deskStop_stalled (hshows.trans h3)] at htake
    have hstopped := stopped_stalled hs
    refine deskRuns hm.1 hd rfl htake hstopped.lives ⟨by omega, by omega, fun _ => ⟨hstopped, ?_⟩, by omega, by omega⟩
    rw [State.pc_deskStopped, hpc]
  have h0' : ¬ (j.deskShows d = 0 ∨ j.deskShows d = 4) := by rw [hshows]; exact h0
  have h2' : j.deskShows d ≠ 2 := by rw [hshows]; exact h2
  have h3' : j.deskShows d ≠ 3 := by rw [hshows]; exact h3
  by_cases hr : (s.desk d).readyAt ≤ s.stn.elapsed
  · rw [State.deskStop_ready h0' h2' h3' (hready ▸ hr)] at htake
    have hstopped := stopped_abandon hs
    refine deskRuns hm.1 hd rfl htake hstopped.lives ⟨by omega, by omega, by omega, fun _ _ hnone => ⟨hstopped, ?_⟩, by omega⟩
    rw [State.pc_deskStopped, State.pc_abandon, hwait, State.waitPc_of_none hnone]
  · rw [State.deskStop_busy h0' h2' h3' (hready ▸ hr)] at htake
    have honly := HostOnly.of_stored_flds hs (DspMoves.refl _ j) (List.Subset.refl _) rfl
    exact deskRuns hm.1 hd rfl htake honly.lives ⟨by omega, by omega, by omega, by omega, fun _ _ => ⟨hon, honly⟩⟩

/-! ### SEM_HOST_RELEASE (R319, R321) -/

/-- The semaphores that a host write releases: those of its mask but the ones taken at this edge. -/
def hostReleases (s : State) (m : Nat) : List Nat :=
  (List.range 16).filter fun i => (putF 0 0 16 m &&& maskF 0 16 &&& ~~~ s.freshBits .DSP_SEM_HELD 0).toNat.testBit i

theorem mem_hostReleases (s : State) {m i : Nat} (hi : i < 16) :
    i ∈ hostReleases s m ↔ m.testBit i = true ∧ (s.freshBits .DSP_SEM_HELD 0).toNat.testBit i = false := by
  unfold hostReleases
  rw [List.mem_filter, List.mem_range, BitVec.testBit_toNat, putF_zero_and_maskF]
  have hi' : i < 32 := by omega
  simp only [BitVec.getLsbD_and, BitVec.getLsbD_not, BitVec.shiftLeft_zero, BitVec.getLsbD_ofNat, maskF_getLsbD,
    BitVec.testBit_toNat]
  simp [hi, hi']

/-- A semaphore is awaited. -/
theorem semWaiters_ne_nil (s : State) (i : Nat) :
    s.semWaiters i ≠ [] ↔ ∃ d, d < 4 ∧ (s.deskState d = 2 ∧ (s.desk d).wait = .sem i) := by
  simp [State.semWaiters, List.filter_eq_nil_iff]

theorem semHost (s : State) (m : Nat) : SemHost s m := by
  intro hm _ hpasses
  obtain ⟨j, hs, hfresh, hw⟩ := State.hostField_semHeld hm m
  have hj : j.semHeldWritten (putF 0 0 16 m &&& maskF 0 16) = j.each (hostReleases s m) State.semRelease := by
    unfold State.semHeldWritten hostReleases
    rw [hfresh]
  have hrel : Released (hostReleases s m) j (j.each (hostReleases s m) State.semRelease) :=
    Released.each (List.nodup_range.filter _) (fun i hi => List.mem_range.1 (List.mem_filter.1 hi).1) j
  have hheld (i : Nat) : j.semHeld i = s.semHeld i := State.semHeld_congr (hs.fget (by simp) (by decide)) i
  have howner (i : Nat) : j.semOwner i = s.semOwner i := State.semOwner_congr (hs.fget (by simp) (by decide)) i
  have hwait (i : Nat) : j.semWaiters i = s.semWaiters i := by
    have hstate (d : Nat) : j.deskState d = s.deskState d := hs.fget (by simp) (by decide)
    unfold State.semWaiters
    simp only [hstate, hs.desk]
  have hnone (i : Nat) : ¬ j.semPassing i := by
    rintro ⟨p, hp, -⟩
    rw [hs.dsp, hpasses] at hp
    cases hp
  have honly := HostOnly.of_stored_dsp hs (DspMoves.of_sems hrel.frame) (by simp)
  refine Runs.of_act_eq (f := fun s => s.hostField F.DSP_SEM_HELD_HELD 0 m) rfl hm.1 (hw.trans hj) honly.lives ?_
  refine ⟨fun i hi => ?_, fun i hi => ?_, fun i _ h => (hrel.owner i h).trans (howner i), ?_, honly⟩
  · have hunawaited : s.semWaiters i = [] ↔ ∀ d, d < 4 → ¬ (s.deskState d = 2 ∧ (s.desk d).wait = .sem i) := by
      rw [← not_iff_not, ← ne_eq, semWaiters_ne_nil]
      simp
    rw [hrel.held, hheld, hwait, mem_hostReleases s hi, hunawaited]
    simp [hnone]
  · rw [hrel.passes, hheld, hwait, mem_hostReleases s hi, hs.dsp, hpasses, hs.stn, semWaiters_ne_nil]
    simp [hnone]
  · have hrec := congrArg State.dsp hrel.frame.rest
    rw [hs.dsp] at hrec
    exact hrec

/-- Settles O42: the host's write of a Desk's START, STEP or STOP bit sets that bit alone and is journaled, and what the bit
starts depends on the Desk's STATE; its write of DSP_SEM_HELD stores nothing and releases the semaphores of its mask one by
one. -/
theorem desksUnderTheHost : Obligations.DesksUnderTheHost := fun s d m => ⟨deskStart s d, deskStop s d, deskStep s d, semHost s m⟩

end Sys2Proof.Claim
end

section
/-!
The resident tiles under the host (R304–R309): the claim's clause on a host's write of a tile leaves out that an action of a
Desk may be due at the same edge, which R25 puts before the write.
-/

namespace Sys2Proof.Machine

/-- A locked die without Sections and Signal Boxes, at whose tick 1,000 an action of Desk 1 is due. -/
def dueAction : State :=
  { State.resetOf { lomvy896 with nRegions := 0, nSections := 0 } with
    por := false
    stn := { locked := true, cntA := 1000, cntB := 1000, cntC := 1000, elapsed := 1000 }
    dsp := { acts := [{ desk := 1, seq := 0, t := 1000, tick := 1000, slot := some 936, op := .phase 0 }] } }

/-- The host may write a tile of that die: it runs, and its reset is over. -/
theorem dueAction_live : dueAction.por = false ∧ dueAction.stn.warm = false ∧ dueAction.stn.locked = true := by decide +kernel

theorem acts_dueAction : dueAction.dsp.acts ≠ [] := by decide +kernel

/-- The write is preceded by the action, which then no longer waits. -/
theorem acts_hostStrobed_dueAction : (dueAction.hostStrobed 0x10000 0 15).dsp.acts = [] := by decide +kernel

/-- What RESIDENT_TILE_WRITE answers with has the action table that the host's write leaves. -/
theorem dsp_of_residentTileWrite {s t : State} (x data strb : Nat) (hp : s.por = false)
    (h : exec (.residentTileWrite x data strb) s = .next t) : t.dsp = (s.hostStrobed (0x10000 + x % 0x8000) data strb).dsp := by
  replace h : s.act (fun s => s.hostStrobed (0x10000 + x % 0x8000) data strb) = .next t := h
  rw [State.act_live _ _ hp] at h
  injection h with h
  rw [← h]

end Sys2Proof.Machine

namespace Sys2Proof.Claim

open Sys2Proof.Machine

theorem TileWritten.dsp {s t : State} {n : Nat} (h : TileWritten s t n) : t.dsp = s.dsp := by
  obtain ⟨-, -, hrest⟩ := h
  rw [hrest]

/-- Refutes O43: the clauses on RESIDENT_TILE_WRITE and RESIDENT_CRC_WRITE hold the Dispatcher's record unchanged and do not
ask that no action of a Desk be due. On a locked die at whose tick an action of Desk 1 is due, that action precedes the host's
write of a tile at the same edge (R25) and leaves the action table. -/
theorem not_residentTiles : ¬ Obligations.ResidentTiles := by
  unfold Obligations.ResidentTiles
  intro claim
  obtain ⟨hwrites, -⟩ := claim dueAction 0 0 0 15 0 [] [] false
  obtain ⟨hpor, hwarm, hlocked⟩ := dueAction_live
  obtain ⟨hword, -⟩ := hwrites hpor hwarm hlocked (by decide)
  obtain ⟨t, ht, -, -, hrest⟩ := hword (by decide)
  have hacts : t.dsp.acts = [] := by
    rw [dsp_of_residentTileWrite 0 0 15 hpor ht]
    exact acts_hostStrobed_dueAction
  exact acts_dueAction (hrest.dsp ▸ hacts)

end Sys2Proof.Claim
end

section
/-!
SUPPORT. Writing into the Event Log: the words of an entry in the log's RAM, the registers that its writing moves, and the entry
as it stands there (R443, R453, R462–R464, R479, R498, R524).
-/

namespace Sys2Proof.Machine

/-! ### Registers that move -/

theorem FldsKeep.setBits {P : Fld → Nat → Prop} {s t : State} (h : FldsKeep P s t) {f : Fld} {u : Nat} (bits : Nat)
    (hf : P f u) : FldsKeep P s (t.setBits f u bits) := h.fset (t.fget f u ||| bits) hf

/-- A bit that hardware sets in a field reads 1. -/
theorem State.testBit_setBits (s : State) {f : Fld} (u : Nat) {i : Nat} (hf : f.lo + f.w ≤ 32) (hi : i < f.w) :
    ((s.setBits f u (2 ^ i)).fget f u).testBit i = true := by
  have h : (s.setBits f u (2 ^ i)).fget f u = (s.fget f u ||| 2 ^ i) % 2 ^ f.w := State.fget_fset_same s f u _ hf
  rw [h, Nat.testBit_mod_two_pow, Nat.testBit_or, Nat.testBit_two_pow_self]
  simp [hi]

theorem State.fget_faddSat_same (s : State) (f : Fld) (u n : Nat) (hf : f.lo + f.w ≤ 32) :
    (s.faddSat f u n).fget f u = satU f.w (s.fget f u + n) := by
  refine State.fget_fset_fits s f u hf ?_
  have := Nat.two_pow_pos f.w
  unfold satU
  omega

/-- Nothing has changed but the listed fields, with the marks of R9. -/
structure RegsMove (l : List (Fld × Nat)) (s t : State) : Prop where
  flds : FldsKeep (Listed l) s t
  rest : t = { s with regs := t.regs, fresh := t.fresh }

theorem RegsMove.refl (l : List (Fld × Nat)) (s : State) : RegsMove l s s := ⟨FldsKeep.refl _ s, rfl⟩

theorem RegsMove.trans {l : List (Fld × Nat)} {s t u : State} (h : RegsMove l s t) (k : RegsMove l t u) : RegsMove l s u where
  flds := h.flds.trans k.flds
  rest := by
    have e := h.rest
    have k' := k.rest
    rw [e] at k'
    exact k'

theorem RegsMove.mono {l l' : List (Fld × Nat)} {s t : State} (h : RegsMove l s t) (hl : l ⊆ l') : RegsMove l' s t :=
  ⟨h.flds.mono fun _ _ hf => hl hf, h.rest⟩

theorem RegsMove.setBits {l : List (Fld × Nat)} {s t : State} (h : RegsMove l s t) {f : Fld} {u : Nat} (bits : Nat)
    (hf : (f, u) ∈ l) : RegsMove l s (t.setBits f u bits) := h.trans ⟨(FldsKeep.refl _ t).setBits bits hf, rfl⟩

theorem RegsMove.setFlag {l : List (Fld × Nat)} {s t : State} (h : RegsMove l s t) {f : Fld} {u : Nat} (hf : (f, u) ∈ l) :
    RegsMove l s (t.setFlag f u) := h.setBits 1 hf

theorem RegsMove.fset {l : List (Fld × Nat)} {s t : State} (h : RegsMove l s t) {f : Fld} {u : Nat} (v : Nat)
    (hf : (f, u) ∈ l) : RegsMove l s (t.fset f u v) := h.trans ⟨(FldsKeep.refl _ t).fset v hf, rfl⟩

section
variable {l : List (Fld × Nat)} {s t : State} (h : RegsMove l s t)
include h

theorem RegsMove.log : t.log = s.log := by rw [h.rest]
theorem RegsMove.mem : t.mem = s.mem := by rw [h.rest]

theorem RegsMove.reg {r : Reg} {u : Nat} (hr : ∀ x ∈ l, r ≠ x.1.reg) : t.reg r u = s.reg r u :=
  h.flds.reg fun _ _ hg => .inl (hr _ hg)

theorem RegsMove.fget {f : Fld} {u : Nat} (hf : ∀ x ∈ l, f.reg ≠ x.1.reg) : t.fget f u = s.fget f u :=
  h.flds f u (Listed.apart fun x hx => .inl (hf x hx))

theorem RegsMove.unconsumed (hw : ∀ x ∈ l, Reg.EVT_WIDX ≠ x.1.reg) (hr : ∀ x ∈ l, Reg.EVT_RIDX ≠ x.1.reg) :
    t.unconsumed = s.unconsumed := by
  unfold State.unconsumed
  rw [h.reg hw, h.reg hr]

end

/-! ### Words in the memory windows -/

theorem State.wrWords_frame (l : List Nat) (s : State) (a : Nat) : s.wrWords a l = { s with mem := (s.wrWords a l).mem } := by
  induction l generalizing s a with
  | nil => rfl
  | cons w l ih =>
    show (s.wrWord a _).wrWords (a + 4) l = _
    rw [ih, State.wrWord_frame]
    rfl

/-- Bytes outside the words keep their values. -/
theorem State.rdByte_wrWords_out (l : List Nat) (s : State) (a : Nat) {x : Nat} (hx : x < a ∨ a + 4 * l.length ≤ x) :
    (s.wrWords a l).rdByte x = s.rdByte x := by
  induction l generalizing s a with
  | nil => rfl
  | cons w l ih =>
    rw [List.length_cons] at hx
    exact (ih (s.wrWord a (BitVec.ofNat 32 w)) (a + 4) (by omega)).trans (State.rdByte_wrWord_out s a _ 15 x (by omega))

theorem State.rdWord_congr {s t : State} {a : Nat} (h : ∀ i < 4, t.rdByte (a + i) = s.rdByte (a + i)) :
    t.rdWord a = s.rdWord a := by
  unfold State.rdWord
  rw [h 3 (by decide), h 2 (by decide), h 1 (by decide), ← Nat.add_zero a, h 0 (by decide)]

/-- Words that were written read back. -/
theorem State.rdWord_wrWords (l : List Nat) (s : State) (a i : Nat) (hi : i < l.length) :
    (s.wrWords a l).rdWord (a + 4 * i) = BitVec.ofNat 32 l[i] := by
  induction l generalizing s a i with
  | nil => cases hi
  | cons w l ih =>
    cases i with
    | zero =>
      have hkeep : ((s.wrWord a (BitVec.ofNat 32 w)).wrWords (a + 4) l).rdWord a = (s.wrWord a (BitVec.ofNat 32 w)).rdWord a :=
        State.rdWord_congr fun i hi => State.rdByte_wrWords_out l _ _ (.inl (by omega))
      exact hkeep.trans (State.rdWord_wrWord s a _)
    | succ i =>
      have h := ih (s.wrWord a (BitVec.ofNat 32 w)) (a + 4) i (Nat.lt_of_succ_lt_succ hi)
      rwa [show a + 4 + 4 * i = a + 4 * (i + 1) by omega] at h

/-! ### Storing an entry -/

/-- The log once an entry's words stand at EVT_WIDX, which has gone on by one. -/
def State.logStored (s : State) (e : Entry) : State :=
  let w := (s.reg .EVT_WIDX 0).toNat
  { s.setReg .EVT_WIDX 0 (BitVec.ofNat 32 (w + 1)) with
    mem := (s.wrWords (logBase + 16 * (w % 4096)) e.words).mem
    log := { s.log with
      wrote := s.log.wrote + 1, wtimes := s.log.wtimes ++ [s.stn.elapsed], lastHi := some (e.tick / 2 ^ 48) } }

/-- What the writing of an entry then counts, marks and signals. -/
def State.logNoted (s : State) (e : Entry) : State := ((s.logCount e).logMark e).logHigh

theorem State.logWrite_eq (s : State) (e : Entry) : s.logWrite e = (s.logStored e).logNoted e := by
  unfold State.logWrite State.logStored State.logNoted
  dsimp only
  rw [State.wrWords_frame]
  generalize (s.wrWords _ e.words).mem = m
  rfl

theorem State.logStored_frame (s : State) (e : Entry) :
    s.logStored e = { s with regs := (s.logStored e).regs, mem := (s.logStored e).mem, log := (s.logStored e).log } := by
  unfold State.logStored
  dsimp only
  generalize (s.wrWords _ e.words).mem = m
  rfl

theorem State.regs_logStored (s : State) (e : Entry) :
    (s.logStored e).regs = (s.setReg .EVT_WIDX 0 (BitVec.ofNat 32 ((s.reg .EVT_WIDX 0).toNat + 1))).regs := by
  unfold State.logStored
  rfl

theorem State.build_logStored (s : State) (e : Entry) : (s.logStored e).build = s.build := by
  rw [State.logStored_frame]

theorem State.logStored_flds (s : State) (e : Entry) : FldsKeep (Listed [(F.EVT_WIDX_INDEX, 0)]) s (s.logStored e) :=
  ((FldsKeep.refl _ s).setReg (r := .EVT_WIDX) _ (List.mem_singleton_self _)).beside (State.regs_logStored s e)
    (State.build_logStored s e)

theorem State.widx_logStored (s : State) (e : Entry) :
    (s.logStored e).reg .EVT_WIDX 0 = BitVec.ofNat 32 ((s.reg .EVT_WIDX 0).toNat + 1) := by
  rw [State.reg_congr (State.regs_logStored s e) (State.build_logStored s e), State.reg_setReg_same]

theorem State.mem_logStored (s : State) (e : Entry) :
    (s.logStored e).mem = (s.wrWords (logBase + 16 * ((s.reg .EVT_WIDX 0).toNat % 4096)) e.words).mem := by
  unfold State.logStored
  rfl

theorem State.rdByte_of_mem {s t : State} (h : t.mem = s.mem) (a : Nat) : t.rdByte a = s.rdByte a := by
  unfold State.rdByte
  rw [h]

theorem State.rdWord_of_mem {s t : State} (h : t.mem = s.mem) (a : Nat) : t.rdWord a = s.rdWord a :=
  State.rdWord_congr fun _ _ => State.rdByte_of_mem h _

theorem State.logHigh_moves (s : State) : RegsMove [(F.HIF_IRQ_SRC_LOG_HIGH, 0)] s s.logHigh := by
  unfold State.logHigh
  split
  · exact (RegsMove.refl _ s).setFlag (List.mem_singleton_self _)
  · exact RegsMove.refl _ s

theorem State.logCount_moves (s : State) (e : Entry) :
    RegsMove [(F.EVT_PEND_CLASS, 0), (F.EVT_CLASS_CNT_COUNT, e.cls % 16)] s (s.logCount e) := by
  unfold State.logCount
  split
  · exact RegsMove.refl _ s
  · exact ((RegsMove.refl _ s).setBits _ (by simp)).fset _ (by simp)

/-- An entry that is no marker counts in its class. -/
theorem State.logNoted_entry (s : State) {e : Entry} (h : e.mark = false) : s.logNoted e = (s.logCount e).logHigh := by
  simp [State.logNoted, State.logMark, h]

/-- A GAP marker of the log itself sets GAP_SEEN. -/
theorem State.logNoted_gap (s : State) {e : Entry} (h : e.mark = true) (hc : e.code = 1) (hs : e.src = srcMarker) :
    s.logNoted e = (s.setFlag F.EVT_STATUS_GAP_SEEN 0).logHigh := by
  simp [State.logNoted, State.logCount, State.logMark, h, hc, hs]

/-- A marker of another kind is counted nowhere. -/
theorem State.logNoted_marker (s : State) {e : Entry} (h : e.mark = true) (hc : e.code ≠ 1) : s.logNoted e = s.logHigh := by
  simp [State.logNoted, State.logCount, State.logMark, h, hc]

theorem RegsMove.logHigh {l : List (Fld × Nat)} {s t : State} (h : RegsMove l s t) (hl : (F.HIF_IRQ_SRC_LOG_HIGH, 0) ∈ l) :
    RegsMove l s t.logHigh := h.trans ((State.logHigh_moves t).mono (by simpa using hl))

end Sys2Proof.Machine

namespace Sys2Proof.Claim

open Sys2Proof.Machine

/-! ### The entry as it stands in the log -/

/-- The fields of an entry fit their places in its words (R443). -/
structure EntryFits (e : Entry) : Prop where
  cls : e.cls < 16
  src : e.src < 2 ^ 11
  code : e.code < 256
  count : e.count < 2 ^ 16

/-- States with the same memory and the same EVT_WIDX take an entry at the same place. -/
theorem Logged.congr {s s' t t' : State} {e : Entry} (h : Logged s t e) (hw : s'.reg .EVT_WIDX 0 = s.reg .EVT_WIDX 0)
    (hm : s'.mem = s.mem) (hw' : t'.reg .EVT_WIDX 0 = t.reg .EVT_WIDX 0) (hm' : t'.mem = t.mem) : Logged s' t' e := by
  obtain ⟨hidx, h0, h1, h2, h3, hkeep⟩ := h
  unfold Logged
  dsimp only
  rw [hw, hw']
  simp only [State.rdWord_of_mem hm']
  refine ⟨hidx, h0, h1, h2, h3, fun a ha => ?_⟩
  exact (State.rdByte_of_mem hm' a).trans ((hkeep a ha).trans (State.rdByte_of_mem hm a).symm)

theorem logged_logStored (s : State) {e : Entry} (h : EntryFits e) : Logged s (s.logStored e) e := by
  obtain ⟨hcls, hsrc, hcode, hcount⟩ := h
  have word (i : Nat) (hi : i < 4) :
      (s.logStored e).rdWord (logBase + 16 * ((s.reg .EVT_WIDX 0).toNat % 4096) + 4 * i) = BitVec.ofNat 32 (e.words[i]'hi) := by
    rw [State.rdWord_of_mem (State.mem_logStored s e), State.rdWord_wrWords _ _ _ _ hi]
  have low (n : Nat) : BitVec.ofNat 32 (n % 2 ^ 32) = BitVec.ofNat 32 n := by
    apply BitVec.eq_of_toNat_eq
    simp
  refine ⟨State.widx_logStored s e, ?_, ?_, ?_, ?_, fun a ha => ?_⟩
  · exact (word 0 (by decide)).trans (low e.tick)
  · refine (word 1 (by decide)).trans ?_
    simp only [Entry.words, List.getElem_cons_succ, List.getElem_cons_zero, Nat.mod_eq_of_lt hcls, Nat.mod_eq_of_lt hsrc]
  · refine (word 2 (by decide)).trans ?_
    simp only [Entry.words, List.getElem_cons_succ, List.getElem_cons_zero, Nat.mod_eq_of_lt hcode, Nat.mod_eq_of_lt hcount]
  · exact (word 3 (by decide)).trans (low e.payload)
  · rw [State.rdByte_of_mem (State.mem_logStored s e)]
    refine State.rdByte_wrWords_out e.words s _ ?_
    have hlen : e.words.length = 4 := rfl
    have hb : logBase = 0x80000 := rfl
    omega

/-- Nothing has changed but registers, the marks of R9, memory and the log's record. -/
def LogFrame (s t : State) : Prop := t = { s with regs := t.regs, fresh := t.fresh, mem := t.mem, log := t.log }

theorem LogFrame.trans {s t u : State} (h : LogFrame s t) (k : LogFrame t u) : LogFrame s u := by
  unfold LogFrame at h k
  rw [h] at k
  exact k

theorem LogFrame.of_regs {l : List (Fld × Nat)} {s t : State} (h : RegsMove l s t) : LogFrame s t := by
  have e := h.rest
  unfold LogFrame
  rw [e]

theorem LogFrame.lives {s t : State} (h : LogFrame s t) : Lives s t := by
  unfold LogFrame at h
  unfold Lives
  rw [h]
  exact ⟨rfl, rfl, rfl⟩

theorem LogFrame.count {s t : State} (h : LogFrame s t) : t.count = s.count := by
  unfold LogFrame at h
  unfold State.count
  rw [h]

/-- An entry stands in the log, and of the registers EVT_WIDX and the listed fields alone have moved. -/
structure Wrote (e : Entry) (l : List (Fld × Nat)) (s t : State) : Prop where
  logged : Logged s t e
  flds : FldsKeep (Listed ((F.EVT_WIDX_INDEX, 0) :: l)) s t
  log : t.log = { s.log with
    wrote := s.log.wrote + 1, wtimes := s.log.wtimes ++ [s.stn.elapsed], lastHi := some (e.tick / 2 ^ 48) }
  frame : LogFrame s t

theorem Wrote.of_noted {e : Entry} {l : List (Fld × Nat)} {s : State} (h : EntryFits e)
    (hn : RegsMove l (s.logStored e) ((s.logStored e).logNoted e)) (hl : ∀ x ∈ l, Reg.EVT_WIDX ≠ x.1.reg) :
    Wrote e l s (s.logWrite e) := by
  rw [State.logWrite_eq]
  refine ⟨(logged_logStored s h).congr rfl rfl (hn.reg hl) hn.mem, ?_, ?_, ?_⟩
  · exact ((State.logStored_flds s e).mono fun _ _ hf => List.mem_cons.2 (.inl (List.mem_singleton.1 hf))).trans
      (hn.flds.mono fun _ _ hf => List.mem_cons_of_mem _ hf)
  · rw [hn.log]
    unfold State.logStored
    rfl
  · have hs : LogFrame s (s.logStored e) := by
      unfold LogFrame
      rw [State.logStored_frame]
    exact hs.trans (.of_regs hn)

end Sys2Proof.Claim

namespace Sys2Proof.Machine

/-! ### What the writing of an entry counts and marks -/

theorem State.fget_logStored (s : State) (e : Entry) {f : Fld} (u : Nat) (hf : f.reg ≠ .EVT_WIDX) :
    (s.logStored e).fget f u = s.fget f u :=
  State.logStored_flds s e f u (Listed.apart fun x hx => .inl (by rw [List.mem_singleton.1 hx]; exact hf))

theorem State.logNoted_entry_moves (s : State) {e : Entry} (h : e.mark = false) (hc : e.cls < 16) :
    RegsMove [(F.EVT_PEND_CLASS, 0), (F.EVT_CLASS_CNT_COUNT, e.cls), (F.HIF_IRQ_SRC_LOG_HIGH, 0)] s (s.logNoted e) := by
  rw [State.logNoted_entry s h]
  have hcount := State.logCount_moves s e
  rw [Nat.mod_eq_of_lt hc] at hcount
  exact (hcount.mono (by simp)).logHigh (by simp)

theorem State.logNoted_gap_moves (s : State) {e : Entry} (h : e.mark = true) (hc : e.code = 1) (hs : e.src = srcMarker) :
    RegsMove [(F.EVT_STATUS_GAP_SEEN, 0), (F.HIF_IRQ_SRC_LOG_HIGH, 0)] s (s.logNoted e) := by
  rw [State.logNoted_gap s h hc hs]
  exact ((RegsMove.refl _ s).setFlag (by simp)).logHigh (by simp)

theorem State.logNoted_marker_moves (s : State) {e : Entry} (h : e.mark = true) (hc : e.code ≠ 1) :
    RegsMove [(F.HIF_IRQ_SRC_LOG_HIGH, 0)] s (s.logNoted e) := by
  rw [State.logNoted_marker s h hc]
  exact State.logHigh_moves s

/-- The writing of an entry sets its class in EVT_PEND (R463). -/
theorem State.pend_logWrite (s : State) {e : Entry} (h : e.mark = false) (hc : e.cls < 16) :
    ((s.logWrite e).fget F.EVT_PEND_CLASS 0).testBit e.cls = true := by
  rw [State.logWrite_eq, State.logNoted_entry _ h,
    (State.logHigh_moves _).fget (by simp [F.EVT_PEND_CLASS, F.HIF_IRQ_SRC_LOG_HIGH])]
  unfold State.logCount
  rw [h, if_neg (by decide), State.faddWrap, State.fget_fset_ne _ _ _ _ _ _ (.inl (by decide)), Nat.mod_eq_of_lt hc]
  exact State.testBit_setBits _ 0 (by decide) hc

/-- The writing of an entry counts it in its class (R464). -/
theorem State.classCnt_logWrite (s : State) {e : Entry} (h : e.mark = false) (hc : e.cls < 16) :
    (s.logWrite e).fget F.EVT_CLASS_CNT_COUNT e.cls = (s.fget F.EVT_CLASS_CNT_COUNT e.cls + 1) % 2 ^ 32 := by
  rw [State.logWrite_eq, State.logNoted_entry _ h,
    (State.logHigh_moves _).fget (by simp [F.EVT_CLASS_CNT_COUNT, F.HIF_IRQ_SRC_LOG_HIGH])]
  unfold State.logCount
  have hpend : ((s.logStored e).setBits F.EVT_PEND_CLASS 0 (2 ^ e.cls)).fget F.EVT_CLASS_CNT_COUNT e.cls =
      s.fget F.EVT_CLASS_CNT_COUNT e.cls :=
    (((RegsMove.refl [(F.EVT_PEND_CLASS, 0)] _).setBits _ (by simp)).fget
      (by simp [F.EVT_CLASS_CNT_COUNT, F.EVT_PEND_CLASS])).trans (State.fget_logStored s e _ (by decide))
  rw [h, if_neg (by decide), Nat.mod_eq_of_lt hc, State.faddWrap, State.fget_fset_same _ _ _ _ (by decide), hpend]
  rfl

theorem State.gapSeen_logWrite (s : State) {e : Entry} (h : e.mark = true) (hc : e.code = 1) (hs : e.src = srcMarker) :
    (s.logWrite e).on F.EVT_STATUS_GAP_SEEN 0 = true := by
  rw [State.logWrite_eq, State.logNoted_gap _ h hc hs,
    State.on_congr ((State.logHigh_moves _).fget (by simp [F.EVT_STATUS_GAP_SEEN, F.HIF_IRQ_SRC_LOG_HIGH]))]
  exact State.on_setFlag _ _ _ rfl (by decide)

end Sys2Proof.Machine
end

section
/-!
SUPPORT. The commit of one received entry at the present tick edge: what the network's checks count, and the entry or the marker
that is then written (R453, R498).
-/

namespace Sys2Proof.Machine

/-! ### A failed lane (R498) -/

theorem State.laneCount_moves (s : State) : RegsMove [(F.STN_DEP_STATUS_EVT_LANE, 0), (F.STN_DEP_CNT_EVT_CORR, 0)] s
    (s.laneCount true false) := ((RegsMove.refl _ s).setFlag (by simp)).fset _ (by simp)

theorem State.lane_laneCount (s : State) : (s.laneCount true false).on F.STN_DEP_STATUS_EVT_LANE 0 = true ∧
    (s.laneCount true false).fget F.STN_DEP_CNT_EVT_CORR 0 =
      satU F.STN_DEP_CNT_EVT_CORR.w (s.fget F.STN_DEP_CNT_EVT_CORR 0 + 1) := by
  have hlane : (s.setFlag F.STN_DEP_STATUS_EVT_LANE 0).on F.STN_DEP_STATUS_EVT_LANE 0 = true :=
    State.on_setFlag s _ _ rfl (by decide)
  have hcorr : (s.setFlag F.STN_DEP_STATUS_EVT_LANE 0).fget F.STN_DEP_CNT_EVT_CORR 0 = s.fget F.STN_DEP_CNT_EVT_CORR 0 :=
    ((RegsMove.refl [(F.STN_DEP_STATUS_EVT_LANE, 0)] s).setFlag (by simp)).fget
      (by simp [F.STN_DEP_STATUS_EVT_LANE, F.STN_DEP_CNT_EVT_CORR])
  unfold State.laneCount
  simp only [if_true, Bool.false_eq_true, if_false]
  exact ⟨(State.on_congr (State.fget_fset_ne _ _ _ _ _ _ (.inl (by decide)))).trans hlane,
    (State.fget_faddSat_same _ _ _ _ (by decide)).trans (by rw [hcorr])⟩

/-! ### The commit of one entry (R453) -/

/-- The state with other entries received. -/
def State.setReceived (s : State) (l : List Entry) : State := { s with log := { s.log with received := l } }

/-- The state once the one entry received has been taken for the log, with the counts of a failed lane. -/
def State.takenOff (s : State) (failed replaced : Bool) : State := (s.setReceived []).laneCount failed replaced

theorem State.takenOff_good (s : State) : s.takenOff false false = s.setReceived [] := rfl

theorem State.takenOff_replaced (s : State) : s.takenOff true true = (s.takenOff true false).faddSat F.EVT_LOST_COUNT 0 1 := rfl

/-- The state with the ticks up to `n` committed. -/
def State.setCommitted (s : State) (n : Nat) : State := { s with log := { s.log with committed := n } }

theorem State.commitLoop_nil (limit : Option Nat) (n : Nat) (s : State) (h : s.log.received = []) :
    State.commitLoop limit n s = s := by
  cases n with
  | zero => rfl
  | succ n => simp [State.commitLoop, h, pickNext]

/-- An entry whose tick has not come stays. -/
theorem State.commitLoop_early {s : State} {e : Entry} {m n : Nat} (h : s.log.received = [e]) (ht : m < e.tick) :
    State.commitLoop (some m) n s = s := by
  cases n with
  | zero => rfl
  | succ n => simp [State.commitLoop, h, pickNext, ht]

theorem State.commitNow_eq {s : State} (hc : 448 ≤ s.count) (ho : s.log.overflow = none) :
    let t := State.commitLoop (some (s.count - 448)) (s.log.received.length + 1) s
    s.commitNow = t.setCommitted (max t.log.committed (t.count - 448)) := by
  have hresume : s.logResume = s := by simp [State.logResume, ho]
  unfold State.commitNow
  rw [if_neg (by omega), hresume]
  rfl

/-- The commit of the one entry received, which is due: counted, then written or discarded. -/
theorem State.commitNow_one {s : State} {e e' : Entry} {failed replaced : Bool} (hc : 448 ≤ s.count)
    (ho : s.log.overflow = none) (hr : s.log.received = [e]) (hd : e.tick + 448 ≤ s.count)
    (hl : laneResult (s.count - 448) e = (e', failed, replaced)) (hw : s.logFull = true ∨ s.log.wrote = 0)
    (hq : ((s.takenOff failed replaced).logEntry e').log.received = []) :
    let t := (s.takenOff failed replaced).logEntry e'
    s.commitNow = t.setCommitted (max t.log.committed (t.count - 448)) := by
  intro t
  have hdue : ¬ s.count - 448 < e.tick := by omega
  have hfour : ((some (s.count - 448)).isSome && s.log.wrote ≥ 4 && !s.logFull) = false := by
    rcases hw with h | h <;> simp [h]
  have hthree : ((some (s.count - 448)).isSome && !s.logFull && s.epochDue e'.tick && s.log.wrote ≥ 3) = false := by
    rcases hw with h | h <;> simp [h]
  have hloop : State.commitLoop (some (s.count - 448)) (s.log.received.length + 1) s = t := by
    rw [State.commitLoop, hr, pickNext, pickNext]
    simp only [Option.any_some, hdue, decide_false, Bool.false_eq_true, if_false, hfour, Option.getD_some, hl, hthree]
    exact State.commitLoop_nil _ _ _ hq
  rw [State.commitNow_eq hc ho, hloop]

/-- The commit of the one entry received, whose tick has not come. -/
theorem State.commitNow_early {s : State} {e : Entry} (hc : 448 ≤ s.count) (ho : s.log.overflow = none)
    (hr : s.log.received = [e]) (hd : s.count < e.tick + 448) :
    s.commitNow = s.setCommitted (max s.log.committed (s.count - 448)) := by
  rw [State.commitNow_eq hc ho, State.commitLoop_early hr (by omega)]

end Sys2Proof.Machine

namespace Sys2Proof.Claim

open Sys2Proof.Machine

/-! ### What one entry written leaves -/

theorem EntryFits.marker {n code pay count : Nat} (hcode : code < 256) (hcount : count < 2 ^ 16) :
    EntryFits { tick := n, src := 2047, cls := 0, code, payload := pay, count, mark := true } :=
  ⟨(by decide : 0 < 16), (by decide : 2047 < 2 ^ 11), hcode, hcount⟩

theorem wrote_entry (s : State) {e : Entry} (h : EntryFits e) (hm : e.mark = false) :
    Wrote e [(F.EVT_PEND_CLASS, 0), (F.EVT_CLASS_CNT_COUNT, e.cls), (F.HIF_IRQ_SRC_LOG_HIGH, 0)] s (s.logWrite e) :=
  .of_noted h (State.logNoted_entry_moves _ hm h.cls)
    (by simp [F.EVT_PEND_CLASS, F.EVT_CLASS_CNT_COUNT, F.HIF_IRQ_SRC_LOG_HIGH])

theorem wrote_gap (s : State) {e : Entry} (h : EntryFits e) (hm : e.mark = true) (hc : e.code = 1) (hs : e.src = srcMarker) :
    Wrote e [(F.EVT_STATUS_GAP_SEEN, 0), (F.HIF_IRQ_SRC_LOG_HIGH, 0)] s (s.logWrite e) :=
  .of_noted h (State.logNoted_gap_moves _ hm hc hs) (by simp [F.EVT_STATUS_GAP_SEEN, F.HIF_IRQ_SRC_LOG_HIGH])

theorem wrote_marker (s : State) {e : Entry} (h : EntryFits e) (hm : e.mark = true) (hc : e.code ≠ 1) :
    Wrote e [(F.HIF_IRQ_SRC_LOG_HIGH, 0)] s (s.logWrite e) :=
  .of_noted h (State.logNoted_marker_moves _ hm hc) (by simp [F.HIF_IRQ_SRC_LOG_HIGH])

theorem Wrote.fget {e : Entry} {l : List (Fld × Nat)} {s t : State} (h : Wrote e l s t) {f : Fld} {u : Nat}
    (hw : f.reg ≠ .EVT_WIDX) (hf : ∀ x ∈ l, f.reg ≠ x.1.reg) : t.fget f u = s.fget f u :=
  h.flds f u (Listed.apart fun x hx => .inl ((List.mem_cons.1 hx).elim (fun hx => hx ▸ hw) (hf x)))

/-- The same from a state before it that differs in the listed fields and beside registers and memory. -/
theorem Wrote.from {e : Entry} {l l' : List (Fld × Nat)} {s u t : State} (h : Wrote e l' u t) (hu : FldsKeep (Listed l) s u)
    (hl : ∀ x ∈ l, Reg.EVT_WIDX ≠ x.1.reg) (hm : u.mem = s.mem) :
    Logged s t e ∧ FldsKeep (Listed ((F.EVT_WIDX_INDEX, 0) :: (l ++ l'))) s t := by
  have hw : s.reg .EVT_WIDX 0 = u.reg .EVT_WIDX 0 := (hu.reg fun _ _ hg => .inl (hl _ hg)).symm
  refine ⟨h.logged.congr hw hm.symm rfl rfl, (hu.mono fun _ _ hf => ?_).trans (h.flds.mono fun _ _ hf => ?_)⟩
  · exact List.mem_cons_of_mem _ (List.mem_append_left _ hf)
  · exact (List.mem_cons.1 hf).elim (fun hf => List.mem_cons.2 (.inl hf))
      fun hf => List.mem_cons_of_mem _ (List.mem_append_right _ hf)

/-! ### The log stands to write -/

section
variable {s : State} {tick : Nat} (h : LogOpen s tick)
include h

theorem LogOpen.overflow : s.log.overflow = none := by
  obtain ⟨ho, -, -, -⟩ := h
  exact ho

theorem LogOpen.lastHi : s.log.lastHi = some (tick / 2 ^ 48) := by
  obtain ⟨-, -, hhi, -⟩ := h
  exact hhi

theorem LogOpen.wrote : s.log.wrote = 0 := by
  obtain ⟨-, -, -, hw⟩ := h
  exact hw

theorem LogOpen.notFull : s.logFull = false := by
  obtain ⟨ho, hu, -, -⟩ := h
  simp [State.logFull, ho, hu]

end

/-- An entry of the epoch last written, while the log is not full, is written. -/
theorem logEntry_writes {s : State} {e : Entry} (hf : s.logFull = false) (hhi : s.log.lastHi = some (e.tick / 2 ^ 48)) :
    s.logEntry e = s.logWrite e := by
  simp [State.logEntry, hf, State.epochDue, hhi]

theorem LogOpen.logEntry {s : State} {e : Entry} (h : LogOpen s e.tick) : s.logEntry e = s.logWrite e :=
  logEntry_writes h.notFull h.lastHi

theorem LogOpen.of_regs {l : List (Fld × Nat)} {s u : State} {tick : Nat} (h : LogOpen s tick) (hu : RegsMove l s u)
    (hw : ∀ x ∈ l, Reg.EVT_WIDX ≠ x.1.reg) (hr : ∀ x ∈ l, Reg.EVT_RIDX ≠ x.1.reg) : LogOpen u tick := by
  unfold LogOpen
  rw [hu.log, hu.unconsumed hw hr]
  exact h

/-! ### LOG_COMMIT -/

/-- The commit at this edge writes the entry `e` once the state is `u`, and moves the listed fields. -/
structure CommitWrites (e : Entry) (l : List (Fld × Nat)) (s u : State) : Prop where
  eq : s.commitNow = (u.logWrite e).setCommitted (max s.log.committed (s.count - 448))
  logged : Logged s s.commitNow e
  flds : FldsKeep (Listed ((F.EVT_WIDX_INDEX, 0) :: l)) s s.commitNow
  received : s.commitNow.log.received = []
  lives : Lives s s.commitNow

theorem commitWrites {s : State} {e e' : Entry} {failed replaced : Bool} {l l' : List (Fld × Nat)} (hc : 448 ≤ s.count)
    (hr : s.log.received = [e]) (hd : e.tick + 448 ≤ s.count) (hlane : laneResult (s.count - 448) e = (e', failed, replaced))
    (ho : LogOpen s e'.tick)
    (hu : RegsMove l (s.setReceived []) (s.takenOff failed replaced))
    (hl : ∀ x ∈ l, Reg.EVT_WIDX ≠ x.1.reg ∧ Reg.EVT_RIDX ≠ x.1.reg)
    (hw : Wrote e' l' (s.takenOff failed replaced) ((s.takenOff failed replaced).logWrite e')) :
    CommitWrites e' (l ++ l') s (s.takenOff failed replaced) := by
  have hopen : LogOpen (s.takenOff failed replaced) e'.tick :=
    LogOpen.of_regs (s := s.setReceived []) ho hu (fun x hx => (hl x hx).1) fun x hx => (hl x hx).2
  have hwrites := hopen.logEntry
  have hlog : ((s.takenOff failed replaced).logWrite e').log.received = [] := by
    rw [hw.log, hu.log]
    rfl
  have hcommit := State.commitNow_one hc ho.overflow hr hd hlane (.inr ho.wrote) (by rw [hwrites]; exact hlog)
  generalize (s.takenOff failed replaced) = u at *
  have hframe : LogFrame s (u.logWrite e') := LogFrame.trans (t := s.setReceived []) rfl ((LogFrame.of_regs hu).trans hw.frame)
  have hmax : (u.logWrite e').log.committed = s.log.committed := by
    rw [hw.log, hu.log]
    rfl
  have heq : s.commitNow = (u.logWrite e').setCommitted (max s.log.committed (s.count - 448)) := by
    rw [hcommit, hwrites, hmax, hframe.count]
  obtain ⟨hlogged, hflds⟩ := hw.from (s := s) ((FldsKeep.ofRegs rfl rfl).trans hu.flds) (fun x hx => (hl x hx).1) hu.mem
  refine ⟨heq, ?_, ?_, ?_, ?_⟩
  · rw [heq]
    exact hlogged.congr rfl rfl rfl rfl
  · rw [heq]
    exact hflds.beside rfl rfl
  · rw [heq]
    exact hlog
  · rw [heq]
    exact hframe.lives

end Sys2Proof.Claim
end

section
/-!
LOG_COMMIT, LOG_OVERFLOW_GAP and LOG_READY: what reaches the log and where it stands there (R443, R453, R455, R457, R458,
R462–R464, R498).
-/

namespace Sys2Proof.Claim

open Sys2Proof.Machine

/-- A command of the log that waits for the log to be ready, in a log that is. -/
theorem runs_ready {c : Instr} {s : State} {P : State → Prop} {f : State → State}
    (hc : exec c s = s.act fun s => s.iff s.logReady f) (hp : s.por = false) (hr : s.logReady = true) (hl : Lives s (f s))
    (h : P (f s)) : Runs c s P := by
  have he : s.iff s.logReady f = f s := by
    rw [hr]
    rfl
  exact Runs.of_act hc hp (by rw [he]; exact hl) (by rw [he]; exact h)

/-- What the checks of the network make of an entry that is written as it is (R498). -/
theorem laneResult_kept (n : Nat) {e : Entry} (hm : e.mark = false) (h : e.lane = .good ∨ (e.lane = .one ∧ e.cls = 0)) :
    laneResult n e = (e, e.lane != .good, false) := by
  rcases h with h | ⟨h, hcls⟩
  · simp [laneResult, h]
  · simp [laneResult, h, hcls, hm]

/-- The GAP marker that replaces an entry at the commit of a tick (R498). -/
def replacing (n : Nat) : Entry := { tick := n, src := 2047, cls := 0, code := 1, payload := 0, mark := true }

theorem laneResult_replaced (n : Nat) {e : Entry} (h : e.lane = .both ∨ (e.lane = .one ∧ e.cls ≠ 0)) :
    laneResult n e = (replacing n, true, true) := by
  rcases h with h | ⟨h, hcls⟩
  · simp [laneResult, h, replacing, srcMarker]
  · simp [laneResult, h, hcls, replacing, srcMarker]

/-- The fields of a failed lane. -/
def laneFields (lane : Lane) : List (Fld × Nat) :=
  if lane = .good then [] else [(F.STN_DEP_STATUS_EVT_LANE, 0), (F.STN_DEP_CNT_EVT_CORR, 0)]

theorem laneFields_moves (s : State) (lane : Lane) :
    RegsMove (laneFields lane) (s.setReceived []) (s.takenOff (lane != .good) false) := by
  unfold laneFields
  by_cases h : lane = .good
  · rw [if_pos h, h]
    exact RegsMove.refl _ _
  · rw [if_neg h, bne_iff_ne.2 h]
    exact State.laneCount_moves _

theorem laneFields_apart (lane : Lane) {r : Reg} (h1 : r ≠ .STN_DEP_STATUS) (h2 : r ≠ .STN_DEP_CNT) :
    ∀ x ∈ laneFields lane, r ≠ x.1.reg := by
  unfold laneFields
  split
  · simp
  · simp [h1, h2, F.STN_DEP_STATUS_EVT_LANE, F.STN_DEP_CNT_EVT_CORR]

section
variable {s : State} {e : Entry} (hc : 448 ≤ s.count) (hr : s.log.received = [e]) (hd : e.tick + 448 ≤ s.count)
include hc hr hd

/-- The entry is written as it is. -/
theorem commit_writes (hfit : EntryFits e) (hm : e.mark = false) (ho : LogOpen s e.tick)
    (hlane : e.lane = .good ∨ (e.lane = .one ∧ e.cls = 0)) :
    let t := s.commitNow
    Lives s t ∧ Logged s t e ∧ t.log.received = [] ∧ (t.fget F.EVT_PEND_CLASS 0).testBit e.cls = true ∧
      t.fget F.EVT_CLASS_CNT_COUNT e.cls = (s.fget F.EVT_CLASS_CNT_COUNT e.cls + 1) % 2 ^ 32 ∧
      t.log.committed = max s.log.committed (s.count - 448) ∧
      (e.lane = .one → t.on F.STN_DEP_STATUS_EVT_LANE 0 = true ∧
        t.fget F.STN_DEP_CNT_EVT_CORR 0 = satU F.STN_DEP_CNT_EVT_CORR.w (s.fget F.STN_DEP_CNT_EVT_CORR 0 + 1)) ∧
      BitsKeep s t (fields (logFields e.cls ++ laneFields e.lane)) := by
  have hu := laneFields_moves s e.lane
  have hw := wrote_entry (s.takenOff (e.lane != .good) false) hfit hm
  obtain ⟨heq, hlogged, hflds, hreceived, hlives⟩ := commitWrites hc hr hd (laneResult_kept _ hm hlane) ho hu
    (fun x hx => ⟨laneFields_apart _ (by decide) (by decide) x hx, laneFields_apart _ (by decide) (by decide) x hx⟩) hw
  refine ⟨hlives, hlogged, hreceived, ?_, ?_, ?_, fun hone => ?_, ?_⟩
  · rw [heq]
    exact State.pend_logWrite _ hm hfit.cls
  · rw [heq]
    refine (State.classCnt_logWrite _ hm hfit.cls).trans ?_
    rw [hu.fget (laneFields_apart _ (by decide) (by decide))]
    rfl
  · rw [heq]
    rfl
  · rw [heq]
    obtain ⟨hon, hcorr⟩ := State.lane_laneCount (s.setReceived [])
    rw [hone] at hw ⊢
    refine ⟨(State.on_congr (hw.fget (by decide) ?_)).trans hon, (hw.fget (by decide) ?_).trans hcorr⟩
    · simp [F.STN_DEP_STATUS_EVT_LANE, F.EVT_PEND_CLASS, F.EVT_CLASS_CNT_COUNT, F.HIF_IRQ_SRC_LOG_HIGH]
    · simp [F.STN_DEP_CNT_EVT_CORR, F.EVT_PEND_CLASS, F.EVT_CLASS_CNT_COUNT, F.HIF_IRQ_SRC_LOG_HIGH]
  · refine (hflds.mono fun f u hf => ?_).bitsKeep
    simp only [Listed, logFields, List.mem_cons, List.mem_append, List.not_mem_nil, or_false] at hf ⊢
    tauto

/-- A GAP marker stands in the entry's place. -/
theorem commit_replaces (ho : LogOpen s (s.count - 448)) (hlane : e.lane = .both ∨ (e.lane = .one ∧ e.cls ≠ 0)) :
    let t := s.commitNow
    Lives s t ∧ Logged s t (replacing (s.count - 448)) ∧ t.log.received = [] ∧ t.on F.STN_DEP_STATUS_EVT_LANE 0 = true ∧
      t.on F.EVT_STATUS_GAP_SEEN 0 = true ∧ t.fget F.EVT_PEND_CLASS 0 = s.fget F.EVT_PEND_CLASS 0 ∧
      t.fget F.EVT_LOST_COUNT 0 = satU F.EVT_LOST_COUNT.w (s.fget F.EVT_LOST_COUNT 0 + 1) := by
  have hlane' : RegsMove _ (s.setReceived []) (s.takenOff true false) := State.laneCount_moves _
  have hu : RegsMove [(F.STN_DEP_STATUS_EVT_LANE, 0), (F.STN_DEP_CNT_EVT_CORR, 0), (F.EVT_LOST_COUNT, 0)] (s.setReceived [])
      (s.takenOff true true) :=
    (hlane'.mono (by simp)).fset _ (by simp)
  have hw := wrote_gap (s.takenOff true true) (e := replacing (s.count - 448))
    (.marker (by decide) (by decide)) rfl rfl rfl
  obtain ⟨heq, hlogged, hflds, hreceived, hlives⟩ := commitWrites hc hr hd (laneResult_replaced _ hlane) ho hu (by decide) hw
  refine ⟨hlives, hlogged, hreceived, ?_, ?_, ?_, ?_⟩
  · rw [heq]
    refine (State.on_congr (hw.fget (by decide) (by decide))).trans ?_
    rw [State.takenOff_replaced]
    exact (State.on_congr (State.fget_fset_ne _ _ _ _ _ _ (.inl (by decide)))).trans (State.lane_laneCount (s.setReceived [])).1
  · rw [heq]
    exact State.gapSeen_logWrite _ rfl rfl rfl
  · exact hflds _ _ (Listed.apart fun x hx => .inl (by revert x; decide))
  · rw [heq]
    refine (hw.fget (f := F.EVT_LOST_COUNT) (u := 0) (by decide) (by decide)).trans ?_
    rw [State.takenOff_replaced, State.fget_faddSat_same _ _ _ _ (by decide), hlane'.fget (by decide)]
    rfl

end

/-- LOG_COMMIT of one entry. -/
theorem logCommits (s : State) (e : Entry) : LogCommits s e := by
  intro hp hready hc hr hcls hsrc hcode hcount _ hm
  refine ⟨fun hearly ho => ?_, fun hd ho hlane => ?_, fun hd ho hlane => ?_⟩
  · have heq := State.commitNow_early hc ho hr hearly
    exact runs_ready rfl hp hready (by rw [heq]; exact ⟨rfl, rfl, rfl⟩) heq
  · obtain ⟨hlives, h⟩ := commit_writes hc hr hd ⟨hcls, hsrc, hcode, hcount⟩ hm ho hlane
    exact runs_ready rfl hp hready hlives h
  · obtain ⟨hlives, h⟩ := commit_replaces hc hr hd ho hlane
    exact runs_ready rfl hp hready hlives h

end Sys2Proof.Claim

namespace Sys2Proof.Machine

/-- What the discard of an entry counts and marks. -/
def State.discardNoted (s : State) (e : Entry) : State :=
  (s.faddSat F.EVT_LOST_COUNT 0 1).setBits F.EVT_PEND_CLASS 0 (2 ^ (e.cls % 16))

theorem State.discardNoted_moves (s : State) (e : Entry) :
    RegsMove [(F.EVT_LOST_COUNT, 0), (F.EVT_PEND_CLASS, 0)] s (s.discardNoted e) :=
  ((RegsMove.refl _ s).fset _ (by simp)).setBits _ (by simp)

theorem State.lost_discardNoted (s : State) (e : Entry) :
    (s.discardNoted e).fget F.EVT_LOST_COUNT 0 = satU F.EVT_LOST_COUNT.w (s.fget F.EVT_LOST_COUNT 0 + 1) :=
  (((RegsMove.refl [(F.EVT_PEND_CLASS, 0)] _).setBits _ (by simp)).fget (by decide)).trans
    (State.fget_faddSat_same s _ _ _ (by decide))

theorem State.pend_discardNoted (s : State) {e : Entry} (h : e.cls < 16) :
    ((s.discardNoted e).fget F.EVT_PEND_CLASS 0).testBit e.cls = true := by
  unfold State.discardNoted
  rw [Nat.mod_eq_of_lt h]
  exact State.testBit_setBits _ 0 (by decide) h

/-- The first discard of an overflow (R457, R462). -/
theorem State.logDiscard_first {s : State} {e : Entry} (ho : s.log.overflow = none) (hm : e.mark = false) :
    s.logDiscard e = { s.discardNoted e with log := { s.log with overflow := some (e.tick, 1, e.count) } } := by
  have hlog : ((s.faddSat F.EVT_LOST_COUNT 0 1).setBits F.EVT_PEND_CLASS 0 (2 ^ (e.cls % 16))).log = s.log := rfl
  unfold State.logDiscard State.discardNoted
  simp only [hm, Bool.false_eq_true, if_false, hlog, ho]

theorem State.logEntry_discards {s : State} (e : Entry) (h : s.logFull = true) : s.logEntry e = s.logDiscard e := by
  simp [State.logEntry, h]

/-- The state with another overflow to tell of. -/
def State.setOverflow (s : State) (o : Option (Nat × Nat × Nat)) : State := { s with log := { s.log with overflow := o } }

/-- The marker of an overflow: the first tick discarded, the entries discarded and the sum of their counts. -/
def overflowMarker (at_ n c : Nat) : Entry :=
  { tick := at_, src := srcMarker, cls := 0, code := 1, payload := satU 32 c, count := min 65535 n, mark := true }

theorem State.logResume_tells {s : State} {at_ n c : Nat} (ho : s.log.overflow = some (at_, n, c)) (hu : s.unconsumed ≤ 3072) :
    s.logResume = (s.setOverflow none).logEntry (overflowMarker at_ n c) := by
  unfold State.logResume
  simp only [ho, hu, if_true]
  rfl

theorem State.logResume_waits {s : State} (h : s.log.overflow = none ∨ 3072 < s.unconsumed) : s.logResume = s := by
  unfold State.logResume
  split
  next at_ n c ho =>
    rw [ho] at h
    exact if_neg (by simpa using h)
  next => rfl

/-- The state with the log up. -/
def State.setUp (s : State) : State := { s with log := { s.log with up := true } }

/-- The state with other recovery causes kept. -/
def State.setRecover (s : State) (l : List (Nat × List Entry)) : State := { s with log := { s.log with recover := l } }

theorem State.recoverKept_nil {s : State} (h : s.log.recover = []) : s.recoverKept = s := by
  have hs : s.setRecover [] = s := by
    unfold State.setRecover
    rw [← h]
  unfold State.recoverKept
  rw [h]
  exact hs

/-- The marker of a recovery at the tick after `n`. -/
def recoveryMarker (n cause : Nat) : Entry :=
  { tick := n, src := srcMarker, cls := 0, code := 2, payload := cause, mark := true }

/-- A recovery with nothing received and nothing ahead of its marker. -/
theorem State.recoverKept_one {s : State} {cause : Nat} (hc : s.log.recover = [(cause, [])]) (hr : s.log.received = []) :
    let t := (s.setRecover []).logEntry (recoveryMarker (s.count - 1) cause)
    s.recoverKept = t.setCommitted (t.count - 1) := by
  have hloop := State.commitLoop_nil none ((s.setRecover []).log.received.length + 1) (s.setRecover []) hr
  unfold State.recoverKept
  rw [hc]
  show (s.setRecover []).recoverNow cause [] = _
  unfold State.recoverNow
  rw [hloop]
  rfl

theorem State.applyReady_idle {s : State} (h : s.shadow = []) : s.applyReady = s := by
  have hs : { s with shadow := ([] : List Shadow) } = s := by rw [← h]
  unfold State.applyReady State.applyShadows
  rw [h]
  exact hs

theorem State.act_congr {s : State} {f g : State → State} (h : f s = g s) : s.act f = s.act g := by
  unfold State.act
  rw [h]

/-- What LOG_READY does when its moment has come and no shadowed write waits. -/
def State.upNow (s : State) : State := if s.on F.EVT_CTRL_EN 0 then s.setUp.recoverKept else s.setUp

end Sys2Proof.Machine

namespace Sys2Proof.Claim

open Sys2Proof.Machine

/-! ### An overflow (R457, R462) -/

theorem only_setLog {l : List (Fld × Nat)} {s u : State} (h : RegsMove l s u) (g : Log) :
    Only { s with log := g } { u with log := g } l := by
  refine ⟨FldsKeep.bitsKeep (((FldsKeep.ofRegs rfl rfl).trans h.flds).beside rfl rfl), ?_⟩
  have e := h.rest
  rw [e]

/-- The entry due is discarded and counted. -/
theorem commit_discards {s : State} {e : Entry} (hc : 448 ≤ s.count) (hr : s.log.received = [e]) (hd : e.tick + 448 ≤ s.count)
    (hm : e.mark = false) (hlane : e.lane = .good) (hcls : e.cls < 16) (ho : s.log.overflow = none)
    (hfull : 4095 ≤ s.unconsumed) :
    let t := s.commitNow
    Lives s t ∧ t.log.overflow = some (e.tick, 1, e.count) ∧ t.reg .EVT_WIDX 0 = s.reg .EVT_WIDX 0 ∧
      t.fget F.EVT_LOST_COUNT 0 = satU F.EVT_LOST_COUNT.w (s.fget F.EVT_LOST_COUNT 0 + 1) ∧
      (t.fget F.EVT_PEND_CLASS 0).testBit e.cls = true ∧
      Only { s with log := t.log } t [(F.EVT_LOST_COUNT, 0), (F.EVT_PEND_CLASS, 0)] := by
  have hkept : laneResult (s.count - 448) e = (e, false, false) := by
    rw [laneResult_kept _ hm (.inl hlane), hlane]
    rfl
  have hisFull (r : State) (h : r.unconsumed = s.unconsumed) : r.logFull = true := by simp [State.logFull, h, hfull]
  have hfirst := (State.logEntry_discards e (hisFull (s.setReceived []) rfl)).trans (State.logDiscard_first ho hm)
  have heq := State.commitNow_one hc ho hr hd hkept (.inl (hisFull s rfl))
    ((congrArg (·.log.received) hfirst).trans rfl)
  rw [State.takenOff_good, hfirst] at heq
  have hmoves := State.discardNoted_moves (s.setReceived []) e
  have hlost := State.lost_discardNoted (s.setReceived []) e
  have hpend := State.pend_discardNoted (s.setReceived []) hcls
  generalize (s.setReceived []).discardNoted e = u at *
  rw [heq]
  have hframe : LogFrame s u := LogFrame.trans (t := s.setReceived []) rfl (.of_regs hmoves)
  exact ⟨hframe.lives, rfl, hmoves.reg (by decide), hlost, hpend, only_setLog hmoves _⟩

/-- LOG_COMMIT and LOG_OVERFLOW_GAP while and after the log is full. -/
theorem overflow (s : State) (e : Entry) (at_ n c : Nat) : Overflow s e at_ n c := by
  intro hp hready
  refine ⟨fun hc hr hm hlane hcls hd ho hfull => ?_, fun ho hu hhi => ?_, fun h => ?_⟩
  · obtain ⟨hlives, h⟩ := commit_discards hc hr hd hm hlane hcls ho hfull
    exact runs_ready rfl hp hready hlives h
  · have hnotFull : (s.setOverflow none).logFull = false := by
      have hroom : (s.setOverflow none).unconsumed < 4095 := show s.unconsumed < 4095 by omega
      have hnone : (s.setOverflow none).log.overflow = none := rfl
      simp [State.logFull, hnone, hroom]
    have heq : s.logResume = (s.setOverflow none).logWrite (overflowMarker at_ n c) :=
      (State.logResume_tells ho hu).trans (logEntry_writes hnotFull hhi)
    have hw := wrote_gap (s.setOverflow none) (e := overflowMarker at_ n c) (.marker (by decide) (by omega)) rfl rfl rfl
    obtain ⟨hlogged, hflds⟩ := hw.from (s := s) (l := []) (FldsKeep.ofRegs rfl rfl) (by simp) rfl
    refine runs_ready rfl hp hready (by rw [heq]; exact (LogFrame.trans (t := s.setOverflow none) rfl hw.frame).lives) ?_
    rw [heq]
    refine ⟨hlogged, by rw [hw.log]; rfl, State.gapSeen_logWrite _ rfl rfl rfl, hflds.bitsKeep⟩
  · have heq := State.logResume_waits h
    exact runs_ready rfl hp hready (by rw [heq]; exact ⟨rfl, rfl, rfl⟩) heq

/-! ### The log becomes ready (R455) -/

theorem exec_logReady {s : State} (hl : s.stn.locked = true) (he : 4096 ≤ s.stn.elapsed) (hu : s.log.up = false)
    (hs : s.shadow = []) : exec .logReady s = s.act State.upNow := by
  have hidle : s.setUp.applyReady = s.setUp := State.applyReady_idle hs
  have hdue : (s.stn.locked && s.stn.elapsed ≥ 4096 && !s.log.up) = true := by simp [hl, he, hu]
  refine State.act_congr ((if_pos hdue).trans ?_)
  show (if s.setUp.applyReady.on F.EVT_CTRL_EN 0 then s.setUp.applyReady.recoverKept else s.setUp.applyReady) = _
  rw [hidle]
  rfl

theorem upNow_idle {s : State} (h : s.on F.EVT_CTRL_EN 0 = false ∨ s.log.recover = []) : s.upNow = s.setUp := by
  unfold State.upNow
  split
  next hen =>
    rw [hen] at h
    exact State.recoverKept_nil (s := s.setUp) (h.resolve_left (by decide))
  next => rfl

theorem upNow_recovers {s : State} {cause : Nat} (hen : s.on F.EVT_CTRL_EN 0 = true) (hc : s.log.recover = [(cause, [])])
    (hr : s.log.received = []) (ho : LogOpen s (s.count - 1)) :
    Lives s s.upNow ∧ Recovered s s.upNow cause ∧ s.upNow.log.up = true ∧ s.upNow.log.recover = [] := by
  have hwrites : (s.setUp.setRecover []).logEntry (recoveryMarker (s.count - 1) cause) =
      (s.setUp.setRecover []).logWrite (recoveryMarker (s.count - 1) cause) :=
    LogOpen.logEntry (s := s.setUp.setRecover []) ho
  have hw := wrote_marker (s.setUp.setRecover []) (e := recoveryMarker (s.count - 1) cause)
    (.marker (by decide) (by decide)) rfl (show 2 ≠ 1 by decide)
  have hkept := State.recoverKept_one (s := s.setUp) hc hr
  have heq : s.upNow = _ := (if_pos hen).trans hkept
  rw [show s.setUp.count = s.count from rfl, hwrites] at heq
  obtain ⟨hlogged, -⟩ := hw.from (s := s) (l := []) (FldsKeep.ofRegs rfl rfl) (by simp) rfl
  have hframe : LogFrame s _ := LogFrame.trans (t := s.setUp.setRecover []) rfl hw.frame
  have hlog := hw.log
  generalize (s.setUp.setRecover []).logWrite (recoveryMarker (s.count - 1) cause) = u at *
  rw [heq]
  refine ⟨hframe.lives, ⟨hlogged.congr rfl rfl rfl rfl, ?_⟩, ?_, ?_⟩
  · rw [hframe.count]
    rfl
  · show u.log.up = true
    rw [hlog]
    rfl
  · show u.log.recover = []
    rw [hlog]
    rfl

/-- LOG_READY. -/
theorem logReady (s : State) (cause : Nat) : Claim.LogReady s cause := by
  intro hp hl he hu hs
  refine ⟨fun h => ?_, fun hen hrec _ hreceived ho => ?_⟩
  · have heq := upNow_idle h
    exact Runs.of_act (exec_logReady hl he hu hs) hp (by rw [heq]; exact ⟨rfl, rfl, rfl⟩) heq
  · obtain ⟨hlives, h⟩ := upNow_recovers hen hrec hreceived ho
    exact Runs.of_act (exec_logReady hl he hu hs) hp hlives h

/-- Settles O53: LOG_COMMIT writes the one entry due, or the GAP marker that replaces it, at EVT_WIDX; while the log is full
the entry is discarded and counted, and one marker tells of the overflow; LOG_READY writes the marker of a cause kept. -/
theorem eventLogWrites : Obligations.EventLogWrites := fun s e at_ n c cause =>
  ⟨logCommits s e, overflow s e at_ n c, logReady s cause⟩

end Sys2Proof.Claim
end

section
/-!
The GAP marker of a source (R451, R456): the claim's clause writes the marker out as one that no hard alignment overtook, and does
not ask that the discards it tells of be stamped after the last one (R83, R458).
-/

namespace Sys2Proof.Machine

theorem Source.gen_placeGap {o : Source} {at_ n : Nat} (src : Nat) (held : Bool) (hg : o.gap = some (at_, n))
    (hr : o.gen.length < 6) :
    (o.placeGap src held).gen = o.gen ++
      [{ tick := at_, src, cls := 0, code := 1, payload := satU 32 n, count := min 65535 n, mark := true, held
         stale := o.gapStale }] := by
  simp [Source.placeGap, hg, hr]

/-- Source 5 of a running die discarded a posting at tick 900, its places are free, and a hard alignment has come since. -/
def overtakenGap : State :=
  ({ State.reset with
      por := false
      stn := { locked := true, cntA := 1000, cntB := 1000, cntC := 1000, elapsed := 1000 }
      log := { srcs := [(5, { gap := some (900, 1), lost := 1 })] } } : State).staleSources

theorem overtakenGap_live : overtakenGap.por = false ∧ (overtakenGap.source 5).gap = some (900, 1) ∧
    (overtakenGap.source 5).gen = [] ∧ (overtakenGap.source 5).gapStale = true := by decide +kernel

end Sys2Proof.Machine

namespace Sys2Proof.Claim

open Sys2Proof.Machine

/-- What SOURCE_GAP_MARKER answers with has the source that the placing of its marker leaves. -/
theorem source_of_sourceGapMarker {s t : State} (src : Nat) (hp : s.por = false) (h : exec (.sourceGapMarker src) s = .next t) :
    t.source src = (s.source src).placeGap src (!s.logReady) := by
  replace h : s.act (fun s => s.setSource src ((s.source src).placeGap src (!s.logReady))) = .next t := h
  rw [State.act_live _ _ hp] at h
  injection h with h
  rw [← h]
  exact State.source_setSource_same s src _

/-- The clause holds only of a gap that no hard alignment overtook. -/
theorem GapMarker.not_stale {s : State} {src at_ n : Nat} (h : GapMarker s src at_ n) (hp : s.por = false)
    (hg : (s.source src).gap = some (at_, n)) (hr : (s.source src).gen.length < 6) : (s.source src).gapStale = false := by
  obtain ⟨t, ht, hplaced, -⟩ := h hp hg
  obtain ⟨-, hgen, -⟩ := hplaced hr
  rw [source_of_sourceGapMarker src hp ht, Source.gen_placeGap src _ hg hr] at hgen
  have hmarker := List.singleton_inj.1 (List.append_cancel_left hgen)
  exact congrArg Entry.stale hmarker

/-- Refutes O52: SOURCE_GAP_MARKER's clause fixes every field of the marker, with `stale` false. A marker for a discard stamped
before a hard alignment that came since takes its place marked stale, so that it arrives DELAYED (R83, R458). -/
theorem not_eventSources : ¬ Obligations.EventSources := by
  unfold Obligations.EventSources
  intro claim
  obtain ⟨hpor, hgap, hgen, hstale⟩ := overtakenGap_live
  obtain ⟨-, hmarker, -⟩ := claim overtakenGap 5 0 0 0 900 1 { tick := 0, src := 5, cls := 0, code := 0, payload := 0 } .good []
  have hfresh := hmarker.not_stale hpor hgap (by rw [hgen]; decide)
  rw [hstale] at hfresh
  exact Bool.noConfusion hfresh

end Sys2Proof.Claim
end

section
/-!
SUPPORT. The APB target's error on an unmapped range (R511), and what the AXI manager records of an error response and of a
transaction beyond 2⁴⁰ (R531, R532).
-/

namespace Sys2Proof.Machine

/-! ### Reading beside a flag that hardware sets -/

theorem State.fget_setFlag_apart (s : State) {f g : Fld} {u w : Nat} (h : g.Apart w f u) :
    (s.setFlag f u).fget g w = s.fget g w := State.fget_fset_apart s (s.fget f u ||| 1) h

theorem State.on_setFlag_apart (s : State) {f g : Fld} {u w : Nat} (h : g.Apart w f u) : (s.setFlag f u).on g w = s.on g w :=
  State.on_congr (State.fget_setFlag_apart s h)

/-! ### An access to an unmapped range (R511) -/

/-- The fields of an access that the APB target answers with an error. -/
def apbErrFields : List (Fld × Nat) :=
  [(F.HIF_APB_ERR_ADDR, 0), (F.HIF_APB_ERR_WRITE, 0), (F.HIF_APB_ERR_COUNT, 0), (F.HIF_IRQ_SRC_APB_ERR, 0)]

/-- The error as the registers hold it. -/
def State.apbNoted (s : State) (a : Nat) (write : Bool) : State :=
  (((s.fset F.HIF_APB_ERR_ADDR 0 (a % 2 ^ 20)).fset F.HIF_APB_ERR_WRITE 0 write.toNat).faddSat F.HIF_APB_ERR_COUNT 0 1).setFlag
    F.HIF_IRQ_SRC_APB_ERR 0

theorem State.apbUnmapped_eq (s : State) (a : Nat) (write : Bool) : s.apbUnmapped a write =
    { s.apbNoted a write with apb := { rdata := if write then s.apb.rdata else 0, slverr := true } } := rfl

theorem State.apbNoted_moves (s : State) (a : Nat) (write : Bool) : RegsMove apbErrFields s (s.apbNoted a write) :=
  ((((RegsMove.refl _ s).fset (f := F.HIF_APB_ERR_ADDR) _ (by simp [apbErrFields])).fset (f := F.HIF_APB_ERR_WRITE) _
    (by simp [apbErrFields])).fset (f := F.HIF_APB_ERR_COUNT) _ (by simp [apbErrFields])).setFlag (by simp [apbErrFields])

theorem State.apbNoted_shows (s : State) (a : Nat) (write : Bool) : let t := s.apbNoted a write
    t.fget F.HIF_APB_ERR_ADDR 0 = a % 2 ^ 20 ∧ t.on F.HIF_APB_ERR_WRITE 0 = write ∧
      t.fget F.HIF_APB_ERR_COUNT 0 = satU F.HIF_APB_ERR_COUNT.w (s.fget F.HIF_APB_ERR_COUNT 0 + 1) ∧
      t.on F.HIF_IRQ_SRC_APB_ERR 0 = true := by
  intro t
  have haddr : t.fget F.HIF_APB_ERR_ADDR 0 = (s.fset F.HIF_APB_ERR_ADDR 0 (a % 2 ^ 20)).fget F.HIF_APB_ERR_ADDR 0 :=
    (State.fget_setFlag_apart _ (.inl (by decide))).trans
      ((State.fget_fset_apart _ _ (.inr (.inr (by decide)))).trans (State.fget_fset_apart _ _ (.inr (.inr (by decide)))))
  have hwrite : t.on F.HIF_APB_ERR_WRITE 0 = (State.fsetB _ F.HIF_APB_ERR_WRITE 0 write).on F.HIF_APB_ERR_WRITE 0 :=
    State.on_congr ((State.fget_setFlag_apart _ (.inl (by decide))).trans (State.fget_fset_apart _ _ (.inr (.inr (by decide)))))
  have hcount : ((s.fset F.HIF_APB_ERR_ADDR 0 (a % 2 ^ 20)).fset F.HIF_APB_ERR_WRITE 0 write.toNat).fget F.HIF_APB_ERR_COUNT 0 =
      s.fget F.HIF_APB_ERR_COUNT 0 :=
    (State.fget_fset_apart _ _ (.inr (.inr (by decide)))).trans (State.fget_fset_apart _ _ (.inr (.inr (by decide))))
  refine ⟨haddr.trans (State.fget_fset_fits _ _ _ (by decide) (Nat.mod_lt _ (by decide))),
    hwrite.trans (State.on_fsetB _ _ _ _ rfl (by decide)), ?_, State.on_setFlag _ _ _ rfl (by decide)⟩
  rw [← hcount]
  exact (State.fget_setFlag_apart _ (.inl (by decide))).trans (State.fget_faddSat _ _ _ _ (by decide))

/-! ### What the AXI manager records (R531, R532) -/

/-- The fields of an error response. -/
def axiErrFields : List (Fld × Nat) :=
  [(F.HIF_AXI_STATUS_ERR_SEEN, 0), (F.HIF_AXI_STATUS_LAST_RESP, 0), (F.HIF_AXI_STATUS_LAST_USER, 0), (F.HIF_IRQ_SRC_AXI_ERR, 0)]

theorem State.axiRecord_eq (s : State) (user : Nat) {resp : AxiResp} (h : resp ≠ .okay) : s.axiRecord user resp =
    (((s.setFlag F.HIF_AXI_STATUS_ERR_SEEN 0).fset F.HIF_AXI_STATUS_LAST_RESP 0 (if resp = .slverr then 2 else 3)).fset
      F.HIF_AXI_STATUS_LAST_USER 0 user).setFlag F.HIF_IRQ_SRC_AXI_ERR 0 := by
  cases resp with
  | okay => exact absurd rfl h
  | slverr => rfl
  | decerr => rfl

theorem State.axiRecord_moves (s : State) (user : Nat) {resp : AxiResp} (h : resp ≠ .okay) :
    RegsMove axiErrFields s (s.axiRecord user resp) := by
  rw [State.axiRecord_eq s user h]
  exact ((((RegsMove.refl _ s).setFlag (f := F.HIF_AXI_STATUS_ERR_SEEN) (by simp [axiErrFields])).fset
    (f := F.HIF_AXI_STATUS_LAST_RESP) _ (by simp [axiErrFields])).fset (f := F.HIF_AXI_STATUS_LAST_USER) _
    (by simp [axiErrFields])).setFlag (by simp [axiErrFields])

/-- The response, its user and the host's interrupt source can be read. -/
structure AxiErrSeen (t : State) (user : Nat) (resp : AxiResp) : Prop where
  seen : t.on F.HIF_AXI_STATUS_ERR_SEEN 0 = true
  resp : t.fget F.HIF_AXI_STATUS_LAST_RESP 0 = if resp = .slverr then 2 else 3
  user : t.fget F.HIF_AXI_STATUS_LAST_USER 0 = user
  irq : t.on F.HIF_IRQ_SRC_AXI_ERR 0 = true

/-- They can be read as long as those fields keep their values. -/
theorem AxiErrSeen.congr {s t : State} {user : Nat} {resp : AxiResp} (h : AxiErrSeen s user resp)
    (hf : ∀ x ∈ axiErrFields, t.fget x.1 0 = s.fget x.1 0) : AxiErrSeen t user resp where
  seen := (State.on_congr (hf (F.HIF_AXI_STATUS_ERR_SEEN, 0) (by simp [axiErrFields]))).trans h.seen
  resp := (hf (F.HIF_AXI_STATUS_LAST_RESP, 0) (by simp [axiErrFields])).trans h.resp
  user := (hf (F.HIF_AXI_STATUS_LAST_USER, 0) (by simp [axiErrFields])).trans h.user
  irq := (State.on_congr (hf (F.HIF_IRQ_SRC_AXI_ERR, 0) (by simp [axiErrFields]))).trans h.irq

theorem State.axiRecord_seen (s : State) {user : Nat} {resp : AxiResp} (h : resp ≠ .okay) (hu : user < 8) :
    AxiErrSeen (s.axiRecord user resp) user resp := by
  rw [State.axiRecord_eq s user h]
  refine ⟨?_, ?_, ?_, State.on_setFlag _ _ _ rfl (by decide)⟩
  · exact (State.on_setFlag_apart _ (.inl (by decide))).trans ((State.on_congr
      ((State.fget_fset_apart _ _ (.inr (.inr (by decide)))).trans (State.fget_fset_apart _ _ (.inr (.inr (by decide)))))).trans
      (State.on_setFlag s _ _ rfl (by decide)))
  · refine (State.fget_setFlag_apart _ (.inl (by decide))).trans ((State.fget_fset_apart _ _ (.inr (.inr (by decide)))).trans
      (State.fget_fset_fits _ _ _ (by decide) ?_))
    split <;> decide
  · exact (State.fget_setFlag_apart _ (.inl (by decide))).trans (State.fget_fset_fits _ _ _ (by decide) hu)

/-- The fields of a transaction that would pass 2⁴⁰. -/
def axiRangeFields : List (Fld × Nat) :=
  [(F.HIF_AXI_STATUS_RANGE, 0), (F.HIF_AXI_STATUS_LAST_USER, 0), (F.HIF_IRQ_SRC_AXI_ERR, 0)]

theorem State.axiRange_moves (s : State) (user : Nat) : RegsMove axiRangeFields s (s.axiRange user) :=
  (((RegsMove.refl _ s).setFlag (f := F.HIF_AXI_STATUS_RANGE) (by simp [axiRangeFields])).fset
    (f := F.HIF_AXI_STATUS_LAST_USER) _ (by simp [axiRangeFields])).setFlag (by simp [axiRangeFields])

theorem State.axiRange_shows (s : State) {user : Nat} (hu : user < 8) : let t := s.axiRange user
    t.on F.HIF_AXI_STATUS_RANGE 0 = true ∧ t.fget F.HIF_AXI_STATUS_LAST_USER 0 = user ∧ t.on F.HIF_IRQ_SRC_AXI_ERR 0 = true :=
  ⟨(State.on_setFlag_apart _ (.inl (by decide))).trans
      ((State.on_congr (State.fget_fset_apart _ _ (.inr (.inr (by decide))))).trans (State.on_setFlag s _ _ rfl (by decide))),
    (State.fget_setFlag_apart _ (.inl (by decide))).trans (State.fget_fset_fits _ _ _ (by decide) hu),
    State.on_setFlag _ _ _ rfl (by decide)⟩

/-! ### An error response to a transfer of an image (R278, R281, R532) -/

/-- The operation marked with the tile transferred last, or one marked before. -/
def ImgOp.marked (o : ImgOp) (tiles : Nat) : ImgOp :=
  if o.pos = 0 ∨ o.loaded.isSome then o else { o with err := some (o.err.getD ((o.pos - 1) % tiles)) }

theorem ImgOp.marked_of_sent {o : ImgOp} (tiles : Nat) (hp : o.pos ≠ 0) (hl : o.loaded = none) :
    o.marked tiles = { o with err := some (o.err.getD ((o.pos - 1) % tiles)) } := by
  simp [ImgOp.marked, hp, hl]

/-- The save or the restore in progress, marked. -/
def Cal.marked (c : Cal) (tiles : Nat) : Cal :=
  { c with save := c.save.map (ImgOp.marked · tiles), restore := c.restore.map (ImgOp.marked · tiles) }

theorem State.imgError_eq (s : State) : s.imgError = { s with cal := s.cal.marked s.build.imgTiles } := rfl

/-- With no operation in progress nothing is marked. -/
theorem Cal.marked_of_none {c : Cal} (tiles : Nat) (hs : c.save = none) (hr : c.restore = none) : c.marked tiles = c := by
  cases c; cases hs; cases hr; rfl

theorem Cal.marked_of_save {c : Cal} {o : ImgOp} (tiles : Nat) (hs : c.save = some o) (hr : c.restore = none) :
    c.marked tiles = { c with save := some (o.marked tiles) } := by
  cases c; cases hs; cases hr; rfl

theorem Cal.marked_of_restore {c : Cal} {o : ImgOp} (tiles : Nat) (hr : c.restore = some o) (hs : c.save = none) :
    c.marked tiles = { c with restore := some (o.marked tiles) } := by
  cases c; cases hs; cases hr; rfl

end Sys2Proof.Machine

namespace Sys2Proof.Claim

open Sys2Proof.Machine

/-- An effect on listed fields is all that a command does. -/
theorem only_of_regs {l : List (Fld × Nat)} {s t : State} (h : RegsMove l s t) : Only s t l :=
  ⟨FldsKeep.bitsKeep h.flds, by have e := h.rest; rw [e]⟩

/-! ### APB_UNMAPPED_ACCESS and APB_RESET (R511, R535) -/

theorem mapped_iff (a : Nat) : mapped a = true ↔ ¬ Unmapped a := by
  simp only [mapped, Unmapped, Bool.not_eq_true', Bool.or_eq_false_iff, Bool.and_eq_false_iff, decide_eq_false_iff_not]
  unfold wordAddr
  omega

theorem apbError_unmapped (s : State) (a : Nat) (write : Bool) : ApbError s (s.apbUnmapped a write) a write := by
  obtain ⟨haddr, hwrite, hcount, hirq⟩ := s.apbNoted_shows a write
  have hmoves := s.apbNoted_moves a write
  rw [State.apbUnmapped_eq]
  refine ⟨rfl, fun hw => by rw [hw]; rfl, haddr, ?_, hcount, hirq, ?_, ?_⟩
  · exact Eq.to_iff (congrArg (· = true) hwrite)
  · exact FldsKeep.bitsKeep (((FldsKeep.ofRegs rfl rfl).trans hmoves.flds).beside rfl rfl)
  · have e := hmoves.rest
    rw [e]

theorem apbPort (s : State) (a : Nat) (write : Bool) : ApbPort s a write := fun hp => by
  refine ⟨fun ha => ?_, fun ha => ?_, ?_⟩
  · have hm : mapped a = false := by rw [← Bool.not_eq_true, mapped_iff]; exact not_not_intro ha
    have he := apbError_unmapped s a write
    have hlives : Lives s (s.apbUnmapped a write) := by
      obtain ⟨-, -, -, -, -, -, honly⟩ := he
      exact honly.lives
    refine Runs.of_act (f := fun s => s.iff (!mapped a) fun s => s.apbUnmapped a write) rfl hp ?_ ?_
    · rw [hm]
      exact hlives
    · rw [hm]
      exact he
  · have hm : mapped a = true := (mapped_iff a).2 ha
    refine Runs.of_act (f := fun s => s.iff (!mapped a) fun s => s.apbUnmapped a write) rfl hp ?_ ?_
    · rw [hm]
      exact ⟨rfl, rfl, rfl⟩
    · rw [hm]
      rfl
  · exact Runs.of_act (f := fun s => { s with apb := {} }) rfl hp ⟨rfl, rfl, rfl⟩ rfl

/-! ### AXI_ERROR_RESPONSE and AXI_RANGE (R531, R532) -/

/-- What AXI_ERROR_RESPONSE does. -/
def errorAnswered (user : Nat) (resp : AxiResp) (s : State) : State :=
  if user = axImage ∧ resp ≠ .okay then (s.axiRecord user resp).imgError else s.axiRecord user resp

/-- An error response is recorded, and one to a transfer of an image marks the operation in progress. -/
theorem errorAnswered_eq (s : State) (user : Nat) {resp : AxiResp} (hr : resp ≠ .okay) : errorAnswered user resp s =
    { s.axiRecord user resp with cal := if user = axImage then s.cal.marked s.build.imgTiles else s.cal } := by
  have hcal : (s.axiRecord user resp).cal = s.cal := by rw [(s.axiRecord_moves user hr).rest]
  have hmarked : (s.axiRecord user resp).cal.marked (s.axiRecord user resp).build.imgTiles = s.cal.marked s.build.imgTiles := by
    rw [(s.axiRecord_moves user hr).rest]
  unfold errorAnswered
  by_cases hu : user = axImage
  · rw [if_pos ⟨hu, hr⟩, if_pos hu, State.imgError_eq, hmarked]
  · rw [if_neg fun h => hu h.1, if_neg hu, ← hcal]

/-- AXI_ERROR_RESPONSE: beside the record of the response nothing moves but the calibration's own record. -/
theorem axiErrorResponse_runs {s : State} {user : Nat} {resp : AxiResp} {c : Cal} (hp : s.por = false) (hr : resp ≠ .okay)
    (hu : user < 8) (hc : (if user = axImage then s.cal.marked s.build.imgTiles else s.cal) = c) :
    Runs (.axiErrorResponse user resp) s fun t =>
      (t.on F.HIF_AXI_STATUS_ERR_SEEN 0 = true ∧ t.fget F.HIF_AXI_STATUS_LAST_RESP 0 = (if resp = .slverr then 2 else 3) ∧
        t.fget F.HIF_AXI_STATUS_LAST_USER 0 = user ∧ t.on F.HIF_IRQ_SRC_AXI_ERR 0 = true ∧
        Only { s with cal := t.cal } t axiErrFields) ∧ t.cal = c := by
  have hmoves := s.axiRecord_moves user hr
  have hseen := s.axiRecord_seen hr hu
  have heq := errorAnswered_eq s user hr
  rw [hc] at heq
  refine Runs.of_act (f := errorAnswered user resp) rfl hp ?_ ?_
  · rw [heq, hmoves.rest]
    exact ⟨rfl, rfl, rfl⟩
  · rw [heq]
    refine ⟨⟨hseen.seen, hseen.resp, hseen.user, hseen.irq, ?_, ?_⟩, rfl⟩
    · exact FldsKeep.bitsKeep (((FldsKeep.ofRegs rfl rfl).trans hmoves.flds).beside rfl rfl)
    · have e := hmoves.rest
      rw [e]

theorem axiRecords (s : State) (user : Nat) (resp : AxiResp) : AxiRecords s user resp := fun hp hu => by
  refine ⟨fun hr hidle => ?_, fun o hr hi hsave hrest hpos hload => ?_, fun o hr hi hrest hsave hpos hload => ?_, ?_, ?_⟩
  · refine axiErrorResponse_runs hp hr hu ?_
    split
    next hi =>
      obtain ⟨hsave, hrest⟩ := hidle.resolve_left (not_not_intro hi)
      exact Cal.marked_of_none _ hsave hrest
    next => rfl
  · refine axiErrorResponse_runs hp hr hu ?_
    exact (if_pos hi).trans ((Cal.marked_of_save _ hsave hrest).trans (by rw [ImgOp.marked_of_sent _ hpos hload]))
  · refine axiErrorResponse_runs hp hr hu ?_
    exact (if_pos hi).trans ((Cal.marked_of_restore _ hrest hsave).trans (by rw [ImgOp.marked_of_sent _ hpos hload]))
  · have hnone : errorAnswered user .okay s = s := if_neg fun h => h.2 rfl
    exact Runs.of_act (f := errorAnswered user .okay) rfl hp (by rw [hnone]; exact ⟨rfl, rfl, rfl⟩) hnone
  · obtain ⟨hrange, huser, hirq⟩ := s.axiRange_shows hu
    have honly : Only s (s.axiRange user) axiRangeFields := only_of_regs (s.axiRange_moves user)
    exact Runs.of_act (f := fun s => s.axiRange user) rfl hp honly.lives ⟨hrange, huser, hirq, honly⟩

end Sys2Proof.Claim
end

section
/-!
SUPPORT. What a tick leaves of the page fills (R311, R527–R529): a view of all that decides on a fill's next burst, which each part
of a tick but the turn of the AXI manager keeps.
-/

namespace Sys2Proof.Machine

/-! ### What decides on the burst of a page fill -/

/-- What the AXI manager's read channel and the count of bursts outstanding rest on while a page fill runs and no save. -/
structure FillView where
  build : Build
  elapsed : Nat
  axi : Axi
  fills : List Fill
  held : List HeldAct
  save : Option ImgOp
  restore : Option ImgOp
  saveHeld : Bool
  restoreHeld : Bool
  cfg : Word
  imgLo : Word
  imgHi : Word
  status : Word

/-- The registers that it shows. -/
def fillViewRegs : List Reg := [.HIF_AXI_CFG, .DSP_IMG_LO, .DSP_IMG_HI, .DSP_STATUS]

def State.fillView (s : State) : FillView where
  build := s.build
  elapsed := s.stn.elapsed
  axi := s.axi
  fills := s.dsp.fills
  held := s.dsp.held
  save := s.cal.save
  restore := s.cal.restore
  saveHeld := s.cal.saveHeld
  restoreHeld := s.cal.restoreHeld
  cfg := s.reg .HIF_AXI_CFG 0
  imgLo := s.reg .DSP_IMG_LO 0
  imgHi := s.reg .DSP_IMG_HI 0
  status := s.reg .DSP_STATUS 0

/-- The fields of HIF_AXI_CFG, of DSP_STATUS and of the image's address read as the view shows. -/
theorem FillView.fget_cfg {s t : State} (h : t.fillView.cfg = s.fillView.cfg) {f : Fld} (hf : f.reg = .HIF_AXI_CFG) :
    t.fget f 0 = s.fget f 0 := by
  unfold State.fget
  rw [hf]
  exact congrArg (getF · f.lo f.w) h

theorem FillView.on_status {s t : State} (h : t.fillView.status = s.fillView.status) {f : Fld} (hf : f.reg = .DSP_STATUS) :
    t.on f 0 = s.on f 0 := by
  unfold State.on State.fget
  rw [hf]
  exact congrArg (getF · f.lo f.w == 1) h

theorem FillView.imgBase {s t : State} (hhi : t.fillView.imgHi = s.fillView.imgHi) (hlo : t.fillView.imgLo = s.fillView.imgLo) :
    t.imgBase = s.imgBase :=
  congrArg₂ (fun hi lo => getF hi 0 8 * 2 ^ 32 + getF lo 12 20 * 2 ^ 12) hhi hlo

/-! ### Updates that it does not show -/

theorem State.fillView_setReg (s : State) {r : Reg} (u : Nat) (w : Word) (h : r ∉ fillViewRegs) :
    (s.setReg r u w).fillView = s.fillView := by
  have hr : ∀ q ∈ fillViewRegs, (s.setReg r u w).reg q 0 = s.reg q 0 := fun q hq =>
    State.reg_setReg_ne s w (.inl fun e => h (e ▸ hq))
  simp only [fillViewRegs, List.mem_cons, List.not_mem_nil, or_false, forall_eq_or_imp, forall_eq] at hr
  obtain ⟨hcfg, hlo, hhi, hstatus⟩ := hr
  simp only [State.fillView, hcfg, hlo, hhi, hstatus, State.setReg_build, State.setReg_stn, State.setReg_axi, State.setReg_dsp,
    State.setReg_cal]

theorem State.fillView_fset (s : State) {f : Fld} (u v : Nat) (h : f.reg ∉ fillViewRegs) :
    (s.fset f u v).fillView = s.fillView := s.fillView_setReg u _ h

theorem State.fillView_fsetB (s : State) {f : Fld} (u : Nat) (v : Bool) (h : f.reg ∉ fillViewRegs) :
    (s.fsetB f u v).fillView = s.fillView := s.fillView_setReg u _ h

theorem State.fillView_faddSat (s : State) {f : Fld} (u n : Nat) (h : f.reg ∉ fillViewRegs) :
    (s.faddSat f u n).fillView = s.fillView := s.fillView_setReg u _ h

theorem State.fillView_faddWrap (s : State) {f : Fld} (u n : Nat) (h : f.reg ∉ fillViewRegs) :
    (s.faddWrap f u n).fillView = s.fillView := s.fillView_setReg u _ h

theorem State.fillView_setFlag (s : State) {f : Fld} (u : Nat) (h : f.reg ∉ fillViewRegs) :
    (s.setFlag f u).fillView = s.fillView := s.fillView_setReg u _ h

theorem State.fillView_setSec (s : State) (k : Nat) (v : Sec) : (s.setSec k v).fillView = s.fillView := rfl
theorem State.fillView_setRgn (s : State) (r : Nat) (v : Rgn) : (s.setRgn r v).fillView = s.fillView := rfl
theorem State.fillView_setMile (s : State) (r : Nat) (v : Mile) : (s.setMile r v).fillView = s.fillView := rfl
theorem State.fillView_setPmb (s : State) (v : Pmb) : (s.setPmb v).fillView = s.fillView := rfl
theorem State.fillView_post (s : State) (a b c : Nat) (l : List PItem) : (s.post a b c l).fillView = s.fillView := rfl

theorem State.fillView_setStn (s : State) {v : Stn} (h : v.elapsed = s.stn.elapsed) : (s.setStn v).fillView = s.fillView := by
  simp only [State.fillView, State.setStn_stn, h]
  rfl

theorem State.fillView_ite {c : Prop} [Decidable c] {s t : State} {v : FillView} (hs : s.fillView = v) (ht : t.fillView = v) :
    (if c then s else t).fillView = v := by
  split
  · exact hs
  · exact ht

/-- Where no unit's turn changes the view, a list of units does not. -/
theorem State.fillView_each {α : Type} (s : State) (l : List α) {f : State → α → State}
    (h : ∀ t a, (f t a).fillView = t.fillView) : (s.each l f).fillView = s.fillView :=
  State.each_eq State.fillView l f (fun t a _ => h t a) s

/-! ### A tick up to the turn of the AXI manager -/

theorem State.fillView_tmrCopy (s : State) {f : Fld} (b : Bool) (h : f.reg ∉ fillViewRegs) :
    (s.tmrCopy f b).fillView = s.fillView := by
  unfold State.tmrCopy
  split
  · exact s.fillView_faddSat 0 1 h
  · rfl

theorem State.fillView_tmrReport (s : State) (a b c m : BitVec 64) : (s.tmrReport a b c m).fillView = s.fillView := by
  have hcopies : (((s.tmrCopy F.STN_TMR_STATUS_CORR_A (a != m)).tmrCopy F.STN_TMR_STATUS_CORR_B (b != m)).tmrCopy
      F.STN_TMR_STATUS_CORR_C (c != m)).fillView = s.fillView :=
    (State.fillView_tmrCopy _ _ (by decide)).trans ((State.fillView_tmrCopy _ _ (by decide)).trans
      (State.fillView_tmrCopy _ _ (by decide)))
  unfold State.tmrReport
  dsimp only
  split
  · exact (State.fillView_post _ _ _ _ _).trans ((State.fillView_setFlag _ 0 (by decide)).trans hcopies)
  · exact hcopies

theorem State.fillView_setFwItem (s : State) (k v : Nat) (x : FwItem) : (s.setFwItem k v x).fillView = s.fillView := by
  cases x with
  | secFw | fwHw | inForce | dropE | dropM => exact s.fillView_fset k v (by decide)
  | phase | target | rampStep => rfl

theorem State.fillView_fwVote (s : State) (x : FwUpset) : (s.fwVote x).fillView = s.fillView := by
  unfold State.fwVote
  split
  · dsimp only
    split
    · exact (State.fillView_post _ _ _ _ _).trans ((State.fillView_setFlag _ 0 (by decide)).trans
        ((State.fillView_setFwItem _ _ _ _).trans (State.fillView_faddSat _ 0 _ (by decide))))
    · exact (State.fillView_setFwItem _ _ _ _).trans (State.fillView_faddSat _ 0 _ (by decide))
  · rfl

theorem State.fillView_pmbPins (s : State) (clk dat alertN : Bool) : (s.pmbPins clk dat alertN).fillView = s.fillView := by
  unfold State.pmbPins
  split
  · rfl
  · dsimp only
    split <;> rfl

theorem State.fillView_tickPins (s : State) (inp : TickIn) : (s.tickPins inp).fillView = s.fillView := by
  have hpins := s.fillView_pmbPins inp.smbClk inp.smbDat inp.alertN
  unfold State.tickPins
  dsimp only
  split
  · exact (State.fillView_setStn _ rfl).trans hpins
  · exact hpins

theorem State.fillView_tickStation (s : State) : s.tickStation.fillView = s.fillView := by
  unfold State.tickStation
  dsimp only
  have hslew : (if s.on F.STN_SYNC_STATUS_SLEWING 0 then { s.stn with slewPhase := s.stn.slewPhase + s.stn.slewDir }
      else s.stn).elapsed = s.stn.elapsed := by split <;> rfl
  split <;> exact s.fillView_setStn hslew

theorem State.fillView_tickSection (s : State) (k : Nat) : (s.tickSection k).fillView = s.fillView := by
  have hphase : (if (s.sec k).released then s.setSec k { s.sec k with acc := (s.sec k).acc + s.fwCur k } else s).fillView =
      s.fillView := State.fillView_ite (s.fillView_setSec k _) rfl
  exact State.fillView_ite ((State.fillView_faddWrap _ (f := F.SEC_SYM_TK_COUNT) k 1 (by decide)).trans hphase) hphase

theorem State.fillView_ackFalls (s : State) (r : Nat) : (s.ackFalls r).fillView = s.fillView := by
  unfold State.ackFalls
  dsimp only
  split <;> rfl

theorem State.fillView_tickRegion (s : State) (r : Nat) : (s.tickRegion r).fillView = s.fillView := by
  have hack := s.fillView_ackFalls r
  have hwin : (if (s.ackFalls r).count % 64 = 0 then (s.ackFalls r).setRgn r
      { (s.ackFalls r).rgn r with ledWin := ((s.ackFalls r).rgn r).ledger :: ((s.ackFalls r).rgn r).ledWin.take 3 }
      else s.ackFalls r).fillView = s.fillView := State.fillView_ite ((State.fillView_setRgn _ r _).trans hack) hack
  exact State.fillView_ite ((State.fillView_setRgn _ r _).trans hwin) hwin

theorem State.fillView_tickDesk (s : State) (d : Nat) : (s.tickDesk d).fillView = s.fillView := by
  unfold State.tickDesk
  split
  · exact s.fillView_faddWrap d 1 (by decide)
  · rfl

theorem State.fillView_lhShow (s : State) (n : Nat) : (s.lhShow n).fillView = s.fillView := by
  unfold State.lhShow
  dsimp only
  split
  · split <;> rfl
  · rfl

/-- An entry of the Journal. -/
theorem State.fillView_of_jnlFrame {s t : State} (h : JnlFrame s t) : t.fillView = s.fillView := by
  have hr : ∀ r ∈ fillViewRegs, t.reg r 0 = s.reg r 0 := fun r hr => by
    refine h.regs r 0 ?_ ?_ ?_ <;> rintro rfl <;> revert hr <;> decide
  simp only [fillViewRegs, List.mem_cons, List.not_mem_nil, or_false, forall_eq_or_imp, forall_eq] at hr
  obtain ⟨hcfg, hlo, hhi, hstatus⟩ := hr
  simp only [State.fillView, hcfg, hlo, hhi, hstatus, h.build, h.stn, h.axi, h.dsp, h.cal]

theorem State.fillView_syncDrive (s : State) : s.syncDrive.fillView = s.fillView := by
  unfold State.syncDrive
  split
  · exact s.fillView_setStn rfl
  · rfl

theorem State.fillView_checkRefined (s : State) : s.checkRefined.fillView = s.fillView := by
  unfold State.checkRefined
  dsimp only
  split
  · exact (State.fillView_post _ _ _ _ _).trans ((State.fillView_setFlag _ 0 (by decide)).trans
      ((State.fillView_fset _ 0 _ (by decide)).trans ((State.fillView_fset _ 0 _ (by decide)).trans
        (State.fillView_fset _ 0 _ (by decide)))))
  · rfl

/-- With no operation on an image held none starts. -/
theorem State.imgNext_idle {s : State} (hs : s.cal.saveHeld = false) (hr : s.cal.restoreHeld = false) : s.imgNext = s := by
  simp [State.imgNext, hs, hr]

/-- PHASE comes to READY, and every stage that is not FLAGGED is pending (R251, R254). -/
def State.phaseReady (s : State) : State :=
  let s := s.fset F.CAL_STATUS_PHASE 0 3
  let s := s.fset F.CAL_TIME_READY_US 0 (satU 16 (s.cal.lockUs + s.stn.elapsed / 1600))
  let s := { s with cal := { s.cal with readyAt := s.stn.elapsed } }
  s.each (List.range s.build.nRegions) fun s r =>
    let st (n : Nat) : Nat := if s.isFlagged r n then 0 else 2 ^ n
    s.fset F.SB_CAL_STAT_PENDING r (st 0 + st 1 + st 2)

theorem State.readyCheck_eq (s : State) : s.readyCheck =
    if s.fget F.CAL_STATUS_PHASE 0 = 2 ∧ s.stn.relCount = s.build.nSections ∧ s.allReady then
      s.phaseReady.rebuildQueue.imgNext.checkRefined
    else s := rfl

theorem State.fillView_phaseReady (s : State) : s.phaseReady.fillView = s.fillView :=
  (State.fillView_each _ _ fun t r => t.fillView_fset (f := F.SB_CAL_STAT_PENDING) r _ (by decide)).trans
    ((State.fillView_fset _ (f := F.CAL_TIME_READY_US) 0 _ (by decide)).trans
      (s.fillView_fset (f := F.CAL_STATUS_PHASE) 0 3 (by decide)))

theorem State.fillView_readyCheck {s : State} (hs : s.cal.saveHeld = false) (hr : s.cal.restoreHeld = false) :
    s.readyCheck.fillView = s.fillView := by
  have hready : s.phaseReady.rebuildQueue.fillView = s.fillView := s.fillView_phaseReady
  have hidle : s.phaseReady.rebuildQueue.imgNext = s.phaseReady.rebuildQueue :=
    State.imgNext_idle ((congrArg FillView.saveHeld hready).trans hs) ((congrArg FillView.restoreHeld hready).trans hr)
  rw [State.readyCheck_eq, hidle]
  exact State.fillView_ite ((State.fillView_checkRefined _).trans hready) rfl

/-- With no action held a unit that comes to hold nothing releases none. -/
theorem State.releaseHeld_idle {s : State} (h : s.dsp.held = []) : s.releaseHeld = s := by
  unfold State.releaseHeld
  rw [h]
  rfl

/-! ### The Mileage store and the PMBus host at a tick (R426, R482, R484) -/

theorem State.fillView_milBin (s : State) (r : Nat) (hb : Nat × Nat) : (s.milBin r hb).fillView = s.fillView :=
  State.fillView_ite rfl (State.fillView_ite rfl rfl)

theorem State.fillView_milCount (s : State) (r : Nat) (cu : Nat × Nat × Nat) : (s.milCount r cu).fillView = s.fillView := by
  unfold State.milCount
  dsimp only
  split <;> rfl

theorem State.fillView_milRegion (s : State) (r : Nat) : (s.milRegion r).fillView = s.fillView :=
  (State.fillView_setRgn _ r _).trans (State.fillView_ite
    ((State.fillView_each _ _ fun t cu => t.fillView_milCount r cu).trans
      (State.fillView_each s _ fun t hb => t.fillView_milBin r hb)) rfl)

theorem State.fillView_milWindow (s : State) : s.milWindow.fillView = s.fillView :=
  State.fillView_ite ((State.fillView_each _ _ State.fillView_milRegion).trans (s.fillView_setStn rfl)) rfl

theorem State.fillView_milCopy (s : State) (m : Mile) : (s.milCopy m).fillView = s.fillView :=
  (State.fillView_fset _ (f := F.MIL_SAT_CNT) 0 _ (by decide)).trans
    ((State.fillView_fset _ (f := F.MIL_SAT_HIST) 0 _ (by decide)).trans
      ((State.fillView_each _ _ fun t c => (State.fillView_setReg _ c _ (by decide)).trans (t.fillView_setReg c _ (by decide))).trans
        (State.fillView_each s _ fun t i => t.fillView_setReg i _ (by decide))))

/-- The snapshot of a region's bins and counters, and its clear (R484, R485). -/
def State.snapCopied (s : State) (q : MilSnap) : State :=
  let real := q.region < s.build.nRegions
  let m := if real then s.mile q.region else {}
  let s := s.milCopy m
  if q.clear && real then s.setMile q.region { carry := m.carry } else s

/-- What the snapshot's registers show of it (R484, R524). -/
def State.snapShown (s : State) (q : MilSnap) (cleared : Bool) : State :=
  ((((((((s.fset F.MIL_SNAP_INFO_REGION 0 q.region).fsetB F.MIL_SNAP_INFO_CLEARED 0 cleared).setReg .MIL_SNAP_TICK_LO 0
    (BitVec.ofNat 32 s.count)).setReg .MIL_SNAP_TICK_HI 0 (BitVec.ofNat 32 (s.count / 2 ^ 32))).fset F.MIL_SEQ_NOT_READY 0 0).faddWrap
      F.MIL_SEQ_SEQ 0 1).fset F.MIL_CTRL_SNAP 0 0).fset F.MIL_CTRL_SNAP_CLR 0 0).setFlag F.HIF_IRQ_SRC_MIL_DONE 0

theorem State.milSnapshot_eq {s : State} {q : MilSnap} (h : s.milSnap = some q) : s.milSnapshot =
    { (s.milWindow.snapCopied q).snapShown q (q.clear && q.region < s.milWindow.build.nRegions) with milSnap := none } := by
  unfold State.milSnapshot
  rw [h]
  rfl

theorem State.fillView_snapCopied (s : State) (q : MilSnap) : (s.snapCopied q).fillView = s.fillView :=
  State.fillView_ite ((State.fillView_setMile _ _ _).trans (s.fillView_milCopy _)) (s.fillView_milCopy _)

theorem State.fillView_snapShown (s : State) (q : MilSnap) (cleared : Bool) : (s.snapShown q cleared).fillView = s.fillView := by
  unfold State.snapShown
  rw [State.fillView_setFlag _ _ (by decide), State.fillView_fset _ _ _ (by decide), State.fillView_fset _ _ _ (by decide),
    State.fillView_faddWrap _ _ _ (by decide), State.fillView_fset _ _ _ (by decide), State.fillView_setReg _ _ _ (by decide),
    State.fillView_setReg _ _ _ (by decide), State.fillView_fsetB _ _ _ (by decide), State.fillView_fset _ _ _ (by decide)]

theorem State.fillView_milSnapshot (s : State) : s.milSnapshot.fillView = s.fillView := by
  cases h : s.milSnap with
  | none => unfold State.milSnapshot; rw [h]
  | some q =>
    have hdone (t : State) : ({ t with milSnap := none } : State).fillView = t.fillView := rfl
    rw [State.milSnapshot_eq h, hdone, State.fillView_snapShown, State.fillView_snapCopied, State.fillView_milWindow]

theorem State.fillView_milDue (s : State) : s.milDue.fillView = s.fillView :=
  State.fillView_ite s.fillView_milSnapshot rfl

theorem State.fillView_pmbResult (s : State) (err : Nat) (data : Option Nat) : (s.pmbResult err data).fillView = s.fillView := by
  have herr := s.fillView_fset (f := F.GOV_PMB_RES_ERR) 0 err (by decide)
  have hshown (t : State) (busy : Nat) : (((t.faddWrap F.GOV_PMB_RES_SEQ 0 1).fset F.GOV_PMB_RES_NOT_READY 0 busy).setFlag
      F.HIF_IRQ_SRC_PMB_DONE 0).fillView = t.fillView := by
    rw [State.fillView_setFlag _ _ (by decide), State.fillView_fset _ _ _ (by decide), State.fillView_faddWrap _ _ _ (by decide)]
  cases data with
  | none => exact (hshown _ _).trans herr
  | some d => exact (hshown _ _).trans ((State.fillView_fset _ (f := F.GOV_PMB_RES_DATA) 0 d (by decide)).trans herr)

theorem State.fillView_pmbGoBit (s : State) : s.pmbGoBit.fillView = s.fillView := s.fillView_fsetB 0 _ (by decide)

theorem State.fillView_pmbRefuse (s : State) : s.pmbRefuse.fillView = s.fillView :=
  State.fillView_each s _ fun t _ =>
    (State.fillView_pmbGoBit _).trans ((State.fillView_pmbResult _ 3 none).trans (t.fillView_setPmb _))

theorem State.fillView_voutSent (s : State) (rail mv : Nat) : (s.voutSent rail mv).fillView = s.fillView :=
  State.fillView_ite ((State.fillView_fset _ (f := F.GOV_RAIL_STAT_VCONF) rail mv (by decide)).trans
    (s.fillView_fset (f := F.GOV_RAIL_STAT_VCMD) rail mv (by decide))) rfl

theorem State.fillView_pmbChoose (s : State) : s.pmbChoose.fillView = s.fillView := by
  unfold State.pmbChoose
  dsimp only
  split
  · rfl
  · split
    · rfl
    · split
      · rfl
      · split
        · rfl
        · split
          · exact (State.fillView_voutSent _ _ _).trans (s.fillView_setPmb _)
          · split
            · rfl
            · split
              · exact (State.fillView_pmbGoBit _).trans (s.fillView_setPmb _)
              · split
                · rfl
                · split
                  · rfl
                  · split
                    · split <;> rfl
                    · rfl

theorem State.fillView_pmbNext (s : State) : s.pmbNext.fillView = s.fillView :=
  State.fillView_ite ((State.fillView_pmbChoose _).trans s.fillView_pmbRefuse) rfl

end Sys2Proof.Machine
end

section
/-! SUPPORT. The burst of a page fill that a tick issues (R311, R527–R529). -/

namespace Sys2Proof.Machine

open TickPaging

/-! ### A tick but for the turn of the AXI manager -/

/-- A tick up to the releases that follow from PHASE. -/
def State.tickUnits (s : State) (up : TickIn) : State :=
  let (a, b, c) := s.copies up
  let s := (s.tickFresh.tickCount up).tmrReport a b c (maj64 a b c)
  let s := s.each up.fw State.fwVote
  let s := (s.tickPins up).tickStation
  let s := s.each (List.range s.build.nSections) State.tickSection
  let s := s.each (List.range s.build.nRegions) State.tickRegion
  let s := s.each (List.range 4) State.tickDesk
  let s := s.each (List.range s.build.nRails) State.lhShow
  (State.jnlDrain 8 s).syncDrive

theorem State.beforeAxi_eq (s : State) (up : TickIn) : beforeAxi s up = (s.tickUnits up).readyCheck.releaseHeld := rfl

theorem State.fillView_tickUnits (s : State) (up : TickIn) :
    (s.tickUnits up).fillView = { s.fillView with elapsed := s.stn.elapsed + 1 } :=
  calc (s.tickUnits up).fillView
    _ = _ := State.fillView_syncDrive _
    _ = _ := State.fillView_of_jnlFrame (State.jnlDrain_frame 8 _)
    _ = _ := State.fillView_each _ _ State.fillView_lhShow
    _ = _ := State.fillView_each _ _ State.fillView_tickDesk
    _ = _ := State.fillView_each _ _ State.fillView_tickRegion
    _ = _ := State.fillView_each _ _ State.fillView_tickSection
    _ = _ := State.fillView_tickStation _
    _ = _ := State.fillView_tickPins _ _
    _ = _ := State.fillView_each _ _ State.fillView_fwVote
    _ = _ := State.fillView_tmrReport _ _ _ _ _
    _ = _ := rfl

/-- With nothing held, a tick moves nothing of the view but its count before the turn of the AXI manager. -/
theorem State.fillView_beforeAxi {s : State} (up : TickIn) (hh : s.dsp.held = []) (hs : s.cal.saveHeld = false)
    (hr : s.cal.restoreHeld = false) : (beforeAxi s up).fillView = { s.fillView with elapsed := s.stn.elapsed + 1 } := by
  have hunits := s.fillView_tickUnits up
  have hready := (State.fillView_readyCheck ((congrArg FillView.saveHeld hunits).trans hs)
    ((congrArg FillView.restoreHeld hunits).trans hr)).trans hunits
  rw [State.beforeAxi_eq, State.releaseHeld_idle ((congrArg FillView.held hready).trans hh)]
  exact hready

/-- Once the Dispatcher is READY, a tick moves nothing of the view after the turn of the AXI manager. -/
theorem State.fillView_afterAxi {s : State} (h : s.on F.DSP_STATUS_READY 0 = true) : (afterAxi s).fillView = s.fillView := by
  have hview : s.milDue.pmbNext.fillView = s.fillView := (State.fillView_pmbNext _).trans s.fillView_milDue
  have hready : s.milDue.pmbNext.on F.DSP_STATUS_READY 0 = true := by
    rw [← h]
    exact FillView.on_status (congrArg FillView.status hview) rfl
  unfold afterAxi
  dsimp only
  rw [hready]
  exact hview

/-! ### The turn of the AXI manager -/

theorem State.readWaits_iff_page {s : State} (hf : s.dsp.fills.any (·.sent < 16) = true) (hl : s.on F.DSP_STATUS_LOADING 0 = false)
    (hr : s.cal.restore = none) (u : Nat) : s.readWaits u = true ↔ u = axPage := by
  unfold State.readWaits
  rw [hf, hl, hr]
  by_cases hu : u = axPage
  · simp [hu]
  · simp [hu]

/-- Where the fills alone wait, the next user in turn is theirs. -/
theorem State.turn_of_page {s : State} (h : ∀ u, s.readWaits u = true ↔ u = axPage) :
    ((List.range 5).map fun i => (s.axi.turn + 1 + i) % 5).find? s.readWaits = some axPage := by
  cases hn : ((List.range 5).map fun i => (s.axi.turn + 1 + i) % 5).find? s.readWaits with
  | none =>
    have hmem : axPage ∈ (List.range 5).map fun i => (s.axi.turn + 1 + i) % 5 :=
      List.mem_map.2 ⟨4 - s.axi.turn % 5, List.mem_range.2 (by omega), by unfold axPage; omega⟩
    exact absurd ((h axPage).2 rfl) (List.find?_eq_none.1 hn axPage hmem)
  | some u => rw [(h u).1 (List.find?_some hn)]

/-- The turn of the read channel is the page fills'. -/
def State.pageTurn (s : State) : State := { s with axi := { s.axi with turn := axPage } }

/-- The state with a fill's next burst sent. -/
def State.fillSent (s : State) (f : Fill) : State := s.setDsp { s.dsp with fills := [{ f with sent := f.sent + 1 }] }

theorem State.pageIssue_of_fits {s : State} {f : Fill} (hf : s.dsp.fills = [f]) (hn : f.sent < 16)
    (hfit : s.imgBase + 4096 * f.page + 256 * f.sent + 256 ≤ 2 ^ 40) :
    s.pageIssue = (s.fillSent f).axiIssue false axPage (s.imgBase + 4096 * f.page + 256 * f.sent) 16 16 := by
  have hnext : [f].find? (·.sent < 16) = some f := by simp [hn]
  have hfits : axFits (s.imgBase + 4096 * f.page + 256 * f.sent) 256 = true := decide_eq_true hfit
  unfold State.pageIssue
  rw [hf, hnext]
  dsimp only
  rw [if_pos hfits, List.map_singleton, if_pos rfl]
  rfl

/-- An instruction read of the page fills goes out as R527 and R528 say. -/
theorem State.axiIssue_fill {s : State} (hh : s.axi.held = false) (a : Nat) :
    s.axiIssue false axPage a 16 16 = { s with axi := { s.axi with rd := some (Claim.fillTxn s a) } } := by
  unfold State.axiIssue
  dsimp only
  rw [hh]
  rfl

/-- With room for a read burst, the turn of the AXI manager sends the next burst of the one fill there is. -/
theorem State.tickAxi_fill {s : State} {f : Fill} (hh : s.axi.held = false) (hf : s.dsp.fills = [f]) (hn : f.sent < 16)
    (hl : s.on F.DSP_STATUS_LOADING 0 = false) (hs : s.cal.save = none) (hr : s.cal.restore = none)
    (hfit : s.imgBase + 4096 * f.page + 256 * f.sent + 256 ≤ 2 ^ 40) (hroom : s.rdOut < axLimit (s.fget F.HIF_AXI_CFG_MAX_RD 0)) :
    s.tickAxi = { s.fillSent f with
      axi := { s.axi with turn := axPage, rd := some (Claim.fillTxn s (s.imgBase + 4096 * f.page + 256 * f.sent)) } } := by
  have hwaits := State.readWaits_iff_page (by rw [hf]; simpa using hn) hl hr
  have hissue : s.readIssue axPage = { s.fillSent f with
      axi := { s.axi with turn := axPage, rd := some (Claim.fillTxn s (s.imgBase + 4096 * f.page + 256 * f.sent)) } } :=
    (State.pageIssue_of_fits (s := s.pageTurn) hf hn hfit).trans (State.axiIssue_fill (s := s.pageTurn.fillSent f) hh _)
  rw [← hissue]
  exact tickAxi_of_room s axPage hh (State.turn_of_page hwaits) hroom (by rw [hissue]; exact hs)

/-- Without room it sends none. -/
theorem State.tickAxi_full {s : State} (hs : s.cal.save = none) (hroom : axLimit (s.fget F.HIF_AXI_CFG_MAX_RD 0) ≤ s.rdOut) :
    s.tickAxi = s := by
  have hfull : ¬ s.rdOut < axLimit (s.fget F.HIF_AXI_CFG_MAX_RD 0) := Nat.not_lt.2 hroom
  cases hn : ((List.range 5).map fun i => (s.axi.turn + 1 + i) % 5).find? s.readWaits with
  | none => simp [State.tickAxi, hn, hs]
  | some u => simp [State.tickAxi, hn, hs, State.iff, hfull]

/-! ### The count of bursts outstanding -/

/-- The count of read bursts outstanding rests on the view alone. -/
theorem State.rdOut_congr {s t : State} (h : t.fillView = s.fillView) : t.rdOut = s.rdOut := by
  have helapsed : t.stn.elapsed = s.stn.elapsed := congrArg FillView.elapsed h
  have hfills : t.dsp.fills = s.dsp.fills := congrArg FillView.fills h
  have hrestore : t.cal.restore = s.cal.restore := congrArg FillView.restore h
  have hlimit : t.fget F.HIF_AXI_CFG_MAX_RD 0 = s.fget F.HIF_AXI_CFG_MAX_RD 0 := FillView.fget_cfg (congrArg FillView.cfg h) rfl
  have hload : t.on F.DSP_STATUS_LOADING 0 = s.on F.DSP_STATUS_LOADING 0 := FillView.on_status (congrArg FillView.status h) rfl
  unfold State.rdOut
  rw [helapsed, hfills, hrestore, hlimit, hload]

end Sys2Proof.Machine

namespace Sys2Proof.Claim

open Sys2Proof.Machine TickPaging

/-- Once the Dispatcher is READY, a tick leaves of the view what the turn of the AXI manager left. -/
theorem tick_runs_view {s : State} {inp : TickIn} (hp : s.por = false) (hlocked : s.stn.locked = true)
    (hready : (beforeAxi s inp).tickAxi.on F.DSP_STATUS_READY 0 = true) (hbuild : (beforeAxi s inp).tickAxi.build = s.build) :
    Runs (.tick inp) s fun t => t.fillView = (beforeAxi s inp).tickAxi.fillView := by
  have hview : (s.tickEdge inp).fillView = (beforeAxi s inp).tickAxi.fillView := by
    rw [tickEdge_eq]
    exact State.fillView_afterAxi hready
  have hb : s.build = (s.tickEdge inp).build := hbuild.symm.trans (congrArg FillView.build hview).symm
  refine ⟨_, State.act_live s (fun s => s.iff s.stn.locked fun s => s.tickEdge inp) hp, ?_⟩
  rw [hlocked, State.iff_true, hb]
  exact hview

theorem fillBursts (s : State) (inp : TickIn) (f : Fill) : FillBursts s inp f := by
  intro hp hlocked hheld hfills hsent hload hready hsave hrestore hsaveHeld hrestoreHeld hacts hfit
  obtain ⟨b, hbs⟩ : ∃ b, b = beforeAxi s inp := ⟨_, rfl⟩
  have hb : b.fillView = { s.fillView with elapsed := s.stn.elapsed + 1 } :=
    (congrArg State.fillView hbs).trans (State.fillView_beforeAxi inp hacts hsaveHeld hrestoreHeld)
  have hbuild : b.build = s.build := congrArg FillView.build hb
  have hbaxi : b.axi = s.axi := congrArg FillView.axi hb
  have hbfills : b.dsp.fills = [f] := (congrArg FillView.fills hb).trans hfills
  have hbsave : b.cal.save = none := (congrArg FillView.save hb).trans hsave
  have hbrestore : b.cal.restore = none := (congrArg FillView.restore hb).trans hrestore
  have hbstatus : b.fillView.status = s.fillView.status := (congrArg FillView.status hb).trans rfl
  have hbcfg : b.fillView.cfg = s.fillView.cfg := (congrArg FillView.cfg hb).trans rfl
  have hbhi : b.fillView.imgHi = s.fillView.imgHi := (congrArg FillView.imgHi hb).trans rfl
  have hblo : b.fillView.imgLo = s.fillView.imgLo := (congrArg FillView.imgLo hb).trans rfl
  have hbload : b.on F.DSP_STATUS_LOADING 0 = false := (FillView.on_status hbstatus rfl).trans hload
  have hbready : b.on F.DSP_STATUS_READY 0 = true := (FillView.on_status hbstatus rfl).trans hready
  have hbase : b.imgBase = s.imgBase := FillView.imgBase hbhi hblo
  have hcfg {g : Fld} (hg : g.reg = .HIF_AXI_CFG) : b.fget g 0 = s.fget g 0 := FillView.fget_cfg hbcfg hg
  have htxn (a : Nat) : fillTxn b a = fillTxn s a := by
    unfold fillTxn
    rw [hcfg rfl, hcfg rfl, hcfg rfl]
  have hlimit : axLimit (b.fget F.HIF_AXI_CFG_MAX_RD 0) = max 1 (min 8 (s.fget F.HIF_AXI_CFG_MAX_RD 0)) :=
    congrArg axLimit (hcfg rfl)
  by_cases hroom : b.rdOut < axLimit (b.fget F.HIF_AXI_CFG_MAX_RD 0)
  · have hsend := State.tickAxi_fill (by rw [hbaxi]; exact hheld) hbfills hsent hbload hbsave hbrestore
      (by rw [hbase]; exact hfit) hroom
    rw [htxn, hbase, hbaxi] at hsend
    have hout : b.tickAxi.rdOut = b.rdOut := by
      rw [hsend, rdOut_of_fills b (by rw [hbfills]; rfl)]
      exact rdOut_of_fills _ rfl
    obtain ⟨t, ht, hview⟩ := tick_runs_view (inp := inp) hp hlocked (by rw [← hbs, hsend]; exact hbready)
      (by rw [← hbs, hsend]; exact hbuild)
    rw [← hbs] at hview
    refine ⟨t, ht, fun _ => ⟨?_, ?_⟩, fun hfull => ?_⟩
    · exact (congrArg FillView.fills hview).trans (by rw [hsend]; rfl)
    · exact (congrArg FillView.axi hview).trans (by rw [hsend]; rfl)
    · rw [State.rdOut_congr hview, hout, ← hlimit] at hfull
      omega
  · have hkeep := State.tickAxi_full hbsave (Nat.not_lt.1 hroom)
    obtain ⟨t, ht, hview⟩ := tick_runs_view (inp := inp) hp hlocked (by rw [← hbs, hkeep]; exact hbready)
      (by rw [← hbs, hkeep]; exact hbuild)
    rw [← hbs, hkeep] at hview
    refine ⟨t, ht, fun hless => ?_, fun _ => ⟨?_, ?_⟩⟩
    · rw [State.rdOut_congr hview, ← hlimit] at hless
      exact absurd hless hroom
    · exact (congrArg FillView.fills hview).trans hbfills
    · exact (congrArg FillView.axi hview).trans hbaxi

end Sys2Proof.Claim
end

section
/-!
SUPPORT. Several Desks fault at once, whatever they do (R314, R331): what their faults may move, and what every Desk then shows.
-/

namespace Sys2Proof.Machine

/-! ### What faults may move -/

/-- The kinds of field that a Desk's fault moves. -/
def faultMoveKinds : List Fld := F.DSP_DESK_PC_PC :: Claim.deskFaultKinds

/-- A resident load is under way, of which bursts have gone out. -/
def State.loadOut (s : State) : Bool := s.on F.DSP_STATUS_LOADING 0 && s.dsp.loadSent != 0

/-- Nothing has changed but what Desks' faults move; a load that starts in passing has sent no burst. -/
structure FaultsMove (s t : State) : Prop where
  flds : FldsKeep (fun f _ => f ∈ faultMoveKinds) s t
  fills : t.dsp.fills = s.dsp.fills
  spill : t.log.spill = s.log.spill
  load : t.loadOut = true → s.loadOut = true
  rest : t = { s with regs := t.regs, fresh := t.fresh, dsp := t.dsp, log := t.log }

theorem FaultsMove.refl (s : State) : FaultsMove s s := ⟨FldsKeep.refl _ s, rfl, rfl, id, rfl⟩

theorem FaultsMove.trans {s t u : State} (h : FaultsMove s t) (k : FaultsMove t u) : FaultsMove s u where
  flds := h.flds.trans k.flds
  fills := k.fills.trans h.fills
  spill := k.spill.trans h.spill
  load := h.load ∘ k.load
  rest := by
    have e := h.rest
    have k' := k.rest
    rw [e] at k'
    exact k'

/-- An update of the Dispatcher that keeps its fills and has no load under way that was not. -/
theorem FaultsMove.of_moves {l : List (Fld × Nat)} {s t : State} (h : DspMoves l s t) (hl : ∀ x ∈ l, x.1 ∈ faultMoveKinds)
    (hf : t.dsp.fills = s.dsp.fills) (ho : t.loadOut = true → s.loadOut = true) : FaultsMove s t :=
  ⟨h.flds.mono fun _ _ hx => hl _ hx, hf, by rw [h.log], ho, by have e := h.rest; rw [e]⟩

theorem State.loadOut_congr {s t : State} (hl : t.on F.DSP_STATUS_LOADING 0 = s.on F.DSP_STATUS_LOADING 0)
    (hd : t.dsp.loadSent = s.dsp.loadSent) : t.loadOut = s.loadOut := by
  unfold State.loadOut
  rw [hl, hd]

/-- A field of any other kind keeps its value. -/
theorem FaultsMove.fget {s t : State} (h : FaultsMove s t) {f : Fld} (u : Nat)
    (hf : ∀ g ∈ faultMoveKinds, f.reg ≠ g.reg ∨ f.lo + f.w ≤ g.lo ∨ g.lo + g.w ≤ f.lo) : t.fget f u = s.fget f u :=
  h.flds f u fun g _ hg => (hf g hg).imp id .inr

/-! ### The parts of a fault -/

theorem State.loadOut_loadInCycle (s : State) (h : s.loadInCycle.loadOut = true) : s.loadOut = true := by
  unfold State.loadInCycle State.loadStart at h
  split at h
  · split at h
    · exact absurd h (by simp [State.loadOut, State.setDsp])
    · exact h
  · exact h

/-- The fields that the fault of a Desk moves, whatever the Desk waits for. -/
def faultFields (d : Nat) : List (Fld × Nat) := (F.DSP_DESK_PC_PC, d) :: (markFields d ++ loadFields ++ lossFields d)

theorem faultFields_kinds (d : Nat) : (faultFields d).map Prod.fst = faultMoveKinds := rfl

theorem mem_faultMoveKinds {d : Nat} {x : Fld × Nat} (h : x ∈ faultFields d) : x.1 ∈ faultMoveKinds :=
  faultFields_kinds d ▸ List.mem_map_of_mem h

/-- Of the fields of a fault those that are not the Desk's own lie in registers that every Desk shares. -/
theorem faultFields_own {d : Nat} {x : Fld × Nat} (h : x ∈ faultFields d) :
    x.2 = d ∨ x.1.reg ∈ [Reg.HIF_IRQ_SRC, .DSP_STATUS, .DSP_TILE_OK, .DSP_SEM_HELD, .DSP_SEM_OWNER] := by
  revert x
  simp [faultFields, markFields, leaveFields, loadFields, lossFields, semFields, F.HIF_IRQ_SRC_DESK_STOP, F.DSP_STATUS_LOADING,
    F.DSP_TILE_OK_VALID, F.DSP_SEM_HELD_HELD, F.DSP_SEM_OWNER_OWNER]

theorem State.marked_moves (s : State) (d cause : Nat) :
    DspMoves ((F.DSP_DESK_PC_PC, d) :: markFields d) s ((s.abandon d).faultMarked d cause) :=
  ((s.abandon_moves d).mono (by simp)).trans ((State.faultMarked_moves _ d cause).moves.mono (List.subset_cons_self ..))

theorem State.dsp_marked (s : State) (d cause : Nat) : ((s.abandon d).faultMarked d cause).dsp =
    { s.dsp with desks := ((s.abandon d).faultMarked d cause).dsp.desks } := by
  have h : ((s.abandon d).faultMarked d cause).dsp =
      { (s.abandon d).dsp with desks := ((s.abandon d).faultMarked d cause).dsp.desks } := rfl
  rw [h, State.dsp_abandon]
  rfl

theorem State.desk_marked_ne (s : State) {d e : Nat} (cause : Nat) (he : e ≠ d) :
    ((s.abandon d).faultMarked d cause).desk e = s.desk e :=
  ((State.faultMarked_moves (s.abandon d) d cause).others e he).1.trans
    ((State.desk_congr (congrArg Dsp.desks (s.dsp_abandon d)) e).trans (s.desk_setDesk_ne _ he))

theorem State.faultFreed_moves (s : State) (d cause : Nat) : DspMoves (faultFields d) s (s.faultFreed d cause) :=
  ((s.marked_moves d cause).mono (List.cons_subset_cons _ (by simp))).trans
    (((State.loadInCycle_moves _).mono fun _ hx =>
        List.mem_cons_of_mem _ (List.mem_append_left _ (List.mem_append_right _ hx))).trans
      ((State.losses_moves _ d).mono fun _ hx => List.mem_cons_of_mem _ (List.mem_append_right _ hx)))

theorem FaultsMove.faultFreed (s : State) (d cause : Nat) : FaultsMove s (s.faultFreed d cause) := by
  have hloss := State.losses_moves (s.faultShown d cause) d
  have hlosses := State.losses_dsp (s.faultShown d cause) d
  have hmarked := s.marked_moves d cause
  refine .of_moves (s.faultFreed_moves d cause) (fun x hx => mem_faultMoveKinds hx) ?_ fun h => ?_
  · show (((s.faultShown d cause).actsLost d).semsReleased d).dsp.fills = _
    rw [hlosses]
    show ((s.abandon d).faultMarked d cause).loadInCycle.dsp.fills = _
    rw [State.dsp_loadInCycle, State.dsp_marked]
  · have hshown : (s.faultShown d cause).loadOut = true := by
      rw [← State.loadOut_congr (State.on_congr (hloss.fget_of_kinds 0 lossKinds rfl (by decide))) (by rw [hlosses])]
      exact h
    rw [← State.loadOut_congr (State.on_congr (hmarked.fget_of_kinds 0 (F.DSP_DESK_PC_PC :: markKinds) rfl (by decide)))
      (by rw [State.dsp_marked])]
    exact State.loadOut_loadInCycle _ hshown

theorem FaultsMove.faultReported (s : State) (d cause : Nat) : FaultsMove s (s.faultReported d cause) := by
  unfold State.faultReported
  split <;> exact ⟨FldsKeep.ofRegs rfl rfl, rfl, rfl, id, rfl⟩

theorem FaultsMove.deskFault (s : State) (d cause : Nat) : FaultsMove s (s.deskFault d cause) := by
  by_cases h : s.deskState d = 4
  · have hsame : s.deskFault d cause = s := if_pos h
    rw [hsame]
    exact .refl s
  · rw [State.deskFault_eq cause h]
    exact (FaultsMove.faultFreed s d cause).trans (.faultReported _ d cause)

/-! ### What the Desks show -/

/-- A Desk that no fault concerns. -/
structure DeskSame (s t : State) (e : Nat) : Prop where
  state : t.deskState e = s.deskState e
  cause : t.fget F.DSP_DESK_STATUS_CAUSE e = s.fget F.DSP_DESK_STATUS_CAUSE e
  pc : t.pc e = s.pc e
  desk : t.desk e = s.desk e

theorem DeskSame.trans {s t u : State} {e : Nat} (h : DeskSame s t e) (k : DeskSame t u e) : DeskSame s u e :=
  ⟨k.state.trans h.state, k.cause.trans h.cause, k.pc.trans h.pc, k.desk.trans h.desk⟩

theorem DeskSame.faultReported (s : State) (d cause e : Nat) : DeskSame s (s.faultReported d cause) e := by
  unfold State.faultReported
  split <;> exact ⟨rfl, rfl, rfl, rfl⟩

theorem DeskSame.faultFreed (s : State) {d e : Nat} (cause : Nat) (he : e ≠ d) : DeskSame s (s.faultFreed d cause) e := by
  have hfld (f : Fld) (hf : f.reg ∉ [Reg.HIF_IRQ_SRC, .DSP_STATUS, .DSP_TILE_OK, .DSP_SEM_HELD, .DSP_SEM_OWNER]) :
      (s.faultFreed d cause).fget f e = s.fget f e :=
    (s.faultFreed_moves d cause).fget fun x hx => (faultFields_own hx).elim (fun h => .inr (.inl (h ▸ he)))
      fun h => .inl fun hr => hf (hr ▸ h)
  have hdesk : (s.faultFreed d cause).desk e = ((s.abandon d).faultMarked d cause).loadInCycle.desk e :=
    State.desk_congr ((congrArg Dsp.desks (State.losses_dsp (s.faultShown d cause) d)).trans rfl) e
  exact ⟨hfld _ (by decide), hfld _ (by decide), hfld _ (by decide),
    hdesk.trans ((State.desk_loadInCycle _ e).trans (s.desk_marked_ne cause he))⟩

/-- A Desk's fault concerns no other Desk. -/
theorem DeskSame.deskFault (s : State) {d e : Nat} (cause : Nat) (he : e ≠ d) : DeskSame s (s.deskFault d cause) e := by
  by_cases h : s.deskState d = 4
  · have hsame : s.deskFault d cause = s := if_pos h
    rw [hsame]
    exact ⟨rfl, rfl, rfl, rfl⟩
  · rw [State.deskFault_eq cause h]
    exact (DeskSame.faultFreed s cause he).trans (.faultReported _ d cause e)

/-- A Desk that has not faulted shows its fault. -/
theorem State.deskFault_shows {s : State} {d cause : Nat} (h : s.deskState d ≠ 4) (hc : cause < 16) :
    (s.deskFault d cause).deskState d = 4 ∧ (s.deskFault d cause).fget F.DSP_DESK_STATUS_CAUSE d = cause := by
  have hloss := State.losses_moves (s.faultShown d cause) d
  have hreport := DeskSame.faultReported (s.faultFreed d cause) d cause d
  rw [State.deskFault_eq cause h]
  exact ⟨hreport.state.trans ((hloss.fget_of_kinds d lossKinds rfl (by decide)).trans (s.deskState_faultShown d cause)),
    hreport.cause.trans ((hloss.fget_of_kinds d lossKinds rfl (by decide)).trans (s.cause_faultShown d hc))⟩

/-! ### The faults of a list of Desks -/

/-- The Desks of a list show one fault, the others are as they were. -/
structure DesksFault (l : List Nat) (cause : Nat) (s t : State) : Prop where
  moves : FaultsMove s t
  faulted : ∀ d ∈ l, t.deskState d = 4 ∧ t.fget F.DSP_DESK_STATUS_CAUSE d = cause
  others : ∀ e, e ∉ l → DeskSame s t e

theorem DesksFault.each {l : List Nat} {cause : Nat} (hc : cause < 16) (hn : l.Nodup) {s : State}
    (h : ∀ d ∈ l, s.deskState d ≠ 4) : DesksFault l cause s (s.each l fun s d => s.deskFault d cause) := by
  induction l generalizing s with
  | nil => exact ⟨.refl s, fun _ hd => absurd hd List.not_mem_nil, fun _ _ => ⟨rfl, rfl, rfl, rfl⟩⟩
  | cons d l ih =>
    obtain ⟨hd, hn'⟩ := List.nodup_cons.1 hn
    have hone (e : Nat) (he : e ≠ d) : DeskSame s (s.deskFault d cause) e := .deskFault s cause he
    have hrest := ih hn' (s := s.deskFault d cause) fun e he => by
      rw [(hone e fun hde => hd (hde ▸ he)).state]
      exact h e (List.mem_cons_of_mem _ he)
    refine ⟨(FaultsMove.deskFault s d cause).trans hrest.moves, fun e he => ?_, fun e he => ?_⟩
    · rcases List.mem_cons.1 he with rfl | he
      · have hself := hrest.others e hd
        have hshows := State.deskFault_shows (h e (List.mem_cons_self ..)) hc
        exact ⟨hself.state.trans hshows.1, hself.cause.trans hshows.2⟩
      · exact hrest.faulted e he
    · obtain ⟨hed, hel⟩ := not_or.1 (mt List.mem_cons.2 he)
      exact (hone e hed).trans (hrest.others e hel)

end Sys2Proof.Machine
end

section
/-! SUPPORT. AXI_RESET and AXI_RESET_RELEASE (R533): what each user of the AXI manager loses. -/

namespace Sys2Proof.Machine

/-! ### A fill fails (R313, R314, R386) -/

/-- The fields of a frame that a failed fill clears. -/
def frameFields (n : Nat) : List (Fld × Nat) := [(F.DSP_FRAME_FILLING, n), (F.DSP_FRAME_VALID, n), (F.DSP_FRAME_PIN, n)]

/-- The fill is over and its frame is empty. -/
def State.frameFreed (s : State) (f : Fill) : State :=
  (((s.setDsp { s.dsp with fills := s.dsp.fills.filter fun x => x.frame != f.frame }).fset F.DSP_FRAME_FILLING f.frame 0).fset
    F.DSP_FRAME_VALID f.frame 0).fset F.DSP_FRAME_PIN f.frame 0

/-- The Desks that wait for a page. -/
def State.pageWaiters (s : State) (p : Nat) : List Nat :=
  (List.range 4).filter fun d => s.deskState d == 3 && (s.desk d).page == some p

theorem State.fillFails_eq (s : State) (f : Fill) : s.fillFails f =
    (s.frameFreed f).each ((s.frameFreed f).pageWaiters f.page) fun s d => s.deskFault d 4 := rfl

theorem State.frameFreed_moves (s : State) (f : Fill) : DspMoves (frameFields f.frame) s (s.frameFreed f) :=
  (((DspMoves.setDsp _ s _).trans (DspMoves.fset (f := F.DSP_FRAME_FILLING) _ 0 (by simp [frameFields]))).trans
    (DspMoves.fset (f := F.DSP_FRAME_VALID) _ 0 (by simp [frameFields]))).trans
    (DspMoves.fset (f := F.DSP_FRAME_PIN) _ 0 (by simp [frameFields]))

/-- The frame reads empty. -/
theorem State.on_frameFreed (s : State) (f : Fill) : let t := s.frameFreed f
    t.on F.DSP_FRAME_FILLING f.frame = false ∧ t.on F.DSP_FRAME_VALID f.frame = false ∧ t.on F.DSP_FRAME_PIN f.frame = false :=
  ⟨(State.on_congr ((State.fget_fset_apart _ _ (.inr (.inr (by decide)))).trans
        (State.fget_fset_apart _ _ (.inr (.inr (by decide)))))).trans
      (State.on_fsetB _ F.DSP_FRAME_FILLING f.frame false rfl (by decide)),
    (State.on_congr (State.fget_fset_apart _ _ (.inr (.inr (by decide))))).trans
      (State.on_fsetB _ F.DSP_FRAME_VALID f.frame false rfl (by decide)),
    State.on_fsetB _ F.DSP_FRAME_PIN f.frame false rfl (by decide)⟩

theorem State.mem_pageWaiters (s : State) (p d : Nat) :
    d ∈ s.pageWaiters p ↔ d < 4 ∧ s.deskState d = 3 ∧ (s.desk d).page = some p := by
  unfold State.pageWaiters
  rw [List.mem_filter, List.mem_range, Bool.and_eq_true, beq_iff_eq, beq_iff_eq]

/-- The frame's fields are not the Desks'. -/
theorem DeskSame.frameFreed (s : State) (f : Fill) (e : Nat) : DeskSame s (s.frameFreed f) e := by
  have hfld (g : Fld) (hg : g.reg ≠ .DSP_FRAME) : (s.frameFreed f).fget g e = s.fget g e :=
    (s.frameFreed_moves f).fget_of_kinds e [F.DSP_FRAME_FILLING, F.DSP_FRAME_VALID, F.DSP_FRAME_PIN] rfl
      (by simpa using ⟨.inl hg, .inl hg, .inl hg⟩)
  exact ⟨hfld _ (by decide), hfld _ (by decide), hfld _ (by decide), rfl⟩

/-- What a fill that fails does once its frame is empty: the Desks that waited for its page fault. -/
theorem State.fillFails_faults (s : State) (f : Fill) :
    DesksFault (s.pageWaiters f.page) 4 (s.frameFreed f) (s.fillFails f) := by
  have hsame : (s.frameFreed f).pageWaiters f.page = s.pageWaiters f.page :=
    List.filter_congr fun e _ => by rw [(DeskSame.frameFreed s f e).state, (DeskSame.frameFreed s f e).desk]
  rw [State.fillFails_eq, hsame]
  refine DesksFault.each (by decide) (List.nodup_range.filter _) fun d hd => ?_
  obtain ⟨-, hstate, -⟩ := (s.mem_pageWaiters f.page d).1 hd
  rw [(DeskSame.frameFreed s f d).state, hstate]
  decide

/-- A failed fill moves its frame and what faults move. -/
theorem State.fget_fillFails (s : State) (f : Fill) {g : Fld} (u : Nat)
    (hg : ∀ k ∈ faultMoveKinds, g.reg ≠ k.reg ∨ g.lo + g.w ≤ k.lo ∨ k.lo + k.w ≤ g.lo) (hr : g.reg ≠ .DSP_FRAME) :
    (s.fillFails f).fget g u = s.fget g u :=
  ((s.fillFails_faults f).moves.fget u hg).trans
    ((s.frameFreed_moves f).fget_of_kinds u [F.DSP_FRAME_FILLING, F.DSP_FRAME_VALID, F.DSP_FRAME_PIN] rfl
      (by simpa using ⟨.inl hr, .inl hr, .inl hr⟩))

/-- Beside registers and the Dispatcher's record, a failed fill moves the event sources alone. -/
theorem State.fillFails_rest (s : State) (f : Fill) : s.fillFails f =
    { s with regs := (s.fillFails f).regs, fresh := (s.fillFails f).fresh, dsp := (s.fillFails f).dsp
             log := (s.fillFails f).log } := by
  have e := (s.frameFreed_moves f).rest
  have k := (s.fillFails_faults f).moves.rest
  rw [e] at k
  exact k

theorem State.loadOut_of_not_loading {s : State} (h : s.on F.DSP_STATUS_LOADING 0 = false) : s.loadOut = false := by
  unfold State.loadOut
  rw [h]
  rfl

/-- No load that has sent bursts is under way after a failed fill where none was. -/
theorem State.loadOut_fillFails (s : State) (f : Fill) (h : s.loadOut = false) : (s.fillFails f).loadOut = false := by
  have hfreed : (s.frameFreed f).loadOut = s.loadOut :=
    State.loadOut_congr (State.on_congr ((s.frameFreed_moves f).fget_of_kinds 0
      [F.DSP_FRAME_FILLING, F.DSP_FRAME_VALID, F.DSP_FRAME_PIN] rfl (by decide))) rfl
  rw [← Bool.not_eq_true] at h ⊢
  exact fun ht => h (hfreed ▸ (s.fillFails_faults f).moves.load ht)

/-! ### What each user loses (R532, R533) -/

/-- A page fill of which a burst has gone out fails. -/
def State.fillsCut (s : State) (resp : AxiResp) : State :=
  s.each (s.dsp.fills.filter fun f => f.sent != 0) fun s f => (s.axiRecord axPage resp).fillFails f

/-- A resident load of which a burst has gone out loses the tile read last. -/
def State.loadCut (s : State) (resp : AxiResp) : State :=
  if s.loadOut then (s.setDsp { s.dsp with loadErr := (s.dsp.loadSent - 1) / 4 :: s.dsp.loadErr }).axiRecord axLoad resp else s

/-- A burst of the spill is outstanding: the spill stops. -/
def State.spillCut (s : State) (resp : AxiResp) : State :=
  if s.log.spill.bursts.isEmpty then s else (s.axiRecord axSpill resp).spillError 0 (s.reg .EVT_RING_WR 0).toNat

/-- An operation on an image is marked. -/
def State.imageCut (s : State) (resp : AxiResp) : State :=
  if s.cal.save.isSome || s.cal.restore.isSome then (s.axiRecord axImage resp).imgError else s

theorem State.axiCut_eq (s : State) (resp : AxiResp) :
    s.axiCut resp = (((s.fillsCut resp).loadCut resp).spillCut resp).imageCut resp := rfl

theorem State.fillsCut_idle {s : State} (resp : AxiResp) (h : ∀ x ∈ s.dsp.fills, x.sent = 0) : s.fillsCut resp = s := by
  have hnone : s.dsp.fills.filter (fun f => f.sent != 0) = [] :=
    List.filter_eq_nil_iff.2 fun x hx => by rw [h x hx]; decide
  unfold State.fillsCut
  rw [hnone]
  rfl

theorem State.fillsCut_of_nil {s : State} (resp : AxiResp) (h : s.dsp.fills = []) : s.fillsCut resp = s :=
  State.fillsCut_idle resp fun _ hx => absurd (h ▸ hx) List.not_mem_nil

theorem State.loadCut_idle {s : State} (resp : AxiResp) (h : s.loadOut = false) : s.loadCut resp = s := by
  unfold State.loadCut
  rw [h]
  rfl

theorem State.spillCut_idle {s : State} (resp : AxiResp) (h : s.log.spill.bursts = []) : s.spillCut resp = s := by
  unfold State.spillCut
  rw [h]
  rfl

theorem State.imageCut_idle {s : State} (resp : AxiResp) (hs : s.cal.save = none) (hr : s.cal.restore = none) :
    s.imageCut resp = s := by
  unfold State.imageCut
  rw [hs, hr]
  rfl

/-! ### The spill stops (R472) -/

theorem payload_spillError {what : Nat} (idx : Nat) (hw : what < 16) :
    payload [pEnum what, .num 28 idx] = what * 2 ^ 28 + min (2 ^ 28 - 1) idx := by
  have h : min what 15 = what := by omega
  simp [payload, packItems, PItem.packed, PItem.last, PItem.width, pEnum, satU, h, Nat.min_comm]

/-- The spill has no burst outstanding. -/
def State.burstsLost (s : State) : State := { s with log := { s.log with spill := { s.log.spill with bursts := [] } } }

theorem State.spillError_eq (s : State) (what idx : Nat) : s.spillError what idx =
    ((s.burstsLost.setFlag F.EVT_STATUS_SPILL_ERR 0).post srcLog 7 2 [pEnum what, .num 28 idx]).spillSettle := rfl

/-- Once nothing is outstanding a spill that was to stop has stopped: its record alone moves. -/
theorem State.spillSettle_frame (s : State) : s.spillSettle =
    { s with log := { s.log with spill := { s.log.spill with
        active := s.spillSettle.log.spill.active, stopping := s.spillSettle.log.spill.stopping } } } := by
  unfold State.spillSettle
  split <;> rfl

/-- The spill's error moves its own record, the flag and the event sources alone. -/
theorem State.spillError_frame (s : State) (what idx : Nat) : s.spillError what idx =
    { s.setFlag F.EVT_STATUS_SPILL_ERR 0 with log := (s.spillError what idx).log } := by
  rw [State.spillError_eq, State.spillSettle_frame]
  rfl

theorem State.reg_spillError (s : State) (what idx : Nat) (r : Reg) (v : Nat) :
    (s.spillError what idx).reg r v = (s.setFlag F.EVT_STATUS_SPILL_ERR 0).reg r v := by
  rw [State.spillError_frame]
  rfl

theorem State.fget_spillError (s : State) (what idx : Nat) (f : Fld) (v : Nat) :
    (s.spillError what idx).fget f v = (s.setFlag F.EVT_STATUS_SPILL_ERR 0).fget f v := by
  unfold State.fget
  rw [State.reg_spillError]

theorem State.bursts_spillError (s : State) (what idx : Nat) : (s.spillError what idx).log.spill.bursts = [] := by
  rw [State.spillError_eq, State.spillSettle_frame]
  rfl

theorem State.source_spillError (s : State) (what idx src : Nat) : (s.spillError what idx).source src =
    ((s.burstsLost.setFlag F.EVT_STATUS_SPILL_ERR 0).post srcLog 7 2 [pEnum what, .num 28 idx]).source src := by
  rw [State.spillError_eq, State.spillSettle_frame]
  rfl

end Sys2Proof.Machine

namespace Sys2Proof.Claim

open Sys2Proof.Machine

/-- The posting of a spill's error in a state that shows the event sources as `s` does (R472). -/
theorem postedIn_spillError {s u : State} {what : Nat} (h : PostsAs s u) (idx : Nat) (hw : what < 16) :
    PostedIn s (u.spillError what idx) 1796 7 0x02 (what * 2 ^ 28 + min (2 ^ 28 - 1) idx) := by
  obtain ⟨hlog, hstn, hen⟩ := h
  have hup : (u.burstsLost.setFlag F.EVT_STATUS_SPILL_ERR 0).logReady = s.logReady := by
    have hctrl : (u.burstsLost.setFlag F.EVT_STATUS_SPILL_ERR 0).on F.EVT_CTRL_EN 0 = s.on F.EVT_CTRL_EN 0 :=
      (State.on_setFlag_apart _ (.inl (by decide))).trans (State.on_congr hen)
    unfold State.logReady
    rw [hctrl]
    exact congrArg (·.up && s.on F.EVT_CTRL_EN 0) hlog
  have hsrc : (u.burstsLost.setFlag F.EVT_STATUS_SPILL_ERR 0).source srcLog = s.source srcLog := by
    show Store.getD ({} : Source) u.log.srcs srcLog = Store.getD {} s.log.srcs srcLog
    rw [hlog]
  have hcount : (u.burstsLost.setFlag F.EVT_STATUS_SPILL_ERR 0).count = s.count :=
    congrArg (fun n : Stn => maj3 n.cntA.toNat n.cntB.toNat n.cntC.toNat) hstn
  unfold PostedIn
  rw [State.source_spillError]
  refine (State.source_setSource_same _ 1796 _).trans ?_
  rw [payload_spillError idx hw, Nat.mod_eq_of_lt (by omega), hsrc, hup, hcount]
  rfl

/-- What an error response leaves of the spill (R472, R532). -/
theorem spillStops (s : State) {resp : AxiResp} {user what : Nat} (hr : resp ≠ .okay) (hu : user < 8) (hw : what < 16) :
    SpillStops s ((s.axiRecord user resp).spillError what (s.reg .EVT_RING_WR 0).toNat) what user
      (if resp = .slverr then 2 else 3) := by
  have hrec := s.axiRecord_moves user hr
  have hreg (r : Reg) (h : r ≠ .EVT_STATUS ∧ r ≠ .HIF_AXI_STATUS ∧ r ≠ .HIF_IRQ_SRC) :
      ((s.axiRecord user resp).spillError what (s.reg .EVT_RING_WR 0).toNat).reg r 0 = s.reg r 0 := by
    obtain ⟨hstatus, haxi, hirq⟩ := h
    exact ((State.reg_spillError _ _ _ r 0).trans (State.reg_setFlag_ne _ _ 0 r 0 (.inl hstatus))).trans
      (hrec.reg (by simpa [axiErrFields] using ⟨haxi, haxi, haxi, hirq⟩))
  have hseen : AxiErrSeen ((s.axiRecord user resp).spillError what (s.reg .EVT_RING_WR 0).toNat) user resp :=
    (s.axiRecord_seen hr hu).congr fun x hx => (State.fget_spillError _ _ _ x.1 0).trans
      (State.fget_setFlag_apart _ (.inl (by revert x; decide)))
  have hposts : PostsAs s (s.axiRecord user resp) :=
    ⟨hrec.log, by rw [hrec.rest], hrec.fget (by decide)⟩
  refine ⟨(State.on_congr (State.fget_spillError _ _ _ _ 0)).trans (State.on_setFlag _ _ _ rfl (by decide)),
    State.bursts_spillError _ _ _, hreg _ (by decide), hreg _ (by decide), hseen.seen, hseen.resp, hseen.user, hseen.irq,
    postedIn_spillError hposts _ hw, fun a _ => ?_⟩
  have hmem : ((s.axiRecord user resp).spillError what (s.reg .EVT_RING_WR 0).toNat).mem = s.mem := by
    rw [State.spillError_frame]
    exact hrec.mem
  unfold State.rdByte
  rw [hmem]

/-! ### AXI_RESET (R533) -/

/-- `ARESETn` is low: nothing is issued. -/
def axiLow (s : State) : State := { s with axi := { s.axi with held := true }, freeCtr := s.freeCtr + 1 }

/-- The response that the manager gives to what was outstanding. -/
def resetResp (s : State) : AxiResp := if Config.resetResp s.freeCtr then .decerr else .slverr

theorem resetResp_ne (s : State) : resetResp s ≠ .okay := by
  unfold resetResp
  split <;> exact fun h => AxiResp.noConfusion h

/-- What AXI_RESET does. -/
def axiResetDone (s : State) : State := s.iff (!s.axi.held) fun s => (axiLow s).axiCut (resetResp s)

/-- AXI_RESET where none is in effect. -/
theorem axiReset_runs {s t : State} {P : State → Prop} (hp : s.por = false) (hh : s.axi.held = false)
    (ht : (axiLow s).axiCut (resetResp s) = t) (hl : Lives s t) (h : P t) : Runs .axiReset s P := by
  have he : axiResetDone s = t := by
    unfold axiResetDone
    rw [hh]
    exact ht
  exact Runs.of_act (f := axiResetDone) rfl hp (he ▸ hl) (he ▸ h)

/-- A fill that fails in a state whose Desks and bytes are those of `s`. -/
theorem fillFails_of_same {s u : State} (f : Fill) (hd : ∀ e, DeskSame s u e) (hm : u.mem = s.mem) :
    FillFails s (u.fillFails f) f := by
  have hfaults := u.fillFails_faults f
  obtain ⟨hfilling, hvalid, hpin⟩ := u.on_frameFreed f
  have hmem (d : Nat) : d ∈ u.pageWaiters f.page ↔ d < 4 ∧ s.deskState d = 3 ∧ (s.desk d).page = some f.page := by
    rw [State.mem_pageWaiters, (hd d).state, (hd d).desk]
  refine ⟨(State.on_congr (hfaults.moves.fget _ (by decide))).trans hfilling,
    (State.on_congr (hfaults.moves.fget _ (by decide))).trans hvalid,
    (State.on_congr (hfaults.moves.fget _ (by decide))).trans hpin,
    fun d hd4 hstate hpage => hfaults.faulted d ((hmem d).2 ⟨hd4, hstate, hpage⟩), fun d _ hnot => ?_, fun a _ => ?_⟩
  · have hsame := ((hd d).trans (.frameFreed u f d)).trans (hfaults.others d fun h => hnot ((hmem d).1 h).2)
    exact ⟨hsame.state, hsame.pc, hsame.desk⟩
  · have h : (u.fillFails f).mem = s.mem := by rw [State.fillFails_rest]; exact hm
    unfold State.rdByte
    rw [h]

section
variable {s : State} (hp : s.por = false) (hs : s.cal.save = none) (hr : s.cal.restore = none) (hh : s.axi.held = false)
include hp hs hr hh

/-- With no transaction outstanding. -/
theorem axiReset_idle (hf : ∀ x, x ∈ s.dsp.fills → x.sent = 0) (hb : s.log.spill.bursts = [])
    (hl : ¬ s.on F.DSP_STATUS_LOADING 0 = true ∨ s.dsp.loadSent = 0) :
    Runs .axiReset s fun t => t = { s with axi := { s.axi with held := true }, freeCtr := t.freeCtr } := by
  have hload : (axiLow s).loadOut = false := by
    show (s.on F.DSP_STATUS_LOADING 0 && s.dsp.loadSent != 0) = false
    rcases hl with hl | hl
    · exact State.loadOut_of_not_loading (s := axiLow s) (Bool.eq_false_iff.2 hl)
    · rw [hl]
      exact Bool.and_false _
  refine axiReset_runs (t := axiLow s) hp hh ?_ ⟨rfl, rfl, rfl⟩ rfl
  rw [State.axiCut_eq, State.fillsCut_idle (s := axiLow s) _ hf, State.loadCut_idle _ hload,
    State.spillCut_idle (s := axiLow s) _ hb, State.imageCut_idle (s := axiLow s) _ hs hr]

/-- A fill of which a burst has gone out fails. -/
theorem axiReset_fill {f : Fill} (hf : s.dsp.fills = [f]) (hn : f.sent ≠ 0) (hb : s.log.spill.bursts = [])
    (hl : ¬ s.on F.DSP_STATUS_LOADING 0 = true) : Runs .axiReset s fun t =>
      t.axi = { s.axi with held := true } ∧ FillFails s t f ∧ t.dsp.fills = [] ∧ t.on F.HIF_AXI_STATUS_ERR_SEEN 0 = true ∧
        t.fget F.HIF_AXI_STATUS_LAST_USER 0 = 0 := by
  obtain ⟨u, hu⟩ : ∃ u, u = (axiLow s).axiRecord axPage (resetResp s) := ⟨_, rfl⟩
  have hrec : RegsMove axiErrFields (axiLow s) u := hu ▸ State.axiRecord_moves _ axPage (resetResp_ne s)
  have hseen : AxiErrSeen u axPage (resetResp s) := hu ▸ State.axiRecord_seen _ (resetResp_ne s) (by decide)
  have hfaults := u.fillFails_faults f
  have hfills : u.dsp.fills = [f] := by rw [hrec.rest]; exact hf
  have hdesks (e : Nat) : DeskSame s u e :=
    ⟨hrec.fget (by decide), hrec.fget (by decide), hrec.fget (by decide), State.desk_congr (by rw [hrec.rest]; rfl) e⟩
  have hload : (u.fillFails f).loadOut = false := u.loadOut_fillFails f
    (State.loadOut_of_not_loading ((State.on_congr (hrec.fget (by decide))).trans (Bool.eq_false_iff.2 hl)))
  have hcut : (axiLow s).fillsCut (resetResp s) = u.fillFails f := by
    have hsent : (axiLow s).dsp.fills.filter (fun f => f.sent != 0) = [f] := by
      show s.dsp.fills.filter (fun f => f.sent != 0) = [f]
      rw [hf]
      simp [hn]
    unfold State.fillsCut
    rw [hsent, hu]
    rfl
  have hrest := u.fillFails_rest f
  have hbursts : (u.fillFails f).log.spill.bursts = [] := by
    rw [hfaults.moves.spill]
    show u.log.spill.bursts = []
    rw [hrec.log]
    exact hb
  have hcal : (u.fillFails f).cal = s.cal := by rw [hrest, hrec.rest]; rfl
  have hshown : AxiErrSeen (u.fillFails f) axPage (resetResp s) :=
    hseen.congr fun x hx => u.fget_fillFails f 0 (by revert x; decide) (by revert x; decide)
  refine axiReset_runs hp hh (t := u.fillFails f) ?_ ?_
    ⟨?_, fillFails_of_same f hdesks (by rw [hrec.mem]; rfl), ?_, hshown.seen, hshown.user⟩
  · rw [State.axiCut_eq, hcut, State.loadCut_idle _ hload, State.spillCut_idle _ hbursts,
      State.imageCut_idle _ (by rw [hcal]; exact hs) (by rw [hcal]; exact hr)]
  · unfold Lives
    rw [hrest, hrec.rest]
    exact ⟨rfl, rfl, rfl⟩
  · rw [hrest, hrec.rest]
    rfl
  · rw [hfaults.moves.fills]
    show u.dsp.fills.filter (fun x => x.frame != f.frame) = []
    rw [hfills]
    simp

/-- A resident load of which a burst has gone out loses the tile read last. -/
theorem axiReset_load (hf : s.dsp.fills = []) (hb : s.log.spill.bursts = []) (hl : s.on F.DSP_STATUS_LOADING 0 = true)
    (hn : s.dsp.loadSent ≠ 0) : Runs .axiReset s fun t =>
      t.axi = { s.axi with held := true } ∧ t.dsp = { s.dsp with loadErr := (s.dsp.loadSent - 1) / 4 :: s.dsp.loadErr } ∧
        t.on F.HIF_AXI_STATUS_ERR_SEEN 0 = true ∧ t.fget F.HIF_AXI_STATUS_LAST_USER 0 = 1 := by
  obtain ⟨v, hv⟩ : ∃ v, v = (axiLow s).setDsp { s.dsp with loadErr := (s.dsp.loadSent - 1) / 4 :: s.dsp.loadErr } :=
    ⟨_, rfl⟩
  obtain ⟨u, hu⟩ : ∃ u, u = v.axiRecord axLoad (resetResp s) := ⟨_, rfl⟩
  have hrec : RegsMove axiErrFields v u := hu ▸ State.axiRecord_moves _ axLoad (resetResp_ne s)
  have hseen : AxiErrSeen u axLoad (resetResp s) := hu ▸ State.axiRecord_seen _ (resetResp_ne s) (by decide)
  have hload : (axiLow s).loadOut = true := by
    show (s.on F.DSP_STATUS_LOADING 0 && s.dsp.loadSent != 0) = true
    rw [hl]
    simpa using hn
  have hcut : (axiLow s).loadCut (resetResp s) = u := by
    unfold State.loadCut
    rw [hload, hu, hv]
    rfl
  have hrest := hrec.rest
  rw [hv] at hrest
  refine axiReset_runs hp hh (t := u) ?_ ?_ ⟨?_, ?_, hseen.seen, hseen.user⟩
  · rw [State.axiCut_eq, State.fillsCut_of_nil (s := axiLow s) _ hf, hcut, State.spillCut_idle _ (by rw [hrest]; exact hb),
      State.imageCut_idle _ (by rw [hrest]; exact hs) (by rw [hrest]; exact hr)]
  · unfold Lives
    rw [hrest]
    exact ⟨rfl, rfl, rfl⟩
  · rw [hrest]
    rfl
  · rw [hrest]
    rfl

/-- The spill with a burst outstanding stops. -/
theorem axiReset_spill {n : Nat} {l : List Nat} (hf : s.dsp.fills = []) (hb : s.log.spill.bursts = n :: l)
    (hl : ¬ s.on F.DSP_STATUS_LOADING 0 = true) : Runs .axiReset s fun t =>
      t.axi = { s.axi with held := true } ∧ (SpillStops s t 0 2 2 ∨ SpillStops s t 0 2 3) := by
  have hstops := spillStops (axiLow s) (user := axSpill) (what := 0) (resetResp_ne s) (by decide) (by decide)
  obtain ⟨t, ht⟩ : ∃ t, t = ((axiLow s).axiRecord axSpill (resetResp s)).spillError 0 ((axiLow s).reg .EVT_RING_WR 0).toNat :=
    ⟨_, rfl⟩
  rw [← ht] at hstops
  have hrest := State.spillError_frame ((axiLow s).axiRecord axSpill (resetResp s)) 0 ((axiLow s).reg .EVT_RING_WR 0).toNat
  rw [← ht, (State.axiRecord_moves (axiLow s) axSpill (resetResp_ne s)).rest] at hrest
  have hload : (axiLow s).loadOut = false := State.loadOut_of_not_loading (s := axiLow s) (Bool.eq_false_iff.2 hl)
  have hcut : (axiLow s).spillCut (resetResp s) = t := by
    unfold State.spillCut
    rw [show (axiLow s).log.spill.bursts = n :: l from hb, ht]
    rfl
  refine axiReset_runs hp hh (t := t) ?_ ?_ ⟨?_, ?_⟩
  · rw [State.axiCut_eq, State.fillsCut_of_nil (s := axiLow s) _ hf, State.loadCut_idle _ hload, hcut,
      State.imageCut_idle _ (by rw [hrest]; exact hs) (by rw [hrest]; exact hr)]
  · unfold Lives
    rw [hrest]
    exact ⟨rfl, rfl, rfl⟩
  · rw [hrest]
    rfl
  · by_cases hresp : resetResp s = .slverr
    · rw [if_pos hresp] at hstops
      exact .inl hstops
    · rw [if_neg hresp] at hstops
      exact .inr hstops

end

theorem axiResets (s : State) (f : Fill) (n : Nat) (l : List Nat) : AxiResets s f n l := fun hp hs hr =>
  ⟨fun hh => ⟨fun hf hb hl => axiReset_idle hp hs hr hh hf hb hl, fun hf hn _ hb hl => axiReset_fill hp hs hr hh hf hn hb hl,
      fun hf hb hl hn => axiReset_load hp hs hr hh hf hb hl hn, fun hf hb hl => axiReset_spill hp hs hr hh hf hb hl⟩,
    Runs.of_act (f := fun s => { s with axi := { s.axi with held := false } }) rfl hp ⟨rfl, rfl, rfl⟩ rfl⟩

/-- Settles O58: the ports' errors move the fields that record them; a tick but for the turn of the AXI manager keeps all that
decides on a fill's next burst; at `ARESETn` each user meets the error response in its turn. -/
theorem hostPorts : Obligations.HostPorts := fun s a user n write resp f l inp =>
  ⟨apbPort s a write, axiRecords s user resp, fillBursts s inp f, axiResets s f n l⟩

end Sys2Proof.Claim
end
